-- ==== Sys2Proof/Word.lean ====
section
/-! DEFINITION. Words, bytes and keyed tables: the plain types every other file uses. -/

namespace Sys2Proof

/-- One byte of a frame, a record or a buffer. -/
abbrev Byte := BitVec 8

/-- A register of the manager control space, a parameter word (R7). -/
abbrev Word32 := BitVec 32

/-- A 64-bit field of a frame, a Tint register (R511). -/
abbrev Word64 := BitVec 64

/-- A string of bytes, lowest offset first. -/
abbrev Bytes := List Byte

/-- A table keyed by number, in one canonical form: keys strictly rising. -/
abbrev Tbl (α : Type) := List (Nat × α)

end Sys2Proof
end

