-- ==== Sys2Proof/Syntax.lean ====
section
/-! DEFINITION. The commands the block takes: one constructor of `Instr` per row of the specification's table of
operations and events, and the operands each carries.  What a row says of a received frame is carried by `Msg` or `Net`;
the opcode is the constructor's. -/

namespace Sys2Proof

/-! ### Frames -/

/-- A descriptor (R74). -/
structure Desc where
  addr : Word64
  rkey : Word32
  len : Word32
  deriving DecidableEq, Repr

/-- An IP address of either family (Table 18-2). -/
inductive Ip where
  | v4 (a : BitVec 32)
  | v6 (a : BitVec 128)
  deriving DecidableEq, Repr

/-- What the transport says of an arriving RoCE v2 frame: queue pair, port 0–16 (R684), source MAC address, VLAN ID
(none for an untagged frame or VID 0, R602), priority, whether it is marked CE (R690) and source IP address. -/
structure Net where
  qpn : BitVec 24
  port : Fin 17
  mac : BitVec 48
  vlan : Option (BitVec 12)
  pcp : BitVec 3
  ce : Bool
  ip : Ip
  deriving DecidableEq, Repr

/-- A received Henmen frame whose header CRC holds (Table 2-1), less its opcode: the transport's facts, the header
fields, the direct descriptors and the inline data. PARAM holds bytes 0x28–0x3F, byte 0x28 in bits [7:0]. -/
structure Msg where
  net : Net
  flags : BitVec 16
  queue : BitVec 16
  tag : BitVec 16
  seq : Word32
  volume : Word64
  lba : Word64
  length : Word32
  dcount : BitVec 16
  stream : BitVec 16
  param : BitVec 192
  descs : List Desc
  inl : Bytes
  deriving DecidableEq, Repr

/-! ### Contents of records and profiles that events carry -/

/-- A time-index entry (R203): volume, LBA, sectors, capture stamp, quality (0 locked, 1 holdover, 2 free-running), and the number of
the stream write it was made for, the model's own. -/
structure TIdx where
  volume : Nat
  lba : Nat
  sectors : Nat
  stamp : Nat
  quality : Nat
  write : Nat
  deriving DecidableEq, Repr

/-- A volume-map or delta entry (Table 7-6): KIND, CONTENT, EPOCH. -/
structure Entry where
  kind : Nat
  content : Nat
  epoch : Nat
  deriving DecidableEq, Repr

/-- A locator (Table 7-4): group, log stripe slot, its GEN, byte offset of the fragment header. -/
structure Loc where
  group : Nat
  index : Nat
  gen : Nat
  offset : Nat
  deriving DecidableEq, Repr

/-- What a content record holds besides its locator (Table 9-2): REFCOUNT, CFLAGS and BUCKET. -/
structure CrecAt where
  refs : Nat := 1
  pinned : Bool := false
  stripPending : Bool := false
  indexed : Bool := false
  bucket : Nat := 0
  deriving DecidableEq, Repr

/-- Map-log records (Tables 7-8 and 9-5), by the map they change. -/
inductive Rec where
  | vmap (vol grain : Nat) (e : Entry)
  | crecNew (content : Nat) (loc : Loc) (size sectors : Nat) (raw : Bool) (at_ : CrecAt)
  | crecRef (content : Nat) (change : Int)
  | crecMove (content : Nat) (old new : Loc)
  | mmapSet (slot segment unit : Nat) (slc : Bool) (state ovl live gen : Nat)
  | mmapFree (slot : Nat)
  | ovlSet (slot piece die block page : Nat)
  | ovlClear (slot piece : Nat)
  | segErase (segment : Nat)
  | segForm (segment : Nat) (blocks : List (Option (Nat × Nat))) (slc : Bool) (place : Nat)
  | segRetire (die block : Nat)
  | tidx (stream : Nat) (e : TIdx)
  | tidxTrim (vol lba sectors : Nat)
  | ckptPage (table page : Nat) (loc : Loc)
  | ckptRoot (start : Nat)
  | volCreate (vol vgen capacity settings tenant : Nat)
  | volDelete (vol : Nat)
  | volResize (vol capacity : Nat)
  | snap (vol slot sgen epoch : Nat) (hidden : Bool)
  | snapDelete (vol slot : Nat)
  | deltaPut (vol slot grain : Nat) (e : Entry)
  | deltaMove (vol src dst grain : Nat)
  | deltaDrop (vol slot grain : Nat)
  | clone (vol vgen originVol originSlot : Nat)
  | cloneFill (vol first count : Nat)
  | compact (vol page numbering : Nat)
  | replBase (session vol slot cycle : Nat)
  | batchEnd
  deriving DecidableEq, Repr

/-- A training a die profile may declare (Table 6-1, R264). -/
inductive TrainStep where
  | zq | dutyCycle | readDq | writeDq | vref
  deriving DecidableEq, Repr

/-- What a die profile says (R256–R260, R264, R265, R275, R286, R301, R343–R351, R817): the outside data the device takes from it. Offsets
and coefficients are lists by read level; retry sets are lists of such lists; AF is (°C, thousandths) in rising order. `idBytes` and
`pageCrc` are what READ ID gives and the CRC of the parameter page; `pageBits` and `blockBits` the widths of page and block in a row
address; `pageLevels` the read levels of each page type, the types taking turns page by page; `softStep` the offset of R280; `trains` and
`minMargin` the training it declares; `odt` the on-die termination set; `seqs` the sequences of slots 16–63; `uses` the slots of page read,
program and erase, each for SLC and QLC; `weak` the pages the sanding pass samples; `retentionAt` the retention limit in hours from an erase
count on, in rising order, `retention` being that of a block below the first of them (R351); `disturbs` the paired-page rules: the pages of a
block whose programs may disturb a page (R318). -/
structure Profile where
  id : Nat
  idBytes : Bytes
  pageCrc : BitVec 16
  maxMode : Nat
  minMode : Nat
  blocks : Nat
  cwPerPage : Nat
  pages : Nat
  weightQlc : Nat
  weightSlc : Nat
  endurance : Nat
  disturbSlc : Nat
  disturbQlc : Nat
  retention : Nat
  refresh : Nat
  spares : Nat
  slcProgUs : Nat
  readSlcUs : Nat
  readQlcUs : Nat
  qlcMBs : Nat
  slcMBs : Nat
  defaults : List Int
  tc : List Int
  ag : List Int
  lows : List Int
  highs : List Int
  retry : List (List Int)
  af : List (Int × Nat)
  pageBits : Nat
  blockBits : Nat
  pageLevels : List (List Nat)
  softStep : Int
  trains : List TrainStep
  minMargin : Nat
  odt : Option Nat
  seqs : Tbl (List Word32)
  uses : List Nat
  weak : List Nat
  retentionAt : List (Nat × Nat) := []
  disturbs : Tbl (List Nat) := []
  deriving DecidableEq, Repr

/-- A die profile as a boot area holds it (R257): its bytes, vendor signature and owner co-signature, and what the bytes say. -/
structure SignedProfile where
  body : Bytes
  vsig : Bytes
  osig : Bytes
  content : Profile
  deriving DecidableEq, Repr

/-- What a die answers to READ ID, and the CRC of its parameter page (R258). -/
structure DieId where
  id : Bytes
  crc : BitVec 16
  deriving DecidableEq, Repr

/-- The results of a training (R264, R636): the DQ and DQS delays and the VREFQ setting of each chip enable, and the eye margin of each DQ
lane. -/
structure Training where
  delays : List (List Nat)
  vref : List Nat
  margins : List Nat
  deriving DecidableEq, Repr

/-! ### Work given to engines -/

/-- Who gives an engine or lane its work: a descriptor in tile memory at an offset (Tables 10-1, 11-4 and 11-5), a grain of a
command on the data path, a tint task's engine call, or a replication session's next message. -/
inductive JobSrc where
  | desc (at_ : Nat)
  | grain (cmd grain : Nat)
  | task (t : Nat)
  | session (n : Nat)
  deriving DecidableEq, Repr

/-- An operand token's content (chapter 13): a value, and a buffer handle if it carries one. -/
structure Token where
  value : Word64
  handle : Option Word32
  deriving DecidableEq, Repr

/-- Work of the parity engine (R373): P and Q of the row of a group with a LOGSEQ, or the reconstruction of a codeword of a
flash read from the codewords of the other slots of its row, bytes 0x0000–0x1043 (none: not readable). -/
inductive ParityWork where
  | row (group logseq : Nat)
  | rebuild (read cw : Nat) (others : List (Option Bytes))
  deriving DecidableEq, Repr

/-! ### Link frames (chapter 16) -/

/-- What the link unit finds of a received frame (Table 16-1): SEQ, COUNTER, NEWKEY, and whether its tag verifies. -/
structure LinkHdr where
  seq : Word32
  counter : Word64
  newkey : Bool
  tagOk : Bool
  deriving DecidableEq, Repr

/-- A stripe-journal entry as it is written (Table 8-2): TYPE, group, segment, LOGSEQ, JSEQ, row, log stripe slots. -/
structure Jrn where
  type : Nat
  group : Nat
  segment : Nat
  logseq : Nat
  jseq : Nat
  row : Nat
  slotA : Nat
  slotB : Nat
  deriving DecidableEq, Repr

/-- A key record's content (R669, R672): place, RKIND, INDEX, TENANT, GEN, T and R. -/
structure KeyRec where
  rkind : Nat
  index : Nat
  tenant : Nat
  gen : Nat
  t : Bytes
  r : Bytes
  deriving DecidableEq, Repr

/-- What the checkpoint pages of a group hold (R321–R323): the model's stand-in, beside a root table, for pages that stand in flash. Its
geometry code and cover, its members by slot (die, failed), the first map-log record that the pages do not hold yet, the next LOGSEQ,
the tables as records that make them, and the GENs of the media map's slots, free ones too (R306). Beside them what the part that takes the group over
has to know of it: its state (ARR_GRP_STAT), the rebuild in progress (spare die, slot, whether it copies, R394) and the block it writes, its free and its dead
serials (segment, slot, serial) and the lowest never used (R413), generations of freed volumes and snapshot slots (R405), the entries that snapshots
reserve (R428), the overlay blocks with their next free pages, and the blocks of its dies that only an erase makes FREE. -/
structure Pages where
  geometry : Nat
  cover : Bool
  members : List (Nat × Bool)
  first : Nat
  logseq : Nat
  recs : List Rec
  gens : Tbl Nat := []
  state : Nat := 1
  rebuild : Option (Nat × Nat × Bool) := none
  orphan : Option (Nat × Nat) := none
  freed : List Nat := []
  dead : List (Nat × Nat × Nat) := []
  nextSerial : Nat := 1
  vgens : Tbl Nat := []
  sgens : List (Nat × Nat × Nat) := []
  reserved : List (Nat × Nat × Nat) := []
  ovls : List (Nat × Nat × Nat) := []
  spent : List (Nat × Nat) := []
  deriving DecidableEq, Repr

/-- CONTROL messages (Table 16-2): root table and standby segments of a group, end of a resynchronisation, training results of
a port (R636), a key record and its place (R672), an erase of the record at a place (R675), the owner key (R664), DRAM power
going off (R713), a handback step reached (chapter 16), mirror content lost (Table 19-2), a tenant's definition (its bindings
by item × 4 + index) or its removal (R595), the question whether a tenant is QUIESCED or OFF, with its answer (R598), and the grains that the unfinished cycle of a receiving volume has
written, none when it ends, with the slot of its commit snapshot (R451; the model's own, log 183). -/
inductive Ctl where
  | root (group standby : Nat) (root : Bytes) (pages : Pages)
  | resynced
  | training (port mode : Nat) (results : Training)
  | key (place : Nat) (k : KeyRec)
  | erase (place : Nat)
  | owner (pub : Bytes)
  | dramOff
  | handback (step : Nat)
  | resend (group logseq : Nat)
  | tenant (t : Nat) (bindings : List (Nat × BitVec 128))
  | noTenant (t : Nat)
  | askTenant (t : Nat)
  | tenantState (t : Nat) (quiet : Bool)
  | received (vol : Nat) (base : Option Nat) (grains : List Nat)
  deriving DecidableEq, Repr

/-- A pairing HELLO: SIDE, serial, active image VERSION and COMPAT, pair state, whether UPDATE is set, owner key (empty for
none), and the ports the sender holds (R629, R630, R770). -/
structure HelloBody where
  side : BitVec 2
  serial : BitVec 48
  version : Word32
  compat : BitVec 16
  state : BitVec 3
  update : Bool
  owner : Bytes
  holds : Word64
  deriving DecidableEq, Repr

/-- A BOOT_FETCH body (Table 16-8). -/
structure FetchBody where
  op : BitVec 8
  slot : BitVec 8
  offset : Word32
  total : Word32
  data : Bytes
  deriving DecidableEq, Repr

/-! ### What boot finds outside the part -/

/-- An image slot as a boot area holds it (Table 21-1): header, core and extension sections, vendor and owner signatures. -/
structure Image where
  header : Bytes
  core : Bytes
  ext : Bytes
  vsig : Bytes
  osig : Bytes
  deriving DecidableEq, Repr

/-- What the part finds when RESET_N rises: straps (R794), per-RDIMM size in GiB (0 missing) and the highest rate each
declares (R708, R709; 0 for none of 4,800, 5,600 and 6,400), the ports granted in time and whether none was granted within
20 µs (R764), the images its boot areas hold by slot, with the areas that gave one, and the die profiles they hold, in
order. -/
structure BootIn where
  side : BitVec 2
  tcxo25 : Bool
  testmode : Bool
  dimms : List Nat
  rates : List Nat
  granted : List Nat
  images : List (Option Image)
  areasOk : BitVec 4
  profiles : List SignedProfile
  deriving DecidableEq, Repr

/-! ### Time and connection messages (chapter 18) -/

/-- A received PTP message (R705): port, domain, sender identity and its dataset rank (lower is better), sequence, two-step flag,
origin stamp and correction in units of 2^-16 ns, log2 of its interval in units of s, requesting identity match, and an
Announce's currentUtcOffset. -/
structure PtpMsg where
  port : Nat
  domain : Nat
  source : Nat
  rank : Nat
  seq : Nat
  twoStep : Bool
  origin : Int
  correction : Int
  logIvl : Int
  mine : Bool
  utcOffset : Nat
  deriving DecidableEq, Repr

/-- A received connection-manager message (R691): transport facts, the local queue pair it names and the remote's. -/
structure CmMsg where
  net : Net
  qpn : Nat
  remote : Nat
  deriving DecidableEq, Repr

/-- The owner of a DRAM word (Table 19-2): a page of the volume map, content records, media map or time index, a page of the dedup
index, the free ring of a pool, mirror content of a row, a program's code, a program's state, the stencil shadow, other
firmware state. -/
inductive DramOwner where
  | page (table page : Nat)
  | index (bucket : Nat)
  | ring (pool : Nat)
  | mirror (group logseq : Nat)
  | code (prog : Nat)
  | state (prog : Nat)
  | shadow
  | firmware
  deriving DecidableEq, Repr

/-- Where a parity check fails: a tile-memory offset (R726), the register file or latches of a tint core (R570), or a stencil entry during a lookup
(R593). -/
inductive ParitySite where
  | tile (off : Nat)
  | core (c : Nat)
  | stencil (entry : Nat)
  deriving DecidableEq, Repr

/-! ### The commands -/

/-- What a task is made for (R548): its entry point, and the start time in ns where it is a firmware post (R565). -/
structure TaskAsk where
  entry : Nat
  start : Option Nat
  deriving DecidableEq, Repr

/-- A key record fetched from the anchor store (R670): its place, and the bytes read where they are not those that were written. -/
structure KeyFetch where
  place : Nat
  read : Option Bytes
  deriving DecidableEq, Repr

/-- The rows of the table of operations and events, one constructor each; the docstring of each is its row's summary and rule. -/
inductive Instr where
  /-- UNTRUSTED_FRAME (R88): A received message that is truncated or fails its header CRC completes FRAME_TRUNCATED or HEADER_CRC with UNTRUSTED set and consumes its sequence. -/
  | untrustedFrame (n : Net) (raw : Bytes)
  /-- TOMBSTONE_FRAME (R610): A frame on a tombstoned queue pair completes TENANT_RESET on that queue pair and consumes no sequence. -/
  | tombstoneFrame (m : Msg) (op : BitVec 16)
  /-- RECEIVER_NOT_READY (R64): A frame arriving while every slot of its queue, or the receive queue room, is taken is answered with an RNR NAK and is not parsed. -/
  | receiverNotReady (m : Msg) (op : BitVec 16)
  /-- UNCLASSIFIED (R590): A frame whose queue pair matches no classification entry is dropped and counted. -/
  | unclassified (m : Msg) (op : BitVec 16)
  /-- SPOOF_DROP (R605): A frame whose source fields fail the tenant binding or session address check is dropped before parsing and counted. -/
  | spoofDrop (m : Msg) (op : BitVec 16)
  /-- OPCODE_INVALID (R121): A frame with an undefined opcode completes OPCODE_INVALID. -/
  | opcodeInvalid (m : Msg) (op : BitVec 16)
  /-- NOP (R103): NOP holds nothing, and with FENCE acts as a barrier for the tenant. -/
  | nop (m : Msg)
  /-- READ (R48): READ passes the read path steps and returns the range's data by RDMA WRITE. -/
  | read (m : Msg)
  /-- WRITE (R40): WRITE passes the write path steps for each grain and is acknowledged on mirror acceptance or program. -/
  | write (m : Msg)
  /-- WRITE_ZEROES (R134): WRITE_ZEROES makes its range read as zeros, atomic as a WRITE of equal length. -/
  | writeZeroes (m : Msg)
  /-- DISCARD (R353): DISCARD logs unmapped entries and refcount decrements in batches per 1 MiB. -/
  | discard (m : Msg)
  /-- STRIP (R354): STRIP flags and claims every segment holding a copy of the range's content for evacuation and erase. -/
  | strip (m : Msg)
  /-- FLUSH (R138): FLUSH completes once every earlier-acknowledged write to its volume has been programmed or deferred. -/
  | flush (m : Msg)
  /-- ABORT (R114): ABORT resolves its target in one step as aborted, too late or not found. -/
  | abort (m : Msg)
  /-- GET_DEFERRED (R139): GET_DEFERRED writes the tenant's oldest deferred records and removes each once its RDMA WRITE is acknowledged. -/
  | getDeferred (m : Msg)
  /-- VOL_CREATE (R407): VOL_CREATE creates a volume in a group and key domain of the tenant and returns its handle. -/
  | volCreate (m : Msg)
  /-- VOL_DELETE (R142): VOL_DELETE deletes a volume and its snapshots as a volume barrier. -/
  | volDelete (m : Msg)
  /-- VOL_RESIZE (R142): VOL_RESIZE changes a volume's capacity, discarding a removed range. -/
  | volResize (m : Msg)
  /-- VOL_QUERY (R92): VOL_QUERY returns the selected item of a volume or snapshot. -/
  | volQuery (m : Msg)
  /-- SNAP_CREATE (R143): SNAP_CREATE takes a snapshot at its parse, holding uncommitted writes at step 15 until the SNAP record is issued. -/
  | snapCreate (m : Msg)
  /-- SNAP_DELETE (R427): SNAP_DELETE hides a snapshot at its commit point and starts merging its delta. -/
  | snapDelete (m : Msg)
  /-- CLONE_CREATE (R432): CLONE_CREATE makes a new volume whose origin is a snapshot, taking a hidden snapshot of a volume first. -/
  | cloneCreate (m : Msg)
  /-- REPL_OPEN (R439): REPL_OPEN opens the sending or receiving end of a replication session. -/
  | replOpen (m : Msg)
  /-- REPL_CLOSE (R450): REPL_CLOSE ends a session, rolling back an unfinished receiving cycle and deleting its snapshots. -/
  | replClose (m : Msg)
  /-- REPL_REKEY (R146): REPL_REKEY changes a session's key slot and restarts a stopped session. -/
  | replRekey (m : Msg)
  /-- STREAM_OPEN (R183): STREAM_OPEN opens a stream, running the admission test for a vermilion stream. -/
  | streamOpen (m : Msg)
  /-- STREAM_CLOSE (R148): STREAM_CLOSE waits for the stream's earlier writes and releases its reservation. -/
  | streamClose (m : Msg)
  /-- STREAM_QUERY (R92): STREAM_QUERY returns the selected item of a stream. -/
  | streamQuery (m : Msg)
  /-- QUERY_TIME (R150): QUERY_TIME reports the runs of sectors whose capture stamps lie in a window. -/
  | queryTime (m : Msg)
  /-- LOAD_PROGRAM (R534): LOAD_PROGRAM checks and durably loads a tint program image. -/
  | loadProgram (m : Msg)
  /-- UNLOAD_PROGRAM (R153): UNLOAD_PROGRAM removes an unbound program. -/
  | unloadProgram (m : Msg)
  /-- BIND_PROGRAM (R154): BIND_PROGRAM attaches a program to a volume or stream attach point. -/
  | bindProgram (m : Msg)
  /-- UNBIND_PROGRAM (R154): UNBIND_PROGRAM detaches a program at its commit point. -/
  | unbindProgram (m : Msg)
  /-- SCAN (R155): SCAN runs a program over each mapped grain of a range and then its FINISH task. -/
  | scan (m : Msg)
  /-- PATTERN_LOAD (R580): PATTERN_LOAD writes one or two stencil entries of the tenant's banks in one step. -/
  | patternLoad (m : Msg)
  /-- CERT_GET (R656): CERT_GET returns a certificate or the ML-KEM encapsulation key. -/
  | certGet (m : Msg)
  /-- KEY_INSTALL (R666): KEY_INSTALL decapsulates and checks a delivered secret and installs a key domain or GCM slot. -/
  | keyInstall (m : Msg)
  /-- CRYPTO_ERASE (R675): CRYPTO_ERASE destroys a key and deletes every volume of its domain. -/
  | cryptoErase (m : Msg)
  /-- ATTEST (R677): ATTEST writes a report signed with one LMS leaf. -/
  | attest (m : Msg)
  /-- KEY_POLICY_SET (R157): KEY_POLICY_SET sets a tenant's key domain or GCM slot limit. -/
  | keyPolicySet (m : Msg)
  /-- OWNER_ENROL (R664): OWNER_ENROL enrols or replaces the owner HSS key. -/
  | ownerEnrol (m : Msg)
  /-- DEBUG_UNLOCK (R683): DEBUG_UNLOCK verifies a debug token and unlocks the scopes it names. -/
  | debugUnlock (m : Msg)
  /-- WIN_READ (R21): WIN_READ reads a register of the issuing tenant's window. -/
  | winRead (m : Msg)
  /-- WIN_WRITE (R22): WIN_WRITE writes a register of the issuing tenant's window and returns the read-back value. -/
  | winWrite (m : Msg)
  /-- TENANT_CREATE (R599): TENANT_CREATE creates a tenant OFF with reset shares on both parts. -/
  | tenantCreate (m : Msg)
  /-- TENANT_BIND (R161): TENANT_BIND sets or removes a MAC, VLAN or IP binding of a tenant. -/
  | tenantBind (m : Msg)
  /-- TENANT_SHARES (R600): TENANT_SHARES sets one share of a tenant. -/
  | tenantShares (m : Msg)
  /-- QUEUE_BIND (R162): QUEUE_BIND binds a tenant queue number to a queue pair with a depth. -/
  | queueBind (m : Msg)
  /-- QUEUE_DELETE (R108): QUEUE_DELETE deletes a queue and discards its held status frames. -/
  | queueDelete (m : Msg)
  /-- ENABLE_TENANT (R609): ENABLE_TENANT moves a tenant to ON, or is held until a drain ends. -/
  | enableTenant (m : Msg)
  /-- QUIESCE_TENANT (R163): QUIESCE_TENANT stops admission and drains the tenant to QUIESCED. -/
  | quiesceTenant (m : Msg)
  /-- RESET_TENANT (R613): RESET_TENANT moves a quiesced tenant to OFF, deleting its queues and closing its streams. -/
  | resetTenant (m : Msg)
  /-- REMOVE_TENANT (R165): REMOVE_TENANT crypto-erases and deletes a tenant. -/
  | removeTenant (m : Msg)
  /-- MIGRATION_LOG (R166): MIGRATION_LOG starts or ends dirty-page logging of the tenant's RDMA WRITEs. -/
  | migrationLog (m : Msg)
  /-- REG_READ (R8): REG_READ returns a register of the manager control space. -/
  | regRead (m : Msg)
  /-- REG_WRITE (R9): REG_WRITE writes a register that has no row of its own atomically, applying access codes, clamps and locks. -/
  | regWrite (m : Msg)
  /-- FW_STAGE (R760): FW_STAGE writes and verifies an image into the inactive slot of every boot area. -/
  | fwStage (m : Msg)
  /-- FW_ACTIVATE (R769): FW_ACTIVATE makes a slot pending and, with MODE 1, hands over the home side and restarts. -/
  | fwActivate (m : Msg)
  /-- POWER_STATE (R737): POWER_STATE starts the entry steps down to a target power state. -/
  | powerState (m : Msg)
  /-- EVENT_READ (R785): EVENT_READ writes event records from a sequence number onward. -/
  | eventRead (m : Msg)
  /-- THERMAL_ACK (R755): THERMAL_ACK acknowledges a shutdown record. -/
  | thermalAck (m : Msg)
  /-- ECHO (R121): ECHO returns its 8-byte DATA in RETVAL. -/
  | echo (m : Msg)
  /-- KAT_RUN (R173): KAT_RUN runs the known-answer test of engine instances, taking failed ones out of service. -/
  | katRun (m : Msg)
  /-- TMEM_SCRUB (R174): TMEM_SCRUB checks the parity of a tile-memory range and writes a summary. -/
  | tmemScrub (m : Msg)
  /-- BUFFER_GRANT (R214): A waiting buffer request is granted from a floor or the general area when it can be. -/
  | bufferGrant (pool : Nat)
  /-- BUFFER_RELEASE (R229): A reference-count decrement is applied and frees the buffer at count 0. -/
  | bufferRelease (h : Word32)
  /-- LEDGER_AUDIT (R244): At least once per 1 ms the device audits the buffer ledger bitmap equation. -/
  | ledgerAudit
  /-- LEDGER_TEST (R251): A write of FLT_LEDGER_TEST.INJECT makes a ledger compare an unequal pair and sets TEST_HIT. -/
  | ledgerTest (m : Msg) (v : Word32)
  /-- RDMA_READ_RESPONSE (R237): Data of a device-initiated RDMA READ arrives into its granted buffers. -/
  | rdmaReadResponse (x : Nat) (data : Bytes)
  /-- RDMA_WRITE_ACK (R48): The transport acknowledges a device RDMA WRITE, completing a read or result transfer. -/
  | rdmaWriteAck (x : Nat)
  /-- TRANSFER_FAIL (R97): A device-initiated transfer ends with a non-retried error or exhausted retries and its command completes TRANSFER_FAIL. -/
  | transferFail (x : Nat)
  /-- ACK_TIMEOUT (R97): A local ACK timeout expires and the transport retries or fails the transfer. -/
  | ackTimeout (qpn : Nat)
  /-- RNR_NAK (R62): An RNR NAK is received and the device holds the status frame or data until the RNR timer. -/
  | rnrNak (qpn timer : Nat)
  /-- RNR_RETRY (R62): The RNR timer expires and the device resends within 10 µs. -/
  | rnrRetry (qpn : Nat)
  /-- QUEUE_PAIR_FAILURE (R107): A queue pair fails at transport level and its outstanding commands finish internally with held status frames. -/
  | queuePairFailure (qpn : Nat)
  /-- HAZARD_RELEASE (R100): A command held by the hazard tracker proceeds once earlier overlapping commands reach their points. -/
  | hazardRelease (cmd : Nat)
  /-- FENCE_RELEASE (R103): A FENCE command passes step 4 once every earlier command of its tenant has completed. -/
  | fenceRelease (cmd : Nat)
  /-- VOLUME_BARRIER_RELEASE (R131): A volume barrier passes step 4 once earlier commands on its volume complete, and releases later ones at its end. -/
  | volumeBarrierRelease (cmd : Nat)
  /-- SHARE_RELEASE (R600): A command held by a BANDWIDTH or KIOPS bucket is released when tokens allow. -/
  | shareRelease (cmd : Nat)
  /-- JOURNAL_WAIT_RELEASE (R379): A command held at step 4 by the open window or the journal ring proceeds when room returns. -/
  | journalWaitRelease (cmd : Nat)
  /-- TAIL_WAIT_RELEASE (R320): Map-changing commands held by a full map-log tail proceed when a checkpoint cycle completes. -/
  | tailWaitRelease (cmd : Nat)
  /-- TASK_CREATE (R548): A producer creates a tint task once its operand slots can be reserved. -/
  | taskCreate (cmd grain : Nat) (ask : TaskAsk)
  /-- OPERAND_TOKEN (R551): A token is delivered to a task slot, making the task ready when all are filled; stale tokens are discarded. -/
  | operandToken (task gen slot : Nat) (t : Token)
  /-- READY_PENDING_PLACE (R560): A ready-pending task is placed on a ready list when room appears. -/
  | readyPendingPlace
  /-- CORE_DISPATCH (R561): A core with a free resident place and scratch takes a task from its ready lists. -/
  | coreDispatch (c : Nat)
  /-- ECALL_RETURN (R562): An engine reports to a waiting task, which is placed back on its core's list. -/
  | ecallReturn (task : Nat)
  /-- DELAY_WAKE (R566): At a 1 µs tick delay-list entries whose wake time passed move to the ready lists. -/
  | delayWake (c : Nat)
  /-- TASK_DEADLINE (R569): A task not ended by its deadline is counted as a miss, and a SCAN times out. -/
  | taskDeadline (task : Nat)
  /-- SELFTEST (R570): A core runs its self-test between tasks every SELFTEST ms. -/
  | selftest (c : Nat) (pass : Bool)
  /-- CORE_STALL (R570): A core holding a running task for 100 µs without issuing is taken out of service. -/
  | coreStall (c : Nat)
  /-- RETIRE (R570): A write of SCH_CCTL.RETIRE takes the selected core out of service. -/
  | coreRetire (m : Msg) (v : Word32)
  /-- HIST_CLEAR (R574): A write of SCH_CCTL.HIST_CLEAR zeroes the selected core's histogram counts. -/
  | histClear (m : Msg) (v : Word32)
  /-- SELFTEST_NOW (R574): A write of SCH_CCTL.SELFTEST_NOW runs the self-test after the core's current task. -/
  | selftestNow (m : Msg) (v : Word32)
  /-- ALU (R514): ALU computes rd from ra and rb by its FN. -/
  | alu (c : Nat) (g : BitVec 4) (rd ra rb : BitVec 5) (fn : BitVec 7)
  /-- ADDI (R513): ADDI adds a sign-extended immediate. -/
  | addi (c : Nat) (g : BitVec 4) (rd ra : BitVec 5) (imm : BitVec 12)
  /-- ANDI (R513): ANDI ANDs an immediate. -/
  | andi (c : Nat) (g : BitVec 4) (rd ra : BitVec 5) (imm : BitVec 12)
  /-- ORI (R513): ORI ORs an immediate. -/
  | ori (c : Nat) (g : BitVec 4) (rd ra : BitVec 5) (imm : BitVec 12)
  /-- XORI (R513): XORI XORs an immediate. -/
  | xori (c : Nat) (g : BitVec 4) (rd ra : BitVec 5) (imm : BitVec 12)
  /-- SHLI (R513): SHLI shifts left by an immediate. -/
  | shli (c : Nat) (g : BitVec 4) (rd ra : BitVec 5) (imm : BitVec 12)
  /-- SHRI (R513): SHRI shifts right logically by an immediate. -/
  | shri (c : Nat) (g : BitVec 4) (rd ra : BitVec 5) (imm : BitVec 12)
  /-- SRAI (R513): SRAI shifts right arithmetically by an immediate. -/
  | srai (c : Nat) (g : BitVec 4) (rd ra : BitVec 5) (imm : BitVec 12)
  /-- MOVZ (R513): MOVZ loads a zero-extended 16-bit immediate. -/
  | movz (c : Nat) (g : BitVec 4) (rd : BitVec 5) (imm : BitVec 16)
  /-- MOVK1 (R513): MOVK1 replaces bits [31:16] of rd. -/
  | movk1 (c : Nat) (g : BitVec 4) (rd : BitVec 5) (imm : BitVec 16)
  /-- MOVK2 (R513): MOVK2 replaces bits [47:32] of rd. -/
  | movk2 (c : Nat) (g : BitVec 4) (rd : BitVec 5) (imm : BitVec 16)
  /-- MOVK3 (R513): MOVK3 replaces bits [63:48] of rd. -/
  | movk3 (c : Nat) (g : BitVec 4) (rd : BitVec 5) (imm : BitVec 16)
  /-- CMP (R513): CMP sets a predicate from comparing two registers. -/
  | cmp (c : Nat) (g : BitVec 4) (pd : BitVec 3) (cond : BitVec 4) (ra rb : BitVec 5)
  /-- CMPI (R513): CMPI sets a predicate from comparing a register with an immediate. -/
  | cmpi (c : Nat) (g : BitVec 4) (pd : BitVec 3) (cond : BitVec 4) (ra : BitVec 5) (imm : BitVec 10)
  /-- PSET (R513): PSET combines two predicates into one. -/
  | pset (c : Nat) (g : BitVec 4) (pd pa pb : BitVec 3) (lop : BitVec 2) (ia ib : Bool)
  /-- LD8U (R519): LD8U loads a byte zero-extended from a checked segment. -/
  | ld8u (c : Nat) (g : BitVec 4) (rd ra : BitVec 5) (seg : BitVec 4) (imm : BitVec 8)
  /-- LD16U (R519): LD16U loads 16 bits zero-extended. -/
  | ld16u (c : Nat) (g : BitVec 4) (rd ra : BitVec 5) (seg : BitVec 4) (imm : BitVec 8)
  /-- LD32U (R519): LD32U loads 32 bits zero-extended. -/
  | ld32u (c : Nat) (g : BitVec 4) (rd ra : BitVec 5) (seg : BitVec 4) (imm : BitVec 8)
  /-- LD64 (R519): LD64 loads 64 bits. -/
  | ld64 (c : Nat) (g : BitVec 4) (rd ra : BitVec 5) (seg : BitVec 4) (imm : BitVec 8)
  /-- LD8S (R519): LD8S loads a byte sign-extended. -/
  | ld8s (c : Nat) (g : BitVec 4) (rd ra : BitVec 5) (seg : BitVec 4) (imm : BitVec 8)
  /-- LD16S (R519): LD16S loads 16 bits sign-extended. -/
  | ld16s (c : Nat) (g : BitVec 4) (rd ra : BitVec 5) (seg : BitVec 4) (imm : BitVec 8)
  /-- LD32S (R519): LD32S loads 32 bits sign-extended. -/
  | ld32s (c : Nat) (g : BitVec 4) (rd ra : BitVec 5) (seg : BitVec 4) (imm : BitVec 8)
  /-- ST8 (R519): ST8 stores the low byte of rs. -/
  | st8 (c : Nat) (g : BitVec 4) (rs ra : BitVec 5) (seg : BitVec 4) (imm : BitVec 8)
  /-- ST16 (R519): ST16 stores the low 16 bits of rs. -/
  | st16 (c : Nat) (g : BitVec 4) (rs ra : BitVec 5) (seg : BitVec 4) (imm : BitVec 8)
  /-- ST32 (R519): ST32 stores the low 32 bits of rs. -/
  | st32 (c : Nat) (g : BitVec 4) (rs ra : BitVec 5) (seg : BitVec 4) (imm : BitVec 8)
  /-- ST64 (R519): ST64 stores rs. -/
  | st64 (c : Nat) (g : BitVec 4) (rs ra : BitVec 5) (seg : BitVec 4) (imm : BitVec 8)
  /-- AMOADD (R526): AMOADD atomically adds to a 64-bit word and returns the old value. -/
  | amoadd (c : Nat) (g : BitVec 4) (rd ra rb : BitVec 5) (seg : BitVec 4)
  /-- AMOSWAP (R526): AMOSWAP atomically swaps a 64-bit word. -/
  | amoswap (c : Nat) (g : BitVec 4) (rd ra rb : BitVec 5) (seg : BitVec 4)
  /-- AMOCAS (R526): AMOCAS atomically compares and swaps a 64-bit word. -/
  | amocas (c : Nat) (g : BitVec 4) (rd ra rb : BitVec 5) (seg : BitVec 4)
  /-- FENCE (R526): The FENCE instruction completes when the task's earlier stores and atomics are visible to every core. -/
  | tintFence (c : Nat) (g : BitVec 4)
  /-- SEGN (R521): SEGN makes a narrowed sub-segment. -/
  | segn (c : Nat) (g : BitVec 4) (sd ss : BitVec 4) (ra rb : BitVec 5) (rights : BitVec 3)
  /-- SEGLEN (R513): SEGLEN returns a segment's limit. -/
  | seglen (c : Nat) (g : BitVec 4) (rd : BitVec 5) (seg : BitVec 4)
  /-- BR (R517): BR branches by a word offset. -/
  | br (c : Nat) (g : BitVec 4) (imm : BitVec 22)
  /-- CALL (R523): CALL pushes the return address and branches. -/
  | call (c : Nat) (g : BitVec 4) (imm : BitVec 22)
  /-- RET (R524): RET pops the return stack into pc. -/
  | ret (c : Nat) (g : BitVec 4)
  /-- JR (R517): JR jumps to a register address. -/
  | jr (c : Nat) (g : BitVec 4) (ra : BitVec 5)
  /-- CALLR (R523): CALLR pushes the return address and jumps to a register address. -/
  | callr (c : Nat) (g : BitVec 4) (ra : BitVec 5)
  /-- RPOP (R524): RPOP pops the return stack into a register. -/
  | rpop (c : Nat) (g : BitVec 4) (rd : BitVec 5)
  /-- RPUSH (R523): RPUSH pushes a register onto the return stack. -/
  | rpush (c : Nat) (g : BitVec 4) (ra : BitVec 5)
  /-- RSD (R513): RSD returns the return-stack depth. -/
  | rsd (c : Nat) (g : BitVec 4) (rd : BitVec 5)
  /-- ECALL_SHA256 (R527): ECALL SHA256 submits a SHA-256 digest descriptor and the task waits. -/
  | ecallSha256 (c : Nat) (g : BitVec 4)
  /-- ECALL_HMAC (R527): ECALL HMAC submits an HMAC descriptor with a caller key and the task waits. -/
  | ecallHmac (c : Nat) (g : BitVec 4)
  /-- ECALL_DECOMP (R462): ECALL DECOMP submits a decode descriptor under the program's output limit and the task waits. -/
  | ecallDecomp (c : Nat) (g : BitVec 4)
  /-- ECALL_STENCIL (R587): ECALL STENCIL looks up a key in the tenant's stencil banks. -/
  | ecallStencil (c : Nat) (g : BitVec 4)
  /-- ECALL_NOW (R528): ECALL NOW returns the current stamp. -/
  | ecallNow (c : Nat) (g : BitVec 4)
  /-- END (R542): END ends the task with r1 and r2 as its result for its attach point. -/
  | tintEnd (c : Nat) (g : BitVec 4)
  /-- DELAY (R530): DELAY parks the task on its core's delay list. -/
  | tintDelay (c : Nat) (g : BitVec 4) (ra : BitVec 5)
  /-- TRAP (R531): TRAP ends the task with trap USER. -/
  | tintTrap (c : Nat) (g : BitVec 4) (code : BitVec 12)
  /-- COMPRESSION_DESCRIPTOR (R467): A compression descriptor is queued to an engine. -/
  | compressionDescriptor (src : JobSrc)
  /-- COMPRESSION_RESULT (R468): An engine finishes a message, writes its result and takes its next descriptor. -/
  | compressionResult (e : Nat)
  /-- CIPHER_DESCRIPTOR (R473): A cipher descriptor is queued to a lane. -/
  | cipherDescriptor (src : JobSrc)
  /-- DIGEST_DESCRIPTOR (R489): A digest descriptor is queued to a lane. -/
  | digestDescriptor (src : JobSrc)
  /-- CONTEXT_SAVE (R500): At a block boundary a lane saves the running message and starts a higher-rank one. -/
  | contextSave (dig : Bool) (l pos : Nat)
  /-- YIELD (R501): After each further 65,536 bytes with a same-rank waiter, a message yields into a slot. -/
  | laneYield (dig : Bool) (l : Nat)
  /-- LANE_MESSAGE_END (R502): A lane finishes a message and takes the next work by rank and fairness. -/
  | laneMessageEnd (dig : Bool) (l : Nat)
  /-- MASK_RESEED (R488): A quadrant's mask DRBG reseeds every 2^20 generate requests. -/
  | maskReseed (q : Nat)
  /-- MASK_DRBG_LIMIT (R488): A mask DRBG reaching 2^32 requests on its last seed stops its quadrant's cipher lanes. -/
  | maskDrbgLimit (q : Nat)
  /-- PARITY_COMPUTE (R373): The parity engine computes P and Q of a row, or reconstructs erased units. -/
  | parityCompute (w : ParityWork)
  /-- ROW_PADDED (R372): An incomplete row whose oldest codeword has waited FILL_WAIT is padded with FILL units. -/
  | rowPadded (g l : Nat)
  /-- JOURNAL_PROGRAM_DONE (R377): A journal codeword program completes and the next carries the waiting entries. -/
  | journalProgramDone (die : Nat)
  /-- ACCEPT (R633): The partner's ACCEPT names mirrored content as accepted. -/
  | mirrorAccept (h : LinkHdr) (seq : Word32)
  /-- PROGRAM_COMPLETE (R318): A stripe program completes and the stripe counts as programmed. -/
  | programComplete (g l : Nat)
  /-- PROGRAM_FAIL (R344): A failed program re-places its pages through the overlay and seals its segment early. -/
  | programFail (g l slot : Nat)
  /-- ERASE_COMPLETE (R300): An erase completes, returning the block to FREE or retiring it on failure. -/
  | eraseComplete (g segment slot : Nat) (ok : Bool)
  /-- WAIT_RDY_TIMEOUT (R263): A WAIT_RDY reaches its timeout and the device resets the chip enable and fails the operation. -/
  | waitRdyTimeout (die : Nat)
  /-- FLASH_READ_DONE (R277): A flash read completes and the read channel searches for each codeword's marker. -/
  | flashReadDone (read cw : Nat) (cap : Bytes)
  /-- LDPC_DECODE (R280): A decoder finishes a codeword stage, accepting it or moving to the next stage. -/
  | ldpcDecode (read cw : Nat) (result : Option Bytes)
  /-- RETRAINING (R267): A port retrains on interval, temperature, slip threshold or force. -/
  | retraining (n : Nat)
  /-- FLP_RETRAIN_FORCE (R267): A write of FLP_RETRAIN.FORCE schedules a retraining. -/
  | flpRetrainForce (m : Msg) (v : Word32)
  /-- TRAINING_DONE (R265): A training completes, passing, repeating, stepping down a mode or failing the port. -/
  | trainingDone (n : Nat) (results : Training)
  /-- PORTGNT_HIGH (R272): PORTGNT rises for an ASK port, which becomes OWNED and is reset and trained. -/
  | portgntHigh (n : Nat) (ids : List (Option DieId))
  /-- GRANT_LOST (R272): PORTGNT falls on an OWNED port, which goes to FREE and returns its queued operations. -/
  | grantLost (n : Nat)
  /-- ASK_TIMEOUT (R272): An ASK port with no grant after 20 µs returns to FREE. -/
  | askTimeout (n : Nat)
  /-- LEAVING_DONE (R272): PORTGNT falls for a LEAVING port, which goes to FREE. -/
  | leavingDone (n : Nat)
  /-- VCCQ_SAMPLE (R290): Each 1 µs VCCQ sample and sensor reading can place a write-guard hold. -/
  | vccqSample (n : Nat) (pm : Int)
  /-- GUARD_RELEASE (R291): After 1 ms within release limits the write-guard hold is released. -/
  | guardRelease (n : Nat)
  /-- SECOND_COAT (R327): Second coat folds a qualifying sealed primer log stripe into QLC. -/
  | secondCoat (g : Nat)
  /-- SCRAPE (R331): Scrape chooses a victim segment and copies its live fragments. -/
  | scrape (g : Nat)
  /-- SEGMENT_ERASE (R334): Once the move batch is durable and earlier reads finish, the segment's erase is issued. -/
  | segmentErase (g segment : Nat)
  /-- WEAR_LEVELLING (R342): A die's erase-counter spread exceeding SPREAD starts an evacuation. -/
  | wearLevelling (die : Nat)
  /-- SANDING_PASS (R350): The sanding pass samples weak pages of sealed blocks and refreshes or claims segments. -/
  | sandingPass (die block : Nat)
  /-- RETENTION_TICK (R347): Every 1 s retention ages advance by the acceleration factor. -/
  | retentionTick
  /-- CHECKPOINT_CYCLE (R319): A checkpoint cycle writes dirty map pages and logs CKPT_ROOT. -/
  | checkpointCycle
  /-- MAP_FAULT (R323): An absent map page is loaded from its checkpoint and tail records. -/
  | mapFault (table page : Nat)
  /-- PWRFAIL_N_FALL (R337): PWRFAIL_N falling starts the power-loss dump and parking. -/
  | pwrfailNFall
  /-- PWRFAIL_N_RISE (R808): PWRFAIL_N high for 10 ms after parking resets the device. -/
  | pwrfailNRise
  /-- RESET_N_FALL (R806): RESET_N falling dumps unprogrammed data and parks before reset. -/
  | resetNFall
  /-- BOOT (R762): On RESET_N rising the boot ROM reads the anchor store, chooses a slot and starts firmware and recovery. -/
  | boot (b : BootIn)
  /-- SUPPLY_DROP (R809): VDD_AON or VDD_IO below 90% for 1 µs resets the device as at power-on. -/
  | supplyDrop
  /-- WATCHDOG (R763): The 30 s boot watchdog expires and the device resets itself. -/
  | watchdog
  /-- RECOVERY_HELLO (R765): In recovery boot a HELLO is sent every 1 s. -/
  | recoveryHello
  /-- RECOVERY_DATA (R766): A recovery DATA frame is stored when its offset is expected and is answered with ACK. -/
  | recoveryData (mac : BitVec 48) (offset total : Word32) (data : Bytes)
  /-- RECOVERY_DONE (R766): A recovery DONE checks the image, sends RESULT and writes and boots it. -/
  | recoveryDone (mac : BitVec 48)
  /-- RECOVERY_TIMEOUT (R765): 10 s without a recovery frame ends the transfer. -/
  | recoveryTimeout
  /-- CONFIRM (R768): A write of TOP_FW_CTL.CONFIRM raises the anti-rollback floor. -/
  | fwConfirm (m : Msg) (v : Word32)
  /-- LIFE_ESTIMATE (R776): Each day spare use is recorded and the service-life estimate recomputed. -/
  | lifeEstimate
  /-- MEMBER_FAULT (R389): A member fault arises and a rebuild starts when a spare is eligible. -/
  | memberFault (g slot : Nat)
  /-- REBUILD (R390): A rebuild moves to the next segment, reconstructing or copying it onto the spare. -/
  | rebuild (g : Nat)
  /-- REHOME (R381): A write of ARR_GRP_CTL.REHOME re-homes a group's journal. -/
  | groupRehome (m : Msg) (v : Word32)
  /-- CREATE (R363): A write of ARR_GRP_CTL.CREATE creates a redundancy group. -/
  | groupCreate (m : Msg) (v : Word32)
  /-- DISSOLVE (R366): A write of ARR_GRP_CTL.DISSOLVE removes a group no volume names. -/
  | groupDissolve (m : Msg) (v : Word32)
  /-- RESUME (R402): A write of ARR_GRP_CTL.RESUME returns a READ_ONLY group to its state. -/
  | groupResume (m : Msg) (v : Word32)
  /-- ARR_REBUILD (R389): A write of ARR_GRP_CTL.REBUILD starts a rebuild of the lowest failed slot. -/
  | groupRebuild (m : Msg) (v : Word32)
  /-- CLONE_FILL (R435): The device fills a clone's grains in ascending order in CLONE_FILL batches. -/
  | cloneFill (v : Nat)
  /-- SNAP_MERGE (R427): A deleted snapshot's delta entries are merged or dropped in the background. -/
  | snapMerge (v slot : Nat)
  /-- EPOCH_COMPACTION (R429): At E reaching 0xF000 the volume's epochs are compacted. -/
  | epochCompaction (v : Nat)
  /-- REPL_CYCLE (R444): A replication cycle starts after INTERVAL and sends changed grains. -/
  | replCycle (n : Nat)
  /-- REPL_HELLO (R443): A HELLO message is checked by the receiver and answered. -/
  | replHello (net : Net) (raw : Bytes)
  /-- REPL_GRAINS (R445): A GRAINS message is opened and its records enter the receiver's write path. -/
  | replGrains (net : Net) (raw : Bytes)
  /-- REPL_CYCLE_END (R445): A CYCLE_END is acknowledged once the cycle's batches are durable. -/
  | replCycleEnd (net : Net) (raw : Bytes)
  /-- REPL_ACK (R444): The ACK of CYCLE_END makes C the new base. -/
  | replAck (net : Net) (raw : Bytes)
  /-- REPL_FAIL (R447): A FAIL message makes the sender resend from the last accepted message. -/
  | replFail (net : Net) (raw : Bytes)
  /-- CYCLE_FAIL (R448): A failed cycle is rolled back at the receiver and retried at the next start. -/
  | cycleFail (n : Nat)
  /-- DEADLINE_MISS (R194): A vermilion write reaching its deadline unacknowledged raises a miss. -/
  | deadlineMiss (cmd : Nat)
  /-- AT_RISK_CLEAR (R190): AT_RISK clears when its condition has ended for 1 s. -/
  | atRiskClear (n : Nat)
  /-- DRAIN_END (R607): A tenant drain ends when its last command and HOOK task end. -/
  | drainEnd (t : Nat)
  /-- TEN_BSEL (R622): A write of TEN_BSEL loads the staging words with the selected binding. -/
  | tenBsel (m : Msg) (v : Word32)
  /-- TEN_BCTL_WRITE (R621): A write of TEN_BCTL.WRITE copies the staging words into a binding. -/
  | tenBctlWrite (m : Msg) (v : Word32)
  /-- LOOKUP (R577): A write of STN_LOOK_CTL.LOOKUP looks up the manager key and sets the cursor. -/
  | stnLookup (m : Msg) (v : Word32)
  /-- STEP (R578): A write of STN_LOOK_CTL.STEP returns the next match after the cursor. -/
  | lookupStep (m : Msg) (v : Word32)
  /-- STN_BANK_ASSIGN (R586): A write of STN_BANK assigns or releases a tenant bank, clearing it. -/
  | stnBankAssign (m : Msg) (v : Word32)
  /-- HOT_BANKS (R584): A write of MAP_DEDUP_CFG.HOT_BANKS changes the hot-fingerprint banks. -/
  | hotBanks (m : Msg) (v : Word32)
  /-- HEARTBEAT_SEND (R639): Every 10 µs the part sends a HEARTBEAT and toggles PEERALIVE_OUT. -/
  | heartbeatSend
  /-- HEARTBEAT (R641): A received HEARTBEAT is accepted and may fence the part if it claims a home port. -/
  | heartbeat (h : LinkHdr) (state : BitVec 8) (holds : Word64) (hbSeq : Word32)
  /-- PARTNER_DEAD (R640): 80 µs without heartbeat or PEERALIVE change declares the partner dead. -/
  | partnerDead
  /-- ISOLATED_MODE (R648): No accepted frame for 80 µs while PEERALIVE toggles enters isolated mode. -/
  | isolatedMode
  /-- MIRROR_DATA (R632): A MIRROR_DATA frame is written into the mirror data area. -/
  | mirrorData (h : LinkHdr) (g l : Nat) (data : Bytes)
  /-- MIRROR_JRN (R632): A MIRROR_JRN frame writes journal entries into the mirror. -/
  | mirrorJrn (h : LinkHdr) (es : List Jrn)
  /-- MIRROR_MAPLOG (R632): A MIRROR_MAPLOG frame writes map-log records into the mirror. -/
  | mirrorMaplog (h : LinkHdr) (g first : Nat) (recs : List Rec)
  /-- RELEASE (R634): A RELEASE frame frees mirror data. -/
  | mirrorRelease (h : LinkHdr) (refs : List (Nat × Nat))
  /-- CONTROL (R636): A CONTROL frame carries handback, update, training or key records. -/
  | linkControl (h : LinkHdr) (c : Ctl)
  /-- REKEY (R628): A REKEY frame delivers the next Jarel key. -/
  | linkRekey (h : LinkHdr) (ct : Bytes)
  /-- LINK_ACK (R627): A LINK_ACK acknowledges link frames in order. -/
  | linkAck (seq : Word32)
  /-- RETRANSMIT (R627): A link frame unacknowledged after 8 µs is resealed and resent. -/
  | retransmit
  /-- HELLO (R629): A pairing HELLO starts or continues pairing. -/
  | pairHello (h : LinkHdr) (b : HelloBody)
  /-- CERT (R629): A pairing CERT frame's chains are verified. -/
  | pairCert (h : LinkHdr) (device kem : Bytes)
  /-- LINK_ATTEST (R629): A pairing ATTEST frame is verified over the nonce. -/
  | linkAttest (h : LinkHdr) (body signature : Bytes)
  /-- KEM (R629): A pairing KEM frame yields the shared secret and link keys. -/
  | pairKem (h : LinkHdr) (ct : Bytes)
  /-- BOOT_FETCH (R631): A BOOT_FETCH frame requests or carries the header and core section of a slot. -/
  | bootFetch (h : LinkHdr) (f : FetchBody)
  /-- LANE_FAIL (R624): A Jarel lane losing lock or exceeding its error rate is replaced by the spare. -/
  | laneFail (lane : Nat)
  /-- HANDBACK (R651): A write of PEER_CTL.HANDBACK hands the returning side's ports back. -/
  | handback (m : Msg) (v : Word32)
  /-- ACCEPT_NEW (R630): A write of PEER_CTL.ACCEPT_NEW accepts and records a new partner serial. -/
  | acceptNew (m : Msg) (v : Word32)
  /-- PEER_CTL_REKEY (R628): A write of PEER_CTL.REKEY replaces the transmit key now. -/
  | peerCtlRekey (m : Msg) (v : Word32)
  /-- WAKE (R738): A wake event stops an entry or exits the current power state. -/
  | wake (w : Nat)
  /-- AUTO_POISE (R735): After POISE_IDLE of idleness the device enters Poised. -/
  | autoPoise
  /-- ENTRY_STEP (R737): A power-state entry step begins once its conditions hold. -/
  | entryStep
  /-- PACE_SAMPLE (R743): Every 4 µs pace is sampled and the governor raises or lowers rails. -/
  | paceSample (q : Nat) (mons : List Nat) (mv centiA : Nat)
  /-- RELOAD (R35): A write of PWR_PACE_LOW.RELOAD loads LOW with the current pace. -/
  | paceReload (m : Msg) (v : Word32)
  /-- REGULATOR_FAULT (R745): PMB_ALERT_N with a fault, or a silent core regulator, fences the device. -/
  | regulatorFault (k : Nat) (silent : Bool)
  /-- SENSOR_SAMPLE (R748): A sensor sample crosses WARN, THROTTLE or TRIP, or marks the sensor failed. -/
  | sensorSample (k : Nat) (raw : Int) (open_ : Bool)
  /-- THROTTLE_STAGE2 (R748): A sensor at THROTTLE for 2 s and rising starts stage 2. -/
  | throttleStage2
  /-- TRIP_POWER_OFF (R750): 2 ms after a trip OPERATION Off is sent to the core regulators. -/
  | tripPowerOff
  /-- THERMTRIP_COMPARATOR (R751): An on-die sensor at TRIP plus 10 °C asserts THERMTRIP_N at once. -/
  | thermtripComparator (k : Nat)
  /-- THERMAL_WATCH (R752): In Stowed and Standby the thermal watch checks sensors every 1 s. -/
  | thermalWatch
  /-- SYNC (R700): A PTP Sync is accepted and drives the servo and timebase state. -/
  | ptpSync (p : PtpMsg)
  /-- ANNOUNCE (R705): A PTP Announce feeds the BMCA. -/
  | ptpAnnounce (p : PtpMsg)
  /-- FOLLOW_UP (R705): A PTP Follow_Up completes a two-step Sync. -/
  | ptpFollowUp (p : PtpMsg)
  /-- DELAY_RESP (R705): A PTP Delay_Resp completes a delay measurement. -/
  | ptpDelayResp (p : PtpMsg)
  /-- PDELAY_REQ (R705): A PTP Pdelay_Req is answered one-step. -/
  | ptpPdelayReq (p : PtpMsg)
  /-- SYNC_TIMEOUT (R700): No Sync for 4 intervals or an Announce timeout moves LOCKED to HOLDOVER. -/
  | syncTimeout
  /-- HOLDOVER_EXPIRY (R700): HOLDOVER longer than HOLDOVER_MAX moves to FREE_RUN. -/
  | holdoverExpiry
  /-- TIMEBASE_UPDATE (R697): Every 1 ms the timebase increment is set from curve, residual and servo. -/
  | timebaseUpdate
  /-- RESIDUAL_LEARN (R698): After 60 s LOCKED at one temperature the servo term is stored as a residual. -/
  | residualLearn
  /-- SET (R703): A write of TIME_CTL.SET sets the time in FREE_RUN. -/
  | timeSet (m : Msg) (v : Word32)
  /-- TIME_CTL_LOCK (R15): A write of TIME_CTL.LOCK locks TIME_TC. -/
  | timeCtlLock (m : Msg) (v : Word32)
  /-- ETH_CTL_LOCK (R15): A write of ETH_CTL.LOCK locks ASYM. -/
  | ethCtlLock (m : Msg) (v : Word32)
  /-- TMEM_CTL_LOCK (R15): A write of TMEM_CTL.LOCK locks TEST_EN. -/
  | tmemCtlLock (m : Msg) (v : Word32)
  /-- PWR_RAIL_LOCK (R15): A write of PWR_RAIL.LOCK locks a rail's address and limits. -/
  | pwrRailLock (m : Msg) (v : Word32)
  /-- PWR_AUX_LOCK (R15): A write of PWR_AUX.LOCK locks an auxiliary rail's address. -/
  | pwrAuxLock (m : Msg) (v : Word32)
  /-- THM_CFG_LOCK (R15): A write of THM_CFG.LOCK locks the THM lockable fields. -/
  | thmCfgLock (m : Msg) (v : Word32)
  /-- ETH_GCFG_WRITE (R687): A write of ETH_GCFG ENABLE or MODE takes a group down or changes its mode. -/
  | ethGcfgWrite (m : Msg) (v : Word32)
  /-- GROUP_DOWN (R687): A group going down completes its transfers for up to 100 ms and drops its links. -/
  | groupDown (g : Nat)
  /-- ADDR_WRITE (R688): A write of ETH_ADDR_SEL.WRITE sets a port's address. -/
  | addrWrite (m : Msg) (v : Word32)
  /-- CONNECT (R693): A write of ETH_ADDR_SEL.CONNECT opens a connection and reports it in ETH_CM_QPN. -/
  | cmConnect (m : Msg) (v : Word32)
  /-- REQ (R692): A connection REQ is accepted when its source passes a binding or arrives on the management port. -/
  | cmReq (m : CmMsg)
  /-- REP (R693): A REP answers a device-started connection. -/
  | cmRep (m : CmMsg)
  /-- RTU (R691): An RTU establishes a connection. -/
  | cmRtu (m : CmMsg)
  /-- REJ (R693): A REJ fails a device-started connection. -/
  | cmRej (m : CmMsg)
  /-- DREQ (R691): A DREQ disconnects a queue pair and is answered DREP. -/
  | cmDreq (m : CmMsg)
  /-- DREP (R691): A DREP completes a disconnection. -/
  | cmDrep (m : CmMsg)
  /-- UNBOUND_TIMEOUT (R692): A queue pair left unbound for 10 s is disconnected. -/
  | unboundTimeout (qpn : Nat)
  /-- INCOMING_RDMA (R691): An incoming RDMA READ, WRITE or atomic is answered with a remote-access-error NAK. -/
  | incomingRdma (n : Net)
  /-- BAD_FRAME (R688): An unsupported Ethernet frame is dropped and counted. -/
  | badFrame (port : Nat)
  /-- ARP_REQUEST (R688): An ARP request is answered. -/
  | arpRequest (port : Nat) (ip : Ip)
  /-- ICMP_ECHO (R688): An ICMP or ICMPv6 echo request is answered. -/
  | icmpEcho (port : Nat) (ip : Ip)
  /-- NEIGHBOUR_DISCOVERY (R688): An IPv6 neighbour discovery message is answered. -/
  | neighbourDiscovery (port : Nat) (ip : Ip)
  /-- CONGESTION_NOTIFICATION (R690): A received congestion notification packet halves a queue pair's send rate. -/
  | congestionNotification (qpn : Nat)
  /-- RATE_INCREASE (R690): After 55 µs without a notification a queue pair's rate rises by 1/64 of line rate. -/
  | rateIncrease (qpn : Nat)
  /-- PRIORITY_PAUSE (R241): A priority's receive-queue share crossing its threshold sends or releases a PFC pause. -/
  | priorityPause (port prio bytes : Nat)
  /-- PATROL_SCRUB (R719): The patrol scrub reads DRAM words and corrects them. -/
  | patrolScrub (ch row : Nat) (found : Nat)
  /-- DRAM_UNCORRECTABLE (R720): An uncorrectable DRAM word is handled by its owner. -/
  | dramUncorrectable (ch row : Nat) (owner : DramOwner)
  /-- DRAM_RETRAIN (R716): A DDR5 channel retrains each INTERVAL or on a temperature change. -/
  | dramRetrain (ch : Nat) (temp : Int)
  /-- REFRESH (R712): DRAM refresh is issued at the JEDEC rate. -/
  | refresh (ch : Nat)
  /-- ROW_ACTIVATION_LIMIT (R721): A row reaching its activation threshold has its neighbours refreshed and its requester throttled. -/
  | rowActivationLimit (ch bank row : Nat) (prog : Option Nat)
  /-- TILE_PARITY_ERROR (R726): A tile-memory parity error is handled by its area and may replace the row. -/
  | tileParityError (site : ParitySite)
  /-- TILE_COPY_DONE (R728): A tile copy to a spare tile completes. -/
  | tileCopyDone (tile : Nat)
  /-- CLAIM (R730): A write of TMEM_TEST.CLAIM grants or releases the test buffer. -/
  | tmemClaim (m : Msg) (v : Word32)
  /-- TEST_WRITE (R730): TEST_WRITE stores the test word with given parity. -/
  | tmemTestWrite (m : Msg) (v : Word32)
  /-- TEST_READ (R730): TEST_READ loads the test word and its parity. -/
  | tmemTestRead (m : Msg) (v : Word32)
  /-- INJECT (R731): INJECT inverts stored parity bits of a word. -/
  | tmemInject (m : Msg) (v : Word32)
  /-- TMEM_RELEASE (R730): A write of TMEM_TPAR.RELEASE returns the test buffer. -/
  | tmemRelease (m : Msg) (v : Word32)
  /-- SCRUB_START (R733): A write of TMEM_SCRUB_CTL.START starts a range scrub. -/
  | scrubStart (m : Msg) (v : Word32)
  /-- SCRUB_DONE (R732): A range scrub completes and writes its summary. -/
  | scrubDone
  /-- EXTEND (R494): A write of DIG_MEAS_CTL.EXTEND extends a measurement register. -/
  | measExtend (m : Msg) (v : Word32)
  /-- DIG_MEAS_DATA_READ (R506): A read of DIG_MEAS_DATA[0] latches the selected measurement register. -/
  | digMeasDataRead (m : Msg)
  /-- LO_READ_LATCH (R17): A read of a _LO register latches its _HI word for that source. -/
  | loReadLatch (m : Msg)
  /-- ENTROPY_SAMPLE (R678): An entropy sample passes health tests, or a failure restarts or fails the source. -/
  | entropySample (v : Byte)
  /-- NEXT_TREE_DONE (R662): The next LMS bottom tree completes and waiting signatures proceed. -/
  | nextTreeDone
  /-- KEY_UNWRAP (R674): SEC finishes unwrapping a key record into the key cache and the waiting lane proceeds. `fetch.read` is what WRAPPED read as,
  none where it read as it was written. -/
  | keyUnwrap (fetch : KeyFetch)
  /-- CARD_STATUS_SEND (R61): A status frame is sent as a SEND on the command's queue pair. -/
  | cardStatusSend (qpn : Nat)
  /-- PEERALIVE_IN_CHANGE (R640): A level change on PEERALIVE_IN restarts the partner-death window and updates PEER_STAT.PARTNER_ALIVE. -/
  | peeraliveInChange
  /-- JAREL_LINK_UP (R629): The Jarel lanes finish training after the link was down, and the part starts pairing by sending HELLO. -/
  | jarelLinkUp (lanes : BitVec 17)
  /-- HOST_LINK_CHANGE (R687): A host or management port link comes up or goes down, updating ETH_GSTAT.LINK, applying a pending MODE and failing the group's queue pairs on loss. -/
  | hostLinkChange (port : Nat) (up : Bool)
  /-- ENTROPY_WAIT_TIMEOUT (R681): An operation waiting on a failed or restarting entropy source for 100 ms completes ENTROPY_FAILED with RETRYABLE. -/
  | entropyWaitTimeout (cmd : Nat)
  /-- BOOT_FETCH_TIMEOUT (R764): A BOOT_FETCH REQUEST unanswered for 1 s sends the boot ROM into recovery boot. -/
  | bootFetchTimeout
  /-- CONNECT_TIMEOUT (R693): A device-started connection that is not established in time fails and sets ETH_CM_QPN.FAIL. -/
  | connectTimeout (qpn : Nat)
  /-- SEND_ACKNOWLEDGED (R107): The transport acknowledges a device SEND, a status frame or a replication message, so it is no longer held for relay. -/
  | sendAcknowledged (qpn : Nat)
  /-- SEQUENCE_ERROR_NAK (R97): A received sequence-error NAK makes the transport resend and count a retry toward TRANSFER_FAIL. -/
  | sequenceErrorNak (qpn : Nat)
  /-- STENCIL_BANK_CLEARED (R586): A stencil bank finishes invalidating its entries, clears STN_BANK.BUSY and becomes usable by its new owner or FREE. -/
  | stencilBankCleared (b : Nat)
  /-- JTAG_ACCESS (R795): A JTAG TAP operation on TCK runs IDCODE, BYPASS or SAMPLE/PRELOAD, or an instruction a debug token has unlocked. -/
  | jtagAccess (ir : Nat)
  /-- I3C_ENTDAA (R792): The board controller assigns the device's I3C dynamic address with ENTDAA. -/
  | i3cEntdaa (addr : BitVec 7)
  /-- I3C_IBI_SERVICED (R788): The board controller services a pending I3C in-band interrupt, so a later event raises a new one instead of merging. -/
  | i3cIbiServiced
  /-- PPS_PULSE (R793): PPS_OUT rises when the nanosecond count wraps to 0 and falls 100 ms later. -/
  | ppsPulse
  /-- PDELAY_RESP (R705): A received PTP Pdelay_Resp completes the device's own peer-to-peer delay measurement. -/
  | ptpPdelayResp (p : PtpMsg)
  deriving DecidableEq, Repr

end Sys2Proof
end

