-- ==== Sys2Proof/Decode.lean ====
section
/-! DEFINITION. Commands as words of the table of operations.  The table gives no row any bits: commands are frames, register
writes and events, and no word spells one. -/

namespace Sys2Proof

/-- The command that a word of nbits bits spells by the table: none, since no row of the table gives bits. -/
def decodeTableWord (_nbits _w : Nat) : Option Instr := none

end Sys2Proof
end

