-- ==== Sys2Proof/Config.lean ====
section
/-! DEFINITION. What the specification leaves to one part or to a standard outside it.  Every constant here is opaque:
nothing in Lean can evaluate it, so a statement about the model holds whatever it is.  The assumption log names each. -/

namespace Sys2Proof.Config

/-! ### Fused and board-given values -/

/-- The 48-bit device serial (R3): fused. -/
opaque serial : BitVec 48

/-- The fused base MAC address; port n adds n (Table 18-2). -/
opaque baseMac : BitVec 48

/-- 1 where remote sensor channel s − 24 is fitted (THM_THR.ENABLE's reset value). -/
opaque sensorUsed : Nat → Nat

/-- The slot period of the flash scheduler in µs, a term of T_MEDIUM (Table 4-2). -/
opaque slotPeriodUs : Nat

/-- Amber and crimson watermarks of the flash program slots in percent: R242 has them, and no rule gives their values. -/
opaque slotAmber : Nat
opaque slotCrimson : Nat

/-- The groups that are assigned to a tenant when it is created: VOL_CREATE asks for it, and no command assigns one (R407). -/
opaque groupsOf : Nat → List Nat

/-- The servo's new frequency term in 1/64 ppb, from the last offset in 2^-16 ns and the present term; the specification bounds it
only (R697, R702). -/
opaque servo : Int → Int → Int

/-! ### Free values: the n-th value drawn -/

/-- The n-th free bit the model draws. -/
opaque freeBool : Nat → Bool

/-- The n-th free number the model draws. -/
opaque freeNat : Nat → Nat

/-- The n-th free byte string of a given length the model draws. -/
opaque freeBytes : Nat → Nat → List (BitVec 8)

/-! ### Functions of standards outside the specification -/

/-- CTR_DRBG output (SP 800-90A): the bytes of draw n, of a given length (R678). -/
opaque drbg : Nat → Nat → List (BitVec 8)

/-- The 64-bit guard of a protection tuple over sector data; the specification gives no algorithm (R310). -/
opaque guard : List (BitVec 8) → BitVec 64

/-- Whether an HSS signature verifies a message under a public key (RFC 8554): key, message, signature. -/
opaque hssVerify : List (BitVec 8) → List (BitVec 8) → List (BitVec 8) → Bool

/-- The device's HSS signature of a message with a leaf. -/
opaque hssSign : Nat → List (BitVec 8) → List (BitVec 8)

/-- The vendor root HSS public key whose SHA-256 is fused (R653). -/
opaque vendorRoot : List (BitVec 8)

/-- Whether an X.509 certificate chain ends at the vendor root and its keys are bound as R656 says: device, ML-KEM. -/
opaque certsValid : List (BitVec 8) → List (BitVec 8) → Bool

/-- The device HSS public key that a device certificate carries. -/
opaque certKey : List (BitVec 8) → List (BitVec 8)

/-- What stands before and behind serialNumber in the device certificate. -/
opaque certHead : List (BitVec 8)
opaque certTail : List (BitVec 8)

/-- The DER INTEGER of a number that is not negative. -/
def derInteger (n : Nat) : List (BitVec 8) :=
  let k := (Nat.log2 n + 1) / 8 + 1
  0x02 :: BitVec.ofNat 8 k :: (List.range k).map fun i => BitVec.ofNat 8 (n / 256 ^ (k - 1 - i))

/-- The device certificate: its serialNumber is the device serial (R3, R656). -/
def deviceCert : List (BitVec 8) := certHead ++ derInteger serial.toNat ++ certTail

/-- The ML-KEM certificate and the ML-KEM-1024 encapsulation key (Table 17-2). -/
opaque kemCert : List (BitVec 8)
opaque kemPublic : List (BitVec 8)

/-- ML-KEM.Decaps of a ciphertext under the device's key (FIPS 203). -/
opaque kemDecaps : List (BitVec 8) → List (BitVec 8)

/-- ML-KEM.Encaps to the key in an ML-KEM certificate with the n-th draw: ciphertext and shared secret. -/
opaque kemEncaps : List (BitVec 8) → Nat → List (BitVec 8) × List (BitVec 8)

/-- The device unique secret, fused (R670). -/
opaque dus : List (BitVec 8)

/-- The 440 bytes of QC-LDPC parity of a codeword's bytes 0x0000–0x1047 (Table 6-5). -/
opaque qcParity : List (BitVec 8) → List (BitVec 8)

/-- Versions of the boot ROM and of the die profile set, as the ATTEST report gives them (Table 17-5). -/
opaque romVersion : BitVec 32
opaque profileSetVersion : BitVec 32

/-- SHA-256 of the boot ROM (Table 21-3). -/
opaque romDigest : List (BitVec 8)

end Sys2Proof.Config
end

