-- ==== Sys2Proof/Machine/RegKinds.lean ====
section
/-! DEFINITION. What a register table of the specification says: fields, access codes (Table 0-3) and reset values. -/

namespace Sys2Proof.Machine

/-- One field of one register: byte address, lowest bit, width (R7). -/
structure Fld where
  addr : Nat
  lo : Nat
  width : Nat
  deriving DecidableEq, Repr

/-- How an RWC field's value is brought to the nearest legal one (R13): a plain range, or a rule that looks at other
fields or at the machine. -/
inductive Clamp where
  | range (lo hi : Nat)
  | special
  deriving DecidableEq, Repr

/-- The access codes of Table 0-3.  An RWL field names the lock bit that covers it (R15), by register index. -/
inductive Acc where
  | rw
  | ro
  | wo
  | w1c
  | w1s
  | rwc (c : Clamp)
  | rwl (lock : Nat → Fld)

/-- One row of a register table: lowest bit, width, access and reset value by register index. -/
structure FieldSpec where
  lo : Nat
  width : Nat
  acc : Acc
  rst : Nat → Nat

/-- One register table: first address, stride and count of the array, and its rows. -/
structure RegSpec where
  base : Nat
  stride : Nat
  count : Nat
  fields : List FieldSpec

end Sys2Proof.Machine
end

