-- ==== Sys2Proof/Machine/Geometry.lean ====
section
/-! DEFINITION. Fixed geometry the register tables refer to: buffer pools (Tables 5-1, 5-3), stencil banks (Table 14-2)
and the addresses of the tenant windows (R20). -/

namespace Sys2Proof.Machine

/-- Buffers of pool p (Table 5-1). -/
def poolTotal (p : Nat) : Nat :=
  match p with
  | 0 => 16384 | 1 => 6144 | 2 => 3584 | 3 => 1280 | 4 => 96 | _ => 0

/-- log2 of the buffer size of pool p (Table 5-1). -/
def poolLog2 (p : Nat) : Nat :=
  match p with
  | 0 => 9 | 1 => 12 | 2 => 14 | 3 => 16 | 4 => 18 | _ => 0

/-- Buffer size of pool p in bytes. -/
def poolSize (p : Nat) : Nat := 2 ^ poolLog2 p

/-- Reset value of the journal floor of pool p (Table 5-3). -/
def poolJFloor (p : Nat) : Nat :=
  match p with
  | 0 => 1024 | 2 => 32 | _ => 0

/-- Reset value of the scrape floor of pool p (Table 5-3). -/
def poolSFloor (p : Nat) : Nat :=
  match p with
  | 0 => 256 | 3 => 104 | _ => 0

/-- Range of the journal floor of pool p (Table 5-3). -/
def poolJRange (p : Nat) : Nat × Nat :=
  match p with
  | 0 => (256, 4096) | 2 => (8, 128) | _ => (0, 0)

/-- Range of the scrape floor of pool p (Table 5-3). -/
def poolSRange (p : Nat) : Nat × Nat :=
  match p with
  | 0 => (64, 1024) | 3 => (52, 256) | _ => (0, 0)

/-- The smallest pool whose buffers hold `n` bytes (R208); none for a size no pool holds. -/
def poolFor (n : Nat) : Option Nat :=
  if n ≤ 512 then some 0 else if n ≤ 4096 then some 1 else if n ≤ 16384 then some 2
  else if n ≤ 65536 then some 3 else if n ≤ 262144 then some 4 else none

/-- Kind of stencil bank b at reset (Table 14-2): 0 FREE, 1 CLASS, 2 HOT, 3 TENANT. -/
def bankKind (b : Nat) : Nat :=
  match b with
  | 0 | 1 | 4 | 8 | 12 => 1 | 3 | 7 | 11 | 15 => 2 | _ => 0

/-- First address of the window of tenant t (R20). -/
def windowBase (t : Nat) : Nat := 0x0A0000 + t * 0x100

/-- The tenant whose window holds address a, and the offset within the window (R20). -/
def windowOf (a : Nat) : Option (Nat × Nat) :=
  if 0x0A0000 ≤ a ∧ a < 0x0A0000 + 1024 * 0x100 then
    some ((a - 0x0A0000) / 0x100, (a - 0x0A0000) % 0x100)
  else none

/-- Whether a tenant window has no register at an offset (R20): the reserved offsets of an existing tenant. -/
def windowHole (exists_ : Bool) (off : Nat) : Bool := exists_ && decide (0xBC < off)

end Sys2Proof.Machine
end

