-- ==== Sys2Proof/Machine/PartsFront.lean ====
section
/-! DEFINITION. State of the command front: opcodes, status codes, queues, command records, buffers, tenants, transport,
Ethernet, the timebase and the event log (chapters 02, 03, 05, 15, 18 and 22 of the specification). -/

namespace Sys2Proof.Machine

/-- The Henmen opcodes of Tables 3-3, 3-5, 3-7, 3-10, 3-12, 3-14, 3-17 and 3-19 (R121). -/
inductive Op where
  | nop | read | write | writeZeroes | discard | strip | flush | abort | getDeferred
  | volCreate | volDelete | volResize | volQuery | snapCreate | snapDelete | cloneCreate
  | replOpen | replClose | replRekey
  | streamOpen | streamClose | streamQuery | queryTime
  | loadProgram | unloadProgram | bindProgram | unbindProgram | scan | patternLoad
  | certGet | keyInstall | cryptoErase | attest | keyPolicySet | ownerEnrol | debugUnlock
  | winRead | winWrite | tenantCreate | tenantBind | tenantShares | queueBind | queueDelete
  | enableTenant | quiesceTenant | resetTenant | removeTenant | migrationLog
  | regRead | regWrite | fwStage | fwActivate | powerState | eventRead | thermalAck
  | echo | katRun | tmemScrub
  deriving DecidableEq, Repr

/-- The status codes of Table 22-3 (R780). -/
inductive Code where
  | success | successLate | headerCrc | sequenceInvalid | frameTruncated | queueMismatch | opcodeInvalid | tagInUse
  | handleInvalid | rangeInvalid | lengthInvalid | lengthShort | descriptorInvalid | notFound | tooLate
  | addressInvalid | aborted | alignmentInvalid | paramInvalid | bufferSmall | programInvalid | programTrap
  | mediaFull | noMapSpace | limit | admissionRefused | counterExhausted
  | mediaUnreadable | groupOffline | holdupShort | journalLost | mirrorLost
  | tupleMismatch | bufferParity | decompLimit | integrityFail
  | managerOnly | locked | keyInvalid | keysExhausted | signatureInvalid | rollback | entropyFailed
  | droppedLate | scanTimeout
  | tenantReset | tenantNotOn | readOnly | notQuiesced | inUse | stateConflict | wrongPart
  | transferFail | deviceFault
  deriving DecidableEq, Repr

/-- Claimant classes of buffer requests (Table 5-2). -/
inductive Claim where
  | V | J | S | O | G
  deriving DecidableEq, Repr

/-- Lifecycle states of a tenant (TW_STATE.STATE). -/
inductive Life where
  | off | on | draining | quiesced
  deriving DecidableEq, Repr

/-- A status frame (Table 2-3), less its reserved bits, for queue-pair index `qkey`. -/
structure Status where
  qkey : Nat
  tag : Nat
  code : Code
  seq : Nat
  deferredSet : Bool
  clamped : Bool
  retryable : Bool
  untrusted : Bool
  relayed : Bool
  mediumAck : Bool
  overflow : Bool
  dcount : Nat
  applied : Nat
  retval : Nat
  stamp : Nat
  cmd : Nat
  deriving DecidableEq, Repr

/-- Why a command stands still: the waits of R100, R103, R131, R600, R379, R320, R154, R143, R148, R163, R450, R681. -/
inductive Hold where
  | none
  | fence
  | barrier
  | share
  | journal
  | tail
  | records
  | hazard
  | bind
  | snap
  | snapSlot
  | stream
  | drain
  | session
  | entropy
  | partner
  | flush
  | kat
  | erase
  | nextTree
  deriving DecidableEq, Repr

/-- Where on its path a command stands: at step 4, waiting for buffers, fetching its data, on the data path, executing,
sending its result, or with its status frame queued. -/
inductive Stage where
  | gate
  | buffers
  | fetch
  | path
  | exec
  | result
  | done
  deriving DecidableEq, Repr

/-- The locator that a read or a merge took at its lookup, with the size of the fragment and where its log stripe then lay (R334): segment, data unit and
mode. -/
structure ReadBase where
  loc : Loc
  size : Nat
  segment : Nat
  unit : Nat
  slc : Bool
  deriving DecidableEq, Repr

/-- One grain of a write, a read or a scan on its path (Tables 1-4 and 1-5): the number of the last step completed,
the grain's data as it stands, the buffer that holds it, for a read the writes whose buffers serve it, its references on them (R50) and the
sectors to be laid over stored content (first sector in the grain, bytes, stamps), whether a later change of the same grain has been
mapped, and what the steps have found out about it, the filter's annotation last. -/
structure Grain where
  step : Nat
  data : Bytes
  stamps : List Nat
  quality : Nat
  buf : Option Nat
  writers : List Nat
  refs : List Nat
  laid : List (Nat × Bytes × List Nat)
  stale : Bool
  zero : Bool
  dropped : Bool
  replaced : Bool
  digest : Bytes
  match? : Option Nat
  content : Option Nat
  frag : Bytes
  fragLen : Nat
  raw : Bool
  row : Option Loc
  entered : Bool
  mirrored : Bool
  programmed : Bool
  mapped : Bool
  annot : Nat
  base : Option ReadBase := none
  deriving DecidableEq, Repr

/-- A command record (R64): a parsed frame, what Table 2-7 made of it (tenant, incarnation, counted sequence, arrival stamp,
claimant class, priority after R72), and where its execution stands: its stage and what holds it, the commands it waits
for, commit point passed, found late and for which cause, its grains, descriptors, payload and result, what its status
will say, operation-specific numbers, whether its share tokens are taken, and whether its status frame has been sent. -/
structure Cmd where
  op : Op
  msg : Msg
  qkey : Nat
  tenant : Nat
  inc : Nat
  seq : Nat
  tag : Nat
  stamp : Nat
  arrived : Nat
  claim : Claim
  prio : Nat
  stage : Stage
  hold : Hold
  waits : List Nat
  clamped : Bool
  committed : Bool
  late : Bool
  missCause : Nat
  grains : Tbl Grain
  descs : List Desc
  payload : Bytes
  result : Bytes
  applied : Nat
  retval : Nat
  aux : List Nat
  outcome : Code
  shareTaken : Bool
  sent : Bool
  deriving DecidableEq, Repr

/-- A queue of a tenant (R59, R63, R65, R107, R110): depth, bound queue pair, failure, expected sequence, error counts,
the tags of the last 4,096 frames with their sequences (newest first), status frames held for relay, the expected sequence of the
queue pair that failed last, and what the next status frame must report of deferred records. -/
structure Queue where
  depth : Nat
  qpn : Option Nat
  failed : Bool
  nextSeq : Nat
  hcrcErr : Nat
  seqErr : Nat
  tags : List (Nat × Nat)
  held : List Status
  oldSeq : Nat
  deferredNew : Nat
  overflowNew : Bool
  deriving DecidableEq, Repr

/-- A deferred record (Table 2-9). -/
structure Deferred where
  queue : Nat
  tag : Nat
  seq : Nat
  volume : Nat
  lba : Nat
  sectors : Nat
  cause : Code
  deriving DecidableEq, Repr

/-- Migration logging (R166, R167): base, length and descriptor of the bitmap, and the bits set so far. -/
structure Migr where
  base : Nat
  length : Nat
  desc : Desc
  bits : List Nat
  issuer : Nat
  deriving DecidableEq, Repr

/-- A tenant on this part (R595, R596): lifecycle, held opcodes, bindings keyed item × 4 + index (byte i of VALUE in
bits [8i+7:8i]), shares and their token buckets (thousandths of a byte, millionths of a command, and when they were
last filled), key limits, and the counters, events and notes of its window (Table 15-4). -/
structure Tenant where
  life : Life
  inc : Nat
  enableHeld : Option Nat
  quiesceHeld : List Nat
  bindings : Tbl (BitVec 128)
  bandwidth : Nat
  kiops : Nat
  quota : Nat
  reserve : Nat
  cores : Nat
  prioCeil : Nat
  byteTokens : Int
  opTokens : Nat
  filledAt : Nat
  maxDomains : Nat
  maxSlots : Nat
  events : BitVec 32
  eventCount : Nat
  clampCount : Nat
  deferred : List Deferred
  deferOvf : Nat
  spoofDrops : Nat
  spoofSince : Nat
  spoofAt : Option Nat
  misses : Nat
  droppedBytes : Nat
  commands : Nat
  readBytes : Nat
  writtenBytes : Nat
  waitShare : Nat
  waitBuf : Nat
  migr : Option Migr
  migrOut : Nat
  notesM : List Word32
  notesT : List Word32
  groups : List Nat
  deriving DecidableEq, Repr

/-- What a buffer was asked for (R210, R212, Table 5-1): a command's grain piece, its data, its read, the compression output of a
grain; the stripe units of a row that the packer begins for a place of a group, the P and Q of a row; entries of the journal ring, a
journal page of a member; what an evacuation pass reads of a segment, what a rebuild reconstructs, what the sanding pass samples, a
replication message; one more buffer for the output chain of a compression descriptor (R459); the manager's test buffer (R730). -/
inductive Use where
  | piece (cmd : Nat) (grains : List Nat)
  | payload (cmd : Nat)
  | reads (cmd : Nat)
  | coded (cmd grain : Nat)
  | units (group place : Nat) (claim : Claim)
  | parity (group logseq : Nat)
  | ring
  | page (group member : Nat)
  | moves (group segment : Nat)
  | rebuild (group : Nat)
  | sample (die block : Nat)
  | repl (session : Nat)
  | output (desc : Nat)
  | test
  deriving DecidableEq, Repr

/-- A waiting buffer request (R214, R216): claimant class, tenant, number of buffers and what they are for. -/
structure BufReq where
  claim : Claim
  tenant : Nat
  count : Nat
  use : Use
  waited : Bool
  deriving DecidableEq, Repr

/-- An allocated buffer (R228): reference count, waiting increments, the floor it was granted from (R218; none for the
general area), the tenant it counts for, and the command it was granted to. -/
structure Buf where
  refs : Nat
  waiting : Nat
  floor : Option Claim
  tenant : Nat
  owner : Option Nat
  deriving DecidableEq, Repr

/-- One buffer pool (R207, R232): allocated buffers by index (the allocation bitmap of R234 is the set of its keys),
free handles as runs (start, length) in the on-chip cache and in the ring, waiting requests oldest first, when the
last watermark events were raised (R220), and what the classes with floors still hold of the excess that lowering a floor left them (R222). -/
structure Pool where
  alloc : Tbl Buf
  cache : List (Nat × Nat)
  ring : List (Nat × Nat)
  waiting : List BufReq
  amberAt : Option Nat
  crimsonAt : Option Nat
  excess : List (Claim × Nat) := []
  deriving DecidableEq, Repr

/-- What a device-initiated transfer carries (R77, R93, R139, R167): the indirect list, a piece of a command's data, a
piece of a result, or a word of a migration bitmap. -/
inductive Load where
  | list
  | data (offset : Nat)
  | result (offset : Nat)
  | bitmap
  deriving DecidableEq, Repr

/-- A device-initiated RDMA transfer in flight: command, queue pair, kind, remote address and length, and the bytes an
RDMA WRITE carries. -/
structure Xfer where
  cmd : Nat
  qpn : Nat
  load : Load
  read : Bool
  addr : Nat
  length : Nat
  data : Bytes
  deriving DecidableEq, Repr

/-- What a queue pair serves: nothing yet, a tenant's queue, or a replication session (R692). -/
inductive QpUse where
  | unbound
  | queue (qkey : Nat)
  | session (n : Nat)
  | tomb (tenant : Nat)
  deriving DecidableEq, Repr

/-- A SEND of the device: a status frame or a replication message (R107, R443). -/
inductive Send where
  | status (s : Status)
  | repl (session : Nat) (msg : Bytes)
  deriving DecidableEq, Repr

/-- A RoCE v2 queue pair (R691): port, remote addresses, whether it is established and has not failed, what it serves,
since when it is unbound, send rate in Mb/s and the times of R690, retries used, SENDs queued and sent but
unacknowledged (oldest first), the end of an RNR wait, the classes of the last 64 commands parsed on it, and the credits advertised and
those withheld (R239). -/
structure Qp where
  port : Nat
  mac : BitVec 48
  vlan : Option (BitVec 12)
  ip : Ip
  up : Bool
  failed : Bool
  started : Bool
  use : QpUse
  since : Nat
  rate : Nat
  cnpAt : Option Nat
  slowedAt : Option Nat
  retries : Nat
  queued : List Send
  sent : List Send
  rnrUntil : Option Nat
  classes : List Claim
  credits : Nat
  heldBack : Nat
  deriving DecidableEq, Repr

/-- A host port group (R687): mode in force, when it began to go down, and a held enable (R611). -/
structure PortGroup where
  mode : Nat
  going : Option Nat
  enableHeld : Bool
  inc : Nat
  deriving DecidableEq, Repr

/-- A frame held unparsed in its port's receive queue (R240): a whole frame with its opcode, or a message that no header CRC vouches
for; its arrival stamp with its quality, and the clock at its arrival. -/
structure Rx where
  net : Net
  op : BitVec 16
  frame : Option Msg
  raw : Bytes
  stamp : Nat
  quality : Nat
  arrived : Nat
  deriving DecidableEq, Repr

/-- The Ethernet side: queue pairs by number, port groups, receive-queue occupancy in bytes keyed port × 8 + priority,
priorities paused, port addresses keyed port × 2 + family, the connection being started, frames refused (R691), frames held
unparsed, oldest first (R240), and how many held status frames were discarded with a queue that was deleted, by queue-pair index (R108). -/
structure Eth where
  qps : Tbl Qp
  nextQpn : Nat
  groups : Tbl PortGroup
  occupancy : Tbl Nat
  paused : List Nat
  addrs : Tbl (BitVec 128)
  connecting : Option (Nat × Nat)
  remoteNaks : Nat
  rx : List Rx
  discarded : Tbl Nat
  deriving DecidableEq, Repr

/-- Timebase and PTP (R695–R706): the count in units of 2^-32 ns, the increment per 1.6 ns cycle in the same units, whether
a time transmitter is selected and once locked, consecutive good Syncs, times of the last Sync and Announce, their
intervals, the servo term in 1/64 ppb, learned residuals by curve interval, the time transmitter (identity, rank), a two-step Sync
that waits for its Follow_Up (sequence, receive stamp, correction), the path delay, the last Sync's receive stamp less its origin, the
stamp at which the last delay request went out, and PPS_OUT. -/
structure TimeBase where
  acc : Nat
  incr : Nat
  everLocked : Bool
  hasTime : Bool
  good : Nat
  syncAt : Nat
  syncIvl : Nat
  announceAt : Nat
  announceIvl : Nat
  holdSince : Nat
  lockedSince : Nat
  lockedTemp : Int
  servo : Int
  residual : Tbl Int
  master : Option (Nat × Nat)
  twoStep : Option (Nat × Nat × Int)
  delay : Int
  diff : Int
  reqAt : Nat
  ppsHigh : Bool
  ppsAt : Nat
  deriving DecidableEq, Repr

/-- An event record (Table 22-4). -/
structure Evt where
  seq : Nat
  stamp : Nat
  code : Nat
  sev : Nat
  anchor : Bool
  tenant : Nat
  inst : Nat
  count : Nat
  args : List Nat
  body : Bytes
  deriving DecidableEq, Repr

/-- The event log (R781–R788, R814): records oldest first, next SEQ, highest SEQ an EVENT_READ has written, suppressed
counts keyed by code, instance and tenant, last record times keyed by code and limited object, and a pending I3C
in-band interrupt. -/
structure EvtLog where
  recs : List Evt
  next : Nat
  readTo : Option Nat
  suppressed : Tbl Nat
  limited : Tbl Nat
  ibi : Option Nat
  deriving DecidableEq, Repr

end Sys2Proof.Machine
end

