-- ==== Sys2Proof/Machine/PartsMedia.lean ====
section
/-! DEFINITION. State of volumes, maps, the log and the media: chapters 04, 06, 07, 08 and 09 of the specification. -/

namespace Sys2Proof.Machine

/-! ### Streams (chapter 04) -/

/-- A stream (R175, R180): class 0 grey, 1 ochre, 2 vermilion; effective rate in MB/s and deadline in µs; token bucket in
thousandths of a byte and when it was last filled; counts; at-risk mark and since when its condition has ended (R190);
p_lat; buffers of its demand in its grain pool and in pool 3 (R224); its time index (R203). -/
structure Strm where
  tenant : Nat
  volume : Nat
  cls : Nat
  dropLate : Bool
  rate : Nat
  deadline : Nat
  isOpen : Bool
  tokens : Nat
  filledAt : Nat
  overBytes : Nat
  bytes : Nat
  misses : Nat
  maxLate : Nat
  dropped : Nat
  atRisk : Bool
  clearSince : Option Nat
  pLat : Nat
  unindexed : Nat
  index : List TIdx
  deriving DecidableEq, Repr

/-- Reservations of the vermilion set (R183–R188): P_HOLD, physical rate in units of 1/384 MB/s (exact for the geometries of Table 8-1), primer headroom
in bytes, the physical rate for which program slots of the dies of each group are reserved (R185), thermal pace cap, whether the primer
headroom was found used up (R191), time-index full mark (R204). -/
structure Admission where
  pHold : Nat
  phi : Nat
  headroom : Nat
  slots : Tbl Nat
  paceCap : Nat
  horizonUsed : Bool
  indexFull : Bool
  deriving DecidableEq, Repr

/-! ### Volumes (chapter 09) -/

/-- A snapshot (R423–R428): generation of its slot, epoch, whether hidden, being deleted or not yet committed, its delta
by grain, and the map entries it reserves. -/
structure Snap where
  sgen : Nat
  epoch : Nat
  hidden : Bool
  deleting : Bool
  delta : Tbl Entry
  reserved : Nat
  deriving DecidableEq, Repr

/-- A volume (R405–R437): generation, tenant, group, key domain, grain (false 4 KiB, true 16 KiB), VFLAGS, capacity in
sectors, current epoch, map by grain, snapshots by slot, generations of freed slots, origin (volume number, slot) with
the first grain the ascending fill has not reached and the grains filled ahead of it, mark for deletion when fills that
read it end, whether compaction runs, and the base or commit snapshot of its replication (slot, cycle) with when that cycle started, where it is
known. -/
structure Vol where
  vgen : Nat
  tenant : Nat
  group : Nat
  keydom : Nat
  grain16 : Bool
  vflags : Nat
  capacity : Nat
  epoch : Nat
  map : Tbl Entry
  snaps : Tbl Snap
  sgens : Tbl Nat
  origin : Option (Nat × Nat)
  fillTo : Nat
  filledAhead : List Nat
  dying : Bool
  compacting : Bool
  replBase : Option (Nat × Nat)
  replAt : Option Nat := none
  deriving DecidableEq, Repr

/-- A content record (Table 9-2): locator (none until the content is placed), bytes of its fragment, sectors, RAW flag,
reference count, flags, bucket, and the holds of R419. -/
structure Crec where
  loc : Option Loc
  size : Nat
  sectors : Nat
  raw : Bool
  refs : Nat
  pinned : Bool
  stripPending : Bool
  indexed : Bool
  bucket : Nat
  holds : Nat
  deriving DecidableEq, Repr

/-- A dedup-index entry (Table 9-3). -/
structure IdxEntry where
  fp : Bytes
  content : Nat
  tenant : Nat
  keydom : Nat
  pending : Bool
  deriving DecidableEq, Repr

/-- States of a replication session (Table 9-7). -/
inductive ReplState where
  | opening | idle | sending | waitAck | stopped | mismatch
  deriving DecidableEq, Repr

/-- A replication message that waits to be sealed: TYPE, CYCLE, RECORDS, body and the first grain it carries. -/
structure ReplMsg where
  type : Nat
  cycle : Nat
  records : Nat
  body : Bytes
  grain : Nat
  deriving DecidableEq, Repr

/-- A replication session (R439–R451): end, tenant, volume number, queue pair, key slot, remote handle, rate, interval,
state, remote session number, whether the cycle is full, cycle number, base (sender) or commit (receiver) snapshot slot
and its cycle, snapshot C of the running cycle, next grain, records of the cycle, unacknowledged messages (counter, first
grain), last accepted counter (and whether a message has been accepted), cycle start times, REKEY_DUE, the grains the cycle wrote at the receiver, the command
that waits for the cycle's end, stored bytes of the grains of the next message (none: still being read), messages that wait to be
sealed, whether the first of them is in a lane, message bytes of the cycle, the counter of a CYCLE_END that is not yet
acknowledged, and of the grains the cycle wrote at the receiver those whose writes have passed their commit point. At a receiving end the remote handle is
its own volume's, the TARGET of both ends' messages (Table 9-6). -/
structure Sess where
  receiver : Bool
  tenant : Nat
  volume : Nat
  qpn : Nat
  keyslot : Nat
  remote : Nat
  rate : Nat
  interval : Nat
  state : ReplState
  peer : Nat
  full : Bool
  cycle : Nat
  base : Option Nat
  baseCycle : Nat
  cand : Option Nat
  nextGrain : Nat
  records : Nat
  unacked : List (Nat × Nat)
  lastAccepted : Option Nat
  startedAt : Nat
  committedAt : Nat
  rekeyDue : Bool
  wrote : List Nat
  closer : Option Nat
  fetch : Tbl (Option Bytes)
  outbox : List ReplMsg
  sealing : Bool
  sentBytes : Nat
  endDue : Option Nat
  landed : List Nat := []
  deriving DecidableEq, Repr

/-! ### Map log (chapters 07 and 09) -/

/-- One batch of map-log records (R316, R317): group, MLSEQ of its first record, its records, the command it belongs to (none
for the device's own) and the piece of it, the rows (LOGSEQ) whose data it names, the rows that carry its records, the link
frame that mirrored it, and how far it has come: mirrored, placed in the log (and how many of its 1 MiB pieces), durable; and the claimant class
that it is packed under (R212). -/
structure Batch where
  group : Nat
  first : Nat
  recs : List Rec
  cmd : Option Nat
  piece : Nat
  needs : List Nat
  linkSeq : Option Nat
  mirrored : Bool
  placed : Bool
  pieces : Nat
  durable : Bool
  claim : Claim := .G
  deriving DecidableEq, Repr

/-- Checkpoint state (R319, R320): bytes of the tail, the tail at the start of the running cycle with what it still has to close, map pages changed since the last cycle, and pages held in DRAM (all others are absent, R323), as
(table, page); the pages that the running cycle has still to write, none once its CKPT_ROOTs have been logged; and whether a cycle that was asked for
out of turn runs (1) or is over (2); the absent pages that are being loaded (R323); and the batches of the tail that have been applied (group, first MLSEQ, records, R322). A running cycle names the groups whose logs take its CKPT_ROOTs with the start MLSEQ of each. -/
structure Ckpt where
  tail : Nat
  cycle : Option (Nat × List (Nat × Nat))
  dirty : List (Nat × Nat)
  held : List (Nat × Nat)
  todo : Option (List (Nat × Nat))
  whole : Nat := 0
  wanted : List (Nat × Nat) := []
  past : List (Nat × Nat × List Rec) := []
  deriving DecidableEq, Repr

/-! ### Groups, segments, rows and the journal (chapters 07 and 08) -/

/-- Group states (Table 8-5). -/
inductive GrpState where
  | normal | degraded | rebuilding | verifying | readOnly | offline
  deriving DecidableEq, Repr

/-- A member of a group (R361, R365, R387): die, member fault, being rebuilt, copy rebuild, and its journal blocks (R377,
R378): block, highest JSEQ in it, codewords written, whether it takes no more; newest first. -/
structure Member where
  die : Nat
  failed : Bool
  target : Bool
  copy : Bool
  jblocks : List (Nat × Nat × Nat × Bool)
  deriving DecidableEq, Repr

/-- A media-map entry (Table 7-5): segment, first data unit, STATE, SLC, overlay entries, live bytes, GEN, and the LOGSEQ of
its last row and when that row was begun (R327). -/
structure Slot where
  segment : Nat
  unit : Nat
  state : Nat
  slc : Bool
  ovl : Nat
  live : Nat
  gen : Nat
  logseq : Nat
  since : Nat
  deriving DecidableEq, Repr

/-- Evacuation passes (Table 7-9), highest first. -/
inductive Pass where
  | rebuild | media | strip | urgent | fold | scrape | wear | sand
  deriving DecidableEq, Repr

/-- Block and segment states (Table 7-1). -/
inductive BlkState where
  | free | open_ | sealed | erasing | retired
  deriving DecidableEq, Repr

/-- A segment (R299): member block of each slot as (die, block), none where the slot gave none (R393); mode; what it is open
for (0 primer, 1 host QLC, 2 moved data, 3 dump reserve, 4 wear levelling, 9 nothing more); state; seal time; claim and the passes that wait for it (R335);
STRIP marks (R354); payload bytes used; rows programmed; whether its moves have been read and its batch issued; reads in
flight (R334); the slots whose erase is outstanding; the moves of its fragments not yet logged; and the rows that power loss has left without a whole
stripe, with whether their programs had begun (R279). -/
structure Seg where
  blocks : List (Option (Nat × Nat))
  slc : Bool
  place : Nat
  state : BlkState
  sealedAt : Nat
  claim : Option Pass
  strip : Bool
  stale : Bool
  pos : Nat
  rows : Nat
  evacuated : Bool
  erasable : Bool
  erasing : List Nat
  issued : Bool
  moves : List Rec
  holes : List (Nat × Bool) := []
  deriving DecidableEq, Repr

/-- What a fragment in a row is for: a grain of a command, a moved fragment (its old locator), a moved log stripe, a batch of
records, a map page, a filler. -/
inductive Cargo where
  | grain (cmd grain content : Nat)
  | moved (content : Nat) (old : Loc)
  | stripe (slot : Nat)
  | records (group first : Nat)
  | page (table page : Nat)
  | filler
  deriving DecidableEq, Repr

/-- A piece of a fragment in a row (R308): byte offset in the row's payload, bytes, whether the fragment starts here, and then the start of its header
(Table 7-2); of a log stripe that is copied whole, the metadata of each of its codewords instead: BACK_ID, BACK_OFF, FRAGS and STAMP (R328). -/
structure Item where
  cargo : Cargo
  offset : Nat
  bytes : Bytes
  start : Bool
  head : Bytes := []
  metas : List Bytes := []
  deriving DecidableEq, Repr

/-- A system fragment in the log (R477): what it is, where it lies, bytes of its body. -/
structure SysFrag where
  cargo : Cargo
  loc : Loc
  body : Nat
  deriving DecidableEq, Repr

/-- How far a row has come: collecting fragments, closed, its parity computed and its STRIPE entry issued, being programmed,
programmed. -/
inductive RowState where
  | filling | closed | journalled | programming | programmed
  deriving DecidableEq, Repr

/-- What a unit of a row whose program may have been cut short holds (Table 8-3): the unit of the row; nothing (UNWRITTEN); nothing that decodes; or a
unit that decodes and is not the row's. -/
inductive UnitFound where
  | good | unwritten | bad | wrong
  deriving DecidableEq, Repr

/-- One physical stripe on its way to flash (R299, R305, R307): group, segment and row in it, the log stripe slots of its first
and last unit, mode, whether it carries moved data, its items, units that hold fragments, when its oldest codeword was
packed, the highest class of its fragments, must-close mark (R372), its P and Q, JSEQ of its STRIPE entry, the last link frame of its mirroring,
mirror acceptance, the slots whose program failed, the stripe-unit buffers it holds (R210), and its units whose parity has failed in
tile memory (R47); the first and last record of the group's log that names content in it, as far as they have been issued (Table 8-2);
and, of a row that power loss has cut short and no boot has verified yet, what each of its units holds (R384). -/
structure Row where
  group : Nat
  segment : Nat
  row : Nat
  slotA : Nat
  slotB : Nat
  slc : Bool
  move : Bool
  items : List Item
  units : Nat
  since : Nat
  claim : Claim
  urgent : Bool
  state : RowState
  p : Bytes
  q : Bytes
  jseq : Nat
  linkSeq : Option Nat
  mirrored : Bool
  failed : List Nat
  bufs : List Nat
  badUnits : List Nat
  mlseqs : Option (Nat × Nat) := none
  found : List UnitFound := []
  deriving DecidableEq, Repr

/-- A redundancy group (R361–R404): geometry, policy, state, members by slot, journal pair, re-homing mark, whether OFFLINE
or READ_ONLY states were entered by policy, rebuild in progress (spare die, slot, segments done, segments in all), lost
units, last COMMIT LOGSEQ, next LOGSEQ, next MLSEQ, segments, media map, GENs of its slots, freed serials (oldest first), serials of dead content by the segment that
holds its last copy and the log stripe slot there, and the lowest serial never used, space reserved by writes, AMBER hysteresis (R357), scrape running (R330), and the block of the spare die that the units
of the segment under rebuild are written to (R390); the journal blocks of the old pair while the journal is re-homed, as (die, block) (R381); and the
lost data units that ARR_LOST has counted, as (segment, row, slot) (R398); and while the group is VERIFYING the segments that were open (R385). -/
structure Group where
  geometry : Nat
  cover : Bool
  state : GrpState
  members : List Member
  jrnA : Nat
  jrnB : Nat
  rehoming : Bool
  rebuild : Option (Nat × Nat × Nat × Nat)
  lost : Nat
  committed : Nat
  nextLogseq : Nat
  nextMlseq : Nat
  segs : Tbl Seg
  slots : Tbl Slot
  slotGens : Tbl Nat
  freed : List Nat
  deadSerials : List (Nat × Nat × Nat)
  nextSerial : Nat
  reserved : Nat
  amber : Bool
  scrapeOn : Bool
  rebuildBlock : Option Nat := none
  oldJournal : List (Nat × Nat) := []
  lostUnits : List (Nat × Nat × Nat) := []
  verify : List Nat := []
  deriving DecidableEq, Repr

/-- A journal entry (Table 8-2): 1 STRIPE, 2 COMMIT, 3 REHOME; which journal members hold it, mirror acceptance, and while the journal is re-homed the
dies of the old pair that hold it (R382). -/
structure JEntry where
  type : Nat
  group : Nat
  segment : Nat
  logseq : Nat
  jseq : Nat
  row : Nat
  slotA : Nat
  slotB : Nat
  onA : Bool
  onB : Bool
  linkSeq : Option Nat
  mirrored : Bool
  held : List Nat := []
  deriving DecidableEq, Repr

/-! ### Flash (chapter 06) -/

/-- Ownership states of a flash port (Table 6-4). -/
inductive Own where
  | free | ask | owned | leaving
  deriving DecidableEq, Repr

/-- A block of a die (R286, R300–R303, R343, R352): state, mode, erase counter, reads since erase, block group, retirement
mark, times a decode stage 6 was reached, the sum and number of the program temperatures of its codewords, when it was last sampled and in which age
bucket (R350), and whether an immediate sample is due (R352). -/
structure Blk where
  state : BlkState
  slc : Bool
  erases : Nat
  reads : Nat
  bgroup : Nat
  retire : Bool
  stage6 : Nat
  tempSum : Int
  tempCount : Nat
  sampled : Option (Nat × Nat) := none
  sampleDue : Bool := false
  deriving DecidableEq, Repr

/-- A block group of a die (R302, R347, R348): first-seal time, retention age in units of 10^-9 equivalent hours at the
profile's reference temperature, SEALED blocks, the provisional part of its age, and whether the time the part was off is still to be added. -/
structure BGrp where
  first : Nat
  age : Nat
  count : Nat
  provisional : Nat
  due : Bool := false
  deriving DecidableEq, Repr

/-- A die (R253, R345, R346): in use, retired, its group, blocks by number (one not listed is FREE with erase counter 0),
spare blocks left, current block group, its block groups, and the read slots that rebuild and the sanding pass have used in a window of
the 8 ms plan (R350, R392), the block group that the retry set left in the die's read levels was tried for (R284), the blocks that
have changed between the primer and the QLC pool (R342), and its SLC overlay blocks with the next free page of each, newest first (R344). -/
structure Die where
  used : Bool
  retired : Bool
  group : Option Nat
  blocks : Tbl Blk
  spares : Nat
  current : Nat
  groups : Tbl BGrp
  plan : Nat × Nat × Nat
  retried : Option Nat := none
  moved : List Nat := []
  ovl : List (Nat × Nat) := []
  deriving DecidableEq, Repr

/-- An operation of the flash scheduler on a die; a dump program names the key of its row and the member slot it was put on first (R337); an
overlay program the failed row, or the row under refresh, with the log stripe slot and piece it re-places and the block and page it goes to (R314, R344); a rebuild program the row whose
unit it writes on the spare die (R390). -/
inductive FOp where
  | read (fread cw : Nat)
  | program (group logseq slot : Nat)
  | erase (group segment block : Nat)
  | journal (group : Nat) (jseqs : List Nat)
  | dump (key slot : Nat)
  | overlay (group logseq slot piece block page : Nat)
  | rebuild (group logseq slot : Nat)
  deriving DecidableEq, Repr

/-- Whether an operation programs or erases: those the write guard holds (R290). -/
def FOp.writes : FOp → Bool
  | .read _ _ => false
  | _ => true

/-- One page of a flash operation: row and column address (R253, R275), data to the die, and the bytes to be read. -/
structure FAddr where
  row : Nat
  column : Nat
  data : Bytes
  length : Nat
  deriving DecidableEq, Repr

/-- A flash operation waiting or issued (R260, R262, R272, R295): die, class, the operation, the place of its sequence in the profile's
`uses`, its pages, whether it has been issued, whether the write guard has counted it, the steps of its sequence still to run, whether
MARK has been passed, the bytes of its last page that DOUT steps have sent, its parameters for FEAT, and whether a CHECK has failed. -/
structure FlashOp where
  die : Nat
  claim : Claim
  op : FOp
  seq : Nat
  pages : List FAddr
  issued : Bool
  counted : Bool
  left : List Word32
  marked : Bool
  sent : Nat := 0
  params : List Bytes := []
  failed : Bool := false
  deriving DecidableEq, Repr

/-- A flash port (R256–R274, R290–R295): whether FLP_CTL.ENABLE was set when the part booted, ownership and when PORTOWN rose, the profile in use, training running or due
and at which mode it runs, whether it runs saved results after a seizure, when and at which temperature it was last trained, failed
trainings in a row, the results in use (R264), the dies whose RESET is still running (R274), codewords of the slip window, and the write guard: condition flags are FLP_GUARD_STAT's; since when the hold stands and
since when its release limits are met, whether the supply has been a cause of it, and since when the supply has been within its release limit. -/
structure Port where
  enabled : Bool
  own : Own
  askedAt : Nat
  profile : Option Profile
  training : Bool
  trainAt : Nat
  results : Option Training
  resetting : List Nat
  due : Bool
  saved : Bool
  trainedAt : Nat
  trainedTemp : Int
  attempts : Nat
  codewords : Nat
  heldAt : Nat
  reported : Bool
  goodSince : Option Nat
  supplyHold : Bool := false
  supplyGood : Option Nat := none
  deriving DecidableEq, Repr

/-- One codeword of a flash read (R277–R284): die, block, page, mode, decode stage, retry set under trial, whether it was found, the decoder
that has it, or the quadrant whose decoders' queue it stands in with its place in the order of arrival (R282), the bytes decoded, whether
it was found unwritten, whether it awaits reconstruction, the capture and the bit position the codeword was found at, and the bits that stage 1 has
corrected in it (R351). -/
structure CwRead where
  die : Nat
  block : Nat
  page : Nat
  slc : Bool
  stage : Nat
  retry : Nat
  found : Bool
  decoder : Option Nat
  queued : Option (Nat × Nat)
  bytes : Option Bytes
  unwritten : Bool
  lost : Bool
  cap : Bytes := []
  at_ : Nat := 8
  fixes : Nat := 0
  deriving DecidableEq, Repr

/-- What a flash read is for: a grain of a command, a byte compare of R418, a sanding sample, a move of a fragment, a move of
a whole log stripe, a rebuild unit, a grain for a replication message, a move of a system fragment (R477), the load of a map page (R323), the refresh of a
piece of a log stripe (R314). -/
inductive ReadUse where
  | grain (cmd grain : Nat)
  | verify (cmd grain content : Nat)
  | sample (die block : Nat)
  | fragment (content segment : Nat)
  | stripe (slot : Nat)
  | unit (segment row slot : Nat)
  | repl (session grain content : Nat)
  | system (cargo : Cargo) (segment : Nat)
  | page (table page : Nat)
  | refresh (slot piece : Nat)
  deriving DecidableEq, Repr

/-- A flash read on its way through the read channel: purpose, group, log stripe slot, byte range in the log stripe, class,
segment, and its codewords by number in the log stripe. -/
structure FRead where
  use : ReadUse
  group : Nat
  slot : Nat
  offset : Nat
  size : Nat
  claim : Claim
  segment : Nat
  cws : Tbl CwRead
  unit : Nat := 0
  deriving DecidableEq, Repr

/-- Work that stands with a parity engine (R373): the P and Q of a row, the reconstruction of a codeword of a flash read, or that of a rebuilt unit. -/
inductive ParityKey where
  | row (group logseq : Nat)
  | cw (read cw : Nat)
  | unit (read : Nat)
  deriving DecidableEq, Repr

/-- An LDPC decoder (R775): codewords decoded, and how many it had decoded at each of the last ones that LDPC_CNT[5] counts, newest first. -/
structure Ldpc where
  decodes : Nat
  bad : List Nat
  deriving DecidableEq, Repr

end Sys2Proof.Machine
end

