-- ==== Sys2Proof/Machine/Outputs.lean ====
section
/-! DEFINITION. What the block puts out: on its queue pairs, its partner link, its flash ports and its pins. -/

namespace Sys2Proof.Machine

/-- Levels of a flash port's control pins (R273). -/
structure PortLevels where
  ceN : BitVec 8
  weN : Bool
  ale : Bool
  cle : Bool
  reT : Bool
  wpN : Bool
  deriving DecidableEq, Repr

/-- The idle levels (R273). -/
def idleLevels : PortLevels := { ceN := 0xFF, weN := true, ale := false, cle := false, reT := true, wpN := false }

/-- What a step of a sequence puts on a flash port (Table 6-3): a command or address cycle, data to or from the die, a wait in ns, READ
STATUS ENHANCED polled until ready for at most some µs, SET FEATURES of a feature address with 4 bytes. -/
inductive Cycle where
  | cmd (b : Byte)
  | addr (b : Byte)
  | dataOut (b : Bytes)
  | dataIn (n : Nat)
  | wait (ns : Nat)
  | poll (us : Nat)
  | feature (a : Byte) (p : Bytes)
  deriving DecidableEq, Repr

/-- One output of the block, as the rules that order it name it. -/
inductive Out where
  /-- A status frame sent as a SEND (R61). -/
  | status (qpn : Nat) (s : Status)
  /-- A replication message sent as a SEND (R441). -/
  | repl (qpn session : Nat) (m : Bytes)
  /-- A receiver-not-ready NAK with its RNR timer code (R64). -/
  | rnrNak (qpn timer : Nat)
  /-- A remote-access-error NAK (R691). -/
  | accessNak (qpn : Nat)
  /-- An RDMA READ posted for transfer x (R237). -/
  | rdmaRead (x qpn addr length : Nat)
  /-- An RDMA WRITE posted for transfer x (R48). -/
  | rdmaWrite (x qpn addr : Nat) (data : Bytes)
  /-- End-to-end credits of a queue pair advertised (R239). -/
  | credits (qpn n : Nat)
  /-- A congestion notification packet (R690). -/
  | cnp (qpn : Nat)
  /-- A priority pause or its release (R241). -/
  | pfc (port prio : Nat) (xoff : Bool)
  /-- A connection-manager message (R691): 0 REQ, 1 REP, 2 RTU, 3 REJ, 4 DREQ, 5 DREP. -/
  | cm (port qpn kind : Nat)
  /-- An answer to ARP (0), ICMP echo (1) or neighbour discovery (2) (R688). -/
  | answer (port kind : Nat)
  /-- A PTP message: 0 Pdelay_Resp, 1 Delay_Req, 2 Pdelay_Req (R705). -/
  | ptp (port kind : Nat)
  /-- An I3C in-band interrupt with its data byte (R788). -/
  | ibi (sev : Nat)
  /-- A level on PORTOWN[n] (R56, R272). -/
  | portown (n : Nat) (high : Bool)
  /-- Flash port n driven to given levels, high impedance, or with WP_N at a level (R272, R273, R294). -/
  | portIdle (n : Nat) (l : PortLevels)
  | portHiZ (n : Nat)
  | portWp (n : Nat) (high : Bool)
  /-- The RESET sequence to a chip enable (R263, R272). -/
  | flashReset (n ce : Nat)
  /-- A flash operation issued to a die. -/
  | flash (die : Nat) (op : FOp)
  /-- Cycles that a sequence puts on the port of a die (R260). -/
  | cycles (die : Nat) (l : List Cycle)
  /-- A sequence ended before MARK, without a confirming command (R262). -/
  | abandon (die : Nat)
  /-- A read level set on a die (R286). -/
  | feature (die level : Nat) (off : Int)
  /-- A training started on a port at a mode (R264). -/
  | train (n mode : Nat)
  /-- A frame on the Jarel link: kind, SEQ, COUNTER (Table 16-1). -/
  | link (kind seq counter : Nat)
  /-- A level on a pin: 0 PEERALIVE_OUT, 1 THERMTRIP_N, 2 PPS_OUT. -/
  | pin (which : Nat) (high : Bool)
  /-- A PMBus write: address, command, value (R743, R801). -/
  | pmbus (addr cmd value : Nat)
  /-- A recovery-boot frame: kind and argument (R765). -/
  | recovery (kind arg : Nat)
  /-- A JTAG shift-out value (R795). -/
  | jtag (value : Nat)
  /-- The part restarts itself. -/
  | restart
  deriving DecidableEq, Repr

end Sys2Proof.Machine
end

