-- ==== Sys2Proof/Machine/PartsCompute.lean ====
section
/-! DEFINITION. State of the engines, tint cores, scheduler and stencil array: chapters 10 to 14 of the specification. -/

namespace Sys2Proof.Machine

/-! ### Compression engines and lanes (chapters 10 and 11) -/

/-- A compression message (Table 10-1): who gave it, class, PRIO, tenant, decode or code, input, LIMIT, EXPECT, the number of its arrival, IN_LEN, the
result it ends with before any input is read (0: none), and the command whose buffers its descriptor names. -/
structure CmpJob where
  src : JobSrc
  claim : Claim
  prio : Nat
  tenant : Nat
  decode : Bool
  input : Bytes
  limit : Nat
  expect : Nat
  order : Nat
  len : Nat := input.length
  bad : Nat := 0
  serves : Option Nat := none
  deriving DecidableEq, Repr

/-- A compression engine (R467, R468): waiting messages in arrival order, the running one, grants so far. -/
structure Engine where
  queue : List CmpJob
  running : Option CmpJob
  grants : Nat
  deriving DecidableEq, Repr

/-- What a lane message does: XTS encryption or decryption, GCM seal or open, SHA-256, HMAC under a store key or a caller key
(Tables 11-4 and 11-5). -/
inductive LaneOp where
  | xts (decrypt : Bool)
  | seal
  | openTag
  | sha
  | hmacStore
  | hmacCaller
  deriving DecidableEq, Repr

/-- A lane message: who gave it, class, PRIO, tenant, operation, place of its key record (none without one), tweak as
little-endian bytes with its KIND, AAD, input, caller key, nonce fixed field, counter and tag, COMPARE value, SAVE mark and
RESTORE state, bytes processed, order of arrival (renewed at a yield), error found before the input was read, whether its
key has been destroyed, and the command whose buffers its descriptor names. -/
structure LaneJob where
  src : JobSrc
  claim : Claim
  prio : Nat
  tenant : Nat
  op : LaneOp
  key : Option Nat
  system : Bool
  id : Nat
  off : Nat
  aad : Bytes
  input : Bytes
  callerKey : Bytes
  fixedField : Nat
  counter : Nat
  tag : Bytes
  compare : Option Bytes
  save : Bool
  restore : Option (Bytes × Nat)
  done : Nat
  order : Nat
  bad : Nat
  keyGone : Bool
  serves : Option Nat := none
  deriving DecidableEq, Repr

/-- A cipher or digest lane (R473, R499–R503): waiting messages, suspended ones in its context slots, the running one, starts
so far. -/
structure Lane where
  queue : List LaneJob
  slots : List LaneJob
  running : Option LaneJob
  starts : Nat
  deriving DecidableEq, Repr

/-- A quadrant's mask DRBG (R488): generate requests since its last seed. -/
structure MaskDrbg where
  requests : Nat
  deriving DecidableEq, Repr

/-! ### Tint programs and tasks (chapters 12 and 13) -/

/-- The last trap of a program (TINT_PTRAP). -/
structure TrapRec where
  cause : Nat
  entry : Nat
  seg : Nat
  code : Nat
  pc : Nat
  off : Nat
  deriving DecidableEq, Repr

/-- No trap recorded: the TINT_PTRAP registers at their reset values. -/
def TrapRec.none_ : TrapRec := { cause := 0, entry := 0, seg := 0, code := 0, pc := 0, off := 0 }

/-- A loaded program (R534–R541): owning tenant, code, initial state, STATE_LEN, stack KiB, OUT_MAX, entries and per-entry
RS_WRAP and budget, whether its image is durable and whether it is in program memory, its state segment, STATE_RESET, counts
and last trap. -/
structure Prog where
  tenant : Nat
  gen : Nat
  code : Bytes
  init : Bytes
  stateLen : Nat
  stack : Nat
  outMax : Nat
  entries : List (Option Nat)
  wraps : List Bool
  budgets : List Nat
  loaded : Bool
  resident : Bool
  state : Bytes
  stateReset : Bool
  traps : Nat
  last : TrapRec
  misses : Nat
  deriving DecidableEq, Repr

/-- A binding (R153, R154): program, volume number, stream (none: every write), point (1 filter, 2 hook), core set, the
BIND_PROGRAM that has not completed yet, the number of that command, which later writes exceed (R154), and, once it has been unbound, the
writes that had begun step 8 by then and keep the program's result. -/
structure Binding where
  prog : Nat
  tenant : Nat
  volume : Nat
  stream : Option Nat
  point : Nat
  cores : List Nat
  binder : Option Nat
  since : Nat
  ended : Option (List Nat) := none
  deriving DecidableEq, Repr

/-- A segment register (R518): which memory (0 code, 1 stack, 2 input, 3 output, 4 program state), base in it, limit,
rights, tenant tag. -/
structure TSeg where
  region : Nat
  base : Nat
  limit : Nat
  r : Bool
  w : Bool
  x : Bool
  tag : Nat
  deriving DecidableEq, Repr

/-- Where a task stands: collecting tokens, waiting for room on a ready list, on a ready list, running, waiting on an engine
call, on a delay list. -/
inductive TaskState where
  | filling | readyPending | ready | running | ecall | delayed
  deriving DecidableEq, Repr

/-- A task (R510, R549): program, entry (0 FILTER, 1 HOOK, 2 SCAN, 3 FINISH), the command and grain it serves, tenant, class
and level, core set and core, generation, tokens of its declared slots, its return slot, state, times, and its registers,
predicates, segments, return stack (newest first), budget, memory and parameters, and whether its slots came from
the vermilion slot floor, and the buffers it holds references on (R228). -/
structure Task where
  prog : Nat
  entry : Nat
  cmd : Nat
  grain : Nat
  tenant : Nat
  claim : Claim
  level : Nat
  cores : List Nat
  core : Option Nat
  gen : Nat
  slots : List (Option Token)
  ret : Option (Nat × Nat)
  call : Option Nat
  state : TaskState
  started : Bool
  readyAt : Nat
  wake : Nat
  deadline : Option Nat
  missed : Bool
  pc : Nat
  regs : List Word64
  preds : BitVec 8
  segs : List TSeg
  rstack : List Word64
  budget : Int
  stack : Bytes
  input : Bytes
  output : Bytes
  params : List Word64
  fromFloor : Bool
  refs : List Nat
  deriving DecidableEq, Repr

/-- A tint core (R507–R509, R558–R566, R570): in service, spare, out of service, retiring, ready lists by level (task, and
whether it resumes), resident tasks, running task, delay list (wake time, task) in order, dispatches, waiting-time histogram
by level × 16 + bucket, misses, late wakes, the time it last issued, when it was last self-tested and a self-test asked for. -/
structure Core where
  active : Bool
  spare : Bool
  failed : Bool
  retiring : Bool
  ready : List (List (Nat × Bool))
  resident : List Nat
  running : Option Nat
  delay : List (Nat × Nat)
  dispatches : Nat
  hist : Tbl Nat
  misses : Nat
  late : Nat
  issuedAt : Nat
  testedAt : Nat
  testNow : Bool
  deriving DecidableEq, Repr

/-- The scheduler (R548–R574): tasks by index, generations of task indices, ready-pending tasks in the order they became
ready, firmware posts that wait for room on a delay list (R565), waiting creations (command, grain, entry) in arrival order, AMBER and CRIMSON
hysteresis being in SCH_SLOT_WM, those of the waiting creations that a full reference count has held (R230), and the tokens delivered and consumed since
reset (Table 5-5, ledger 2). -/
structure Sched where
  tasks : Tbl Task
  gens : Tbl Nat
  pending : List Nat
  posts : List Nat
  waiting : List (Nat × Nat × Nat)
  refWaits : List (Nat × Nat × Nat) := []
  delivered : Nat := 0
  consumed : Nat := 0
  deriving DecidableEq, Repr

/-! ### Stencil array (chapter 14) -/

/-- A valid stencil entry (R575); an entry not listed is invalid. -/
structure SEntry where
  key : BitVec 256
  mask : BitVec 256
  result : BitVec 64
  deriving DecidableEq, Repr

/-- A bank (R583, R586): kind (0 FREE, 1 CLASS, 2 HOT, 3 TENANT), its tenant, and, while it is being cleared, the kind and
tenant it will have. -/
structure Bank where
  kind : Nat
  tenant : Nat
  next : Option (Nat × Nat)
  deriving DecidableEq, Repr

/-- The stencil array: valid entries by index, banks, the manager's cursor (mask length, index; none before a hit), the
reference bits set over hot entries and the clock hand (R592), entries whose row has failed its parity check once, and entries whose row is
left out (R593). -/
structure Stencil where
  entries : Tbl SEntry
  banks : List Bank
  cursor : Option (Nat × Nat)
  refs : List Nat
  hand : Nat
  failed : List Nat
  out : List Nat
  deriving DecidableEq, Repr

end Sys2Proof.Machine
end

