-- ==== Sys2Proof/Machine/PartsSystem.lean ====
section
/-! DEFINITION. State of the partner link, trust, memories, power, heat, boot and pins: chapters 16, 17 and 19 to 23 of the
specification. -/

namespace Sys2Proof.Machine

/-! ### Partner (chapter 16) -/

/-- What a link frame carries (Table 16-2). -/
inductive LinkBody where
  | heartbeat (state holds hbSeq : Nat)
  | data (group logseq : Nat) (bytes : Bytes)
  | jrn (entries : List Jrn)
  | maplog (group first : Nat) (recs : List Rec)
  | release (refs : List (Nat × Nat))
  | accept (seq : Nat)
  | control (c : Ctl)
  | rekey (ct : Bytes)
  | hello (h : HelloBody)
  | cert (device kem : Bytes)
  | attest (body signature : Bytes)
  | kem (ct : Bytes)
  | fetch (f : FetchBody)
  deriving DecidableEq, Repr

/-- A frame sent and not acknowledged (R627): SEQ, COUNTER of its last sealing, content, when it was last sent. -/
structure LinkTx where
  seq : Nat
  counter : Nat
  body : LinkBody
  sentAt : Nat
  deriving DecidableEq, Repr

/-- One direction's key (R628): the secret, its counter (transmit: next value; receive: the lowest value not yet passed, R485), and the
key that the next NEWKEY frame brings into use. -/
structure LinkKey where
  secret : Bytes
  counter : Nat
  next : Option Bytes
  deriving DecidableEq, Repr

/-- The mirror region of the partner (Table 16-4): data by group × 2^40 + LOGSEQ, journal ring, map-log tail in arrival order,
root tables and standby segments by group, training results by port. Beside it stands what the partner's flash holds: the pages of each
group's root, and the map-log records after them that a later checkpoint freed (the model's). -/
structure Mirror where
  data : Tbl Bytes
  journal : List Jrn
  tail : List (Nat × Nat × List Rec)
  roots : Tbl Bytes
  standby : Tbl Nat
  training : Tbl (Nat × Training)
  pages : Tbl Pages
  past : List (Nat × Nat × List Rec)
  received : Tbl (Option Nat × List Nat) := []
  deriving DecidableEq, Repr

/-- A takeover in progress (R642, R646): when the partner's liveness last changed, ports not granted yet, ports seized, from
isolated mode. -/
structure Takeover where
  from_ : Nat
  waiting : List Nat
  seized : List Nat
  isolated : Bool
  deriving DecidableEq, Repr

/-- Pairing and the Jarel link: transmit SEQ, frames unacknowledged oldest first, next SEQ expected, highest SEQ accepted by
the partner, keys of both directions, mirror, heartbeat count, times of the last accepted frame, HEARTBEAT and PEERALIVE_IN change, levels of the two
PEERALIVE pins, pairing step reached, nonces, secrets, the partner's HELLO and what is known of its UPDATE, SEQs whose ACCEPT ends the resynchronisation,
handback step, takeover, whether the partner's DRAM is off, what is pending for the partner in isolated mode (R673, R676), whether the part holds
both sides, the serial of the last partner paired (R630, in the anchor store), lanes that have failed since the link trained (R624,
R625), and the partner's two certificates (pairing step 3). -/
structure Peer where
  txSeq : Nat
  unacked : List LinkTx
  rxSeq : Nat
  accepted : Nat
  txKey : LinkKey
  rxKey : LinkKey
  mirror : Mirror
  hbSeq : Nat
  frameAt : Nat
  hbAt : Nat
  aliveAt : Nat
  aliveIn : Bool
  aliveOut : Bool
  step : Nat
  myNonce : Bytes
  hisNonce : Bytes
  mySecret : Bytes
  hisSecret : Bytes
  hello : Option HelloBody
  hisUpdate : Bool
  hisState : Nat
  hisHolds : Nat
  resyncSeq : Option Nat
  hisResynced : Bool
  handback : Nat
  takeover : Option Takeover
  dramOff : Bool
  owed : List Ctl
  sole : Bool
  partner : Option Nat
  lanesBad : List Nat
  hisCert : Bytes
  hisKem : Bytes
  deriving DecidableEq, Repr

/-! ### Trust (chapter 17) -/

/-- Counters of a GCM key (R480–R482, R485): next counter value, reserved end in the anchor store, last counter accepted by
fixed field. -/
structure Gcm where
  counter : Nat
  reserved : Nat
  seen : Tbl Nat
  deriving DecidableEq, Repr

/-- The reservation record (R658): RES_END, SPENT, SKIPPED and the leaves whose bit is set in the spend bitmap. -/
structure LeafRec where
  resEnd : Nat
  spent : Nat
  skipped : Nat
  bits : Nat
  deriving DecidableEq, Repr

/-- The entropy source (R678–R680): start-up samples left, run of equal samples, the sample under the adaptive proportion
window with its count and position, samples conditioned so far, times of recent failures. -/
structure Entropy where
  startLeft : Nat
  lastSample : Nat
  run : Nat
  aptSample : Nat
  aptCount : Nat
  aptPos : Nat
  pool : Nat
  failures : List Nat
  deriving DecidableEq, Repr

/-- SEC: key records by place, generations of emptied places, GCM counters by place, next leaf, the reservation record, owner
key, places whose record was found lost (R670), key cache (places, most recently used first), commands waiting for entropy or a bottom tree,
entropy source. -/
structure Sec where
  keys : Tbl KeyRec
  gens : Tbl Nat
  gcm : Tbl Gcm
  leaf : Nat
  record : LeafRec
  owner : Option Bytes
  ownerCert : Bytes
  lost : List Nat
  cache : List Nat
  wanted : List Nat
  entropy : Entropy
  deriving DecidableEq, Repr

/-! ### Memories (chapter 19) -/

/-- A range scrub (R732, R733): first offset, bytes, the TMEM_SCRUB command it serves (none for a register start). -/
structure Scrub where
  first : Nat
  bytes : Nat
  cmd : Option Nat
  deriving DecidableEq, Repr

/-- Tile memory (R724–R733): bytes by offset (one not listed is zero, as boot writes it), parity bits that are wrong by word
offset, parity errors by row since reset, tiles being copied (tile, ends), withdrawn rows, the test buffer, the running scrub
and those that wait. -/
structure Tmem where
  mem : Tbl Byte
  bad : Tbl Nat
  rowErrs : Tbl Nat
  rowsUsed : Tbl Nat
  copying : List Nat
  withdrawn : List Nat
  test : Option Nat
  scrub : Option Scrub
  scrubs : List Scrub
  deriving DecidableEq, Repr

/-- DRAM (R716–R723): when each channel last trained and its hottest DIMM reading then, corrected errors by row with their
times, activations by row in the window, requesters held, repairs to make permanent at boot, and resources left by bank
group. -/
structure Dram where
  trainedAt : Tbl Nat
  trainedTemp : Tbl Int
  ces : Tbl (List Nat)
  held : List Nat
  soft : List Nat
  resources : Tbl Nat
  patrol : Nat
  refreshed : Tbl Nat
  pageSpares : Nat
  deriving DecidableEq, Repr

/-! ### Power and heat (chapter 20) -/

/-- Power state machine (R734–R741): target of a running entry and the POWER_STATE command that started it (none for auto),
since when the part is idle, when each quadrant's pace last read too low to lower its rail, when its rail was last set, when
PWR_PACE_LOW was last reloaded, and the monitors of each quadrant that have ever been excluded (R31). -/
structure Power where
  entering : Option Nat
  cmd : Option Nat
  idleSince : Nat
  busyPace : Tbl Nat
  settled : Tbl Nat
  reloaded : Tbl Nat
  excluded : Tbl Nat
  deriving DecidableEq, Repr

/-- A shutdown record (Table 20-5). -/
structure Shutdown where
  rstate : Nat
  sensor : Nat
  cause : Nat
  pstate : Nat
  tripSet : Int
  reading : Int
  ondie : List Int
  remote : List Int
  stamp : Nat
  vcore : Nat
  trips : Nat
  deriving DecidableEq, Repr

/-- Sensors (R746–R755): last sample of each, since when at THROTTLE and its reading then, since when a failed one reads good,
which are above WARN, trip time, records oldest first. -/
structure Thermal where
  last : Tbl Int
  atThrottle : Tbl (Nat × Int)
  goodSince : Tbl Nat
  warned : List Nat
  tripped : Option Nat
  records : List Shutdown
  deriving DecidableEq, Repr

/-! ### Boot, update and pins (chapters 21 to 23) -/

/-- Where the part stands: off or held in reset, in the boot ROM waiting for a fetch, in recovery boot, running, parked after a
dump, in factory test mode. -/
inductive Phase where
  | reset | fetch | recovery | running | parked | test
  deriving DecidableEq, Repr

/-- The boot record (Table 21-2), less its CRC: AREA as die and first block. -/
structure BootRec where
  active : Nat
  pending : Option Nat
  tries : Nat
  update : Bool
  warm : Bool
  gen : Nat
  areas : List (Nat × Nat)
  deriving DecidableEq, Repr

/-- A recovery transfer (R765, R766): CAUSE, source MAC once known, bytes stored in order, image length, time of the last frame. -/
structure Recovery where
  cause : Nat
  mac : Option Nat
  bytes : Bytes
  total : Nat
  at_ : Nat
  deriving DecidableEq, Repr

/-- Boot and update: phase, boot record, images by slot, blown fuses of the anti-rollback counter, slot first in order,
watchdog and its start, recovery transfer, fetch in progress (slot, bytes, refusals, since), bytes staged, an update in
progress, dump contents (rows kept for recovery) and which of them have been programmed, when the dump began and ended and the programs it placed again
(R337, R338), the dump record of the anchor store (Table 7-12, empty where none stands), the root table: the locator of every checkpoint directory page (R321), the journal head of each group
(R380: the journal blocks of its pair as (die, block), the JSEQ of its oldest live entry, its last COMMIT LOGSEQ), the power-off stamp until the time is known, T_off, and the time the part was off once it is known (R348),
whether acknowledged data was lost when power was last lost, and the deferred records of the tenants that the next boot adds for it (R340, R386), and those of writes whose data the dump alone holds, added where the dump is
discarded although the partner has not served the side; the deferred records of acknowledged writes whose batches wait for the verification of a row, as (group, first
MLSEQ, tenant, record) (R386), the live entries of the stripe journal that the partner's mirror held (R385), what the last boot found, breach records with their replayed flags (R250), and the
measurement registers. -/
structure Boot where
  phase : Phase
  record : BootRec
  images : List (Option Image)
  fuses : Nat
  firstSlot : Nat
  watchdog : Option Nat
  recovery : Option Recovery
  fetch : Option (Nat × Bytes × Nat × Nat)
  activating : Option Nat
  dumped : List Nat
  dumpedDone : List Nat := []
  dumpAt : Option Nat
  dumpEnd : Option Nat := none
  dumpRec : Bytes := []
  root : List (Nat × Nat × Loc) := []
  dumpFails : Nat
  heads : Tbl (List (Nat × Nat) × Nat × Nat)
  dumpStamp : Option Nat
  offTemps : List Int
  offTop : Option Int := none
  offTime : Option Nat := none
  lostData : Bool
  lost : List (Nat × Deferred)
  unapplied : List (Nat × Deferred) := []
  owed : List (Nat × Nat × Nat × Deferred) := []
  mirrorJrn : List JEntry := []
  given : Option BootIn
  breaches : List (Bytes × Bool)
  meas : Tbl Bytes
  measCount : Tbl Nat
  measLatch : Bytes
  deriving DecidableEq, Repr

/-- What remained of each spare kind of TOP_LIFE.KIND, recorded daily, newest first, 91 records at most (R776). -/
structure LifeLog where
  used : List (List Nat)
  deriving DecidableEq, Repr

/-- JTAG and I3C: instruction register, I3C dynamic address. -/
structure Pins where
  ir : Nat
  i3c : Option (BitVec 7)
  thermtrip : Bool
  pwrfail : Bool
  deriving DecidableEq, Repr

end Sys2Proof.Machine
end

