-- ==== Sys2Proof/Machine/Table.lean ====
section
/-! DEFINITION. Keyed tables in their one canonical form (keys strictly rising), and small list operations. -/

namespace Sys2Proof.Machine

/-- The value a table holds at key k. -/
def tget {α : Type} (t : Tbl α) (k : Nat) : Option α :=
  match t with
  | [] => none
  | (j, v) :: r => if j = k then some v else if k < j then none else tget r k

/-- The table with key k holding v. -/
def tput {α : Type} (t : Tbl α) (k : Nat) (v : α) : Tbl α :=
  match t with
  | [] => [(k, v)]
  | (j, w) :: r =>
    if j = k then (k, v) :: r else if k < j then (k, v) :: (j, w) :: r else (j, w) :: tput r k v

/-- The table without key k. -/
def tdel {α : Type} (t : Tbl α) (k : Nat) : Tbl α :=
  match t with
  | [] => []
  | (j, w) :: r => if j = k then r else if k < j then (j, w) :: r else (j, w) :: tdel r k

/-- The table with the value at key k, if any, changed by f. -/
def tmod {α : Type} (t : Tbl α) (k : Nat) (f : α → α) : Tbl α :=
  match t with
  | [] => []
  | (j, w) :: r => if j = k then (j, f w) :: r else if k < j then (j, w) :: r else (j, w) :: tmod r k f

/-- The table with every value changed by f, which also sees the key. -/
def tmap {α : Type} (t : Tbl α) (f : Nat → α → α) : Tbl α :=
  t.map fun e => (e.1, f e.1 e.2)

/-- Whether the table holds key k. -/
def thas {α : Type} (t : Tbl α) (k : Nat) : Bool := (tget t k).isSome

/-- The keys of the entries that satisfy p, in rising order. -/
def tkeys {α : Type} (t : Tbl α) (p : Nat → α → Bool) : List Nat :=
  (t.filter fun e => p e.1 e.2).map (·.1)

/-- Whether keys rise strictly. -/
def Tbl.rising {α : Type} : Tbl α → Bool
  | [] => true
  | [_] => true
  | (a, _) :: (b, v) :: r => decide (a < b) && Tbl.rising ((b, v) :: r)

/-- Sum of a list of numbers. -/
def sumN (l : List Nat) : Nat := l.foldl (· + ·) 0

/-- How many elements satisfy p. -/
def countP {α : Type} (l : List α) (p : α → Bool) : Nat := (l.filter p).length

/-- Least upper bound of n divided by d. -/
def ceilDiv (n d : Nat) : Nat := if d = 0 then 0 else (n + d - 1) / d

/-- n, no more than m. -/
def satAt (m n : Nat) : Nat := if n ≤ m then n else m

/-- n brought into lo–hi. -/
def clampN (lo hi n : Nat) : Nat := if n < lo then lo else if hi < n then hi else n

/-- i brought into lo–hi. -/
def clampI (lo hi i : Int) : Int := if i < lo then lo else if hi < i then hi else i

/-- The first element of greatest weight. -/
def argMax {α : Type} (w : α → Nat) (l : List α) : Option α :=
  l.foldl (fun b x => match b with | none => some x | some y => if w y < w x then some x else some y) none

/-- The first element of least weight. -/
def argMin {α : Type} (w : α → Nat) (l : List α) : Option α :=
  l.foldl (fun b x => match b with | none => some x | some y => if w x < w y then some x else some y) none

/-- Numbers 0 to n − 1. -/
def upTo (n : Nat) : List Nat := List.range n

/-- An element put before the first one of a sorted list that weighs more. -/
def insertOn {α : Type} (w : α → Nat) (x : α) : List α → List α
  | [] => [x]
  | y :: r => if w x < w y then x :: y :: r else y :: insertOn w x r

/-- A list in rising order of weight; those of one weight keep their order. -/
def sortOn {α : Type} (w : α → Nat) (l : List α) : List α := l.foldl (fun r x => insertOn w x r) []

/-- The list with element i changed by f. -/
def modAt {α : Type} (l : List α) (i : Nat) (f : α → α) : List α :=
  match l, i with
  | [], _ => []
  | x :: r, 0 => f x :: r
  | x :: r, i + 1 => x :: modAt r i f

end Sys2Proof.Machine
end

