-- ==== Sys2Proof/Machine/Codec.lean ====
section
/-! DEFINITION. Bits, bytes, signed numbers, CRC-32C and stamps: how values are laid out in frames, records and registers
(R4, R6, R73, R83, R151, R695). -/

namespace Sys2Proof.Machine

/-- Bits [lo + w − 1 : lo] of n. -/
def bits (n lo w : Nat) : Nat := n / 2 ^ lo % 2 ^ w

/-- Bit i of n. -/
def bit (n i : Nat) : Bool := n / 2 ^ i % 2 = 1

/-- n with its bits [lo + w − 1 : lo] replaced by v. -/
def setBits (n lo w v : Nat) : Nat :=
  n - bits n lo w * 2 ^ lo + (v % 2 ^ w) * 2 ^ lo

/-- 1 for true. -/
def b2n (b : Bool) : Nat := if b then 1 else 0

/-- The signed number whose w-bit two's complement is n. -/
def signed (w n : Nat) : Int := if n % 2 ^ w < 2 ^ (w - 1) then (n % 2 ^ w : Nat) else ((n % 2 ^ w : Nat) : Int) - (2 ^ w : Nat)

/-- The w-bit two's complement of i. -/
def unsigned (w : Nat) (i : Int) : Nat := (i % (2 ^ w : Nat)).toNat

/-- The k low bytes of n, least significant first (R4). -/
def toLE (k n : Nat) : Bytes :=
  match k with
  | 0 => []
  | k + 1 => BitVec.ofNat 8 n :: toLE k (n / 256)

/-- The number whose bytes are b, least significant first (R4). -/
def fromLE (b : Bytes) : Nat :=
  match b with
  | [] => 0
  | x :: r => x.toNat + 256 * fromLE r

/-- The number whose bytes are b, most significant first (network order, R5). -/
def fromBE (b : Bytes) : Nat := b.foldl (fun n x => n * 256 + x.toNat) 0

/-- The k low bytes of n, most significant first. -/
def toBE (k n : Nat) : Bytes := (toLE k n).reverse

/-- Bytes off to off + k − 1 of b; bytes beyond its end are left out. -/
def slice (b : Bytes) (off k : Nat) : Bytes := (b.drop off).take k

/-- The little-endian number in bytes off to off + k − 1 of b. -/
def le (b : Bytes) (off k : Nat) : Nat := fromLE (slice b off k)

/-- k zero bytes. -/
def zeros (k : Nat) : Bytes := List.replicate k 0

/-- b, cut or padded with zero bytes to k bytes. -/
def padTo (k : Nat) (b : Bytes) : Bytes := b.take k ++ zeros (k - b.length)

/-- b with the bytes from off on replaced by x. -/
def patch (b : Bytes) (off : Nat) (x : Bytes) : Bytes :=
  b.take off ++ x ++ b.drop (off + x.length)

/-- b cut into pieces of k bytes, at most n of them. -/
def chunks (k : Nat) : Nat → Bytes → List Bytes
  | 0, _ => []
  | n + 1, b => if b.isEmpty then [] else b.take k :: chunks k n (b.drop k)

/-- One bit of the reflected CRC-32C division (polynomial 0x1EDC6F41, reflected 0x82F63B78). -/
def crcBit (c : BitVec 32) : BitVec 32 :=
  if c.getLsbD 0 then (c >>> 1) ^^^ 0x82F63B78#32 else c >>> 1

/-- One byte taken into a CRC-32C. -/
def crcByte (c : BitVec 32) (x : Byte) : BitVec 32 :=
  let c := c ^^^ x.setWidth 32
  crcBit (crcBit (crcBit (crcBit (crcBit (crcBit (crcBit (crcBit c)))))))

/-- CRC-32C of b (R73): initial value and final XOR 0xFFFF_FFFF. -/
def crc32c (b : Bytes) : Nat := ((b.foldl crcByte 0xFFFFFFFF#32) ^^^ 0xFFFFFFFF#32).toNat

/-! ### Stamps (R695): a stamp is a count of 2^-16 ns since the start of TAI -/

/-- Units of a stamp in one second. -/
def secUnits : Nat := 1000000000 * 65536

/-- TAI seconds of a stamp. -/
def stampSec (t : Nat) : Nat := t / secUnits

/-- Nanoseconds of a stamp, 0–999,999,999. -/
def stampNs (t : Nat) : Nat := t % secUnits / 65536

/-- Fraction of a stamp in 2^-16 ns; bits [11:0] are zero (R695). -/
def stampFrac (t : Nat) : Nat := t % 65536 / 4096 * 4096

/-- The 96-bit layout of a stamp: seconds, nanoseconds, fraction (R695). -/
def stampBits (t : Nat) : Nat := (stampSec t % 2 ^ 48) * 2 ^ 48 + stampNs t * 2 ^ 16 + stampFrac t

/-- The 12 bytes of a stamp in frames and records (R151). -/
def stampBytes (t : Nat) : Bytes := toLE 12 (stampBits t)

/-- The stamp that 12 bytes hold (R151). -/
def stampOf (n : Nat) : Nat := bits n 48 48 * secUnits + bits n 16 32 * 65536 + bits n 0 16

/-- Bits [63:0] of a stamp (R83). -/
def stampLow (t : Nat) : Nat := stampBits t % 2 ^ 64

end Sys2Proof.Machine
end

