-- ==== Sys2Proof/Machine/Fields.lean ====
section
/-! DEFINITION. The fields of the manager control space (R7, R10, R19): one definition per field of every register
table of the specification, written `REGISTER_FIELD`, with the byte address of its register, its lowest bit and its
width.  An array register's fields take its index (R19 and each table's heading line). -/

namespace Sys2Proof.Machine


/-! ### 00_scope -/

def TOP_IDENT_PART : Fld := ⟨0x000000, 0, 16⟩
def TOP_IDENT_STEPPING : Fld := ⟨0x000000, 16, 4⟩
def TOP_IDENT_METAL : Fld := ⟨0x000000, 20, 4⟩
def TOP_IDENT_VENDOR : Fld := ⟨0x000000, 24, 8⟩
def TOP_SERIAL_LO_SERIAL_LO : Fld := ⟨0x000004, 0, 32⟩
def TOP_SERIAL_HI_SERIAL_HI : Fld := ⟨0x000008, 0, 16⟩

/-! ### 01_architecture -/

def PWR_PACE_PACE (n : Nat) : Fld := ⟨0x010200 + 0x4 * n, 0, 16⟩
def PWR_PACE_MIN_MON (n : Nat) : Fld := ⟨0x010200 + 0x4 * n, 16, 3⟩
def PWR_PACE_VALID_MAP (n : Nat) : Fld := ⟨0x010200 + 0x4 * n, 19, 8⟩
def PWR_PACE_FALLBACK (n : Nat) : Fld := ⟨0x010200 + 0x4 * n, 31, 1⟩
def PWR_PACE_LOW_LOW (n : Nat) : Fld := ⟨0x010210 + 0x4 * n, 0, 16⟩
def PWR_PACE_LOW_RELOAD (n : Nat) : Fld := ⟨0x010210 + 0x4 * n, 31, 1⟩
def TOP_STRAP_SIDE : Fld := ⟨0x000010, 0, 2⟩
def TOP_STRAP_STRAPS : Fld := ⟨0x000010, 2, 30⟩

/-! ### 02_frames_and_queues -/

def TEN_QSEL_QP : Fld := ⟨0x090100, 0, 14⟩
def TEN_QSTAT_OUTSTANDING : Fld := ⟨0x090104, 0, 13⟩
def TEN_QSTAT_DEPTH : Fld := ⟨0x090104, 16, 13⟩
def TEN_QSTAT_HELD : Fld := ⟨0x090104, 29, 1⟩
def TEN_QSTAT_QP_ERROR : Fld := ⟨0x090104, 30, 1⟩
def TEN_QSTAT_BOUND : Fld := ⟨0x090104, 31, 1⟩
def TEN_QSEQ_NEXT_SEQ : Fld := ⟨0x090108, 0, 32⟩
def TEN_QERR_HCRC_ERR : Fld := ⟨0x09010C, 0, 16⟩
def TEN_QERR_SEQ_ERR : Fld := ⟨0x09010C, 16, 16⟩

/-! ### 04_streams_deadlines -/

def STRM_ADM_CFG_VSHARE : Fld := ⟨0x090400, 0, 7⟩
def STRM_ADM_CFG_GUARD : Fld := ⟨0x090400, 8, 7⟩
def STRM_ADM_CFG_HORIZON : Fld := ⟨0x090400, 16, 12⟩
def STRM_ADM_CFG_WMAX : Fld := ⟨0x090400, 28, 4⟩
def STRM_ADM_TIME_T_PIPE : Fld := ⟨0x090404, 0, 16⟩
def STRM_ADM_TIME_T_MEDIUM : Fld := ⟨0x090404, 16, 16⟩
def STRM_ADM_STAT_P_HOLD : Fld := ⟨0x090408, 0, 12⟩
def STRM_ADM_STAT_P_A : Fld := ⟨0x090408, 12, 12⟩
def STRM_ADM_STAT_AT_RISK : Fld := ⟨0x090408, 24, 1⟩
def STRM_ADM_FLASH_PHI : Fld := ⟨0x09040C, 0, 16⟩
def STRM_ADM_FLASH_CAP_Q : Fld := ⟨0x09040C, 16, 16⟩
def STRM_ADM_PRIMER_CAP_P : Fld := ⟨0x090410, 0, 16⟩
def STRM_ADM_PRIMER_HEADROOM : Fld := ⟨0x090410, 16, 16⟩
def STRM_SEL_ID : Fld := ⟨0x090420, 0, 16⟩
def STRM_STAT_CLASS : Fld := ⟨0x090424, 0, 2⟩
def STRM_STAT_DROP_LATE : Fld := ⟨0x090424, 2, 1⟩
def STRM_STAT_OPEN : Fld := ⟨0x090424, 3, 1⟩
def STRM_STAT_AT_RISK : Fld := ⟨0x090424, 4, 1⟩
def STRM_STAT_INDEXED : Fld := ⟨0x090424, 5, 1⟩
def STRM_STAT_P_LAT : Fld := ⟨0x090424, 16, 12⟩
def STRM_COUNT_MISSES : Fld := ⟨0x090428, 0, 16⟩
def STRM_COUNT_UNINDEXED : Fld := ⟨0x090428, 16, 16⟩
def STRM_OVER_OVER_MIB : Fld := ⟨0x09042C, 0, 32⟩

/-! ### 05_buffers_and_ledgers -/

def BPM_POOL_TOTAL (n : Nat) : Fld := ⟨0x200000 + 0x20 * n, 0, 16⟩
def BPM_POOL_LOG2SIZE (n : Nat) : Fld := ⟨0x200000 + 0x20 * n, 16, 5⟩
def BPM_FREE_FREE (n : Nat) : Fld := ⟨0x200004 + 0x20 * n, 0, 16⟩
def BPM_FREE_CACHE (n : Nat) : Fld := ⟨0x200004 + 0x20 * n, 16, 10⟩
def BPM_FREE_REBUILD (n : Nat) : Fld := ⟨0x200004 + 0x20 * n, 31, 1⟩
def BPM_USE_V_USED (n : Nat) : Fld := ⟨0x200008 + 0x20 * n, 0, 16⟩
def BPM_USE_J_USED (n : Nat) : Fld := ⟨0x200008 + 0x20 * n, 16, 16⟩
def BPM_USE2_S_USED (n : Nat) : Fld := ⟨0x20000C + 0x20 * n, 0, 16⟩
def BPM_USE2_GEN_USED (n : Nat) : Fld := ⟨0x20000C + 0x20 * n, 16, 16⟩
def BPM_WM_AMBER (n : Nat) : Fld := ⟨0x200010 + 0x20 * n, 0, 7⟩
def BPM_WM_CRIMSON (n : Nat) : Fld := ⟨0x200010 + 0x20 * n, 8, 7⟩
def BPM_WM_AMBER_NOW (n : Nat) : Fld := ⟨0x200010 + 0x20 * n, 16, 1⟩
def BPM_WM_CRIMSON_NOW (n : Nat) : Fld := ⟨0x200010 + 0x20 * n, 17, 1⟩
def BPM_FLOOR_J_FLOOR (n : Nat) : Fld := ⟨0x200014 + 0x20 * n, 0, 16⟩
def BPM_FLOOR_S_FLOOR (n : Nat) : Fld := ⟨0x200014 + 0x20 * n, 16, 16⟩
def BPM_VFLOOR_V_FLOOR (n : Nat) : Fld := ⟨0x200018 + 0x20 * n, 0, 16⟩
def BPM_VFLOOR_V_MAX (n : Nat) : Fld := ⟨0x200018 + 0x20 * n, 16, 7⟩
def BPM_WAITS_WAITS (n : Nat) : Fld := ⟨0x20001C + 0x20 * n, 0, 32⟩
def BPM_REFWAIT_REFWAIT : Fld := ⟨0x200100, 0, 32⟩
def FLT_LEDGER_STAT_BREACH : Fld := ⟨0x480100, 0, 6⟩
def FLT_LEDGER_STAT_TEST_HIT : Fld := ⟨0x480100, 16, 6⟩
def FLT_LEDGER_TEST_LEDGER : Fld := ⟨0x480104, 0, 3⟩
def FLT_LEDGER_TEST_INJECT : Fld := ⟨0x480104, 8, 1⟩
def FLT_LEDGER_AUDIT_AUDITS : Fld := ⟨0x480108, 0, 32⟩
def FLT_BREACH_INFO_LEDGER : Fld := ⟨0x480110, 0, 8⟩
def FLT_BREACH_INFO_TERM : Fld := ⟨0x480110, 8, 8⟩
def FLT_BREACH_INFO_INSTANCE : Fld := ⟨0x480110, 16, 16⟩
def FLT_BREACH_LEFT_LO_LEFT : Fld := ⟨0x480114, 0, 32⟩
def FLT_BREACH_LEFT_HI_LEFT : Fld := ⟨0x480118, 0, 32⟩
def FLT_BREACH_RIGHT_LO_RIGHT : Fld := ⟨0x48011C, 0, 32⟩
def FLT_BREACH_RIGHT_HI_RIGHT : Fld := ⟨0x480120, 0, 32⟩

/-! ### 06_flash_ports -/

def FLP_CTL_ENABLE (n : Nat) : Fld := ⟨0x100000 + 0x1000 * n, 0, 1⟩
def FLP_CTL_MODE (n : Nat) : Fld := ⟨0x100000 + 0x1000 * n, 4, 4⟩
def FLP_CTL_TAKEOVER_MODE (n : Nat) : Fld := ⟨0x100000 + 0x1000 * n, 8, 4⟩
def FLP_STAT_MODE_NOW (n : Nat) : Fld := ⟨0x100004 + 0x1000 * n, 0, 4⟩
def FLP_STAT_TRAINED (n : Nat) : Fld := ⟨0x100004 + 0x1000 * n, 4, 1⟩
def FLP_STAT_STEPPED (n : Nat) : Fld := ⟨0x100004 + 0x1000 * n, 5, 1⟩
def FLP_STAT_FAILED (n : Nat) : Fld := ⟨0x100004 + 0x1000 * n, 6, 1⟩
def FLP_STAT_PROFILE_OK (n : Nat) : Fld := ⟨0x100004 + 0x1000 * n, 7, 1⟩
def FLP_STAT_DIES (n : Nat) : Fld := ⟨0x100004 + 0x1000 * n, 8, 6⟩
def FLP_STAT_UNUSED (n : Nat) : Fld := ⟨0x100004 + 0x1000 * n, 14, 6⟩
def FLP_OWN_STATE (n : Nat) : Fld := ⟨0x100008 + 0x1000 * n, 0, 3⟩
def FLP_OWN_OWN_PIN (n : Nat) : Fld := ⟨0x100008 + 0x1000 * n, 3, 1⟩
def FLP_OWN_GNT_PIN (n : Nat) : Fld := ⟨0x100008 + 0x1000 * n, 4, 1⟩
def FLP_OWN_GNT_TIMEOUTS (n : Nat) : Fld := ⟨0x100008 + 0x1000 * n, 16, 8⟩
def FLP_OWN_LOSSES (n : Nat) : Fld := ⟨0x100008 + 0x1000 * n, 24, 8⟩
def FLP_RETRAIN_INTERVAL (n : Nat) : Fld := ⟨0x10000C + 0x1000 * n, 0, 10⟩
def FLP_RETRAIN_TEMP_DELTA (n : Nat) : Fld := ⟨0x10000C + 0x1000 * n, 10, 5⟩
def FLP_RETRAIN_FORCE (n : Nat) : Fld := ⟨0x10000C + 0x1000 * n, 15, 1⟩
def FLP_RETRAIN_RETRAINS (n : Nat) : Fld := ⟨0x10000C + 0x1000 * n, 16, 16⟩
def FLP_SLIP_THRESHOLD (n : Nat) : Fld := ⟨0x100010 + 0x1000 * n, 0, 11⟩
def FLP_SLIP_SLIPS (n : Nat) : Fld := ⟨0x100010 + 0x1000 * n, 16, 11⟩
def FLP_SLIP_LAST_OFFSET (n : Nat) : Fld := ⟨0x100010 + 0x1000 * n, 27, 5⟩
def FLP_GUARD_T_LOW (n : Nat) : Fld := ⟨0x100014 + 0x1000 * n, 0, 8⟩
def FLP_GUARD_T_HIGH (n : Nat) : Fld := ⟨0x100014 + 0x1000 * n, 8, 8⟩
def FLP_GUARD_SENSOR (n : Nat) : Fld := ⟨0x100014 + 0x1000 * n, 16, 3⟩
def FLP_GUARD_STAT_SUPPLY_OUT (n : Nat) : Fld := ⟨0x100018 + 0x1000 * n, 0, 1⟩
def FLP_GUARD_STAT_TEMP_OUT (n : Nat) : Fld := ⟨0x100018 + 0x1000 * n, 1, 1⟩
def FLP_GUARD_STAT_HELD (n : Nat) : Fld := ⟨0x100018 + 0x1000 * n, 2, 1⟩
def FLP_GUARD_STAT_HELD_OPS (n : Nat) : Fld := ⟨0x100018 + 0x1000 * n, 16, 16⟩
def FLP_PROFILE_PROFILE_ID (n : Nat) : Fld := ⟨0x10001C + 0x1000 * n, 0, 16⟩
def FLP_PROFILE_MAX_MODE (n : Nat) : Fld := ⟨0x10001C + 0x1000 * n, 16, 4⟩
def LDPC_CFG_HARD_ITER : Fld := ⟨0x140000, 0, 6⟩
def LDPC_CFG_SOFT_ITER : Fld := ⟨0x140000, 8, 6⟩
def LDPC_CFG_SOFT_READS : Fld := ⟨0x140000, 14, 2⟩
def LDPC_CFG_RETRY_SETS : Fld := ⟨0x140000, 16, 5⟩
def LDPC_CNT_COUNT (n : Nat) : Fld := ⟨0x140010 + 0x4 * n, 0, 32⟩
def LDPC_RLT_SEL_DIE : Fld := ⟨0x140100, 0, 11⟩
def LDPC_RLT_SEL_GROUP : Fld := ⟨0x140100, 12, 8⟩
def LDPC_RLT_SEL_LEVEL : Fld := ⟨0x140100, 20, 4⟩
def LDPC_RLT_DATA_BASE : Fld := ⟨0x140104, 0, 8⟩
def LDPC_RLT_DATA_LAST_TEMP : Fld := ⟨0x140104, 8, 8⟩

/-! ### 07_flash_translation -/

def MAP_PRIMER_CFG_SHARE : Fld := ⟨0x180000, 0, 6⟩
def MAP_PRIMER_CFG_FULL : Fld := ⟨0x180000, 8, 7⟩
def MAP_PRIMER_CFG_FOLD_PUSH : Fld := ⟨0x180000, 16, 7⟩
def MAP_PRIMER_CFG_FOLD_MIN_LIVE : Fld := ⟨0x180000, 24, 7⟩
def MAP_PRIMER_CFG2_FOLD_AGE : Fld := ⟨0x180004, 0, 16⟩
def MAP_PRIMER_STAT_FILL : Fld := ⟨0x180008, 0, 7⟩
def MAP_PRIMER_STAT_DUMP_RES_OK : Fld := ⟨0x180008, 7, 1⟩
def MAP_PRIMER_STAT_FOLDED_GIB : Fld := ⟨0x180008, 8, 24⟩
def MAP_SCRAPE_CFG_START : Fld := ⟨0x180010, 0, 8⟩
def MAP_SCRAPE_CFG_URGENT : Fld := ⟨0x180010, 8, 8⟩
def MAP_SCRAPE_CFG_STOP : Fld := ⟨0x180010, 16, 8⟩
def MAP_SCRAPE_CFG_SLOT_FLOOR : Fld := ⟨0x180010, 24, 7⟩
def MAP_SPACE_CFG_OP : Fld := ⟨0x180014, 0, 8⟩
def MAP_SPACE_CFG_AMBER : Fld := ⟨0x180014, 8, 8⟩
def MAP_SPACE_CFG_RESERVE : Fld := ⟨0x180014, 16, 8⟩
def MAP_GSEL_GROUP : Fld := ⟨0x180020, 0, 8⟩
def MAP_GUSABLE_MIB : Fld := ⟨0x180024, 0, 32⟩
def MAP_GUSED_MIB : Fld := ⟨0x180028, 0, 32⟩
def MAP_GSTAT_FREE_SEGS : Fld := ⟨0x18002C, 0, 16⟩
def MAP_GSTAT_AMBER : Fld := ⟨0x18002C, 16, 1⟩
def MAP_GSTAT_FULL : Fld := ⟨0x18002C, 17, 1⟩
def MAP_GSTAT_SCRAPE_ON : Fld := ⟨0x18002C, 18, 1⟩
def MAP_GSTAT_URGENT : Fld := ⟨0x18002C, 19, 1⟩
def MAP_CKPT_CFG_START : Fld := ⟨0x180030, 0, 8⟩
def MAP_CKPT_STAT_TAIL_MIB : Fld := ⟨0x180034, 0, 9⟩
def MAP_CKPT_STAT_CYCLE : Fld := ⟨0x180034, 9, 1⟩
def MAP_CKPT_STAT_TAIL_WAITS : Fld := ⟨0x180034, 16, 16⟩
def MAP_FAULTS_LOADS : Fld := ⟨0x180038, 0, 32⟩
def MAP_WEAR_CFG_SPREAD : Fld := ⟨0x180040, 0, 16⟩
def MAP_DIE_SEL_DIE : Fld := ⟨0x180044, 0, 11⟩
def MAP_DIE_WEAR_MAX_ERASE : Fld := ⟨0x180048, 0, 24⟩
def MAP_DIE_SPARE_SPARE_LEFT : Fld := ⟨0x18004C, 0, 16⟩
def MAP_DIE_SPARE_RETIRED : Fld := ⟨0x18004C, 16, 1⟩
def MAP_DIE_SPARE_POOL : Fld := ⟨0x18004C, 17, 1⟩
def MAP_SPARE_DIES_LEFT : Fld := ⟨0x180050, 0, 11⟩
def MAP_SPARE_DIES_RETIRED : Fld := ⟨0x180050, 16, 11⟩
def MAP_SAND_CFG_PERIOD : Fld := ⟨0x180054, 0, 8⟩
def MAP_SAND_CFG_SHARE : Fld := ⟨0x180054, 8, 8⟩
def MAP_SAND_CFG_OFF_TEMP : Fld := ⟨0x180054, 16, 8⟩
def MAP_SAND_CFG_OFF_DEFAULT : Fld := ⟨0x180054, 24, 8⟩
def MAP_DUMP_STAT_LAST : Fld := ⟨0x180058, 0, 2⟩
def MAP_DUMP_STAT_STRIPES : Fld := ⟨0x180058, 16, 16⟩
def MAP_OVL_STAT_USED : Fld := ⟨0x18005C, 0, 21⟩

/-! ### 08_stripes_and_rebuild -/

def ARR_CFG_FILL_WAIT : Fld := ⟨0x1C0000, 0, 9⟩
def ARR_CFG_READ_SHARE : Fld := ⟨0x1C0000, 9, 7⟩
def ARR_CFG_AUTO : Fld := ⟨0x1C0000, 16, 1⟩
def ARR_JRN_STAT_FREE : Fld := ⟨0x1C0004, 0, 16⟩
def ARR_JRN_STAT_WAITS : Fld := ⟨0x1C0004, 16, 16⟩
def ARR_GSEL_GROUP : Fld := ⟨0x1C0010, 0, 8⟩
def ARR_GRP_CFG_GEOMETRY : Fld := ⟨0x1C0014, 0, 3⟩
def ARR_GRP_CFG_SECOND_FAULT : Fld := ⟨0x1C0014, 4, 1⟩
def ARR_GRP_CTL_CREATE : Fld := ⟨0x1C0018, 0, 1⟩
def ARR_GRP_CTL_DISSOLVE : Fld := ⟨0x1C0018, 1, 1⟩
def ARR_GRP_CTL_RESUME : Fld := ⟨0x1C0018, 2, 1⟩
def ARR_GRP_CTL_REBUILD : Fld := ⟨0x1C0018, 3, 1⟩
def ARR_GRP_CTL_REHOME : Fld := ⟨0x1C0018, 4, 1⟩
def ARR_GRP_STAT_STATE : Fld := ⟨0x1C001C, 0, 3⟩
def ARR_GRP_STAT_FAULTS : Fld := ⟨0x1C001C, 3, 2⟩
def ARR_GRP_STAT_CREATE_ERR : Fld := ⟨0x1C001C, 5, 1⟩
def ARR_GRP_STAT_REHOMING : Fld := ⟨0x1C001C, 6, 1⟩
def ARR_GRP_STAT_JRN_A : Fld := ⟨0x1C001C, 8, 5⟩
def ARR_GRP_STAT_JRN_B : Fld := ⟨0x1C001C, 13, 5⟩
def ARR_GRP_MEMBER_DIE (n : Nat) : Fld := ⟨0x1C0100 + 0x4 * n, 0, 11⟩
def ARR_GRP_MEMBER_FAILED (n : Nat) : Fld := ⟨0x1C0100 + 0x4 * n, 11, 1⟩
def ARR_GRP_MEMBER_TARGET (n : Nat) : Fld := ⟨0x1C0100 + 0x4 * n, 12, 1⟩
def ARR_GRP_MEMBER_JOURNAL (n : Nat) : Fld := ⟨0x1C0100 + 0x4 * n, 13, 1⟩
def ARR_GRP_MEMBER_COPY (n : Nat) : Fld := ⟨0x1C0100 + 0x4 * n, 14, 1⟩
def ARR_REBUILD_STAT_SPARE_DIE : Fld := ⟨0x1C0020, 0, 11⟩
def ARR_REBUILD_STAT_SLOT : Fld := ⟨0x1C0020, 11, 5⟩
def ARR_REBUILD_STAT_PCT : Fld := ⟨0x1C0020, 16, 7⟩
def ARR_LOST_UNITS : Fld := ⟨0x1C0024, 0, 32⟩

/-! ### 09_volumes_reduction_replication -/

def MAP_DEDUP_CFG_HOT_BANKS : Fld := ⟨0x180100, 0, 4⟩
def MAP_DEDUP_USED_USED : Fld := ⟨0x180104, 0, 24⟩
def MAP_DEDUP_SIZE_SIZE : Fld := ⟨0x180108, 0, 24⟩
def MAP_DEDUP_CNT_COUNT (n : Nat) : Fld := ⟨0x180110 + 0x4 * n, 0, 32⟩
def MAP_PINNED_PINNED : Fld := ⟨0x180130, 0, 32⟩
def MAP_ENT_LO_ENTRIES : Fld := ⟨0x180140, 0, 32⟩
def MAP_ENT_HI_ENTRIES : Fld := ⟨0x180144, 0, 32⟩
def MAP_CEIL_LO_CEIL : Fld := ⟨0x180148, 0, 32⟩
def MAP_CEIL_HI_CEIL : Fld := ⟨0x18014C, 0, 32⟩
def MAP_VSEL_VINDEX : Fld := ⟨0x180150, 0, 14⟩
def MAP_VSEL_SIDE : Fld := ⟨0x180150, 14, 1⟩
def MAP_VSTAT_EXISTS : Fld := ⟨0x180154, 0, 1⟩
def MAP_VSTAT_FILLING : Fld := ⟨0x180154, 1, 1⟩
def MAP_VSTAT_SENDING : Fld := ⟨0x180154, 2, 1⟩
def MAP_VSTAT_RECEIVING : Fld := ⟨0x180154, 3, 1⟩
def MAP_VSTAT_COMPACTING : Fld := ⟨0x180154, 4, 1⟩
def MAP_VSTAT_SNAPSHOTS : Fld := ⟨0x180154, 16, 11⟩
def MAP_VEPOCH_CURRENT : Fld := ⟨0x180158, 0, 16⟩
def MAP_VEPOCH_NEWEST : Fld := ⟨0x180158, 16, 16⟩
def MAP_RSEL_SESSION : Fld := ⟨0x180160, 0, 6⟩
def MAP_RSTAT_STATE : Fld := ⟨0x180164, 0, 3⟩
def MAP_RSTAT_ROLE : Fld := ⟨0x180164, 3, 1⟩
def MAP_RSTAT_REKEY_DUE : Fld := ⟨0x180164, 4, 1⟩
def MAP_RSTAT_FULL : Fld := ⟨0x180164, 5, 1⟩
def MAP_RSTAT_KEYSLOT : Fld := ⟨0x180164, 8, 3⟩
def MAP_RSTAT_VINDEX : Fld := ⟨0x180164, 16, 14⟩
def MAP_RSTAT_SIDE : Fld := ⟨0x180164, 30, 1⟩
def MAP_RCYCLE_CYCLE : Fld := ⟨0x180168, 0, 32⟩
def MAP_RLAG_SECONDS : Fld := ⟨0x18016C, 0, 32⟩

/-! ### 10_compression -/

def CMP_ENG_IN_SERVICE (n : Nat) : Fld := ⟨0x300000 + 0x10 * n, 0, 1⟩
def CMP_ENG_KAT_FAIL (n : Nat) : Fld := ⟨0x300000 + 0x10 * n, 1, 1⟩
def CMP_ENG_BUSY (n : Nat) : Fld := ⟨0x300000 + 0x10 * n, 2, 1⟩
def CMP_ENG_LONG (n : Nat) : Fld := ⟨0x300000 + 0x10 * n, 3, 1⟩
def CMP_ENG_QUEUE (n : Nat) : Fld := ⟨0x300000 + 0x10 * n, 4, 7⟩
def CMP_ENG_QUADRANT (n : Nat) : Fld := ⟨0x300000 + 0x10 * n, 16, 2⟩
def CMP_GRAINS_COUNT (n : Nat) : Fld := ⟨0x300004 + 0x10 * n, 0, 32⟩
def CMP_RAW_COUNT (n : Nat) : Fld := ⟨0x300008 + 0x10 * n, 0, 32⟩
def CMP_DERR_LIMIT (n : Nat) : Fld := ⟨0x30000C + 0x10 * n, 0, 16⟩
def CMP_DERR_CORRUPT (n : Nat) : Fld := ⟨0x30000C + 0x10 * n, 16, 16⟩
def CMP_CFG_FAIR : Fld := ⟨0x300100, 0, 7⟩
def CMP_IN_MIB_MIB : Fld := ⟨0x300104, 0, 32⟩
def CMP_OUT_MIB_MIB : Fld := ⟨0x300108, 0, 32⟩

/-! ### 11_cipher_and_digest -/

def CIP_LANE_IN_SERVICE (n : Nat) : Fld := ⟨0x340000 + 0x10 * n, 0, 1⟩
def CIP_LANE_KAT_FAIL (n : Nat) : Fld := ⟨0x340000 + 0x10 * n, 1, 1⟩
def CIP_LANE_BUSY (n : Nat) : Fld := ⟨0x340000 + 0x10 * n, 2, 1⟩
def CIP_LANE_MASK_STALL (n : Nat) : Fld := ⟨0x340000 + 0x10 * n, 3, 1⟩
def CIP_LANE_SLOTS (n : Nat) : Fld := ⟨0x340000 + 0x10 * n, 4, 7⟩
def CIP_LANE_QUEUE (n : Nat) : Fld := ⟨0x340000 + 0x10 * n, 11, 7⟩
def CIP_LANE_QUADRANT (n : Nat) : Fld := ⟨0x340000 + 0x10 * n, 18, 2⟩
def CIP_AUTHFAIL_COUNT (n : Nat) : Fld := ⟨0x340004 + 0x10 * n, 0, 32⟩
def CIP_CFG_FAIR : Fld := ⟨0x340200, 0, 7⟩
def CIP_MASK_STAT_UNSEEDED : Fld := ⟨0x340204, 0, 4⟩
def CIP_MASK_STAT_STOPPED : Fld := ⟨0x340204, 4, 4⟩
def CIP_GSEL_TENANT : Fld := ⟨0x340210, 0, 10⟩
def CIP_GSEL_SLOT : Fld := ⟨0x340210, 10, 3⟩
def CIP_GSEL_JAREL : Fld := ⟨0x340210, 13, 1⟩
def CIP_GCNT_LO_COUNT : Fld := ⟨0x340214, 0, 32⟩
def CIP_GCNT_HI_COUNT : Fld := ⟨0x340218, 0, 32⟩
def CIP_GSTAT_PRESENT : Fld := ⟨0x34021C, 0, 1⟩
def CIP_GSTAT_REKEY_DUE : Fld := ⟨0x34021C, 1, 1⟩
def CIP_GSTAT_EXHAUSTED : Fld := ⟨0x34021C, 2, 1⟩
def DIG_MEAS_VAL_VALUE (n : Nat) : Fld := ⟨0x380500 + 0x4 * n, 0, 32⟩
def DIG_MEAS_CTL_INDEX : Fld := ⟨0x380520, 0, 5⟩
def DIG_MEAS_CTL_EXTEND : Fld := ⟨0x380520, 8, 1⟩
def DIG_MEAS_SEL_INDEX : Fld := ⟨0x380524, 0, 5⟩
def DIG_MEAS_SEL_EXTENDS : Fld := ⟨0x380524, 16, 16⟩
def DIG_MEAS_DATA_DATA (n : Nat) : Fld := ⟨0x380540 + 0x4 * n, 0, 32⟩

/-! ### 12_tint_cores -/

def TINT_CORE_ACTIVE (n : Nat) : Fld := ⟨0x280000 + 0x4 * n, 0, 1⟩
def TINT_CORE_SPARE (n : Nat) : Fld := ⟨0x280000 + 0x4 * n, 1, 1⟩
def TINT_CORE_FAILED (n : Nat) : Fld := ⟨0x280000 + 0x4 * n, 2, 1⟩
def TINT_CORE_QUADRANT (n : Nat) : Fld := ⟨0x280000 + 0x4 * n, 3, 2⟩
def TINT_CORE_RESIDENT (n : Nat) : Fld := ⟨0x280000 + 0x4 * n, 5, 5⟩
def TINT_CORE_SCRATCH_KIB (n : Nat) : Fld := ⟨0x280000 + 0x4 * n, 10, 9⟩
def TINT_MEM_USED_MIB : Fld := ⟨0x280300, 0, 13⟩
def TINT_MEM_PROGRAMS : Fld := ⟨0x280300, 16, 11⟩
def TINT_PSEL_INDEX : Fld := ⟨0x280310, 0, 10⟩
def TINT_PSTAT_LOADED : Fld := ⟨0x280314, 0, 1⟩
def TINT_PSTAT_RESIDENT : Fld := ⟨0x280314, 1, 1⟩
def TINT_PSTAT_STATE_RESET : Fld := ⟨0x280314, 2, 1⟩
def TINT_PSTAT_TENANT : Fld := ⟨0x280314, 8, 10⟩
def TINT_PSTAT_BINDINGS : Fld := ⟨0x280314, 18, 14⟩
def TINT_PTRAPS_TRAPS : Fld := ⟨0x28031C, 0, 32⟩
def TINT_PTRAP_CAUSE : Fld := ⟨0x280320, 0, 4⟩
def TINT_PTRAP_ENTRY : Fld := ⟨0x280320, 4, 2⟩
def TINT_PTRAP_SEG : Fld := ⟨0x280320, 6, 4⟩
def TINT_PTRAP_CODE : Fld := ⟨0x280320, 10, 12⟩
def TINT_PTRAP_PC_PC : Fld := ⟨0x280324, 0, 24⟩
def TINT_PTRAP_OFF_OFFSET : Fld := ⟨0x280328, 0, 32⟩
def TINT_PMISS_MISSES : Fld := ⟨0x28032C, 0, 32⟩

/-! ### 13_task_scheduler -/

def SCH_CFG_FAIR : Fld := ⟨0x240000, 0, 7⟩
def SCH_CFG_SELFTEST : Fld := ⟨0x240000, 8, 10⟩
def SCH_SLOT_WM_AMBER : Fld := ⟨0x240004, 0, 7⟩
def SCH_SLOT_WM_CRIMSON : Fld := ⟨0x240004, 8, 7⟩
def SCH_SLOT_WM_V_MAX : Fld := ⟨0x240004, 16, 7⟩
def SCH_SLOT_WM_AMBER_NOW : Fld := ⟨0x240004, 23, 1⟩
def SCH_SLOT_WM_CRIMSON_NOW : Fld := ⟨0x240004, 24, 1⟩
def SCH_SLOT_FREE_FREE : Fld := ⟨0x240008, 0, 17⟩
def SCH_SLOT_FILLED_FILLED : Fld := ⟨0x24000C, 0, 17⟩
def SCH_SLOT_VFLOOR_V_FLOOR : Fld := ⟨0x240010, 0, 17⟩
def SCH_PENDING_READY_PENDING : Fld := ⟨0x240014, 0, 16⟩
def SCH_PENDING_STALE : Fld := ⟨0x240014, 16, 16⟩
def SCH_SPARES_LEFT : Fld := ⟨0x240018, 0, 8⟩
def SCH_SPARES_FAILED : Fld := ⟨0x240018, 8, 8⟩
def SCH_CSEL_CORE : Fld := ⟨0x240100, 0, 8⟩
def SCH_CSEL_LEVEL : Fld := ⟨0x240100, 8, 2⟩
def SCH_CSEL_BUCKET : Fld := ⟨0x240100, 12, 4⟩
def SCH_CRDY01_LOW : Fld := ⟨0x240104, 0, 9⟩
def SCH_CRDY01_HIGH : Fld := ⟨0x240104, 16, 9⟩
def SCH_CRDY23_LOW : Fld := ⟨0x240108, 0, 9⟩
def SCH_CRDY23_HIGH : Fld := ⟨0x240108, 16, 9⟩
def SCH_CDLY_DEPTH : Fld := ⟨0x24010C, 0, 13⟩
def SCH_CDLY_LATE : Fld := ⟨0x24010C, 16, 16⟩
def SCH_CLOAD_LOAD : Fld := ⟨0x240110, 0, 10⟩
def SCH_CLOAD_PACE : Fld := ⟨0x240110, 16, 16⟩
def SCH_CHIST_COUNT : Fld := ⟨0x240114, 0, 32⟩
def SCH_CMISS_MISSES : Fld := ⟨0x240118, 0, 32⟩
def SCH_CCTL_RETIRE : Fld := ⟨0x24011C, 0, 1⟩
def SCH_CCTL_HIST_CLEAR : Fld := ⟨0x24011C, 1, 1⟩
def SCH_CCTL_SELFTEST_NOW : Fld := ⟨0x24011C, 2, 1⟩

/-! ### 14_stencil_array -/

def STN_BANK_KIND (n : Nat) : Fld := ⟨0x2C0000 + 0x4 * n, 0, 2⟩
def STN_BANK_ASSIGNED (n : Nat) : Fld := ⟨0x2C0000 + 0x4 * n, 2, 1⟩
def STN_BANK_BUSY (n : Nat) : Fld := ⟨0x2C0000 + 0x4 * n, 3, 1⟩
def STN_BANK_TENANT (n : Nat) : Fld := ⟨0x2C0000 + 0x4 * n, 4, 10⟩
def STN_BANK_USED (n : Nat) : Fld := ⟨0x2C0000 + 0x4 * n, 16, 13⟩
def STN_SPARE_LEFT (n : Nat) : Fld := ⟨0x2C0040 + 0x4 * n, 0, 7⟩
def STN_SPARE_PARITY_ERR (n : Nat) : Fld := ⟨0x2C0040 + 0x4 * n, 8, 16⟩
def STN_LOOK_KEY_KEY (n : Nat) : Fld := ⟨0x2C0100 + 0x4 * n, 0, 32⟩
def STN_LOOK_CTL_BANKS : Fld := ⟨0x2C0120, 0, 16⟩
def STN_LOOK_CTL_LOOKUP : Fld := ⟨0x2C0120, 16, 1⟩
def STN_LOOK_CTL_STEP : Fld := ⟨0x2C0120, 17, 1⟩
def STN_LOOK_RES_INDEX : Fld := ⟨0x2C0124, 0, 16⟩
def STN_LOOK_RES_BANK : Fld := ⟨0x2C0124, 16, 4⟩
def STN_LOOK_RES_HIT : Fld := ⟨0x2C0124, 20, 1⟩
def STN_LOOK_RES_MULTI : Fld := ⟨0x2C0124, 21, 1⟩
def STN_LOOK_RES_MASKLEN : Fld := ⟨0x2C0124, 22, 9⟩
def STN_LOOK_RES_END : Fld := ⟨0x2C0124, 31, 1⟩
def STN_STAT_OWN_ERR : Fld := ⟨0x2C0130, 0, 1⟩
def STN_STAT_UNCLASSIFIED : Fld := ⟨0x2C0130, 16, 16⟩

/-! ### 15_tenants -/

def TEN_SPOOF_CFG_INTERVAL : Fld := ⟨0x090200, 0, 16⟩
def TEN_SPOOF_STAT_DROPS : Fld := ⟨0x090204, 0, 32⟩
def TEN_BSEL_TENANT : Fld := ⟨0x090210, 0, 10⟩
def TEN_BSEL_ITEM : Fld := ⟨0x090210, 10, 2⟩
def TEN_BSEL_INDEX : Fld := ⟨0x090210, 12, 2⟩
def TEN_BDATA_VALUE (n : Nat) : Fld := ⟨0x090214 + 0x4 * n, 0, 32⟩
def TEN_BCTL_WRITE : Fld := ⟨0x090224, 0, 1⟩
def TEN_BCTL_ERR : Fld := ⟨0x090224, 1, 1⟩

/-! ### 16_partner_pairing -/

def PEER_CFG_REKEY_EXP : Fld := ⟨0x080000, 0, 6⟩
def PEER_CFG_AUTO_HANDBACK : Fld := ⟨0x080000, 8, 1⟩
def PEER_CTL_HANDBACK : Fld := ⟨0x080004, 0, 1⟩
def PEER_CTL_ACCEPT_NEW : Fld := ⟨0x080004, 1, 1⟩
def PEER_CTL_REKEY : Fld := ⟨0x080004, 2, 1⟩
def PEER_STAT_STATE : Fld := ⟨0x080008, 0, 3⟩
def PEER_STAT_PARTNER_ALIVE : Fld := ⟨0x080008, 3, 1⟩
def PEER_STAT_PAIR_FAIL : Fld := ⟨0x080008, 4, 4⟩
def PEER_STAT_NEW_SERIAL : Fld := ⟨0x080008, 8, 1⟩
def PEER_STAT_RESYNC : Fld := ⟨0x080008, 9, 1⟩
def PEER_LINK_LANES : Fld := ⟨0x08000C, 0, 17⟩
def PEER_LINK_SPARE_USED : Fld := ⟨0x08000C, 17, 1⟩
def PEER_LINK_HALF : Fld := ⟨0x08000C, 18, 1⟩
def PEER_LINK_UP : Fld := ⟨0x08000C, 19, 1⟩
def PEER_LINK_AUTH_FAIL : Fld := ⟨0x08000C, 20, 12⟩
def PEER_HB_MISSED : Fld := ⟨0x080010, 0, 16⟩
def PEER_HB_TAKEOVERS : Fld := ⟨0x080010, 16, 16⟩
def PEER_MIRROR_DATA_MIB : Fld := ⟨0x080014, 0, 8⟩
def PEER_MIRROR_MAPLOG_MIB : Fld := ⟨0x080014, 8, 9⟩
def PEER_TKO_SEIZED_US : Fld := ⟨0x080018, 0, 16⟩
def PEER_TKO_ACCEPT_US : Fld := ⟨0x080018, 16, 16⟩

/-! ### 17_trust_and_identity -/

def SEC_STAT_ES_READY : Fld := ⟨0x3C0000, 0, 1⟩
def SEC_STAT_ES_FAILED : Fld := ⟨0x3C0000, 1, 1⟩
def SEC_STAT_KEYS_SEALED : Fld := ⟨0x3C0000, 2, 1⟩
def SEC_STAT_OWNER : Fld := ⟨0x3C0000, 3, 1⟩
def SEC_STAT_KEM_READY : Fld := ⟨0x3C0000, 4, 1⟩
def SEC_STAT_NEXT_TREE : Fld := ⟨0x3C0000, 5, 1⟩
def SEC_STAT_EXHAUSTED : Fld := ⟨0x3C0000, 6, 1⟩
def SEC_ES_CNT_RCT_FAIL : Fld := ⟨0x3C0004, 0, 16⟩
def SEC_ES_CNT_APT_FAIL : Fld := ⟨0x3C0004, 16, 16⟩
def SEC_LEAF_LO_LEAF : Fld := ⟨0x3C0010, 0, 32⟩
def SEC_LEAF_HI_LEAF : Fld := ⟨0x3C0014, 0, 32⟩
def SEC_RES_LO_RES : Fld := ⟨0x3C0018, 0, 32⟩
def SEC_RES_HI_RES : Fld := ⟨0x3C001C, 0, 32⟩
def SEC_SKIP_LO_SKIP : Fld := ⟨0x3C0020, 0, 32⟩
def SEC_SKIP_HI_SKIP : Fld := ⟨0x3C0024, 0, 32⟩
def SEC_NONCE_NONCE (n : Nat) : Fld := ⟨0x3C0030 + 0x4 * n, 0, 32⟩
def SEC_KCACHE_USED : Fld := ⟨0x3C0040, 0, 13⟩
def SEC_KCACHE_LOADS : Fld := ⟨0x3C0040, 16, 16⟩
def SEC_KREC_RECORDS : Fld := ⟨0x3C0044, 0, 16⟩
def SEC_KREC_META : Fld := ⟨0x3C0044, 16, 1⟩
def SEC_KREC_PENDING : Fld := ⟨0x3C0044, 17, 1⟩
def TOP_DEBUG_BOUNDARY : Fld := ⟨0x000020, 0, 1⟩
def TOP_DEBUG_DEBUG : Fld := ⟨0x000020, 1, 1⟩

/-! ### 18_ethernet_and_time -/

def ETH_GCFG_MODE (n : Nat) : Fld := ⟨0x040000 + 0x40 * n, 0, 2⟩
def ETH_GCFG_ENABLE (n : Nat) : Fld := ⟨0x040000 + 0x40 * n, 2, 1⟩
def ETH_GCFG_ACK_TMO (n : Nat) : Fld := ⟨0x040000 + 0x40 * n, 3, 5⟩
def ETH_GCFG_PFC_EN (n : Nat) : Fld := ⟨0x040000 + 0x40 * n, 8, 8⟩
def ETH_GSTAT_LINK (n : Nat) : Fld := ⟨0x040004 + 0x40 * n, 0, 4⟩
def ETH_GSTAT_DOWN (n : Nat) : Fld := ⟨0x040004 + 0x40 * n, 4, 1⟩
def ETH_GSTAT_BAD_FRAMES (n : Nat) : Fld := ⟨0x040004 + 0x40 * n, 16, 16⟩
def ETH_PFC_XOFF (n : Nat) : Fld := ⟨0x040008 + 0x40 * n, 0, 8⟩
def ETH_PFC_XON (n : Nat) : Fld := ⟨0x040008 + 0x40 * n, 8, 8⟩
def ETH_ETS_MAP_TC (n : Nat) : Fld := ⟨0x04000C + 0x40 * n, 0, 16⟩
def ETH_ETS_MAP_STRICT (n : Nat) : Fld := ⟨0x04000C + 0x40 * n, 16, 4⟩
def ETH_ETS_BW_BW (n : Nat) : Fld := ⟨0x040010 + 0x40 * n, 0, 32⟩
def ETH_PORT_PTP_ASYM (n : Nat) : Fld := ⟨0x041000 + 0x4 * n, 0, 20⟩
def ETH_ADDR_SEL_PORT : Fld := ⟨0x042000, 0, 5⟩
def ETH_ADDR_SEL_FAMILY : Fld := ⟨0x042000, 5, 1⟩
def ETH_ADDR_SEL_WRITE : Fld := ⟨0x042000, 6, 1⟩
def ETH_ADDR_SEL_CONNECT : Fld := ⟨0x042000, 7, 1⟩
def ETH_ADDR_DATA_VALUE (n : Nat) : Fld := ⟨0x042004 + 0x4 * n, 0, 32⟩
def ETH_CM_QPN_QPN : Fld := ⟨0x042014, 0, 24⟩
def ETH_CM_QPN_DONE : Fld := ⟨0x042014, 24, 1⟩
def ETH_CM_QPN_FAIL : Fld := ⟨0x042014, 25, 1⟩
def ETH_CTL_LOCK : Fld := ⟨0x043000, 0, 1⟩
def TIME_CFG_DOMAIN : Fld := ⟨0x030000, 0, 8⟩
def TIME_CFG_P2P : Fld := ⟨0x030000, 8, 1⟩
def TIME_CFG_TRANSPORT : Fld := ⟨0x030000, 9, 2⟩
def TIME_CFG_PTP_PORT : Fld := ⟨0x030000, 11, 5⟩
def TIME_CFG_TC_SENSOR : Fld := ⟨0x030000, 16, 3⟩
def TIME_CFG_TCXO_25M : Fld := ⟨0x030000, 19, 1⟩
def TIME_CFG_HOLDOVER_MAX : Fld := ⟨0x030000, 20, 8⟩
def TIME_STAT_STATE : Fld := ⟨0x030004, 0, 2⟩
def TIME_STAT_PORT : Fld := ⟨0x030004, 2, 5⟩
def TIME_STAT_SET_ERR : Fld := ⟨0x030004, 7, 1⟩
def TIME_STAT_STEPS : Fld := ⟨0x030004, 8, 8⟩
def TIME_STAT_UTC_OFFSET : Fld := ⟨0x030004, 16, 8⟩
def TIME_OFFSET_OFFSET : Fld := ⟨0x030008, 0, 32⟩
def TIME_CTL_SET : Fld := ⟨0x03000C, 0, 1⟩
def TIME_CTL_LOCK : Fld := ⟨0x03000C, 1, 1⟩
def TIME_SET_LO_SEC : Fld := ⟨0x030010, 0, 32⟩
def TIME_SET_HI_SEC : Fld := ⟨0x030014, 0, 16⟩
def TIME_TC_TEMP (n : Nat) : Fld := ⟨0x030100 + 0x4 * n, 0, 12⟩
def TIME_TC_PPB (n : Nat) : Fld := ⟨0x030100 + 0x4 * n, 12, 20⟩

/-! ### 19_dram_and_tile_memory -/

def DRC_SIZE_D_GIB : Fld := ⟨0x400000, 0, 12⟩
def DRC_SIZE_CONFIG_ERR : Fld := ⟨0x400000, 12, 1⟩
def DRC_SIZE_RATE : Fld := ⟨0x400000, 13, 2⟩
def DRC_SIZE_CREC_WAITS : Fld := ⟨0x400000, 16, 16⟩
def DRC_CH_CE (n : Nat) : Fld := ⟨0x400100 + 0x10 * n, 0, 16⟩
def DRC_CH_UE (n : Nat) : Fld := ⟨0x400100 + 0x10 * n, 16, 8⟩
def DRC_CH_RETRAINS (n : Nat) : Fld := ⟨0x400100 + 0x10 * n, 24, 8⟩
def DRC_TRAIN_INTERVAL : Fld := ⟨0x400010, 0, 10⟩
def DRC_TRAIN_TEMP_DELTA : Fld := ⟨0x400010, 10, 5⟩
def DRC_RH_THRESHOLD : Fld := ⟨0x400014, 0, 12⟩
def DRC_RH_HOLD_US : Fld := ⟨0x400014, 12, 4⟩
def DRC_RH_THROTTLES : Fld := ⟨0x400014, 16, 16⟩
def DRC_PPR_CE_LIMIT : Fld := ⟨0x400018, 0, 8⟩
def DRC_PPR_REPAIRS : Fld := ⟨0x400018, 8, 12⟩
def DRC_PPR_MAPPED : Fld := ⟨0x400018, 20, 12⟩
def TMEM_CTL_TEST_EN : Fld := ⟨0x440000, 0, 1⟩
def TMEM_CTL_LOCK : Fld := ⟨0x440000, 1, 1⟩
def TMEM_TEST_OFFSET : Fld := ⟨0x440004, 0, 28⟩
def TMEM_TEST_CLAIM : Fld := ⟨0x440004, 28, 1⟩
def TMEM_TEST_ACT : Fld := ⟨0x440004, 29, 1⟩
def TMEM_TEST_HELD : Fld := ⟨0x440004, 30, 1⟩
def TMEM_TEST_ERR : Fld := ⟨0x440004, 31, 1⟩
def TMEM_TDATA_LO_DATA : Fld := ⟨0x440008, 0, 32⟩
def TMEM_TDATA_HI_DATA : Fld := ⟨0x44000C, 0, 32⟩
def TMEM_TPAR_PAR : Fld := ⟨0x440010, 0, 8⟩
def TMEM_TPAR_OP : Fld := ⟨0x440010, 8, 2⟩
def TMEM_TPAR_RELEASE : Fld := ⟨0x440010, 10, 1⟩
def TMEM_SCRUB_FIRST_VALUE : Fld := ⟨0x440020, 0, 32⟩
def TMEM_SCRUB_BYTES_VALUE : Fld := ⟨0x440024, 0, 32⟩
def TMEM_SCRUB_CTL_START : Fld := ⟨0x440028, 0, 1⟩
def TMEM_SCRUB_CTL_BUSY : Fld := ⟨0x440028, 1, 1⟩
def TMEM_SCRUB_CTL_START_ERR : Fld := ⟨0x440028, 2, 1⟩
def TMEM_SCRUB_WORDS_VALUE : Fld := ⟨0x44002C, 0, 32⟩
def TMEM_SCRUB_ERRS_VALUE : Fld := ⟨0x440030, 0, 32⟩
def TMEM_SCRUB_FIRSTERR_VALUE : Fld := ⟨0x440034, 0, 32⟩
def TMEM_SCRUB_LASTERR_VALUE : Fld := ⟨0x440038, 0, 32⟩
def TMEM_SPARE_TILES (n : Nat) : Fld := ⟨0x440040 + 0x4 * n, 0, 2⟩
def TMEM_SPARE_ROWS_USED (n : Nat) : Fld := ⟨0x440040 + 0x4 * n, 2, 14⟩
def TMEM_SPARE_WITHDRAWN (n : Nat) : Fld := ⟨0x440040 + 0x4 * n, 16, 16⟩
def TMEM_PERR_COUNT : Fld := ⟨0x440050, 0, 32⟩

/-! ### 20_power_and_thermal -/

def PWR_CFG_POISE_IDLE : Fld := ⟨0x010000, 0, 16⟩
def PWR_CFG_AUTO_POISE : Fld := ⟨0x010000, 16, 1⟩
def PWR_STAT_STATE : Fld := ⟨0x010004, 0, 3⟩
def PWR_STAT_MOVING : Fld := ⟨0x010004, 3, 1⟩
def PWR_STAT_TARGET : Fld := ⟨0x010004, 4, 3⟩
def PWR_STAT_THERMAL_HOLD : Fld := ⟨0x010004, 7, 1⟩
def PWR_STAT_THROTTLE : Fld := ⟨0x010004, 8, 2⟩
def PWR_GOV_FLOOR_PACE : Fld := ⟨0x010010, 0, 12⟩
def PWR_GOV_STEP_MV : Fld := ⟨0x010010, 12, 4⟩
def PWR_GOV_LOWER_MS : Fld := ⟨0x010010, 16, 8⟩
def PWR_GOV_FLOOR_MV : Fld := ⟨0x010010, 24, 8⟩
def PWR_RAIL_ADDR (n : Nat) : Fld := ⟨0x010100 + 0x4 * n, 0, 7⟩
def PWR_RAIL_LOCK (n : Nat) : Fld := ⟨0x010100 + 0x4 * n, 7, 1⟩
def PWR_RAIL_VMIN_MV (n : Nat) : Fld := ⟨0x010100 + 0x4 * n, 8, 12⟩
def PWR_RAIL_VMAX_MV (n : Nat) : Fld := ⟨0x010100 + 0x4 * n, 20, 12⟩
def PWR_VOUT_MV (n : Nat) : Fld := ⟨0x010110 + 0x4 * n, 0, 12⟩
def PWR_VOUT_CENTI_A (n : Nat) : Fld := ⟨0x010110 + 0x4 * n, 12, 16⟩
def THM_SENS_TEMP (n : Nat) : Fld := ⟨0x020000 + 0x4 * n, 0, 12⟩
def THM_SENS_FAILED (n : Nat) : Fld := ⟨0x020000 + 0x4 * n, 12, 1⟩
def THM_SENS_PEAK (n : Nat) : Fld := ⟨0x020000 + 0x4 * n, 16, 12⟩
def THM_THR_WARN (n : Nat) : Fld := ⟨0x020100 + 0x4 * n, 0, 8⟩
def THM_THR_THROTTLE (n : Nat) : Fld := ⟨0x020100 + 0x4 * n, 8, 8⟩
def THM_THR_TRIP (n : Nat) : Fld := ⟨0x020100 + 0x4 * n, 16, 8⟩
def THM_THR_ENABLE (n : Nat) : Fld := ⟨0x020100 + 0x4 * n, 24, 1⟩
def THM_CFG_ADMIT_PCT : Fld := ⟨0x020200, 0, 7⟩
def THM_CFG_AUTO_RESUME : Fld := ⟨0x020200, 7, 1⟩
def THM_CFG_CAP_PACE : Fld := ⟨0x020200, 8, 12⟩
def THM_CFG_LOCK : Fld := ⟨0x020200, 20, 1⟩
def THM_RCH_NTC (n : Nat) : Fld := ⟨0x020300 + 0x4 * n, 0, 1⟩
def THM_RCH_BETA (n : Nat) : Fld := ⟨0x020300 + 0x4 * n, 1, 15⟩
def THM_RCH_IDEAL (n : Nat) : Fld := ⟨0x020300 + 0x4 * n, 16, 8⟩
def THM_STAT_FAILED : Fld := ⟨0x020204, 0, 32⟩
def THM_REC_STAT_UNACKED : Fld := ⟨0x020208, 0, 7⟩
def THM_REC_STAT_OVERFLOW : Fld := ⟨0x020208, 8, 8⟩
def THM_REC_STAT_TRIPS : Fld := ⟨0x020208, 16, 16⟩

/-! ### 21_boot_update_spares -/

def TOP_BOOT_SLOT : Fld := ⟨0x000030, 0, 1⟩
def TOP_BOOT_SOURCE : Fld := ⟨0x000030, 1, 2⟩
def TOP_BOOT_AREAS_OK : Fld := ⟨0x000030, 3, 4⟩
def TOP_BOOT_WARM : Fld := ⟨0x000030, 7, 1⟩
def TOP_BOOT_REVERTED : Fld := ⟨0x000030, 8, 1⟩
def TOP_BOOT_UPDATE : Fld := ⟨0x000030, 9, 1⟩
def TOP_FW_VER_VERSION (n : Nat) : Fld := ⟨0x000034 + 0x4 * n, 0, 32⟩
def TOP_FW_CTL_CONFIRM : Fld := ⟨0x00003C, 0, 1⟩
def TOP_FW_CTL_ERR : Fld := ⟨0x00003C, 1, 1⟩
def TOP_ROLLBACK_FLOOR : Fld := ⟨0x000040, 0, 7⟩
def TOP_ROLLBACK_ACTIVE_SVN : Fld := ⟨0x000040, 8, 7⟩
def TOP_ROLLBACK_OTHER_SVN : Fld := ⟨0x000040, 16, 7⟩
def TOP_LIFE_DAYS : Fld := ⟨0x000044, 0, 16⟩
def TOP_LIFE_KIND : Fld := ⟨0x000044, 16, 4⟩
def TOP_LIFE_WARN : Fld := ⟨0x000044, 20, 1⟩
def TOP_LIFE_CFG_WARN_DAYS : Fld := ⟨0x000048, 0, 12⟩
def TOP_LDPC_SPARE_HARD : Fld := ⟨0x00004C, 0, 4⟩
def TOP_LDPC_SPARE_SOFT : Fld := ⟨0x00004C, 4, 4⟩

/-! ### 22_faults_and_limits -/

def FLT_EVT_NEXT_LO_SEQ : Fld := ⟨0x480000, 0, 32⟩
def FLT_EVT_NEXT_HI_SEQ : Fld := ⟨0x480004, 0, 32⟩
def FLT_EVT_OLD_LO_SEQ : Fld := ⟨0x480008, 0, 32⟩
def FLT_EVT_OLD_HI_SEQ : Fld := ⟨0x48000C, 0, 32⟩
def FLT_EVT_OVF_COUNT : Fld := ⟨0x480010, 0, 32⟩
def FLT_EVT_CFG_IBI : Fld := ⟨0x480014, 0, 3⟩
def FLT_FENCE_FENCED : Fld := ⟨0x480200, 0, 1⟩
def FLT_FENCE_CAUSE : Fld := ⟨0x480200, 16, 16⟩

/-! ### 23_pins_and_electrical -/

def PWR_AUX_ADDR (n : Nat) : Fld := ⟨0x010120 + 0x4 * n, 0, 7⟩
def PWR_AUX_LOCK (n : Nat) : Fld := ⟨0x010120 + 0x4 * n, 7, 1⟩
def PWR_AUX_ON (n : Nat) : Fld := ⟨0x010120 + 0x4 * n, 8, 1⟩

/-! ### 11_cipher_and_digest -/

def DIG_LANE_IN_SERVICE (n : Nat) : Fld := ⟨0x380000 + 0x8 * n, 0, 1⟩
def DIG_LANE_KAT_FAIL (n : Nat) : Fld := ⟨0x380000 + 0x8 * n, 1, 1⟩
def DIG_LANE_BUSY (n : Nat) : Fld := ⟨0x380000 + 0x8 * n, 2, 1⟩
def DIG_LANE_SLOTS (n : Nat) : Fld := ⟨0x380000 + 0x8 * n, 4, 7⟩
def DIG_LANE_QUEUE (n : Nat) : Fld := ⟨0x380000 + 0x8 * n, 11, 7⟩
def DIG_LANE_QUADRANT (n : Nat) : Fld := ⟨0x380000 + 0x8 * n, 18, 2⟩

/-! ### 11 -/

def DIG_CFG_FAIR : Fld := ⟨0x380400, 0, 7⟩

end Sys2Proof.Machine
end

