-- ==== Sys2Proof/Machine/RegTable.lean ====
section
/-! DEFINITION. The register tables of the manager control space, block by block (R10, R18, R19): for every register its
base address, stride, count and its fields with access code and reset value.  A field whose reset value the
specification takes from fuses, straps, the anchor store, die profiles or the installed memory is computed by the
views of `Machine/Views*.lean` and stands here with 0.  Reserved bits have no entry: they read as zero (R10). -/

namespace Sys2Proof.Machine

/-- Registers of block TOP (Table 0-4). -/
def regsTop : List RegSpec :=
  [
  -- TOP_IDENT
  ⟨0x000000, 4, 1,
   [⟨0, 16, .ro, fun _ => 0x7180⟩,
    ⟨16, 4, .ro, fun _ => 0x1⟩,
    ⟨20, 4, .ro, fun _ => 0x0⟩,
    ⟨24, 8, .ro, fun _ => 0x51⟩]⟩,
  -- TOP_SERIAL_LO
  ⟨0x000004, 4, 1,
   [⟨0, 32, .ro, fun _ => 0⟩]⟩,
  -- TOP_SERIAL_HI
  ⟨0x000008, 4, 1,
   [⟨0, 16, .ro, fun _ => 0⟩]⟩,
  -- TOP_STRAP
  ⟨0x000010, 4, 1,
   [⟨0, 2, .ro, fun _ => 0⟩,
    ⟨2, 30, .ro, fun _ => 0⟩]⟩,
  -- TOP_DEBUG
  ⟨0x000020, 4, 1,
   [⟨0, 1, .ro, fun _ => 0⟩,
    ⟨1, 1, .ro, fun _ => 0⟩]⟩,
  -- TOP_BOOT
  ⟨0x000030, 4, 1,
   [⟨0, 1, .ro, fun _ => 0⟩,
    ⟨1, 2, .ro, fun _ => 0⟩,
    ⟨3, 4, .ro, fun _ => 0⟩,
    ⟨7, 1, .ro, fun _ => 0⟩,
    ⟨8, 1, .w1c, fun _ => 0⟩,
    ⟨9, 1, .ro, fun _ => 0⟩]⟩,
  -- TOP_FW_VER
  ⟨0x000034, 4, 2,
   [⟨0, 32, .ro, fun _ => 0⟩]⟩,
  -- TOP_FW_CTL
  ⟨0x00003C, 4, 1,
   [⟨0, 1, .wo, fun _ => 0⟩,
    ⟨1, 1, .w1c, fun _ => 0⟩]⟩,
  -- TOP_ROLLBACK
  ⟨0x000040, 4, 1,
   [⟨0, 7, .ro, fun _ => 0⟩,
    ⟨8, 7, .ro, fun _ => 0⟩,
    ⟨16, 7, .ro, fun _ => 0⟩]⟩,
  -- TOP_LIFE
  ⟨0x000044, 4, 1,
   [⟨0, 16, .ro, fun _ => 0xFFFF⟩,
    ⟨16, 4, .ro, fun _ => 0xF⟩,
    ⟨20, 1, .ro, fun _ => 0⟩]⟩,
  -- TOP_LIFE_CFG
  ⟨0x000048, 4, 1,
   [⟨0, 12, (.rwc (.range 30 3650)), fun _ => 365⟩]⟩,
  -- TOP_LDPC_SPARE
  ⟨0x00004C, 4, 1,
   [⟨0, 4, .ro, fun _ => 0xF⟩,
    ⟨4, 4, .ro, fun _ => 0xF⟩]⟩]

/-- Registers of block PWR (Table 0-4). -/
def regsPwr : List RegSpec :=
  [
  -- PWR_PACE
  ⟨0x010200, 4, 4,
   [⟨0, 16, .ro, fun _ => 0x0400⟩,
    ⟨16, 3, .ro, fun _ => 0x0⟩,
    ⟨19, 8, .ro, fun _ => 0xFF⟩,
    ⟨31, 1, .ro, fun _ => 0⟩]⟩,
  -- PWR_PACE_LOW
  ⟨0x010210, 4, 4,
   [⟨0, 16, .ro, fun _ => 0xFFFF⟩,
    ⟨31, 1, .wo, fun _ => 0⟩]⟩,
  -- PWR_CFG
  ⟨0x010000, 4, 1,
   [⟨0, 16, (.rwc (.range 10 65535)), fun _ => 100⟩,
    ⟨16, 1, .rw, fun _ => 1⟩]⟩,
  -- PWR_STAT
  ⟨0x010004, 4, 1,
   [⟨0, 3, .ro, fun _ => 0x0⟩,
    ⟨3, 1, .ro, fun _ => 0⟩,
    ⟨4, 3, .ro, fun _ => 0x0⟩,
    ⟨7, 1, .ro, fun _ => 0⟩,
    ⟨8, 2, .ro, fun _ => 0x0⟩]⟩,
  -- PWR_GOV
  ⟨0x010010, 4, 1,
   [⟨0, 12, (.rwc (.range 512 1536)), fun _ => 1024⟩,
    ⟨12, 4, (.rwc (.range 5 15)), fun _ => 10⟩,
    ⟨16, 8, (.rwc (.range 1 255)), fun _ => 10⟩,
    ⟨24, 8, (.rwc (.range 0 150)), fun _ => 25⟩]⟩,
  -- PWR_RAIL
  ⟨0x010100, 4, 4,
   [⟨0, 7, (.rwl (PWR_RAIL_LOCK)), fun n => 0x40 + n⟩,
    ⟨7, 1, .w1s, fun _ => 0⟩,
    ⟨8, 12, (.rwl (PWR_RAIL_LOCK)), fun _ => 600⟩,
    ⟨20, 12, (.rwl (PWR_RAIL_LOCK)), fun _ => 900⟩]⟩,
  -- PWR_VOUT
  ⟨0x010110, 4, 4,
   [⟨0, 12, .ro, fun _ => 0x000⟩,
    ⟨12, 16, .ro, fun _ => 0x0000⟩]⟩,
  -- PWR_AUX
  ⟨0x010120, 4, 4,
   [⟨0, 7, (.rwl (PWR_AUX_LOCK)), fun n => 0x44 + n⟩,
    ⟨7, 1, .w1s, fun _ => 0⟩,
    ⟨8, 1, .ro, fun _ => 1⟩]⟩]

/-- Registers of block THM (Table 0-4). -/
def regsThm : List RegSpec :=
  [
  -- THM_SENS
  ⟨0x020000, 4, 32,
   [⟨0, 12, .ro, fun _ => 0x000⟩,
    ⟨12, 1, .ro, fun _ => 0⟩,
    ⟨16, 12, .ro, fun _ => 0x000⟩]⟩,
  -- THM_THR
  ⟨0x020100, 4, 32,
   [⟨0, 8, (.rwc (.special)), fun n => if n ≥ 24 then 70 else 100⟩,
    ⟨8, 8, (.rwc (.special)), fun n => if n ≥ 24 then 75 else 107⟩,
    ⟨16, 8, (.rwl (fun _ => THM_CFG_LOCK)), fun n => if n ≥ 24 then 85 else 118⟩,
    ⟨24, 1, (.rwl (fun _ => THM_CFG_LOCK)), fun n => if n ≥ 24 then Config.sensorUsed n else 1⟩]⟩,
  -- THM_CFG
  ⟨0x020200, 4, 1,
   [⟨0, 7, (.rwc (.range 10 90)), fun _ => 50⟩,
    ⟨7, 1, (.rwl (fun _ => THM_CFG_LOCK)), fun _ => 0⟩,
    ⟨8, 12, (.rwc (.range 512 1024)), fun _ => 900⟩,
    ⟨20, 1, .w1s, fun _ => 0⟩]⟩,
  -- THM_RCH
  ⟨0x020300, 4, 8,
   [⟨0, 1, (.rwl (fun _ => THM_CFG_LOCK)), fun _ => 0⟩,
    ⟨1, 15, (.rwl (fun _ => THM_CFG_LOCK)), fun _ => 3435⟩,
    ⟨16, 8, (.rwl (fun _ => THM_CFG_LOCK)), fun _ => 101⟩]⟩,
  -- THM_STAT
  ⟨0x020204, 4, 1,
   [⟨0, 32, .ro, fun _ => 0x00000000⟩]⟩,
  -- THM_REC_STAT
  ⟨0x020208, 4, 1,
   [⟨0, 7, .ro, fun _ => 0⟩,
    ⟨8, 8, .ro, fun _ => 0⟩,
    ⟨16, 16, .ro, fun _ => 0⟩]⟩]

/-- Registers of block TIME (Table 0-4). -/
def regsTime : List RegSpec :=
  [
  -- TIME_CFG
  ⟨0x030000, 4, 1,
   [⟨0, 8, .rw, fun _ => 0x00⟩,
    ⟨8, 1, .rw, fun _ => 0⟩,
    ⟨9, 2, .rw, fun _ => 0x0⟩,
    ⟨11, 5, .rw, fun _ => 0x1F⟩,
    ⟨16, 3, .rw, fun _ => 0x0⟩,
    ⟨19, 1, .ro, fun _ => 0⟩,
    ⟨20, 8, (.rwc (.range 1 168)), fun _ => 24⟩]⟩,
  -- TIME_STAT
  ⟨0x030004, 4, 1,
   [⟨0, 2, .ro, fun _ => 0x0⟩,
    ⟨2, 5, .ro, fun _ => 0x1F⟩,
    ⟨7, 1, .w1c, fun _ => 0⟩,
    ⟨8, 8, .ro, fun _ => 0x00⟩,
    ⟨16, 8, .ro, fun _ => 0x00⟩]⟩,
  -- TIME_OFFSET
  ⟨0x030008, 4, 1,
   [⟨0, 32, .ro, fun _ => 0x00000000⟩]⟩,
  -- TIME_CTL
  ⟨0x03000C, 4, 1,
   [⟨0, 1, .wo, fun _ => 0⟩,
    ⟨1, 1, .w1s, fun _ => 0⟩]⟩,
  -- TIME_SET_LO
  ⟨0x030010, 4, 1,
   [⟨0, 32, .rw, fun _ => 0x00000000⟩]⟩,
  -- TIME_SET_HI
  ⟨0x030014, 4, 1,
   [⟨0, 16, .rw, fun _ => 0x00000000⟩]⟩,
  -- TIME_TC
  ⟨0x030100, 4, 32,
   [⟨0, 12, (.rwl (fun _ => TIME_CTL_LOCK)), fun _ => 0⟩,
    ⟨12, 20, (.rwl (fun _ => TIME_CTL_LOCK)), fun _ => 0⟩]⟩]

/-- Registers of block ETH (Table 0-4). -/
def regsEth : List RegSpec :=
  [
  -- ETH_GCFG
  ⟨0x040000, 64, 4,
   [⟨0, 2, .rw, fun _ => 0x0⟩,
    ⟨2, 1, .rw, fun _ => 1⟩,
    ⟨3, 5, (.rwc (.range 8 20)), fun _ => 14⟩,
    ⟨8, 8, .rw, fun _ => 0x00⟩]⟩,
  -- ETH_GSTAT
  ⟨0x040004, 64, 4,
   [⟨0, 4, .ro, fun _ => 0x0⟩,
    ⟨4, 1, .ro, fun _ => 1⟩,
    ⟨16, 16, .ro, fun _ => 0x0000⟩]⟩,
  -- ETH_PFC
  ⟨0x040008, 64, 4,
   [⟨0, 8, (.rwc (.special)), fun _ => 64⟩,
    ⟨8, 8, (.rwc (.special)), fun _ => 32⟩]⟩,
  -- ETH_ETS_MAP
  ⟨0x04000C, 64, 4,
   [⟨0, 16, .rw, fun _ => 0x0000⟩,
    ⟨16, 4, .rw, fun _ => 0x0⟩]⟩,
  -- ETH_ETS_BW
  ⟨0x040010, 64, 4,
   [⟨0, 32, (.rwc (.special)), fun _ => 0x19191919⟩]⟩,
  -- ETH_PORT_PTP
  ⟨0x041000, 4, 17,
   [⟨0, 20, (.rwl (fun _ => ETH_CTL_LOCK)), fun _ => 0⟩]⟩,
  -- ETH_ADDR_SEL
  ⟨0x042000, 4, 1,
   [⟨0, 5, .rw, fun _ => 0x00⟩,
    ⟨5, 1, .rw, fun _ => 0⟩,
    ⟨6, 1, .wo, fun _ => 0⟩,
    ⟨7, 1, .wo, fun _ => 0⟩]⟩,
  -- ETH_ADDR_DATA
  ⟨0x042004, 4, 4,
   [⟨0, 32, .rw, fun _ => 0x00000000⟩]⟩,
  -- ETH_CM_QPN
  ⟨0x042014, 4, 1,
   [⟨0, 24, .ro, fun _ => 0x000000⟩,
    ⟨24, 1, .ro, fun _ => 0⟩,
    ⟨25, 1, .w1c, fun _ => 0⟩]⟩,
  -- ETH_CTL
  ⟨0x043000, 4, 1,
   [⟨0, 1, .w1s, fun _ => 0⟩]⟩]

/-- Registers of block PEER (Table 0-4). -/
def regsPeer : List RegSpec :=
  [
  -- PEER_CFG
  ⟨0x080000, 4, 1,
   [⟨0, 6, (.rwc (.range 24 39)), fun _ => 36⟩,
    ⟨8, 1, .rw, fun _ => 0⟩]⟩,
  -- PEER_CTL
  ⟨0x080004, 4, 1,
   [⟨0, 1, .wo, fun _ => 0⟩,
    ⟨1, 1, .wo, fun _ => 0⟩,
    ⟨2, 1, .wo, fun _ => 0⟩]⟩,
  -- PEER_STAT
  ⟨0x080008, 4, 1,
   [⟨0, 3, .ro, fun _ => 0x0⟩,
    ⟨3, 1, .ro, fun _ => 0⟩,
    ⟨4, 4, .ro, fun _ => 0x0⟩,
    ⟨8, 1, .ro, fun _ => 0⟩,
    ⟨9, 1, .ro, fun _ => 0⟩]⟩,
  -- PEER_LINK
  ⟨0x08000C, 4, 1,
   [⟨0, 17, .ro, fun _ => 0x00000⟩,
    ⟨17, 1, .ro, fun _ => 0⟩,
    ⟨18, 1, .ro, fun _ => 0⟩,
    ⟨19, 1, .ro, fun _ => 0⟩,
    ⟨20, 12, .ro, fun _ => 0x000⟩]⟩,
  -- PEER_HB
  ⟨0x080010, 4, 1,
   [⟨0, 16, .ro, fun _ => 0x0000⟩,
    ⟨16, 16, .ro, fun _ => 0x0000⟩]⟩,
  -- PEER_MIRROR
  ⟨0x080014, 4, 1,
   [⟨0, 8, .ro, fun _ => 0x00⟩,
    ⟨8, 9, .ro, fun _ => 0x000⟩]⟩,
  -- PEER_TKO
  ⟨0x080018, 4, 1,
   [⟨0, 16, .ro, fun _ => 0x0000⟩,
    ⟨16, 16, .ro, fun _ => 0xFFFF⟩]⟩]

/-- Registers of block TEN (Table 0-4). -/
def regsTen : List RegSpec :=
  [
  -- TEN_QSEL
  ⟨0x090100, 4, 1,
   [⟨0, 14, .rw, fun _ => 0x0000⟩]⟩,
  -- TEN_QSTAT
  ⟨0x090104, 4, 1,
   [⟨0, 13, .ro, fun _ => 0x0000⟩,
    ⟨16, 13, .ro, fun _ => 0x0000⟩,
    ⟨29, 1, .ro, fun _ => 0⟩,
    ⟨30, 1, .ro, fun _ => 0⟩,
    ⟨31, 1, .ro, fun _ => 0⟩]⟩,
  -- TEN_QSEQ
  ⟨0x090108, 4, 1,
   [⟨0, 32, .ro, fun _ => 0x00000000⟩]⟩,
  -- TEN_QERR
  ⟨0x09010C, 4, 1,
   [⟨0, 16, .ro, fun _ => 0x0000⟩,
    ⟨16, 16, .ro, fun _ => 0x0000⟩]⟩,
  -- STRM_ADM_CFG
  ⟨0x090400, 4, 1,
   [⟨0, 7, (.rwc (.range 50 95)), fun _ => 90⟩,
    ⟨8, 7, (.rwc (.range 8 64)), fun _ => 16⟩,
    ⟨16, 12, (.rwc (.range 0 3600)), fun _ => 0⟩,
    ⟨28, 4, (.rwc (.range 1 15)), fun _ => 2⟩]⟩,
  -- STRM_ADM_TIME
  ⟨0x090404, 4, 1,
   [⟨0, 16, .ro, fun _ => 80⟩,
    ⟨16, 16, .ro, fun _ => 0⟩]⟩,
  -- STRM_ADM_STAT
  ⟨0x090408, 4, 1,
   [⟨0, 12, .ro, fun _ => 0x000⟩,
    ⟨12, 12, .ro, fun _ => 0x400⟩,
    ⟨24, 1, .ro, fun _ => 0⟩]⟩,
  -- STRM_ADM_FLASH
  ⟨0x09040C, 4, 1,
   [⟨0, 16, .ro, fun _ => 0x0000⟩,
    ⟨16, 16, .ro, fun _ => 0⟩]⟩,
  -- STRM_ADM_PRIMER
  ⟨0x090410, 4, 1,
   [⟨0, 16, .ro, fun _ => 0⟩,
    ⟨16, 16, .ro, fun _ => 0x0000⟩]⟩,
  -- STRM_SEL
  ⟨0x090420, 4, 1,
   [⟨0, 16, .rw, fun _ => 0x0000⟩]⟩,
  -- STRM_STAT
  ⟨0x090424, 4, 1,
   [⟨0, 2, .ro, fun _ => 0x0⟩,
    ⟨2, 1, .ro, fun _ => 0⟩,
    ⟨3, 1, .ro, fun _ => 0⟩,
    ⟨4, 1, .ro, fun _ => 0⟩,
    ⟨5, 1, .ro, fun _ => 0⟩,
    ⟨16, 12, .ro, fun _ => 0x000⟩]⟩,
  -- STRM_COUNT
  ⟨0x090428, 4, 1,
   [⟨0, 16, .ro, fun _ => 0x0000⟩,
    ⟨16, 16, .ro, fun _ => 0x0000⟩]⟩,
  -- STRM_OVER
  ⟨0x09042C, 4, 1,
   [⟨0, 32, .ro, fun _ => 0x00000000⟩]⟩,
  -- TEN_SPOOF_CFG
  ⟨0x090200, 4, 1,
   [⟨0, 16, (.rwc (.range 100 60000)), fun _ => 1000⟩]⟩,
  -- TEN_SPOOF_STAT
  ⟨0x090204, 4, 1,
   [⟨0, 32, .ro, fun _ => 0x00000000⟩]⟩,
  -- TEN_BSEL
  ⟨0x090210, 4, 1,
   [⟨0, 10, .rw, fun _ => 0x000⟩,
    ⟨10, 2, .rw, fun _ => 0x0⟩,
    ⟨12, 2, .rw, fun _ => 0x0⟩]⟩,
  -- TEN_BDATA
  ⟨0x090214, 4, 4,
   [⟨0, 32, .rw, fun _ => 0x00000000⟩]⟩,
  -- TEN_BCTL
  ⟨0x090224, 4, 1,
   [⟨0, 1, .wo, fun _ => 0⟩,
    ⟨1, 1, .w1c, fun _ => 0⟩]⟩]

/-- Registers of block FLP (Table 0-4). -/
def regsFlp : List RegSpec :=
  [
  -- FLP_CTL
  ⟨0x100000, 4096, 64,
   [⟨0, 1, .rw, fun _ => 1⟩,
    ⟨4, 4, (.rwc (.special)), fun _ => 8⟩,
    ⟨8, 4, (.rwc (.special)), fun _ => 5⟩]⟩,
  -- FLP_STAT
  ⟨0x100004, 4096, 64,
   [⟨0, 4, .ro, fun _ => 0x0⟩,
    ⟨4, 1, .ro, fun _ => 0⟩,
    ⟨5, 1, .ro, fun _ => 0⟩,
    ⟨6, 1, .ro, fun _ => 0⟩,
    ⟨7, 1, .ro, fun _ => 0⟩,
    ⟨8, 6, .ro, fun _ => 0x00⟩,
    ⟨14, 6, .ro, fun _ => 0x00⟩]⟩,
  -- FLP_OWN
  ⟨0x100008, 4096, 64,
   [⟨0, 3, .ro, fun _ => 0x0⟩,
    ⟨3, 1, .ro, fun _ => 0⟩,
    ⟨4, 1, .ro, fun _ => 0⟩,
    ⟨16, 8, .ro, fun _ => 0x00⟩,
    ⟨24, 8, .ro, fun _ => 0x00⟩]⟩,
  -- FLP_RETRAIN
  ⟨0x10000C, 4096, 64,
   [⟨0, 10, (.rwc (.range 10 1000)), fun _ => 100⟩,
    ⟨10, 5, (.rwc (.range 2 20)), fun _ => 5⟩,
    ⟨15, 1, .wo, fun _ => 0⟩,
    ⟨16, 16, .ro, fun _ => 0x0000⟩]⟩,
  -- FLP_SLIP
  ⟨0x100010, 4096, 64,
   [⟨0, 11, (.rwc (.range 1 1024)), fun _ => 16⟩,
    ⟨16, 11, .ro, fun _ => 0x000⟩,
    ⟨27, 5, .ro, fun _ => 0x00⟩]⟩,
  -- FLP_GUARD
  ⟨0x100014, 4096, 64,
   [⟨0, 8, (.rwc (.special)), fun _ => 0xE7⟩,
    ⟨8, 8, (.rwc (.special)), fun _ => 0x50⟩,
    ⟨16, 3, .rw, fun n => n / 8⟩]⟩,
  -- FLP_GUARD_STAT
  ⟨0x100018, 4096, 64,
   [⟨0, 1, .ro, fun _ => 0⟩,
    ⟨1, 1, .ro, fun _ => 0⟩,
    ⟨2, 1, .ro, fun _ => 0⟩,
    ⟨16, 16, .ro, fun _ => 0x0000⟩]⟩,
  -- FLP_PROFILE
  ⟨0x10001C, 4096, 64,
   [⟨0, 16, .ro, fun _ => 0xFFFF⟩,
    ⟨16, 4, .ro, fun _ => 0x0⟩]⟩]

/-- Registers of block LDPC (Table 0-4). -/
def regsLdpc : List RegSpec :=
  [
  -- LDPC_CFG
  ⟨0x140000, 4, 1,
   [⟨0, 6, (.rwc (.range 4 48)), fun _ => 24⟩,
    ⟨8, 6, (.rwc (.range 8 60)), fun _ => 30⟩,
    ⟨14, 2, (.rwc (.range 1 3)), fun _ => 3⟩,
    ⟨16, 5, (.rwc (.special)), fun _ => 16⟩]⟩,
  -- LDPC_CNT
  ⟨0x140010, 4, 6,
   [⟨0, 32, .ro, fun _ => 0x00000000⟩]⟩,
  -- LDPC_RLT_SEL
  ⟨0x140100, 4, 1,
   [⟨0, 11, .rw, fun _ => 0x000⟩,
    ⟨12, 8, .rw, fun _ => 0x00⟩,
    ⟨20, 4, .rw, fun _ => 0x0⟩]⟩,
  -- LDPC_RLT_DATA
  ⟨0x140104, 4, 1,
   [⟨0, 8, .rw, fun _ => 0x00⟩,
    ⟨8, 8, .ro, fun _ => 0x80⟩]⟩]

/-- Registers of block MAP (Table 0-4). -/
def regsMap : List RegSpec :=
  [
  -- MAP_PRIMER_CFG
  ⟨0x180000, 4, 1,
   [⟨0, 6, (.rwc (.special)), fun _ => 8⟩,
    ⟨8, 7, (.rwc (.range 50 95)), fun _ => 90⟩,
    ⟨16, 7, (.rwc (.range 10 90)), fun _ => 50⟩,
    ⟨24, 7, (.rwc (.range 0 90)), fun _ => 25⟩]⟩,
  -- MAP_PRIMER_CFG2
  ⟨0x180004, 4, 1,
   [⟨0, 16, (.rwc (.range 0 60000)), fun _ => 1000⟩]⟩,
  -- MAP_PRIMER_STAT
  ⟨0x180008, 4, 1,
   [⟨0, 7, .ro, fun _ => 0⟩,
    ⟨7, 1, .ro, fun _ => 0⟩,
    ⟨8, 24, .ro, fun _ => 0x000000⟩]⟩,
  -- MAP_SCRAPE_CFG
  ⟨0x180010, 4, 1,
   [⟨0, 8, (.rwc (.range 10 200)), fun _ => 30⟩,
    ⟨8, 8, (.rwc (.special)), fun _ => 10⟩,
    ⟨16, 8, (.rwc (.special)), fun _ => 50⟩,
    ⟨24, 7, (.rwc (.range 5 50)), fun _ => 10⟩]⟩,
  -- MAP_SPACE_CFG
  ⟨0x180014, 4, 1,
   [⟨0, 8, (.rwc (.special)), fun _ => 7⟩,
    ⟨8, 8, (.rwc (.range 50 95)), fun _ => 90⟩,
    ⟨16, 8, (.rwc (.range 5 50)), fun _ => 10⟩]⟩,
  -- MAP_GSEL
  ⟨0x180020, 4, 1,
   [⟨0, 8, .rw, fun _ => 0x00⟩]⟩,
  -- MAP_GUSABLE
  ⟨0x180024, 4, 1,
   [⟨0, 32, .ro, fun _ => 0x00000000⟩]⟩,
  -- MAP_GUSED
  ⟨0x180028, 4, 1,
   [⟨0, 32, .ro, fun _ => 0x00000000⟩]⟩,
  -- MAP_GSTAT
  ⟨0x18002C, 4, 1,
   [⟨0, 16, .ro, fun _ => 0x0000⟩,
    ⟨16, 1, .ro, fun _ => 0⟩,
    ⟨17, 1, .ro, fun _ => 0⟩,
    ⟨18, 1, .ro, fun _ => 0⟩,
    ⟨19, 1, .ro, fun _ => 0⟩]⟩,
  -- MAP_CKPT_CFG
  ⟨0x180030, 4, 1,
   [⟨0, 8, (.rwc (.range 16 192)), fun _ => 64⟩]⟩,
  -- MAP_CKPT_STAT
  ⟨0x180034, 4, 1,
   [⟨0, 9, .ro, fun _ => 0x000⟩,
    ⟨9, 1, .ro, fun _ => 0⟩,
    ⟨16, 16, .ro, fun _ => 0x0000⟩]⟩,
  -- MAP_FAULTS
  ⟨0x180038, 4, 1,
   [⟨0, 32, .ro, fun _ => 0x00000000⟩]⟩,
  -- MAP_WEAR_CFG
  ⟨0x180040, 4, 1,
   [⟨0, 16, (.rwc (.range 320 32000)), fun _ => 3200⟩]⟩,
  -- MAP_DIE_SEL
  ⟨0x180044, 4, 1,
   [⟨0, 11, .rw, fun _ => 0x000⟩]⟩,
  -- MAP_DIE_WEAR
  ⟨0x180048, 4, 1,
   [⟨0, 24, .ro, fun _ => 0x000000⟩]⟩,
  -- MAP_DIE_SPARE
  ⟨0x18004C, 4, 1,
   [⟨0, 16, .ro, fun _ => 0x0000⟩,
    ⟨16, 1, .ro, fun _ => 0⟩,
    ⟨17, 1, .ro, fun _ => 0⟩]⟩,
  -- MAP_SPARE_DIES
  ⟨0x180050, 4, 1,
   [⟨0, 11, .ro, fun _ => 0x000⟩,
    ⟨16, 11, .ro, fun _ => 0x000⟩]⟩,
  -- MAP_SAND_CFG
  ⟨0x180054, 4, 1,
   [⟨0, 8, (.rwc (.range 1 90)), fun _ => 7⟩,
    ⟨8, 8, (.rwc (.range 1 20)), fun _ => 2⟩,
    ⟨16, 8, (.rwc (.special)), fun _ => 40⟩,
    ⟨24, 8, (.rwc (.range 1 255)), fun _ => 7⟩]⟩,
  -- MAP_DUMP_STAT
  ⟨0x180058, 4, 1,
   [⟨0, 2, .ro, fun _ => 0x0⟩,
    ⟨16, 16, .ro, fun _ => 0x0000⟩]⟩,
  -- MAP_OVL_STAT
  ⟨0x18005C, 4, 1,
   [⟨0, 21, .ro, fun _ => 0x000000⟩]⟩,
  -- MAP_DEDUP_CFG
  ⟨0x180100, 4, 1,
   [⟨0, 4, (.rwc (.special)), fun _ => 4⟩]⟩,
  -- MAP_DEDUP_USED
  ⟨0x180104, 4, 1,
   [⟨0, 24, .ro, fun _ => 0x000000⟩]⟩,
  -- MAP_DEDUP_SIZE
  ⟨0x180108, 4, 1,
   [⟨0, 24, .ro, fun _ => 0⟩]⟩,
  -- MAP_DEDUP_CNT
  ⟨0x180110, 4, 7,
   [⟨0, 32, .ro, fun _ => 0x00000000⟩]⟩,
  -- MAP_PINNED
  ⟨0x180130, 4, 1,
   [⟨0, 32, .ro, fun _ => 0x00000000⟩]⟩,
  -- MAP_ENT_LO
  ⟨0x180140, 4, 1,
   [⟨0, 32, .ro, fun _ => 0x00000000⟩]⟩,
  -- MAP_ENT_HI
  ⟨0x180144, 4, 1,
   [⟨0, 32, .ro, fun _ => 0x00000000⟩]⟩,
  -- MAP_CEIL_LO
  ⟨0x180148, 4, 1,
   [⟨0, 32, .ro, fun _ => 0⟩]⟩,
  -- MAP_CEIL_HI
  ⟨0x18014C, 4, 1,
   [⟨0, 32, .ro, fun _ => 0⟩]⟩,
  -- MAP_VSEL
  ⟨0x180150, 4, 1,
   [⟨0, 14, .rw, fun _ => 0x0000⟩,
    ⟨14, 1, .rw, fun _ => 0⟩]⟩]
  ++
  [
  -- MAP_VSTAT
  ⟨0x180154, 4, 1,
   [⟨0, 1, .ro, fun _ => 0⟩,
    ⟨1, 1, .ro, fun _ => 0⟩,
    ⟨2, 1, .ro, fun _ => 0⟩,
    ⟨3, 1, .ro, fun _ => 0⟩,
    ⟨4, 1, .ro, fun _ => 0⟩,
    ⟨16, 11, .ro, fun _ => 0x000⟩]⟩,
  -- MAP_VEPOCH
  ⟨0x180158, 4, 1,
   [⟨0, 16, .ro, fun _ => 0x0000⟩,
    ⟨16, 16, .ro, fun _ => 0x0000⟩]⟩,
  -- MAP_RSEL
  ⟨0x180160, 4, 1,
   [⟨0, 6, .rw, fun _ => 0x00⟩]⟩,
  -- MAP_RSTAT
  ⟨0x180164, 4, 1,
   [⟨0, 3, .ro, fun _ => 0x0⟩,
    ⟨3, 1, .ro, fun _ => 0⟩,
    ⟨4, 1, .ro, fun _ => 0⟩,
    ⟨5, 1, .ro, fun _ => 0⟩,
    ⟨8, 3, .ro, fun _ => 0x0⟩,
    ⟨16, 14, .ro, fun _ => 0x0000⟩,
    ⟨30, 1, .ro, fun _ => 0⟩]⟩,
  -- MAP_RCYCLE
  ⟨0x180168, 4, 1,
   [⟨0, 32, .ro, fun _ => 0x00000000⟩]⟩,
  -- MAP_RLAG
  ⟨0x18016C, 4, 1,
   [⟨0, 32, .ro, fun _ => 0x00000000⟩]⟩]

/-- Registers of block ARR (Table 0-4). -/
def regsArr : List RegSpec :=
  [
  -- ARR_CFG
  ⟨0x1C0000, 4, 1,
   [⟨0, 9, (.rwc (.range 5 500)), fun _ => 20⟩,
    ⟨9, 7, (.rwc (.range 5 90)), fun _ => 25⟩,
    ⟨16, 1, .rw, fun _ => 1⟩]⟩,
  -- ARR_JRN_STAT
  ⟨0x1C0004, 4, 1,
   [⟨0, 16, .ro, fun _ => 0x8000⟩,
    ⟨16, 16, .ro, fun _ => 0x0000⟩]⟩,
  -- ARR_GSEL
  ⟨0x1C0010, 4, 1,
   [⟨0, 8, .rw, fun _ => 0x00⟩]⟩,
  -- ARR_GRP_CFG
  ⟨0x1C0014, 4, 1,
   [⟨0, 3, .rw, fun _ => 0x3⟩,
    ⟨4, 1, .rw, fun _ => 1⟩]⟩,
  -- ARR_GRP_CTL
  ⟨0x1C0018, 4, 1,
   [⟨0, 1, .wo, fun _ => 0⟩,
    ⟨1, 1, .wo, fun _ => 0⟩,
    ⟨2, 1, .wo, fun _ => 0⟩,
    ⟨3, 1, .wo, fun _ => 0⟩,
    ⟨4, 1, .wo, fun _ => 0⟩]⟩,
  -- ARR_GRP_STAT
  ⟨0x1C001C, 4, 1,
   [⟨0, 3, .ro, fun _ => 0x0⟩,
    ⟨3, 2, .ro, fun _ => 0x0⟩,
    ⟨5, 1, .w1c, fun _ => 0⟩,
    ⟨6, 1, .ro, fun _ => 0⟩,
    ⟨8, 5, .ro, fun _ => 0x00⟩,
    ⟨13, 5, .ro, fun _ => 0x00⟩]⟩,
  -- ARR_GRP_MEMBER
  ⟨0x1C0100, 4, 26,
   [⟨0, 11, .ro, fun _ => 0x000⟩,
    ⟨11, 1, .ro, fun _ => 0⟩,
    ⟨12, 1, .ro, fun _ => 0⟩,
    ⟨13, 1, .ro, fun _ => 0⟩,
    ⟨14, 1, .ro, fun _ => 0⟩]⟩,
  -- ARR_REBUILD_STAT
  ⟨0x1C0020, 4, 1,
   [⟨0, 11, .ro, fun _ => 0x000⟩,
    ⟨11, 5, .ro, fun _ => 0x00⟩,
    ⟨16, 7, .ro, fun _ => 0x00⟩]⟩,
  -- ARR_LOST
  ⟨0x1C0024, 4, 1,
   [⟨0, 32, .ro, fun _ => 0x00000000⟩]⟩]

/-- Registers of block BPM (Table 0-4). -/
def regsBpm : List RegSpec :=
  [
  -- BPM_POOL
  ⟨0x200000, 32, 5,
   [⟨0, 16, .ro, fun n => poolTotal n⟩,
    ⟨16, 5, .ro, fun n => poolLog2 n⟩]⟩,
  -- BPM_FREE
  ⟨0x200004, 32, 5,
   [⟨0, 16, .ro, fun n => poolTotal n⟩,
    ⟨16, 10, .ro, fun _ => 0x000⟩,
    ⟨31, 1, .ro, fun _ => 0⟩]⟩,
  -- BPM_USE
  ⟨0x200008, 32, 5,
   [⟨0, 16, .ro, fun _ => 0x0000⟩,
    ⟨16, 16, .ro, fun _ => 0x0000⟩]⟩,
  -- BPM_USE2
  ⟨0x20000C, 32, 5,
   [⟨0, 16, .ro, fun _ => 0x0000⟩,
    ⟨16, 16, .ro, fun _ => 0x0000⟩]⟩,
  -- BPM_WM
  ⟨0x200010, 32, 5,
   [⟨0, 7, (.rwc (.range 50 85)), fun _ => 75⟩,
    ⟨8, 7, (.rwc (.special)), fun _ => 90⟩,
    ⟨16, 1, .ro, fun _ => 0⟩,
    ⟨17, 1, .ro, fun _ => 0⟩]⟩,
  -- BPM_FLOOR
  ⟨0x200014, 32, 5,
   [⟨0, 16, (.rwc (.special)), fun n => poolJFloor n⟩,
    ⟨16, 16, (.rwc (.special)), fun n => poolSFloor n⟩]⟩,
  -- BPM_VFLOOR
  ⟨0x200018, 32, 5,
   [⟨0, 16, .ro, fun _ => 0x0000⟩,
    ⟨16, 7, (.rwc (.special)), fun n => if n = 4 then 0 else 50⟩]⟩,
  -- BPM_WAITS
  ⟨0x20001C, 32, 5,
   [⟨0, 32, .ro, fun _ => 0x00000000⟩]⟩,
  -- BPM_REFWAIT
  ⟨0x200100, 4, 1,
   [⟨0, 32, .ro, fun _ => 0x00000000⟩]⟩]

/-- Registers of block SCH (Table 0-4). -/
def regsSch : List RegSpec :=
  [
  -- SCH_CFG
  ⟨0x240000, 4, 1,
   [⟨0, 7, (.rwc (.range 4 64)), fun _ => 16⟩,
    ⟨8, 10, (.rwc (.range 10 1000)), fun _ => 100⟩]⟩,
  -- SCH_SLOT_WM
  ⟨0x240004, 4, 1,
   [⟨0, 7, (.rwc (.range 50 85)), fun _ => 75⟩,
    ⟨8, 7, (.rwc (.special)), fun _ => 90⟩,
    ⟨16, 7, (.rwc (.range 0 60)), fun _ => 50⟩,
    ⟨23, 1, .ro, fun _ => 0⟩,
    ⟨24, 1, .ro, fun _ => 0⟩]⟩,
  -- SCH_SLOT_FREE
  ⟨0x240008, 4, 1,
   [⟨0, 17, .ro, fun _ => 65536⟩]⟩,
  -- SCH_SLOT_FILLED
  ⟨0x24000C, 4, 1,
   [⟨0, 17, .ro, fun _ => 0x00000⟩]⟩,
  -- SCH_SLOT_VFLOOR
  ⟨0x240010, 4, 1,
   [⟨0, 17, .ro, fun _ => 0x00000⟩]⟩,
  -- SCH_PENDING
  ⟨0x240014, 4, 1,
   [⟨0, 16, .ro, fun _ => 0x0000⟩,
    ⟨16, 16, .ro, fun _ => 0x0000⟩]⟩,
  -- SCH_SPARES
  ⟨0x240018, 4, 1,
   [⟨0, 8, .ro, fun _ => 0xAA⟩,
    ⟨8, 8, .ro, fun _ => 0x00⟩]⟩,
  -- SCH_CSEL
  ⟨0x240100, 4, 1,
   [⟨0, 8, .rw, fun _ => 0x00⟩,
    ⟨8, 2, .rw, fun _ => 0x0⟩,
    ⟨12, 4, .rw, fun _ => 0x0⟩]⟩,
  -- SCH_CRDY01
  ⟨0x240104, 4, 1,
   [⟨0, 9, .ro, fun _ => 0x000⟩,
    ⟨16, 9, .ro, fun _ => 0x000⟩]⟩,
  -- SCH_CRDY23
  ⟨0x240108, 4, 1,
   [⟨0, 9, .ro, fun _ => 0x000⟩,
    ⟨16, 9, .ro, fun _ => 0x000⟩]⟩,
  -- SCH_CDLY
  ⟨0x24010C, 4, 1,
   [⟨0, 13, .ro, fun _ => 0x0000⟩,
    ⟨16, 16, .ro, fun _ => 0x0000⟩]⟩,
  -- SCH_CLOAD
  ⟨0x240110, 4, 1,
   [⟨0, 10, .ro, fun _ => 0x000⟩,
    ⟨16, 16, .ro, fun _ => 0x0400⟩]⟩,
  -- SCH_CHIST
  ⟨0x240114, 4, 1,
   [⟨0, 32, .ro, fun _ => 0x00000000⟩]⟩,
  -- SCH_CMISS
  ⟨0x240118, 4, 1,
   [⟨0, 32, .ro, fun _ => 0x00000000⟩]⟩,
  -- SCH_CCTL
  ⟨0x24011C, 4, 1,
   [⟨0, 1, .wo, fun _ => 0⟩,
    ⟨1, 1, .wo, fun _ => 0⟩,
    ⟨2, 1, .wo, fun _ => 0⟩]⟩]

/-- Registers of block TINT (Table 0-4). -/
def regsTint : List RegSpec :=
  [
  -- TINT_CORE
  ⟨0x280000, 4, 136,
   [⟨0, 1, .ro, fun n => if n % 34 ≤ 31 then 1 else 0⟩,
    ⟨1, 1, .ro, fun n => if n % 34 ≥ 32 then 1 else 0⟩,
    ⟨2, 1, .ro, fun _ => 0⟩,
    ⟨3, 2, .ro, fun n => n / 34⟩,
    ⟨5, 5, .ro, fun _ => 0x00⟩,
    ⟨10, 9, .ro, fun _ => 256⟩]⟩,
  -- TINT_MEM
  ⟨0x280300, 4, 1,
   [⟨0, 13, .ro, fun _ => 0x0000⟩,
    ⟨16, 11, .ro, fun _ => 0x000⟩]⟩,
  -- TINT_PSEL
  ⟨0x280310, 4, 1,
   [⟨0, 10, .rw, fun _ => 0x000⟩]⟩,
  -- TINT_PSTAT
  ⟨0x280314, 4, 1,
   [⟨0, 1, .ro, fun _ => 0⟩,
    ⟨1, 1, .ro, fun _ => 0⟩,
    ⟨2, 1, .w1c, fun _ => 0⟩,
    ⟨8, 10, .ro, fun _ => 0x000⟩,
    ⟨18, 14, .ro, fun _ => 0x0000⟩]⟩,
  -- TINT_PTRAPS
  ⟨0x28031C, 4, 1,
   [⟨0, 32, .ro, fun _ => 0x00000000⟩]⟩,
  -- TINT_PTRAP
  ⟨0x280320, 4, 1,
   [⟨0, 4, .ro, fun _ => 0x0⟩,
    ⟨4, 2, .ro, fun _ => 0x0⟩,
    ⟨6, 4, .ro, fun _ => 0x0⟩,
    ⟨10, 12, .ro, fun _ => 0x000⟩]⟩,
  -- TINT_PTRAP_PC
  ⟨0x280324, 4, 1,
   [⟨0, 24, .ro, fun _ => 0x000000⟩]⟩,
  -- TINT_PTRAP_OFF
  ⟨0x280328, 4, 1,
   [⟨0, 32, .ro, fun _ => 0x00000000⟩]⟩,
  -- TINT_PMISS
  ⟨0x28032C, 4, 1,
   [⟨0, 32, .ro, fun _ => 0x00000000⟩]⟩]

/-- Registers of block STN (Table 0-4). -/
def regsStn : List RegSpec :=
  [
  -- STN_BANK
  ⟨0x2C0000, 4, 16,
   [⟨0, 2, .ro, fun n => bankKind n⟩,
    ⟨2, 1, .rw, fun _ => 0⟩,
    ⟨3, 1, .ro, fun _ => 0⟩,
    ⟨4, 10, .rw, fun _ => 0x000⟩,
    ⟨16, 13, .ro, fun _ => 0x0000⟩]⟩,
  -- STN_SPARE
  ⟨0x2C0040, 4, 16,
   [⟨0, 7, .ro, fun _ => 64⟩,
    ⟨8, 16, .ro, fun _ => 0x0000⟩]⟩,
  -- STN_LOOK_KEY
  ⟨0x2C0100, 4, 8,
   [⟨0, 32, .rw, fun _ => 0x00000000⟩]⟩,
  -- STN_LOOK_CTL
  ⟨0x2C0120, 4, 1,
   [⟨0, 16, .rw, fun _ => 0x0000⟩,
    ⟨16, 1, .wo, fun _ => 0⟩,
    ⟨17, 1, .wo, fun _ => 0⟩]⟩,
  -- STN_LOOK_RES
  ⟨0x2C0124, 4, 1,
   [⟨0, 16, .ro, fun _ => 0x0000⟩,
    ⟨16, 4, .ro, fun _ => 0x0⟩,
    ⟨20, 1, .ro, fun _ => 0⟩,
    ⟨21, 1, .ro, fun _ => 0⟩,
    ⟨22, 9, .ro, fun _ => 0x000⟩,
    ⟨31, 1, .ro, fun _ => 0⟩]⟩,
  -- STN_STAT
  ⟨0x2C0130, 4, 1,
   [⟨0, 1, .w1c, fun _ => 0⟩,
    ⟨16, 16, .ro, fun _ => 0x0000⟩]⟩]

/-- Registers of block CMP (Table 0-4). -/
def regsCmp : List RegSpec :=
  [
  -- CMP_ENG
  ⟨0x300000, 16, 16,
   [⟨0, 1, .ro, fun _ => 1⟩,
    ⟨1, 1, .ro, fun _ => 0⟩,
    ⟨2, 1, .ro, fun _ => 0⟩,
    ⟨3, 1, .ro, fun _ => 0⟩,
    ⟨4, 7, .ro, fun _ => 0x00⟩,
    ⟨16, 2, .ro, fun n => n / 4⟩]⟩,
  -- CMP_GRAINS
  ⟨0x300004, 16, 16,
   [⟨0, 32, .ro, fun _ => 0x00000000⟩]⟩,
  -- CMP_RAW
  ⟨0x300008, 16, 16,
   [⟨0, 32, .ro, fun _ => 0x00000000⟩]⟩,
  -- CMP_DERR
  ⟨0x30000C, 16, 16,
   [⟨0, 16, .ro, fun _ => 0x0000⟩,
    ⟨16, 16, .ro, fun _ => 0x0000⟩]⟩,
  -- CMP_CFG
  ⟨0x300100, 4, 1,
   [⟨0, 7, (.rwc (.range 4 64)), fun _ => 16⟩]⟩,
  -- CMP_IN_MIB
  ⟨0x300104, 4, 1,
   [⟨0, 32, .ro, fun _ => 0x00000000⟩]⟩,
  -- CMP_OUT_MIB
  ⟨0x300108, 4, 1,
   [⟨0, 32, .ro, fun _ => 0x00000000⟩]⟩]

/-- Registers of block CIP (Table 0-4). -/
def regsCip : List RegSpec :=
  [
  -- CIP_LANE
  ⟨0x340000, 16, 32,
   [⟨0, 1, .ro, fun _ => 1⟩,
    ⟨1, 1, .ro, fun _ => 0⟩,
    ⟨2, 1, .ro, fun _ => 0⟩,
    ⟨3, 1, .ro, fun _ => 0⟩,
    ⟨4, 7, .ro, fun _ => 0x00⟩,
    ⟨11, 7, .ro, fun _ => 0x00⟩,
    ⟨18, 2, .ro, fun n => n / 8⟩]⟩,
  -- CIP_AUTHFAIL
  ⟨0x340004, 16, 32,
   [⟨0, 32, .ro, fun _ => 0x00000000⟩]⟩,
  -- CIP_CFG
  ⟨0x340200, 4, 1,
   [⟨0, 7, (.rwc (.range 4 64)), fun _ => 16⟩]⟩,
  -- CIP_MASK_STAT
  ⟨0x340204, 4, 1,
   [⟨0, 4, .ro, fun _ => 0x0⟩,
    ⟨4, 4, .ro, fun _ => 0x0⟩]⟩,
  -- CIP_GSEL
  ⟨0x340210, 4, 1,
   [⟨0, 10, .rw, fun _ => 0x000⟩,
    ⟨10, 3, .rw, fun _ => 0x0⟩,
    ⟨13, 1, .rw, fun _ => 0⟩]⟩,
  -- CIP_GCNT_LO
  ⟨0x340214, 4, 1,
   [⟨0, 32, .ro, fun _ => 0x00000000⟩]⟩,
  -- CIP_GCNT_HI
  ⟨0x340218, 4, 1,
   [⟨0, 32, .ro, fun _ => 0x00000000⟩]⟩,
  -- CIP_GSTAT
  ⟨0x34021C, 4, 1,
   [⟨0, 1, .ro, fun _ => 0⟩,
    ⟨1, 1, .ro, fun _ => 0⟩,
    ⟨2, 1, .ro, fun _ => 0⟩]⟩]

/-- Registers of block DIG (Table 0-4). -/
def regsDig : List RegSpec :=
  [
  -- DIG_MEAS_VAL
  ⟨0x380500, 4, 8,
   [⟨0, 32, .wo, fun _ => 0x00000000⟩]⟩,
  -- DIG_MEAS_CTL
  ⟨0x380520, 4, 1,
   [⟨0, 5, .wo, fun _ => 0x00⟩,
    ⟨8, 1, .wo, fun _ => 0⟩]⟩,
  -- DIG_MEAS_SEL
  ⟨0x380524, 4, 1,
   [⟨0, 5, .rw, fun _ => 0x00⟩,
    ⟨16, 16, .ro, fun _ => 0x0000⟩]⟩,
  -- DIG_MEAS_DATA
  ⟨0x380540, 4, 8,
   [⟨0, 32, .ro, fun _ => 0x00000000⟩]⟩,
  -- DIG_LANE
  ⟨0x380000, 8, 64,
   [⟨0, 1, .ro, fun _ => 1⟩,
    ⟨1, 1, .ro, fun _ => 0⟩,
    ⟨2, 1, .ro, fun _ => 0⟩,
    ⟨4, 7, .ro, fun _ => 0x00⟩,
    ⟨11, 7, .ro, fun _ => 0x00⟩,
    ⟨18, 2, .ro, fun n => n / 16⟩]⟩,
  -- DIG_CFG
  ⟨0x380400, 4, 1,
   [⟨0, 7, (.rwc (.range 4 64)), fun _ => 16⟩]⟩]

/-- Registers of block SEC (Table 0-4). -/
def regsSec : List RegSpec :=
  [
  -- SEC_STAT
  ⟨0x3C0000, 4, 1,
   [⟨0, 1, .ro, fun _ => 0⟩,
    ⟨1, 1, .ro, fun _ => 0⟩,
    ⟨2, 1, .ro, fun _ => 0⟩,
    ⟨3, 1, .ro, fun _ => 0⟩,
    ⟨4, 1, .ro, fun _ => 0⟩,
    ⟨5, 1, .ro, fun _ => 0⟩,
    ⟨6, 1, .ro, fun _ => 0⟩]⟩,
  -- SEC_ES_CNT
  ⟨0x3C0004, 4, 1,
   [⟨0, 16, .ro, fun _ => 0x0000⟩,
    ⟨16, 16, .ro, fun _ => 0x0000⟩]⟩,
  -- SEC_LEAF_LO
  ⟨0x3C0010, 4, 1,
   [⟨0, 32, .ro, fun _ => 0⟩]⟩,
  -- SEC_LEAF_HI
  ⟨0x3C0014, 4, 1,
   [⟨0, 32, .ro, fun _ => 0⟩]⟩,
  -- SEC_RES_LO
  ⟨0x3C0018, 4, 1,
   [⟨0, 32, .ro, fun _ => 0⟩]⟩,
  -- SEC_RES_HI
  ⟨0x3C001C, 4, 1,
   [⟨0, 32, .ro, fun _ => 0⟩]⟩,
  -- SEC_SKIP_LO
  ⟨0x3C0020, 4, 1,
   [⟨0, 32, .ro, fun _ => 0⟩]⟩,
  -- SEC_SKIP_HI
  ⟨0x3C0024, 4, 1,
   [⟨0, 32, .ro, fun _ => 0⟩]⟩,
  -- SEC_NONCE
  ⟨0x3C0030, 4, 4,
   [⟨0, 32, .ro, fun _ => 0⟩]⟩,
  -- SEC_KCACHE
  ⟨0x3C0040, 4, 1,
   [⟨0, 13, .ro, fun _ => 0x0000⟩,
    ⟨16, 16, .ro, fun _ => 0x0000⟩]⟩,
  -- SEC_KREC
  ⟨0x3C0044, 4, 1,
   [⟨0, 16, .ro, fun _ => 0⟩,
    ⟨16, 1, .ro, fun _ => 0⟩,
    ⟨17, 1, .ro, fun _ => 0⟩]⟩]

/-- Registers of block DRC (Table 0-4). -/
def regsDrc : List RegSpec :=
  [
  -- DRC_SIZE
  ⟨0x400000, 4, 1,
   [⟨0, 12, .ro, fun _ => 0⟩,
    ⟨12, 1, .ro, fun _ => 0⟩,
    ⟨13, 2, .ro, fun _ => 0⟩,
    ⟨16, 16, .ro, fun _ => 0x0000⟩]⟩,
  -- DRC_CH
  ⟨0x400100, 16, 8,
   [⟨0, 16, .ro, fun _ => 0x0000⟩,
    ⟨16, 8, .ro, fun _ => 0x00⟩,
    ⟨24, 8, .ro, fun _ => 0x00⟩]⟩,
  -- DRC_TRAIN
  ⟨0x400010, 4, 1,
   [⟨0, 10, (.rwc (.range 50 1000)), fun _ => 100⟩,
    ⟨10, 5, (.rwc (.range 2 20)), fun _ => 5⟩]⟩,
  -- DRC_RH
  ⟨0x400014, 4, 1,
   [⟨0, 12, (.rwc (.range 256 4095)), fun _ => 1024⟩,
    ⟨12, 4, (.rwc (.range 1 15)), fun _ => 1⟩,
    ⟨16, 16, .ro, fun _ => 0x0000⟩]⟩,
  -- DRC_PPR
  ⟨0x400018, 4, 1,
   [⟨0, 8, (.rwc (.range 4 255)), fun _ => 16⟩,
    ⟨8, 12, .ro, fun _ => 0x000⟩,
    ⟨20, 12, .ro, fun _ => 0x000⟩]⟩]

/-- Registers of block TMEM (Table 0-4). -/
def regsTmem : List RegSpec :=
  [
  -- TMEM_CTL
  ⟨0x440000, 4, 1,
   [⟨0, 1, (.rwl (fun _ => TMEM_CTL_LOCK)), fun _ => 0⟩,
    ⟨1, 1, .w1s, fun _ => 0⟩]⟩,
  -- TMEM_TEST
  ⟨0x440004, 4, 1,
   [⟨0, 28, .rw, fun _ => 0x0000000⟩,
    ⟨28, 1, .wo, fun _ => 0⟩,
    ⟨29, 1, .wo, fun _ => 0⟩,
    ⟨30, 1, .ro, fun _ => 0⟩,
    ⟨31, 1, .w1c, fun _ => 0⟩]⟩,
  -- TMEM_TDATA_LO
  ⟨0x440008, 4, 1,
   [⟨0, 32, .rw, fun _ => 0x00000000⟩]⟩,
  -- TMEM_TDATA_HI
  ⟨0x44000C, 4, 1,
   [⟨0, 32, .rw, fun _ => 0x00000000⟩]⟩,
  -- TMEM_TPAR
  ⟨0x440010, 4, 1,
   [⟨0, 8, .rw, fun _ => 0x00⟩,
    ⟨8, 2, .rw, fun _ => 0x0⟩,
    ⟨10, 1, .wo, fun _ => 0⟩]⟩,
  -- TMEM_SCRUB_FIRST
  ⟨0x440020, 4, 1,
   [⟨0, 32, .rw, fun _ => 0x00000000⟩]⟩,
  -- TMEM_SCRUB_BYTES
  ⟨0x440024, 4, 1,
   [⟨0, 32, .rw, fun _ => 0x00000000⟩]⟩,
  -- TMEM_SCRUB_CTL
  ⟨0x440028, 4, 1,
   [⟨0, 1, .wo, fun _ => 0⟩,
    ⟨1, 1, .ro, fun _ => 0⟩,
    ⟨2, 1, .w1c, fun _ => 0⟩]⟩,
  -- TMEM_SCRUB_WORDS
  ⟨0x44002C, 4, 1,
   [⟨0, 32, .ro, fun _ => 0x00000000⟩]⟩,
  -- TMEM_SCRUB_ERRS
  ⟨0x440030, 4, 1,
   [⟨0, 32, .ro, fun _ => 0x00000000⟩]⟩,
  -- TMEM_SCRUB_FIRSTERR
  ⟨0x440034, 4, 1,
   [⟨0, 32, .ro, fun _ => 0xFFFFFFFF⟩]⟩,
  -- TMEM_SCRUB_LASTERR
  ⟨0x440038, 4, 1,
   [⟨0, 32, .ro, fun _ => 0xFFFFFFFF⟩]⟩,
  -- TMEM_SPARE
  ⟨0x440040, 4, 4,
   [⟨0, 2, .ro, fun _ => 2⟩,
    ⟨2, 14, .ro, fun _ => 0x0000⟩,
    ⟨16, 16, .ro, fun _ => 0x0000⟩]⟩,
  -- TMEM_PERR
  ⟨0x440050, 4, 1,
   [⟨0, 32, .ro, fun _ => 0x00000000⟩]⟩]

/-- Registers of block FLT (Table 0-4). -/
def regsFlt : List RegSpec :=
  [
  -- FLT_LEDGER_STAT
  ⟨0x480100, 4, 1,
   [⟨0, 6, .ro, fun _ => 0x00⟩,
    ⟨16, 6, .w1c, fun _ => 0x00⟩]⟩,
  -- FLT_LEDGER_TEST
  ⟨0x480104, 4, 1,
   [⟨0, 3, .wo, fun _ => 0x0⟩,
    ⟨8, 1, .wo, fun _ => 0⟩]⟩,
  -- FLT_LEDGER_AUDIT
  ⟨0x480108, 4, 1,
   [⟨0, 32, .ro, fun _ => 0x00000000⟩]⟩,
  -- FLT_BREACH_INFO
  ⟨0x480110, 4, 1,
   [⟨0, 8, .ro, fun _ => 0xFF⟩,
    ⟨8, 8, .ro, fun _ => 0x00⟩,
    ⟨16, 16, .ro, fun _ => 0x0000⟩]⟩,
  -- FLT_BREACH_LEFT_LO
  ⟨0x480114, 4, 1,
   [⟨0, 32, .ro, fun _ => 0x00000000⟩]⟩,
  -- FLT_BREACH_LEFT_HI
  ⟨0x480118, 4, 1,
   [⟨0, 32, .ro, fun _ => 0x00000000⟩]⟩,
  -- FLT_BREACH_RIGHT_LO
  ⟨0x48011C, 4, 1,
   [⟨0, 32, .ro, fun _ => 0x00000000⟩]⟩,
  -- FLT_BREACH_RIGHT_HI
  ⟨0x480120, 4, 1,
   [⟨0, 32, .ro, fun _ => 0x00000000⟩]⟩,
  -- FLT_EVT_NEXT_LO
  ⟨0x480000, 4, 1,
   [⟨0, 32, .ro, fun _ => 0⟩]⟩,
  -- FLT_EVT_NEXT_HI
  ⟨0x480004, 4, 1,
   [⟨0, 32, .ro, fun _ => 0⟩]⟩,
  -- FLT_EVT_OLD_LO
  ⟨0x480008, 4, 1,
   [⟨0, 32, .ro, fun _ => 0⟩]⟩,
  -- FLT_EVT_OLD_HI
  ⟨0x48000C, 4, 1,
   [⟨0, 32, .ro, fun _ => 0⟩]⟩,
  -- FLT_EVT_OVF
  ⟨0x480010, 4, 1,
   [⟨0, 32, .ro, fun _ => 0x00000000⟩]⟩,
  -- FLT_EVT_CFG
  ⟨0x480014, 4, 1,
   [⟨0, 3, .rw, fun _ => 0x4⟩]⟩,
  -- FLT_FENCE
  ⟨0x480200, 4, 1,
   [⟨0, 1, .ro, fun _ => 0⟩,
    ⟨16, 16, .ro, fun _ => 0x0000⟩]⟩]

/-- The registers of the block that holds byte address `a` (Table 0-4); reserved blocks hold none. -/
def blockRegs (a : Nat) : List RegSpec :=
  if a < 0x010000 then regsTop
  else if a < 0x020000 then regsPwr
  else if a < 0x030000 then regsThm
  else if a < 0x040000 then regsTime
  else if a < 0x080000 then regsEth
  else if a < 0x090000 then regsPeer
  else if a < 0x0A0000 then regsTen
  else if a < 0x100000 then []
  else if a < 0x140000 then regsFlp
  else if a < 0x180000 then regsLdpc
  else if a < 0x1C0000 then regsMap
  else if a < 0x200000 then regsArr
  else if a < 0x240000 then regsBpm
  else if a < 0x280000 then regsSch
  else if a < 0x2C0000 then regsTint
  else if a < 0x300000 then regsStn
  else if a < 0x340000 then regsCmp
  else if a < 0x380000 then regsCip
  else if a < 0x3C0000 then regsDig
  else if a < 0x400000 then regsSec
  else if a < 0x440000 then regsDrc
  else if a < 0x480000 then regsTmem
  else if a < 0x4C0000 then regsFlt
  else []

end Sys2Proof.Machine
end

