-- ==== Sys2Proof/Machine/RegFile.lean ====
section
/-! DEFINITION. The register file of the manager control space (R7, R10, R18): the words that differ from their reset
values, by address. -/

namespace Sys2Proof.Machine

/-- The stored registers: address and word, addresses strictly rising, no word equal to its reset value. -/
abbrev RegFile := Tbl Word32

/-- The register at byte address a and its index, if a is a register's address (R8). -/
def specAt (a : Nat) : Option (RegSpec × Nat) :=
  (blockRegs a).findSome? fun sp =>
    if sp.base ≤ a ∧ (a - sp.base) % sp.stride = 0 ∧ (a - sp.base) / sp.stride < sp.count
    then some (sp, (a - sp.base) / sp.stride) else none

/-- The reset word of the register at address a (R18). -/
def resetWord (a : Nat) : Word32 :=
  match specAt a with
  | none => 0
  | some (sp, i) => BitVec.ofNat 32 (sp.fields.foldl (fun w f => setBits w f.lo f.width (f.rst i)) 0)

/-- The stored word at address a. -/
def rawWord (rf : RegFile) (a : Nat) : Word32 := (tget rf a).getD (resetWord a)

/-- The register file with the word at address a set, in its canonical form. -/
def setWord (rf : RegFile) (a : Nat) (v : Word32) : RegFile :=
  if v = resetWord a then tdel rf a else tput rf a v

/-- The value of field f. -/
def RegFile.fld (rf : RegFile) (f : Fld) : Nat := bits (rawWord rf f.addr).toNat f.lo f.width

/-- The register file with field f set to v, bits beyond its width dropped. -/
def RegFile.setFld (rf : RegFile) (f : Fld) (v : Nat) : RegFile :=
  setWord rf f.addr (BitVec.ofNat 32 (setBits (rawWord rf f.addr).toNat f.lo f.width v))

/-- The canonical form of the register file. -/
def RegFile.wf (rf : RegFile) : Bool :=
  Tbl.rising rf && rf.all fun e => decide (e.2 ≠ resetWord e.1)

end Sys2Proof.Machine
end

