-- ==== Sys2Proof/Machine/State.lean ====
section
/-! DEFINITION. The state of the block: everything the specification gives the part, as plain data, and the queue of
commands that wait.  The register file holds every register whose value is stored as such; registers that show other
parts of the state are computed when they are read (Machine/Views.lean). -/

namespace Sys2Proof.Machine

/-- The part, less the queue of waiting commands. -/
structure Dev where
  /-- The model's clock, ns since power-on. -/
  now : Nat
  /-- How many free values have been drawn (the model's own). -/
  draws : Nat
  /-- What the part has put out, newest first (the model's own). -/
  out : List Out
  /-- Stored registers. -/
  regs : RegFile
  /-- Latched _HI words (R17), by source × 2^24 + address of the _LO register. -/
  latches : Tbl Word32
  tenants : Tbl Tenant
  queues : Tbl Queue
  cmds : Tbl Cmd
  nextCmd : Nat
  pools : Tbl Pool
  /-- Buffers that units of the device hold for what they were asked for (R210, R212), by that. -/
  hands : List (Use × List Nat)
  xfers : Tbl Xfer
  nextXfer : Nat
  eth : Eth
  time : TimeBase
  evt : EvtLog
  streams : Tbl Strm
  adm : Admission
  vols : Tbl Vol
  vgens : Tbl Nat
  crecs : Tbl Crec
  index : Tbl (List IdxEntry)
  sessions : Tbl Sess
  batches : List Batch
  groups : Tbl Group
  rows : Tbl Row
  /-- Fine overlay (R313): (group × 2^28 + slot) × 256 + piece to die, block and page. -/
  overlay : Tbl (Nat × Nat × Nat)
  journal : List JEntry
  /-- What journal blocks hold on flash, as the 64-byte entries programmed, by die × 2^20 + block (R377). -/
  jpages : Tbl (List Bytes)
  /-- Work that stands with the parity engines in Q1 (0) and Q3 (1), in order (R373). -/
  parityWork : List (Nat × ParityKey)
  nextJseq : Nat
  ckpt : Ckpt
  /-- Live system fragments: the last checkpoint's pages and the map-log blocks of the tail (R477). -/
  sysFrags : List SysFrag
  ports : Tbl Port
  dies : Tbl Die
  /-- Flash operations in arrival order. -/
  flash : List FlashOp
  /-- Read levels the dies are set to, by die × 16 + level. -/
  levels : Tbl Int
  /-- Accepted die profiles (R257), in order. -/
  profiles : List Profile
  /-- Training results of ports the partner owns (R271, R636), by port: the trained mode and the results. -/
  savedTraining : Tbl (Nat × Training)
  /-- Whether the power-loss dump runs (R337). -/
  dumping : Bool
  /-- Bytes folded by second coat since reset (MAP_PRIMER_STAT.FOLDED_GIB). -/
  folded : Nat
  freads : Tbl FRead
  nextRead : Nat
  /-- Learned read-level offsets, by (die × 256 + block group) × 16 + level; others hold the profile's defaults. -/
  offsets : Tbl Int
  /-- T_read at the last learning of an offset-table entry, by the same key (LDPC_RLT_DATA.LAST_TEMP), and when that was (R289). -/
  learnedAt : Tbl (Int × Nat)
  /-- Compression engines, cipher lanes and digest lanes by number; one not listed is idle. -/
  engines : Tbl Engine
  ciphers : Tbl Lane
  digests : Tbl Lane
  /-- Order of arrival of the next engine or lane message. -/
  nextOrder : Nat
  /-- Parity engines (768 + number) and LDPC decoders (1024 + number: hard ones 0–95, soft ones 96–127) that a known-answer test has taken
  out of service (R173). -/
  outOfService : List Nat
  /-- What LDPC decoder 0–127 has decoded, by number (R775); one not listed has decoded nothing. -/
  ldpc : Tbl Ldpc
  /-- Mask DRBGs by quadrant: generate requests since the last seed. -/
  masks : Tbl MaskDrbg
  /-- Loaded programs by index, generations of program indices, bindings in the order made. -/
  progs : Tbl Prog
  progGens : Tbl Nat
  bindings : List Binding
  /-- Tint cores by number; one not listed is as after reset. -/
  cores : Tbl Core
  sched : Sched
  stencil : Stencil
  peer : Peer
  sec : Sec
  tmem : Tmem
  dram : Dram
  power : Power
  thermal : Thermal
  boot : Boot
  life : LifeLog
  pins : Pins
  deriving DecidableEq, Repr

/-- The state of the block: the commands that wait, first in first out, and the part. -/
structure State where
  pending : List Instr
  dev : Dev
  deriving DecidableEq, Repr

/-- Why a step would stop.  No command of this block stops it: status codes, traps and fences are next states. -/
inductive Fault where
  /-- Raised by no command; the interface must be able to name a fault. Safe. -/
  | none
  deriving DecidableEq, Repr

/-- Why a command would have no meaning. -/
inductive Refusal where
  /-- Raised by exec's arm of a command that has no meaning yet: its row's mnemonic. Safe. -/
  | notModelled (mnemonic : String)
  deriving DecidableEq, Repr

/-! ### Reset

The part right after power-on, before its boot ROM runs (R762): registers at their reset values, an anchor store, flash and
memories that hold nothing, no command waiting.  What the specification gives no reset value is named in the assumption
log. -/

/-- The DRAM, tile memory and stencil array of a part that has done nothing. -/
def Tmem.reset : Tmem :=
  { mem := [], bad := [], rowErrs := [], rowsUsed := [], copying := [], withdrawn := [], test := none, scrub := none
    scrubs := [] }

def Dram.reset : Dram :=
  { trainedAt := [], trainedTemp := [], ces := [], held := [], soft := [], resources := [], patrol := 0, refreshed := []
    pageSpares := 4096 }

/-- Bank kinds of Table 14-2 at reset: CLASS 0, 1, 4, 8, 12; HOT 3, 7, 11, 15; the others FREE. -/
def Stencil.reset : Stencil :=
  { entries := []
    banks := [1, 1, 0, 2, 1, 0, 0, 2, 1, 0, 0, 2, 1, 0, 0, 2].map fun k => { kind := k, tenant := 0, next := none }
    cursor := none, refs := [], hand := 0, failed := [], out := [] }

def Sched.reset : Sched := { tasks := [], gens := [], pending := [], posts := [], waiting := [] }

def Mirror.reset : Mirror := { data := [], journal := [], tail := [], roots := [], standby := [], training := [], pages := [], past := [] }

def Peer.reset : Peer :=
  { txSeq := 0, unacked := [], rxSeq := 0, accepted := 0, txKey := { secret := [], counter := 0, next := none }
    rxKey := { secret := [], counter := 0, next := none }, mirror := Mirror.reset, hbSeq := 0, frameAt := 0, hbAt := 0
    aliveAt := 0, aliveIn := false, aliveOut := false, step := 0, myNonce := [], hisNonce := [], mySecret := []
    hisSecret := [], hello := none, hisUpdate := false, hisState := 0, hisHolds := 0, resyncSeq := none, hisResynced := false, handback := 0
    takeover := none, dramOff := false, owed := [], sole := false, partner := none, lanesBad := []
    hisCert := [], hisKem := [] }

def Entropy.reset : Entropy :=
  { startLeft := 1024, lastSample := 256, run := 0, aptSample := 256, aptCount := 0, aptPos := 0, pool := 0, failures := [] }

def Sec.reset : Sec :=
  { keys := [], gens := [], gcm := [], leaf := 0, record := { resEnd := 0, spent := 0, skipped := 0, bits := 0 }
    owner := none, ownerCert := [], lost := [], cache := [], wanted := [], entropy := Entropy.reset }

def Power.reset : Power :=
  { entering := none, cmd := none, idleSince := 0, busyPace := [], settled := [], reloaded := [], excluded := [] }

def Thermal.reset : Thermal :=
  { last := [], atThrottle := [], goodSince := [], warned := [], tripped := none, records := [] }

def BootRec.factory : BootRec :=
  { active := 0, pending := none, tries := 0, update := false, warm := false, gen := 0, areas := [] }

def Boot.reset : Boot :=
  { phase := .reset, record := BootRec.factory, images := [none, none], fuses := 0, firstSlot := 0, watchdog := none
    recovery := none, fetch := none, activating := none, dumped := [], dumpAt := none, dumpFails := 0, heads := [], dumpStamp := none, offTemps := []
    lostData := false, lost := [], given := none, breaches := [], meas := []
    measCount := [], measLatch := zeros 32 }

def TimeBase.reset : TimeBase :=
  { acc := 0, incr := 6871947674, everLocked := false, hasTime := false, good := 0, syncAt := 0, syncIvl := 0
    announceAt := 0, announceIvl := 0, holdSince := 0, lockedSince := 0, lockedTemp := 0, servo := 0, residual := []
    master := none, twoStep := none, delay := 0, diff := 0, reqAt := 0, ppsHigh := false, ppsAt := 0 }

/-- The part right after power-on. -/
def Dev.reset : Dev :=
  { now := 0, draws := 0, out := [], regs := [], latches := [], tenants := [], queues := [], cmds := [], nextCmd := 0
    pools := [], hands := [], xfers := [], nextXfer := 0
    eth := { qps := [], nextQpn := 1, groups := [], occupancy := [], paused := [], addrs := [], connecting := none
             remoteNaks := 0, rx := [], discarded := [] }
    time := TimeBase.reset
    evt := { recs := [], next := 0, readTo := none, suppressed := [], limited := [], ibi := none }
    streams := []
    adm := { pHold := 0, phi := 0, headroom := 0, slots := [], paceCap := 0, horizonUsed := false, indexFull := false }
    vols := [], vgens := [], crecs := [], index := [], sessions := [], batches := [], groups := [], rows := [], overlay := []
    journal := [], jpages := [], parityWork := [], nextJseq := 0, ckpt := { tail := 0, cycle := none, dirty := [], held := [], todo := none }, sysFrags := [], ports := [], dies := [], flash := [], levels := [], profiles := [], savedTraining := []
    dumping := false, folded := 0, freads := [], nextRead := 0, offsets := [], learnedAt := [], engines := [], ciphers := [], digests := []
    nextOrder := 0, outOfService := [], ldpc := [], masks := [], progs := [], progGens := [], bindings := [], cores := [], sched := Sched.reset
    stencil := Stencil.reset, peer := Peer.reset, sec := Sec.reset, tmem := Tmem.reset, dram := Dram.reset
    power := Power.reset, thermal := Thermal.reset, boot := Boot.reset, life := { used := [] }
    pins := { ir := 0, i3c := none, thermtrip := false, pwrfail := false } }

/-- The block right after power-on. -/
def State.reset : State := { pending := [], dev := Dev.reset }

end Sys2Proof.Machine
end

