-- ==== Sys2Proof/Machine/Flags.lean ====
section
/-! DEFINITION. Flags: those of a frame's header (Table 2-2) and those of a status frame (Table 2-4). -/

namespace Sys2Proof

/-- FORCE_MEDIUM: acknowledge a write only after program (R43). -/
def Msg.forceMedium (m : Msg) : Bool := m.flags.getLsbD 0

/-- INLINE: data follows the descriptors in the frame. -/
def Msg.inline (m : Msg) : Bool := m.flags.getLsbD 1

/-- FENCE: order against earlier commands of the tenant on every queue (R103). -/
def Msg.fence (m : Msg) : Bool := m.flags.getLsbD 2

/-- HOST_TUPLE: the transfer carries a protection tuple after each sector. -/
def Msg.hostTuple (m : Msg) : Bool := m.flags.getLsbD 3

/-- PRIO as the tenant sent it (R72). -/
def Msg.prio (m : Msg) : Nat := m.flags.toNat / 16 % 4

end Sys2Proof

namespace Sys2Proof.Machine

/-- The value of a status code (Table 22-3). -/
def Code.value (c : Code) : Nat :=
  match c with
  | .success => 0x0000 | .successLate => 0x0001
  | .headerCrc => 0x1001 | .sequenceInvalid => 0x1002 | .frameTruncated => 0x1003 | .queueMismatch => 0x1004
  | .opcodeInvalid => 0x1005 | .tagInUse => 0x1006 | .handleInvalid => 0x1007 | .rangeInvalid => 0x1008
  | .lengthInvalid => 0x1009 | .lengthShort => 0x100A | .descriptorInvalid => 0x100B | .notFound => 0x100C
  | .tooLate => 0x100D | .addressInvalid => 0x100E | .aborted => 0x100F | .alignmentInvalid => 0x1010
  | .paramInvalid => 0x1011 | .bufferSmall => 0x1012 | .programInvalid => 0x1013 | .programTrap => 0x1014
  | .mediaFull => 0x2001 | .noMapSpace => 0x2002 | .limit => 0x2003 | .admissionRefused => 0x2004
  | .counterExhausted => 0x2005
  | .mediaUnreadable => 0x3001 | .groupOffline => 0x3002 | .holdupShort => 0x3003 | .journalLost => 0x3004
  | .mirrorLost => 0x3005
  | .tupleMismatch => 0x4001 | .bufferParity => 0x4002 | .decompLimit => 0x4003 | .integrityFail => 0x4004
  | .managerOnly => 0x5001 | .locked => 0x5002 | .keyInvalid => 0x5003 | .keysExhausted => 0x5004
  | .signatureInvalid => 0x5005 | .rollback => 0x5006 | .entropyFailed => 0x5007
  | .droppedLate => 0x6001 | .scanTimeout => 0x6002
  | .tenantReset => 0x7001 | .tenantNotOn => 0x7002 | .readOnly => 0x7003 | .notQuiesced => 0x7004 | .inUse => 0x7005
  | .stateConflict => 0x7006 | .wrongPart => 0x7007
  | .transferFail => 0x8001 | .deviceFault => 0xF001

/-- SFLAGS of a status frame (Table 2-4). -/
def Status.sflags (s : Status) : Nat :=
  b2n s.deferredSet + 2 * b2n s.clamped + 4 * b2n s.retryable + 8 * b2n s.untrusted + 16 * b2n s.relayed + 32 * b2n s.mediumAck +
    64 * b2n s.overflow

/-- A status frame as it goes out (Table 2-3). -/
def Status.bytes (s : Status) : Bytes :=
  toLE 2 s.tag ++ toLE 2 s.code.value ++ toLE 4 s.seq ++ toLE 2 s.sflags ++ toLE 2 s.dcount ++ toLE 4 s.applied ++ toLE 8 s.retval ++
    toLE 8 s.stamp

end Sys2Proof.Machine
end

