-- ==== Sys2Proof/Machine/Operands.lean ====
section
/-! DEFINITION. The operand forms of a frame: PARAM fields at their header offsets (R122), and what the frame itself is made of. -/

namespace Sys2Proof

open Sys2Proof.Machine

/-- The k-byte PARAM field at header offset off (0x28–0x3F), least significant byte first (R4, R122). -/
def Msg.par (m : Msg) (off k : Nat) : Nat := bits m.param.toNat (8 * (off - 0x28)) (8 * k)

/-- Bytes of a PARAM field. -/
def Msg.parBytes (m : Msg) (off k : Nat) : Bytes := toLE k (m.par off k)

/-- The 32-bit PARAM words ADDRESS and VALUE of REG_READ, REG_WRITE, WIN_READ and WIN_WRITE. -/
def Msg.address (m : Msg) : Nat := m.par 0x28 4
def Msg.value (m : Msg) : Nat := m.par 0x2C 4

/-- The bytes a frame occupies in its receive queue: header, descriptors, inline data (R70). -/
def Msg.size (m : Msg) : Nat := 64 + 16 * m.descs.length + m.inl.length

end Sys2Proof
end

