-- ==== Sys2Proof/Machine/Lzw.lean ====
section
/-! DEFINITION. The adaptive dictionary code of the compression engines (R453–R458, R463). -/

namespace Sys2Proof.Machine

/-- Width of code k of a message (R455): max(9, bit length of min(256 + k, 65,535)). -/
def codeWidth (k : Nat) : Nat := Nat.log2 (satAt 65535 (256 + k)) + 1

/-- A coder's state: next code to be learned, codes emitted, learned strings as (code of the prefix, byte) to code in rising
key order, the codes with their widths, newest first. -/
structure Coder where
  next : Nat
  count : Nat
  dict : Tbl Nat
  out : List (Nat × Nat)

/-- The coder with code c emitted. -/
def Coder.put (s : Coder) (c : Nat) : Coder := { s with count := s.count + 1, out := (c, codeWidth s.count) :: s.out }

/-- The coder's loop (R454): w is the code of the string held. -/
def lzwLoop (s : Coder) (w : Nat) : Bytes → Coder
  | [] => s.put w
  | c :: r =>
    match tget s.dict (w * 256 + c.toNat) with
    | some w' => lzwLoop s w' r
    | none =>
      let s := s.put w
      let s := if s.next ≤ 65535 then { s with dict := tput s.dict (w * 256 + c.toNat) s.next, next := s.next + 1 } else s
      lzwLoop s c.toNat r

/-- The codes of a message, END included, with their widths, newest first. -/
def lzwCodes (b : Bytes) : List (Nat × Nat) :=
  match b with
  | [] => [(256, 9)]
  | c :: r => ((lzwLoop { next := 257, count := 0, dict := [], out := [] } c.toNat r).put 256).out

/-- Codes packed least significant bit first (R456), newest first, into a number. -/
def packCodes : List (Nat × Nat) → Nat
  | [] => 0
  | l => l.foldl (fun n c => n * 2 ^ c.2 + c.1) 0

/-- The coded stream of a message (R454–R456), and how many codes it holds. -/
def lzwCode (b : Bytes) : Bytes × Nat :=
  let cs := lzwCodes b
  (toLE (ceilDiv (sumN (cs.map (·.2))) 8) (packCodes cs), cs.length)

/-- The codes of a message, oldest first, up to the one with which its output exceeds `limit` bytes: whether there is one, and the codes, newest first. -/
def codesUpTo (limit : Nat) : Nat → List (Nat × Nat) → List (Nat × Nat) → Bool × List (Nat × Nat)
  | _, done, [] => (false, done)
  | n, done, c :: r => if 8 * limit < n + c.2 then (true, c :: done) else codesUpTo limit (n + c.2) (c :: done) r

/-- The coder under LIMIT (R460): whether it has stopped as its output exceeded it, the output of the codes emitted until then, and how many they are. -/
def lzwUpTo (limit : Nat) (b : Bytes) : Bool × Bytes × Nat :=
  let r := codesUpTo limit 0 [] (lzwCodes b).reverse
  (r.1, toLE (ceilDiv (sumN (r.2.map (·.2))) 8) (packCodes r.2), r.2.length)

/-- How a decode ends (Table 10-2). -/
inductive Decoded where
  | done | outLimit | corrupt
  deriving DecidableEq, Repr

/-- The string of code c: bytes newest first.  Learned strings are kept as (prefix code, last byte) by code. -/
def lzwString (dict : Tbl (Nat × Byte)) : Nat → Nat → Bytes
  | 0, _ => []
  | n + 1, c =>
    if c < 256 then [BitVec.ofNat 8 c] else
      match tget dict c with
      | some (p, x) => x :: lzwString dict n p
      | none => []

/-- What a decode needs to go on: remaining bits as a number, how many, codes read, dictionary, previous code, output newest
first and its length. -/
structure Decoder where
  rest : Nat
  left : Nat
  count : Nat
  dict : Tbl (Nat × Byte)
  held : Nat
  prev : Option Nat
  out : Bytes
  len : Nat

/-- The decoder's loop (R457, R458, R463), with fuel for the codes the input can hold. -/
def lzwStep (limit expect : Nat) : Nat → Decoder → Decoded × Decoder
  | 0, s => (.corrupt, s)
  | n + 1, s =>
    let w := codeWidth s.count
    if s.left < w then (.corrupt, s) else
    let c := s.rest % 2 ^ w
    let s' := { s with rest := s.rest / 2 ^ w, left := s.left - w, count := s.count + 1 }
    match s.prev with
    | none =>
      if 256 ≤ c then (.corrupt, s') else
      if limit < 1 then (.outLimit, s') else
        lzwStep limit expect n { s' with prev := some c, out := [BitVec.ofNat 8 c], len := 1 }
    | some p =>
      if c = 256 then
        if 8 ≤ s'.left ∨ s'.rest ≠ 0 ∨ (expect ≠ 0 ∧ s'.len ≠ expect) then (.corrupt, s') else (.done, s')
      else if s.len = limit then (.outLimit, s')
      else if 256 + s.count < c then (.corrupt, s')
      else
        let ps := lzwString s.dict (limit + 1) p
        let first := ps.getLast?.getD 0
        let fresh := decide (256 ≤ c) && !thas s.dict c
        if fresh && (decide (c ≠ 256 + s.count) || decide (65535 < 257 + s.held)) then (.corrupt, s') else
        let str := if fresh then first :: ps else lzwString s.dict (limit + 1) c
        let learn := str.getLast?.getD 0
        let s' := if 257 + s.held ≤ 65535
          then { s' with dict := tput s'.dict (257 + s.held) (p, learn), held := s.held + 1 } else s'
        if limit < s.len + str.length then
          (.outLimit, { s' with out := (str.reverse.take (limit - s.len)).reverse ++ s.out, len := limit })
        else lzwStep limit expect n { s' with prev := some c, out := str ++ s.out, len := s.len + str.length }

/-- Decode a coded stream under LIMIT and EXPECT (0: no expected length): how it ends, the output, codes read (R457–R463). -/
def lzwDecode (limit expect : Nat) (b : Bytes) : Decoded × Bytes × Nat :=
  let r := lzwStep limit expect (b.length + 1)
    { rest := fromLE b, left := 8 * b.length, count := 0, dict := [], held := 0, prev := none, out := [], len := 0 }
  (r.1, r.2.out.reverse, r.2.count)

end Sys2Proof.Machine
end

