-- ==== Sys2Proof/Machine/Header.lean ====
section
/-! DEFINITION. The Henmen frame as bytes (R70–R79, Table 2-1): header, direct descriptors, inline data. -/

namespace Sys2Proof.Machine

/-- The 16 bytes of a descriptor (R74). -/
def descBytes (x : Desc) : Bytes := toLE 8 x.addr.toNat ++ toLE 4 x.rkey.toNat ++ toLE 4 x.len.toNat

/-- The descriptor that 16 bytes hold (R74). -/
def descAt (b : Bytes) : Desc :=
  { addr := BitVec.ofNat 64 (le b 0 8), rkey := BitVec.ofNat 32 (le b 8 4), len := BitVec.ofNat 32 (le b 12 4) }

/-- The header of a frame before its CRC is put in: bytes 0x0C–0x0F are zero (R73, Table 2-1). -/
def headerPlain (op : BitVec 16) (m : Msg) : Bytes :=
  toLE 2 op.toNat ++ toLE 2 m.flags.toNat ++ toLE 2 m.queue.toNat ++ toLE 2 m.tag.toNat ++ toLE 4 m.seq.toNat ++ zeros 4 ++
    toLE 8 m.volume.toNat ++ toLE 8 m.lba.toNat ++ toLE 4 m.length.toNat ++ toLE 2 m.dcount.toNat ++ toLE 2 m.stream.toNat ++ toLE 24 m.param.toNat

/-- The header of a frame (Table 2-1), its HCRC put in (R73). -/
def headerBytes (op : BitVec 16) (m : Msg) : Bytes := patch (headerPlain op m) 0x0C (toLE 4 (crc32c (headerPlain op m)))

/-- A frame as a message: the header, the descriptors that go with it, and the inline data (R70). -/
def frameBytes (op : BitVec 16) (m : Msg) : Bytes := headerBytes op m ++ m.descs.flatMap descBytes ++ m.inl

/-- How many descriptors stand in a frame with DCOUNT n (R75, R76, R78). -/
def directDescs (inline_ : Bool) (n : Nat) : Nat := if inline_ then 0 else if n ≤ 16 then n else 1

/-- The opcode and the fields of the frame that a message holds; with INLINE set, what follows the header is inline data (R78). -/
def frameOf (n : Net) (b : Bytes) : BitVec 16 × Msg :=
  let inline_ := bit (le b 0x02 2) 1
  let k := directDescs inline_ (le b 0x24 2)
  (BitVec.ofNat 16 (le b 0x00 2),
    { net := n, flags := BitVec.ofNat 16 (le b 0x02 2), queue := BitVec.ofNat 16 (le b 0x04 2), tag := BitVec.ofNat 16 (le b 0x06 2)
      seq := BitVec.ofNat 32 (le b 0x08 4), volume := BitVec.ofNat 64 (le b 0x10 8), lba := BitVec.ofNat 64 (le b 0x18 8)
      length := BitVec.ofNat 32 (le b 0x20 4), dcount := BitVec.ofNat 16 (le b 0x24 2), stream := BitVec.ofNat 16 (le b 0x26 2)
      param := BitVec.ofNat 192 (le b 0x28 24), descs := (chunks 16 k (b.drop 64)).map descAt
      inl := if inline_ then b.drop 64 else [] })

end Sys2Proof.Machine
end

