-- ==== Sys2Proof/Machine/Ops.lean ====
section
/-! DEFINITION. Operations every family shares: registers, free values, the clock and stamps, events, tenant events, the
fence and what a command's completion does. -/

namespace Sys2Proof.Machine

/-- A meaning: change the part, leave the queue. -/
def onDev (f : Dev → Dev) (s : State) : Host.Outcome State Fault Refusal :=
  .next { s with dev := f s.dev }

/-! ### Registers -/

/-- The stored value of field f. -/
def Dev.rd (d : Dev) (f : Fld) : Nat := d.regs.fld f

/-- Whether the stored one-bit field f is set. -/
def Dev.isSet (d : Dev) (f : Fld) : Bool := d.rd f ≠ 0

/-- The part with stored field f set to v. -/
def Dev.wr (d : Dev) (f : Fld) (v : Nat) : Dev := { d with regs := d.regs.setFld f v }

/-- The part with counter f raised by n, saturating at all ones. -/
def Dev.addSat (d : Dev) (f : Fld) (n : Nat) : Dev := d.wr f (satAt (2 ^ f.width - 1) (d.rd f + n))

/-- The part with counter f raised by one, saturating. -/
def Dev.bump (d : Dev) (f : Fld) : Dev := d.addSat f 1

/-- The part with counter f raised by n, wrapping. -/
def Dev.addWrap (d : Dev) (f : Fld) (n : Nat) : Dev := d.wr f (d.rd f + n)

/-! ### Outputs, free values, time -/

/-- The part with output o put out. -/
def Dev.emit (d : Dev) (o : Out) : Dev := { d with out := o :: d.out }

/-- The part with one more free value drawn; the value drawn is that of `d.draws`. -/
def Dev.drawn (d : Dev) : Dev := { d with draws := d.draws + 1 }

/-- The stamp of now (R695), from the timebase. -/
def Dev.stamp (d : Dev) : Nat := d.time.acc / 65536

/-- Quality of a stamp taken now (R203, Table 18-4): 0 locked, 1 holdover, 2 free-running. -/
def Dev.quality (d : Dev) : Nat :=
  match d.rd TIME_STAT_STATE with
  | 2 => 0
  | 3 => 1
  | 1 => if d.time.everLocked then 1 else 2
  | _ => 2

/-- Microseconds and milliseconds in ns. -/
def usNs (n : Nat) : Nat := n * 1000
def msNs (n : Nat) : Nat := n * 1000000
def sNs (n : Nat) : Nat := n * 1000000000

/-! ### Sides and modes -/

/-- The strapped side (R53): 1 side A, 2 side B, 3 SOLO, 0 invalid. -/
def Dev.side (d : Dev) : Nat := d.rd TOP_STRAP_SIDE

/-- Whether the part is strapped SOLO. -/
def Dev.solo (d : Dev) : Bool := d.side = 3

/-- Whether the pair is linked (PEER_STAT.STATE 1). -/
def Dev.linked (d : Dev) : Bool := d.rd PEER_STAT_STATE = 1

/-- Whether the part is fenced (R247). -/
def Dev.fenced (d : Dev) : Bool := d.isSet FLT_FENCE_FENCED

/-! ### Events (R781–R788, R814) -/

/-- The key under which suppressed events of a CODE, INSTANCE and TENANT are counted (R814). -/
def evtKey (code inst tenant : Nat) : Nat := (code * 65536 + inst) * 1024 + tenant

/-- The event log with one more record (R782, R784): the oldest gives way when 4,096 are held. -/
def EvtLog.push (l : EvtLog) (r : Evt) : EvtLog :=
  { l with
    recs := (if l.recs.length < 4096 then l.recs else l.recs.drop 1) ++ [r]
    next := l.next + 1
    suppressed := tdel l.suppressed (evtKey r.code r.inst r.tenant) }

/-- Whether the next record overwrites one that no EVENT_READ has written (R784). -/
def EvtLog.loses (l : EvtLog) : Bool :=
  decide (4096 ≤ l.recs.length) &&
    match l.recs, l.readTo with
    | r :: _, some m => decide (m < r.seq)
    | _ :: _, none => true
    | [], _ => false

/-- An I3C in-band interrupt for a record of severity sev (R788): merged while one is unserviced. -/
def Dev.raiseIbi (d : Dev) (sev : Nat) : Dev :=
  if bit (d.rd FLT_EVT_CFG_IBI) sev then
    match d.evt.ibi with
    | some _ => d
    | none => { d with evt := { d.evt with ibi := some sev } }.emit (.ibi sev)
  else d

/-- Record an event whose body is given (R781, R783, R788). -/
def Dev.eventRec (d : Dev) (code sev tenant inst : Nat) (anchor : Bool) (args : List Nat) (body : Bytes) : Dev :=
  let r : Evt :=
    { seq := d.evt.next, stamp := d.stamp, code := code, sev := sev, anchor := anchor, tenant := tenant, inst := inst
      count := (tget d.evt.suppressed (evtKey code inst tenant)).getD 0, args := args, body := body }
  let d' := if d.evt.loses then d.bump FLT_EVT_OVF_COUNT else d
  { d' with evt := d.evt.push r }.raiseIbi sev

/-- Record an event with numbered arguments. -/
def Dev.event (d : Dev) (code sev tenant inst : Nat) (args : List Nat) : Dev :=
  d.eventRec code sev tenant inst false args []

/-- Record an event at most once per `interval` ns for the object its rule names; count it otherwise (R814). -/
def Dev.eventLim (d : Dev) (code sev tenant inst obj interval : Nat) (args : List Nat) : Dev :=
  let key := code * 2 ^ 32 + obj
  let again := match tget d.evt.limited key with
    | none => true
    | some t => decide (t + interval ≤ d.now)
  if again then
    let d := d.event code sev tenant inst args
    { d with evt := { d.evt with limited := tput d.evt.limited key d.now } }
  else
    let k := evtKey code inst tenant
    { d with evt := { d.evt with suppressed := tput d.evt.suppressed k ((tget d.evt.suppressed k).getD 0 + 1) } }

/-! ### Tenants -/

/-- The part with tenant t changed by f. -/
def Dev.modTenant (d : Dev) (t : Nat) (f : Tenant → Tenant) : Dev :=
  { d with tenants := tmod d.tenants t f }

/-- The part with queue-pair index k's queue changed by f. -/
def Dev.modQueue (d : Dev) (k : Nat) (f : Queue → Queue) : Dev :=
  { d with queues := tmod d.queues k f }

/-- The part with queue pair n changed by f. -/
def Dev.modQp (d : Dev) (n : Nat) (f : Qp → Qp) : Dev :=
  { d with eth := { d.eth with qps := tmod d.eth.qps n f } }

/-- The part with command id changed by f. -/
def Dev.modCmd (d : Dev) (id : Nat) (f : Cmd → Cmd) : Dev :=
  { d with cmds := tmod d.cmds id f }

/-- The part with group g changed by f. -/
def Dev.modGroup (d : Dev) (g : Nat) (f : Group → Group) : Dev :=
  { d with groups := tmod d.groups g f }

/-- The part with volume v changed by f. -/
def Dev.modVol (d : Dev) (v : Nat) (f : Vol → Vol) : Dev := { d with vols := tmod d.vols v f }

/-- The part with stream i changed by f. -/
def Dev.modStream (d : Dev) (i : Nat) (f : Strm → Strm) : Dev := { d with streams := tmod d.streams i f }

/-- The part with port n changed by f. -/
def Dev.modPort (d : Dev) (n : Nat) (f : Port → Port) : Dev := { d with ports := tmod d.ports n f }

/-- The part with die n changed by f. -/
def Dev.modDie (d : Dev) (n : Nat) (f : Die → Die) : Dev := { d with dies := tmod d.dies n f }

/-- A saturating 32-bit counter of a tenant window (Table 15-4). -/
def sat32 (n : Nat) : Nat := satAt 0xFFFFFFFF n

/-- A tenant event (R620): its TW_EVENT bit and TW_EVENT_COUNT. -/
def Tenant.raise (t : Tenant) (b : Nat) : Tenant :=
  { t with events := t.events ||| (1#32 <<< b), eventCount := sat32 (t.eventCount + 1) }

/-- A tenant event with its record (Table 22-5, TENANT_EVENT): bit b of TW_EVENT, INSTANCE as the table gives. -/
def Dev.tenantEvent (d : Dev) (t b inst : Nat) : Dev :=
  (d.modTenant t (·.raise b)).event 0x0A01 1 t inst [b]

/-- Count one clamp for a tenant (R13, R90). -/
def Dev.countClamp (d : Dev) (t : Nat) : Dev :=
  d.modTenant t fun x => { x with clampCount := sat32 (x.clampCount + 1) }

/-! ### The fence (R246, R247) -/

/-- A port given up (Table 6-4): an OWNED one is LEAVING; one that only asks, for which the table has no row, is FREE at once. -/
def Port.leave (p : Port) : Port :=
  match p.own with
  | .owned => { p with own := .leaving, training := false }
  | .ask => { p with own := .free, training := false }
  | _ => p

/-- The port numbers that a part drives or asks for. -/
def Dev.portsHeld (d : Dev) : List Nat := tkeys d.ports fun _ p => decide (p.own = .owned ∨ p.own = .ask)

/-- FLP_OWN of port n set to state st with PORTOWN at a level (R272). -/
def Dev.showOwn (d : Dev) (n st : Nat) (high : Bool) : Dev :=
  ((d.wr (FLP_OWN_STATE n) st).wr (FLP_OWN_OWN_PIN n) (b2n high)).emit (.portown n high)

/-- The operations in progress on some dies are ended: a sequence that has not passed MARK is abandoned, any other ended by RESET of its chip
enable (R262, Table 6-4). -/
def Dev.endOps (d : Dev) (dies : Nat → Bool) : Dev :=
  let mine := d.flash.filter fun o => o.issued && dies o.die
  let d := (mine.filter fun o => !o.marked).foldl (fun d o => d.emit (.abandon o.die)) d
  (((mine.filter fun o => o.marked).map fun o => (o.die / 32, o.die % 32 / 4)).eraseDups).foldl (fun d e => d.emit (.flashReset e.1 e.2)) d

/-- What the board sees of a port that is given up: idle levels with WP_N low and PORTOWN dropped; of one that only asked, PORTOWN dropped
(Table 6-4, R273). -/
def Dev.partPort (d : Dev) (n : Nat) : Dev :=
  match tget d.ports n with
  | none => d
  | some p =>
    match p.own with
    | .owned => (((d.endOps fun k => decide (k / 32 = n)).emit (.portIdle n idleLevels)).emit (.portWp n false)).showOwn n 3 false
    | .ask => (d.showOwn n 0 false).emit (.portHiZ n)
    | _ => d

/-- Some ports the part drives or asks for given up (R56, R272, Table 5-6): operations ended, idle levels driven, PORTOWN dropped; what was
queued or ended there is back with the scheduler as not issued. -/
def Dev.leavePorts (d : Dev) (ns : List Nat) : Dev :=
  let held := ns.filter fun n => d.portsHeld.contains n
  let d := held.foldl (fun d n => d.partPort n) d
  { d with
    ports := tmap d.ports fun n p => if held.contains n then p.leave else p
    flash := d.flash.map fun o => if held.contains (o.die / 32) then { o with issued := false, left := [], marked := false } else o }

/-- Every port the part drives or asks for given up. -/
def Dev.releasePorts (d : Dev) : Dev := d.leavePorts d.portsHeld

/-- Every queue pair on a host port moved to the error state (Table 5-6): it sends nothing more, waiting for an RNR timer or not. -/
def Eth.failHostQps (e : Eth) : Eth :=
  { e with qps := tmap e.qps fun _ q => if q.port < 16 then { q with failed := true, rnrUntil := none } else q }

/-- Device-initiated transfers on queue pairs that are in the error state are gone; a command that has lost bytes of its result or of its read
data with them fails (R98, R139). -/
def Dev.dropDead (d : Dev) : Dev :=
  let live (e : Nat × Xfer) : Bool := match tget d.eth.qps e.2.qpn with | some p => !p.failed | none => false
  let lost (id : Nat) : Bool := d.xfers.any fun e => !live e && decide (e.2.cmd = id) && !e.2.read && decide (e.2.load ≠ Load.bitmap)
  { d with
    xfers := d.xfers.filter live
    cmds := tmap d.cmds fun i c => if lost i ∧ c.stage ≠ .done then { c with outcome := .transferFail } else c }

/-- The device fences itself (R246, R247) on an event that has been recorded: admission stops, heartbeats stop, ports are
released, queue pairs on the host ports fail with their transfers, and FLT_FENCE keeps the CODE of the event that fenced it. -/
def Dev.fenceQuiet (d : Dev) (code : Nat) : Dev :=
  if d.fenced then d else
    let d := ((d.wr FLT_FENCE_FENCED 1).wr FLT_FENCE_CAUSE code).wr PEER_STAT_STATE 6
    let d := d.releasePorts
    { d with eth := d.eth.failHostQps }.dropDead

/-- The device raises a device-fault event and fences itself (R246, R247). -/
def Dev.fence (d : Dev) (code tenant inst : Nat) (args : List Nat) : Dev :=
  (d.event code 2 tenant inst args).fenceQuiet code

/-- The RNR timer code of the device's own RNR NAKs: the minimum of Table 18-3, 0.01 ms (R64). -/
def minRnrTimer : Nat := 1

/-! ### Completion of a command -/

/-- Queue-pair indices from here on are the model's own: they stand for the grains a replication session writes, which no status
frame reports. -/
def internalKey : Nat := 2 ^ 20

/-- Whether a status carries RETRYABLE (R86, R780). -/
def Code.retryable (c : Code) (applied : Nat) : Bool :=
  match c with
  | .bufferParity => true
  | .entropyFailed => true
  | .transferFail => decide (applied = 0)
  | _ => false

/-- The queue pair that carries the status frames of queue k, if it is up. -/
def Dev.statusQp (d : Dev) (k : Nat) : Option Nat :=
  match tget d.queues k with
  | none => none
  | some q => match q.qpn with
    | none => none
    | some n => match tget d.eth.qps n with
      | some p => if p.failed ∨ q.failed then none else some n
      | none => none

/-- Statuses of a queue in sequence order, the oldest first, seen from its next sequence. -/
def inSeqOrder (next : Nat) (l : List Status) : List Status :=
  sortOn (fun a => 2 ^ 32 - (next + 2 ^ 32 - a.seq) % 2 ^ 32) l

/-- Whether a command of queue k whose queue pair failed while it was outstanding (number 18) still runs (R107): not one whose status frame has been
discarded with its queue (R108). -/
def Dev.oldRunning (d : Dev) (k : Nat) : Bool :=
  d.cmds.any fun e => decide (e.2.qkey = k) && decide (e.2.aux.getD 18 0 = 1) && decide (e.2.stage ≠ .done) && !e.2.sent

/-- The status frames of some commands have been sent, or discarded with their queue (R108): their records no longer wait for that. -/
def Dev.statusOver (d : Dev) (p : Nat → Cmd → Bool) : Dev :=
  { d with cmds := tmap d.cmds fun i c => if p i c then { c with sent := true } else c }

/-- The status frames held for relay go out on the queue's new queue pair, in sequence order, once no command of the old one still
runs (R107). -/
def Dev.relayHeld (d : Dev) (k : Nat) : Dev :=
  match tget d.queues k, d.statusQp k with
  | some q, some n =>
    if d.oldRunning k then d else
    (d.modQueue k fun q => { q with held := [] }).modQp n fun p => { p with queued := p.queued ++ q.held.map Send.status }
  | _, _ => d

/-- Queue a status frame on queue k: on its queue pair, or held for relay when that has failed or the command belongs to one that has
failed (R107, R110, R112).  The frame takes the deferred counts of the queue since the previous frame. -/
def Dev.queueStatus (d : Dev) (st : Status) : Dev :=
  match tget d.queues st.qkey with
  | none => d.statusOver fun i _ => decide (i = st.cmd)
  | some q =>
    let st := { st with
      stamp := stampLow d.stamp
      deferredSet := decide (q.deferredNew ≠ 0)
      dcount := satAt 65535 q.deferredNew
      overflow := q.overflowNew }
    let d := d.modQueue st.qkey fun q => { q with deferredNew := 0, overflowNew := false }
    let hold := (d.modQueue st.qkey fun q => { q with held := inSeqOrder q.oldSeq (q.held ++ [{ st with relayed := true }]) }).relayHeld st.qkey
    match d.statusQp st.qkey with
    | some n => if st.relayed then hold else d.modQp n fun p => { p with queued := p.queued ++ [.status st] }
    | none => hold

/-- The status frame of a frame that starts no command. -/
def replyStatus (k tag seq : Nat) (code : Code) (retval : Nat) (untrusted clamped : Bool) (id : Nat) : Status :=
  { qkey := k, tag := tag, code := code, seq := seq, deferredSet := false, clamped := clamped, retryable := code.retryable 0
    untrusted := untrusted, relayed := false, mediumAck := false, overflow := false, dcount := 0, applied := 0, retval := retval
    stamp := 0, cmd := id }

/-- A frame on queue k completes with a status and does nothing else (R66, R87). -/
def Dev.reply (d : Dev) (k tag seq : Nat) (code : Code) (retval : Nat) (untrusted clamped : Bool) : Dev :=
  let id := d.nextCmd
  let d := { d with nextCmd := id + 1 }.modTenant (k / 16) fun t => { t with commands := t.commands + 1 }
  d.queueStatus (replyStatus k tag seq code retval untrusted clamped id)

/-- A frame on a tombstoned queue pair: its status goes out on that queue pair, with the SEQ and TAG it carried (R610). -/
def Dev.tombReply (d : Dev) (qpn tenant tag seq : Nat) (code : Code) (untrusted : Bool) : Dev :=
  let id := d.nextCmd
  let st := { replyStatus internalKey tag seq code 0 untrusted false id with stamp := stampLow d.stamp }
  let d := { d with nextCmd := id + 1 }.modTenant tenant fun t => { t with commands := t.commands + 1 }
  d.modQp qpn fun p => { p with queued := p.queued ++ [.status st] }

/-- A frame received on queue k advances its expected sequence and enters its tag history (R66, R114). -/
def Dev.countFrame (d : Dev) (k tag : Nat) : Dev := d.modQueue k fun q => { q with
  nextSeq := (q.nextSeq + 1) % 2 ^ 32
  tags := ((tag, q.nextSeq) :: q.tags).take 4097 }

/-- TAG and SEQ as a frame that has arrived carries them. -/
def Rx.tag (x : Rx) : Nat := match x.frame with | some m => m.tag.toNat | none => if x.raw.length < 8 then 0 else le x.raw 6 2
def Rx.seq (x : Rx) : Nat := match x.frame with | some m => m.seq.toNat | none => if x.raw.length < 12 then 0 else le x.raw 8 4

/-- The frames of queue pair n that are held unparsed are outstanding and end with a status: it is queued for their queue, or goes out on
the tombstone that queue pair now keeps (R107, R109). -/
def Dev.endRx (d : Dev) (n : Nat) (code : Code) (tomb : Option Nat) (k : Nat) : Dev :=
  let mine := d.eth.rx.filter fun x => decide (x.net.qpn.toNat = n)
  let d := { d with eth := { d.eth with rx := d.eth.rx.filter fun x => decide (x.net.qpn.toNat ≠ n) } }
  mine.foldl (fun d x => match tomb with
    | some t => d.tombReply n t x.tag x.seq code false
    | none => match tget d.queues k with
      | some q => (d.countFrame k x.tag).reply k x.tag q.nextSeq code 0 false false
      | none => d) d

/-- Status frames of frames that started no command, not yet sent, of queue k. -/
def Dev.unsentReplies (d : Dev) (k : Nat) : List Status :=
  let queued := d.eth.qps.flatMap fun e => e.2.queued.filterMap fun (x : Send) => match x with | .status s => some s | .repl _ _ => none
  let held := match tget d.queues k with | some q => q.held | none => []
  (queued ++ held).filter fun s => decide (s.qkey = k) && !thas d.cmds s.cmd

/-- Commands outstanding on a queue (R64): records whose status frame is unsent, frames that started no command likewise, and frames held
unparsed. -/
def Dev.outstanding (d : Dev) (k : Nat) : Nat :=
  let waiting := match (tget d.queues k).bind (·.qpn) with
    | some n => countP d.eth.rx fun x => decide (x.net.qpn.toNat = n)
    | none => 0
  countP d.cmds (fun e => decide (e.2.qkey = k) && !e.2.sent) + (d.unsentReplies k).length + waiting

/-- Whether a tag is that of a command still outstanding on queue k (R68); of a frame whose header cannot be trusted the tag does not count. -/
def Dev.tagBusy (d : Dev) (k tag : Nat) : Bool :=
  (d.cmds.any fun e => decide (e.2.qkey = k) && decide (e.2.tag = tag) && !e.2.sent) ||
    (d.unsentReplies k).any fun s => decide (s.tag = tag) && !s.untrusted

/-- The status frame of a command (Table 2-3): RELAYED where its queue pair failed while it was outstanding (number 18 of the
command, R107). -/
def Cmd.status (c : Cmd) (id : Nat) (code : Code) (applied retval : Nat) (medium : Bool) : Status :=
  { qkey := c.qkey, tag := c.tag, code := code, seq := c.seq, deferredSet := false, clamped := c.clamped
    retryable := code.retryable applied, untrusted := false, relayed := decide (c.aux.getD 18 0 = 1), mediumAck := medium, overflow := false
    dcount := 0, applied := applied, retval := retval, stamp := 0, cmd := id }

/-- Complete command id with a status, APPLIED_LENGTH and RETVAL: its status frame is queued and the tenant's count of
completed commands rises (R66, Table 15-4). A command that has completed is left alone; one whose queue has been deleted has no status frame. -/
def Dev.completeAs (d : Dev) (id : Nat) (code : Code) (applied retval : Nat) (medium : Bool) : Dev :=
  match tget d.cmds id with
  | none => d
  | some c =>
    if c.stage = .done then d else
    let d := d.modCmd id fun c => { c with stage := .done, hold := .none, outcome := code, applied := applied, retval := retval }
    if internalKey ≤ c.qkey then d else
    let d := d.modTenant c.tenant fun t => { t with commands := t.commands + 1 }
    if c.sent then d else
    d.queueStatus (c.status id code applied retval medium)

/-- Complete command id with a status and RETVAL, APPLIED_LENGTH 0. -/
def Dev.complete (d : Dev) (id : Nat) (code : Code) (retval : Nat) : Dev := d.completeAs id code 0 retval false

/-- Complete command id with SUCCESS. -/
def Dev.succeed (d : Dev) (id retval : Nat) : Dev := d.complete id .success retval

end Sys2Proof.Machine
end

