-- ==== Sys2Proof/Machine/Sequencer.lean ====
section
/-! DEFINITION. The microsequencer of a flash port (R260–R263, Table 6-3): its sequence slots, its steps, and what a sequence puts on the
port. -/

namespace Sys2Proof.Machine

/-! ### Steps (Table 6-3) -/

/-- A step of a sequence. -/
inductive SeqStep where
  | fin
  | cmd (b : Byte)
  | addr (cycles : Nat) (row : Bool)
  | addrLit (b : Byte)
  | dout (n : Nat)
  | din (n : Nat)
  | waitT (ns : Nat)
  | waitRdy (us : Nat)
  | feat (a : Byte) (param : Nat)
  | check (mask want : Byte)
  | mark
  deriving DecidableEq, Repr

/-- The step a 32-bit word encodes; none for a reserved one, and for a number of address cycles outside 1–8. -/
def seqStep (w : Word32) : Option SeqStep :=
  let n := w.toNat
  let b := BitVec.ofNat 8 n
  match n / 2 ^ 28 with
  | 0 => some .fin
  | 1 => some (.cmd b)
  | 2 => if n % 16 = 0 ∨ 8 < n % 16 then none else some (.addr (n % 16) (bit n 4))
  | 3 => some (.addrLit b)
  | 4 => some (.dout (n % 65536))
  | 5 => some (.din (n % 65536))
  | 6 => some (.waitT (n % 2 ^ 24))
  | 7 => some (.waitRdy (n % 2 ^ 24))
  | 8 => some (.feat b (n / 256 % 256))
  | 9 => some (.check b (BitVec.ofNat 8 (n / 256)))
  | 10 => some .mark
  | _ => none

/-- Whether the device takes a sequence (R261): at most 32 steps, none reserved, an END among 32, no WAIT_RDY with a timeout of 0. A
sequence of fewer words ends with its last: the words after it are 0, which is END. -/
def seqOk (l : List Word32) : Bool :=
  decide (l.length ≤ 32) && (l.all fun w => match seqStep w with | none => false | some (.waitRdy 0) => false | some _ => true)
    && (decide (l.length < 32) || l.any fun w => decide (seqStep w = some .fin))

/-! ### Built-in sequences (R254, R260) -/

/-- Step words. -/
def wCmd (b : Nat) : Word32 := BitVec.ofNat 32 (2 ^ 28 + b)
def wLit (b : Nat) : Word32 := BitVec.ofNat 32 (3 * 2 ^ 28 + b)
def wRow (n : Nat) : Word32 := BitVec.ofNat 32 (2 * 2 ^ 28 + 16 + n)
def wIn (n : Nat) : Word32 := BitVec.ofNat 32 (5 * 2 ^ 28 + n)
def wRdy (us : Nat) : Word32 := BitVec.ofNat 32 (7 * 2 ^ 28 + us)
def wFeat (a : Nat) : Word32 := BitVec.ofNat 32 (8 * 2 ^ 28 + a)

/-- Built-in slots: RESET, READ ID, READ PARAMETER PAGE, READ STATUS ENHANCED, SET FEATURES, GET FEATURES, ZQ calibration, duty-cycle
correction, read DQ training, write DQ training, VREFQ, on-die termination. -/
def slotReset : Nat := 0
def slotReadId : Nat := 1
def slotParam : Nat := 2
def slotStatus : Nat := 3
def slotGet : Nat := 5
def slotOdt : Nat := 11

/-- The sequences of slots 0–15 (R260). Command bytes and feature addresses are ONFI's (PRESUMED, log 117): the specification names the
operations only. The lengths of the two identification reads are the operation's. -/
def builtin : List (List Word32) :=
  [ [wCmd 0xFF, wRdy 1000], [wCmd 0x90, wLit 0, wIn 0], [wCmd 0xEC, wLit 0, wRdy 1000, wIn 0], [wCmd 0x78, wRow 3, wIn 1]
    , [wFeat 0, wRdy 1000], [wCmd 0xEE, wLit 0, wRdy 1000, wIn 4], [wCmd 0xF9, wRow 1, wRdy 1000], [wFeat 0x20, wRdy 1000]
    , [wCmd 0x62, wRow 1, wRdy 1000, wIn 0], [wCmd 0x63, wRow 1, wRdy 1000], [wFeat 0x23, wRdy 1000], [wFeat 0x22, wRdy 1000]
    , [], [], [], [] ]

/-- The sequence in a slot of a port whose profile is p: built in, or the profile's. -/
def seqSlot (p : Option Profile) (i : Nat) : List Word32 :=
  if i < 16 then builtin.getD i [] else match p with | some q => (tget q.seqs i).getD [] | none => []

/-! ### Running a sequence -/

/-- What a sequence is run with: its page's addresses and data, the 4-byte parameters of its FEAT steps, and the status byte that the die's
last poll gives. -/
structure SeqArgs where
  page : FAddr
  params : List Bytes
  status : Byte

/-- The status byte of a die whose operation has passed, and of one whose operation has failed: ONFI's (PRESUMED, log 117). -/
def statusPass : Byte := 0xE0
def statusFail : Byte := 0xE1

/-- Address cycles of a number, the lowest byte first. -/
def addrCycles (n v : Nat) : List Cycle := (toLE n v).map Cycle.addr

/-- The cycles of one step, `sent` bytes of the page having been sent by the DOUT steps before it. A CHECK puts nothing on the port. -/
def SeqStep.cycles (a : SeqArgs) (sent : Nat) : SeqStep → List Cycle
  | .fin => []
  | .cmd b => [.cmd b]
  | .addr n row => addrCycles n (if row then a.page.row else a.page.column)
  | .addrLit b => [.addr b]
  | .dout n => [.dataOut (if n = 0 then a.page.data else slice a.page.data sent n)]
  | .din n => [.dataIn (if n = 0 then a.page.length else n)]
  | .waitT ns => [.wait ns]
  | .waitRdy us => [.poll us]
  | .feat b k => [.feature b (padTo 4 (a.params.getD k []))]
  | .check _ _ => []
  | .mark => []

/-- Bytes of the page that have been sent once a step has run. -/
def SeqStep.sent (a : SeqArgs) (sent : Nat) : SeqStep → Nat
  | .dout n => if n = 0 then a.page.data.length else sent + n
  | _ => sent

/-- Whether a step fails its operation: a CHECK of the last status byte (R260, R263). -/
def SeqStep.fails (a : SeqArgs) : SeqStep → Bool
  | .check mask want => decide (a.status &&& mask ≠ want)
  | _ => false

/-- How far a sequence has come: cycles so far, steps still to run, whether MARK has been passed, bytes sent, whether a CHECK has failed. -/
structure SeqRun where
  out : List Cycle
  left : List Word32
  marked : Bool
  sent : Nat
  failed : Bool

/-- Run a sequence to its next WAIT_RDY, which the die's readiness ends, or, where `through` is set, to its end; a CHECK that fails ends
it. -/
def seqRun (a : SeqArgs) (through : Bool) : List Word32 → Bool → Nat → SeqRun
  | [], m, n => { out := [], left := [], marked := m, sent := n, failed := false }
  | w :: r, m, n =>
    match seqStep w with
    | none => { out := [], left := [], marked := m, sent := n, failed := false }
    | some .fin => { out := [], left := [], marked := m, sent := n, failed := false }
    | some s =>
      if s.fails a then { out := [], left := [], marked := m, sent := n, failed := true } else
      let stop := (match s with | .waitRdy _ => true | _ => false) && !through
      if stop then { out := s.cycles a n, left := r, marked := m, sent := n, failed := false } else
      let x := seqRun a through r (m || decide (s = .mark)) (s.sent a n)
      { x with out := s.cycles a n ++ x.out }

/-- The page of an operation that names none, and one that reads n bytes. -/
def FAddr.none_ : FAddr := { row := 0, column := 0, data := [], length := 0 }
def FAddr.reads (n : Nat) : FAddr := { FAddr.none_ with length := n }

/-- A built-in sequence run whole on a die, at a page, with its parameters. -/
def Dev.runBuiltinAt (d : Dev) (die slot : Nat) (page : FAddr) (params : List Bytes) : Dev :=
  d.emit (.cycles die (seqRun { page := page, params := params, status := statusPass } true (seqSlot none slot) false 0).out)

/-- A built-in sequence that takes no address from its operation. -/
def Dev.runBuiltin (d : Dev) (die slot : Nat) (params : List Bytes) : Dev := d.runBuiltinAt die slot FAddr.none_ params

/-- Start an operation's sequence on its die: pages before the last run whole, the last one to its first WAIT_RDY. -/
def FlashOp.start (o : FlashOp) (p : Option Profile) : FlashOp × List Cycle :=
  let l := match p with | some q => seqSlot p (q.uses.getD o.seq 0) | none => []
  let args (a : FAddr) : SeqArgs := { page := a, params := o.params, status := statusPass }
  let first := (o.pages.dropLast).map fun a => seqRun (args a) true l false 0
  let last := seqRun (args (o.pages.getLast?.getD FAddr.none_)) false l false 0
  ({ o with issued := true, left := last.left, marked := last.marked || decide (1 < o.pages.length), sent := last.sent
            failed := last.failed || first.any (·.failed) }, first.flatMap (·.out) ++ last.out)

/-- The rest of an operation's sequence, run to its end with the die's status byte: its cycles, and whether the operation has failed at a
CHECK. -/
def FlashOp.finish (o : FlashOp) (status : Byte) : List Cycle × Bool :=
  let x := seqRun { page := o.pages.getLast?.getD FAddr.none_, params := o.params, status := status } true o.left o.marked o.sent
  (x.out, x.failed || o.failed)

end Sys2Proof.Machine

namespace Sys2Proof

open Sys2Proof.Machine

/-! ### Die profiles (R256–R261, R264, R280, R286, R817) -/

/-- Whether the device takes a die profile: every sequence is one R261 allows, in a slot of the profile's, and its codewords per page are 1, 2, 4
or 8. -/
def Profile.sound (p : Profile) : Bool :=
  [1, 2, 4, 8].contains p.cwPerPage && p.seqs.all fun e => seqOk e.2 && decide (16 ≤ e.1) && decide (e.1 < 64)

/-- The read levels of a profile. -/
def Profile.levelCount (p : Profile) : Nat := p.defaults.length

/-- The levels a read of a page uses (R286): level 0 for SLC; for QLC those of its page type, the profile's types taking turns. -/
def Profile.levelsOf (p : Profile) (slc : Bool) (page : Nat) : List Nat :=
  if slc then [0] else p.pageLevels.getD (page % Nat.max 1 p.pageLevels.length) []

/-- The offset of an extra read (R280): one offset level at the first, the opposite at the second, twice the first at the third. -/
def Profile.extra (p : Profile) (stage : Nat) : Int :=
  if stage = 2 ∨ stage = 12 then p.softStep
  else if stage = 3 ∨ stage = 13 then -p.softStep
  else if stage = 4 ∨ stage = 14 then 2 * p.softStep
  else 0

/-- The read rate of a die in MB/s: its page payload over the profile's page read time (R817). -/
def Profile.readRate (p : Profile) (slc : Bool) : Nat := p.cwPerPage * 4096 / Nat.max 1 (if slc then p.readSlcUs else p.readQlcUs)

/-- Read slots of a die in a window of the 8 ms plan: the pages it can give in it at its read rate. -/
def Profile.readSlots (p : Profile) (slc : Bool) : Nat := p.readRate slc * 8000 / Nat.max 1 (p.cwPerPage * 4096)

/-- The interfaces of Table 6-2. -/
inductive PortIf where
  | sdr | nvDdr3 | nvLpddr4
  deriving DecidableEq, Repr

/-- The interface of a port mode (Table 6-2). -/
def modeIf (mode : Nat) : PortIf := if mode = 0 then .sdr else if mode ≤ 3 then .nvDdr3 else .nvLpddr4

/-- The lowest and highest mode of an interface. -/
def PortIf.modes : PortIf → Nat × Nat
  | .sdr => (0, 0)
  | .nvDdr3 => (1, 3)
  | .nvLpddr4 => (4, 8)

/-- The interface of a profile: that of the highest mode it declares. -/
def Profile.iface (p : Profile) : PortIf := modeIf (Nat.max 1 p.maxMode)

/-- The lowest and highest mode a port runs at with a profile: those it declares within its interface (a declared lowest mode: DESIGN CHOICE, log 173). -/
def Profile.lowMode (p : Profile) : Nat := Nat.max p.iface.modes.1 p.minMode
def Profile.highMode (p : Profile) : Nat := Nat.min p.iface.modes.2 (Nat.max 1 p.maxMode)

/-- A port mode clamped to the modes of a profile's interface (R256). -/
def Profile.clampMode (p : Profile) (mode : Nat) : Nat := clampN p.lowMode p.highMode mode

/-- The retention limit in hours at an erase count (R351). -/
def Profile.retentionOf (p : Profile) (erases : Nat) : Nat := (p.retentionAt.filter fun e => decide (e.1 ≤ erases)).getLast?.elim p.retention (·.2)

/-- The built-in slot of a training step. -/
def TrainStep.slot : TrainStep → Nat
  | .zq => 6 | .dutyCycle => 7 | .readDq => 8 | .writeDq => 9 | .vref => 10

/-- Whether a die's READ ID and parameter page are those of a profile (R258). -/
def DieId.fits (x : DieId) (p : Profile) : Bool := decide (x.id = p.idBytes) && decide (x.crc = p.pageCrc)

end Sys2Proof
end

