-- ==== Sys2Proof/Machine/FlashOps.lean ====
section
/-! DEFINITION. Flash ports, read levels, the issue of flash operations and the marker search (chapter 06). -/

namespace Sys2Proof.Machine

/-! ### Geometry of groups and dies -/

/-- Data members n of a geometry code (Table 8-1); 0 for a reserved code. -/
def geoN (g : Nat) : Nat := match g with | 0 => 8 | 1 => 16 | 2 => 8 | 3 => 16 | 4 => 24 | _ => 0

/-- Parity members k of a geometry code (Table 8-1). -/
def geoK (g : Nat) : Nat := match g with | 0 => 1 | 1 => 1 | 2 => 2 | 3 => 2 | 4 => 2 | _ => 0

/-- Members n + k of a geometry code. -/
def geoM (g : Nat) : Nat := geoN g + geoK g

/-- The slot that holds role j in row r (R365): slot m holds role (m − r) mod (n + k). -/
def roleSlot (geom r j : Nat) : Nat := (j + r) % geoM geom

/-- The role slot m holds in row r (R365). -/
def slotRole (geom r m : Nat) : Nat := (m + geoM geom - r % geoM geom) % geoM geom

/-- The port of a die (R253). -/
def diePort (die : Nat) : Nat := die / 32

/-- The quadrant of a port (Table 1-2). -/
def portQuadrant (n : Nat) : Nat := n / 16

/-- Whether port n is on the home side of a part strapped `side` (R54); SOLO owns all ports. -/
def homePort (side n : Nat) : Bool :=
  match side with
  | 1 => !bit n 1
  | 2 => bit n 1
  | 3 => true
  | _ => false

/-! ### Temperatures (R286, R288, R746) -/

/-- Reading of sensor s in units of 0.125 °C. -/
def Dev.sensor (d : Dev) (s : Nat) : Int := signed 12 (d.rd (THM_SENS_TEMP s))

/-- Whether sensor s is reported failed (R747). -/
def Dev.sensorFailed (d : Dev) (s : Nat) : Bool := d.isSet (THM_SENS_FAILED s)

/-- The remote sensor of port n (FLP_GUARD.SENSOR names a remote channel; channel ch is sensor 24 + ch). -/
def Dev.portSensor (d : Dev) (n : Nat) : Nat := 24 + d.rd (FLP_GUARD_SENSOR n)

/-- The hottest on-die sensor reading of quadrant q that is not failed (R288). -/
def Dev.hottest (d : Dev) (q : Nat) : Int :=
  ((upTo 6).map fun i => 6 * q + i).foldl
    (fun t s => if d.sensorFailed s then t else if t < d.sensor s then d.sensor s else t) (-440)

/-- T_read of port n as the sensor gives it, in eighths of a °C (R288, R347). -/
def Dev.readEighths (d : Dev) (n : Nat) : Int :=
  if d.sensorFailed (d.portSensor n) then d.hottest (portQuadrant n) else d.sensor (d.portSensor n)

/-- The last readings of the ports' sensors are kept for the time the part is off (R348); in Standby they were kept on the way there. -/
def Dev.lastReadings (d : Dev) : Dev :=
  if d.rd PWR_STAT_STATE = 4 then d else
  { d with boot := { d.boot with offTemps := (upTo 64).map d.readEighths, offTop := none } }

/-- T_read of port n in °C (R286, R288). -/
def Dev.readTemp (d : Dev) (n : Nat) : Int :=
  if d.sensorFailed (d.portSensor n) then d.hottest (portQuadrant n) / 8 else d.sensor (d.portSensor n) / 8

/-- T_prog of a block (R286): the mean of the program temperatures of its codewords; T_read when unknown (R288). -/
def Blk.progTemp (b : Blk) (tRead : Int) : Int :=
  if b.tempCount = 0 then tRead else b.tempSum / b.tempCount

/-- Age bucket of a block group (R349): min(15, floor(log2(1 + age in hours))). -/
def ageBucket (age : Nat) : Nat := satAt 15 (Nat.log2 (1 + age / 1000000000))

/-! ### Blocks -/

/-- The block b of a die; one not listed is FREE with erase counter 0. -/
def Die.blk (x : Die) (b : Nat) : Blk :=
  (tget x.blocks b).getD
    { state := .free, slc := false, erases := 0, reads := 0, bgroup := 0, retire := false, stage6 := 0, tempSum := 0, tempCount := 0 }

/-- The die with block b changed by f. -/
def Die.modBlk (x : Die) (b : Nat) (f : Blk → Blk) : Die := { x with blocks := tput x.blocks b (f (x.blk b)) }

/-- Block b of die n. -/
def Dev.blk (d : Dev) (n b : Nat) : Option Blk := (tget d.dies n).map (·.blk b)

/-! ### Geometry of a group -/

/-- Group g. -/
def Dev.group (d : Dev) (g : Nat) : Option Group := tget d.groups g

/-- Data members, and members, of a group. -/
def Group.n (x : Group) : Nat := geoN x.geometry
def Group.m (x : Group) : Nat := geoM x.geometry

/-- Member in slot m. -/
def Group.member (x : Group) (m : Nat) : Option Member := x.members[m]?

/-- Member faults of a group (R387). -/
def Group.faults (x : Group) : Nat := countP x.members (·.failed)

/-- The profile of a die's port. -/
def Dev.dieProfile (d : Dev) (die : Nat) : Option Profile := (tget d.ports (diePort die)).bind (·.profile)

/-- The profile of a group: that of its first member's port. -/
def Dev.groupProfile (d : Dev) (g : Nat) : Option Profile :=
  (d.group g).bind fun x => x.members.findSome? fun m => d.dieProfile m.die

/-! ### Modes and program slots of dies (R242, R325, R330) -/

/-- Non-retired blocks of a die in a mode that are in use. -/
def Die.inMode (x : Die) (slc : Bool) : Nat :=
  countP x.blocks fun e => decide (e.2.slc = slc) && decide (e.2.state ≠ .free) && decide (e.2.state ≠ .retired)

/-- Blocks a die may run in one-bit mode (MAP_PRIMER_CFG.SHARE). -/
def Dev.primerBlocks (d : Dev) (p : Profile) : Nat := d.rd MAP_PRIMER_CFG_SHARE * p.blocks / 128

/-- FREE QLC segments a group could form, and the QLC segments it has in all, per member die at the least (R330). -/
def Dev.qlcSegments (d : Dev) (g : Nat) : Nat × Nat :=
  match d.group g, d.groupProfile g with
  | some x, some p =>
    let all := p.blocks - Nat.max p.spares (p.blocks / 40) - d.primerBlocks p
    let free := x.members.map fun m => match tget d.dies m.die with
      | some k => all - k.inMode false
      | none => 0
    ((argMin id free).getD 0, all)
  | _, _ => (0, 0)

/-- Whether a group is below URGENT. -/
def Dev.urgent (d : Dev) (g : Nat) : Bool := let q := d.qlcSegments g; decide (q.1 * 1000 < d.rd MAP_SCRAPE_CFG_URGENT * q.2)

/-! ### Read levels (R286, R287, R304) -/

/-- Key of an offset-table entry (R286). -/
def offKey (die bg k : Nat) : Nat := (die * 256 + bg) * 16 + k

/-- Element k of a list of signed numbers, 0 where it has none. -/
def nthI (l : List Int) (k : Nat) : Int := l.getD k 0

/-- base[k] of a die, block group and level: what was learned, else the profile's default (R286, R304). -/
def Dev.base (d : Dev) (p : Profile) (die bg k : Nat) : Int :=
  (tget d.offsets (offKey die bg k)).getD (nthI p.defaults k)

/-- off[k] for a read of block b of a die (R286). DESIGN CHOICE (log 154): the product's sixteenth, the mean of the program temperatures and the
sensor's whole degrees are rounded down; R286 says nothing of it. DESIGN CHOICE (log 155): a block that is not yet SEALED has no block group
(R302); it reads with the entry and the age of group 0. -/
def Dev.level (d : Dev) (p : Profile) (die b k : Nat) : Int :=
  match tget d.dies die with
  | none => 0
  | some x =>
    let tr := d.readTemp (diePort die)
    let blk := x.blk b
    let a := match tget x.groups blk.bgroup with | some g => ageBucket g.age | none => 0
    clampI (nthI p.lows k) (nthI p.highs k)
      (d.base p die blk.bgroup k + (nthI p.tc k * (tr - blk.progTemp tr)) / 16 + nthI p.ag k * a)

/-- Set read level k of a die to off by FEAT where it differs (R286). -/
def Dev.setLevel (d : Dev) (die k : Nat) (off : Int) : Dev :=
  if (tget d.levels (die * 16 + k)).getD 0 = off then d
  else { d with levels := tput d.levels (die * 16 + k) off }.emit (.feature die k off)

/-- The levels that a retry set has left in a die, restored before a read of another block group (R284): each to what R286 gives for the
block that is read. -/
def Dev.restoreLevels (d : Dev) (p : Profile) (w : CwRead) : Dev :=
  match tget d.dies w.die with
  | some x => match x.retried with
    | some g =>
      if (x.blk w.block).bgroup = g then d else
      ((upTo p.levelCount).foldl (fun d k => d.setLevel w.die k (d.level p w.die w.block k)) d).modDie w.die fun x => { x with retried := none }
    | none => d
  | none => d

/-- Set the read levels of a die before a codeword is sensed (R286): a retry set, when under trial, gives them instead, and an extra read
adds its offset (R280). -/
def Dev.setLevels (d : Dev) (w : CwRead) : Dev :=
  match tget d.ports (diePort w.die) with
  | none => d
  | some pt => match pt.profile with
    | none => d
    | some p => (p.levelsOf w.slc w.page).foldl
        (fun d k => d.setLevel w.die k ((if w.stage = 5 ∨ 12 ≤ w.stage then nthI (p.retry.getD w.retry []) k
          else d.level p w.die w.block k) + p.extra w.stage)) (d.restoreLevels p w)

/-- Learn base[k] from levels that succeeded on a block, for each level k they give (R287): base[k] = level − tc[k]·(T_read − T_prog)/16 −
ag[k]·a, rounded as `Dev.level` rounds. -/
def Dev.learn (d : Dev) (die b : Nat) (lv : List Int) : Dev :=
  match tget d.ports (diePort die), tget d.dies die with
  | some pt, some x => match pt.profile with
    | none => d
    | some p =>
      let tr := d.readTemp (diePort die)
      let blk := x.blk b
      let a := match tget x.groups blk.bgroup with | some g => ageBucket g.age | none => 0
      let put (t : Tbl Int) (k : Nat) : Tbl Int :=
        tput t (offKey die blk.bgroup k) (nthI lv k - (nthI p.tc k * (tr - blk.progTemp tr)) / 16 - nthI p.ag k * a)
      { d with
        offsets := (upTo lv.length).foldl put d.offsets
        learnedAt := (upTo lv.length).foldl (fun t k => tput t (offKey die blk.bgroup k) (tr, d.now)) d.learnedAt }
  | _, _ => d

/-! ### Issue of flash operations -/

/-- Order in which classes of waiting flash work are served (R176, R186): vermilion and the journal first, then ochre, then
the rest, then scrape. -/
def flashRank (c : Claim) : Nat := match c with | .V => 0 | .J => 0 | .O => 1 | .G => 2 | .S => 3

/-- Whether an operation programs a row. -/
def FOp.rowOf : FOp → Option (Nat × Nat)
  | .program g l _ => some (g, l)
  | _ => none

/-- Rank of an evacuation pass (Table 7-9). -/
def Pass.rank (p : Pass) : Nat :=
  match p with | .rebuild => 1 | .media => 2 | .strip => 3 | .urgent => 4 | .fold => 5 | .scrape => 6 | .wear => 7 | .sand => 8

/-- Place in Table 7-9 of a row that carries moved data: that of the highest pass which has claimed a segment its data comes from; 0 of any other row. -/
def Dev.rowPass (d : Dev) (g l : Nat) : Nat :=
  match tget d.rows (g * 2 ^ 40 + l), d.group g with
  | some w, some x =>
    if !w.move then 0 else
    let slots := w.items.filterMap fun i => match i.cargo with | .stripe k => some k | .moved _ old => some old.index | _ => none
    let passes := slots.filterMap fun i => (tget x.slots i).bind fun k => (tget x.segs k.segment).bind (·.claim)
    (passes.map Pass.rank).foldl Nat.min 9
  | _, _ => 0

/-- Program slots of a die in the 8 ms plan, each of the scheduler's slot period. -/
def planSlots : Nat := 8000 / Nat.max 1 Config.slotPeriodUs

/-- Row programs that occupy slots of a die, waiting or issued, under a class, or in all. Programs of the journal, of overlay pages, of rebuilt units
and of the dump take no slot and wait for none: R242 does not say which programs do (DESIGN CHOICE, log 158). -/
def Dev.slotsOn (d : Dev) (die : Nat) (c : Option Claim) : Nat :=
  countP d.flash fun o => decide (o.die = die) && o.op.rowOf.isSome && (match c with | some k => decide (o.claim = k) | none => true)

/-- Program slots per die that the vermilion reservations of a group hold (R185): its reserved physical rate over what a member programs in one-bit
mode. -/
def Dev.slotFloorV (d : Dev) (g : Nat) : Nat :=
  match d.group g, d.groupProfile g with
  | some x, some p => Nat.min planSlots (ceilDiv (planSlots * (tget d.adm.slots g).getD 0) (Nat.max 1 (384 * x.m * p.slcMBs)))
  | _, _ => 0

/-- Program slots per die held for scrape (R330): below URGENT, SLOT_FLOOR percent of those that no vermilion reservation holds. -/
def Dev.slotFloorS (d : Dev) (g : Nat) : Nat :=
  if d.urgent g then ceilDiv ((planSlots - d.slotFloorV g) * d.rd MAP_SCRAPE_CFG_SLOT_FLOOR) 100 else 0

/-- Whether a row program of class c of group g may take a slot of a die: the procedure of R214 with the watermarks that the specification gives no
value (R242, R330; log 158). A die whose slots are all free always gives one. -/
def Dev.slotGiven (d : Dev) (g die : Nat) (c : Claim) : Bool :=
  let all := d.slotsOn die none
  if all = 0 then true else
  let v := d.slotFloorV g
  let s := d.slotFloorS g
  let usedV := Nat.min v (d.slotsOn die (some .V))
  let usedS := Nat.min s (d.slotsOn die (some .S))
  let mark (pct : Nat) : Bool := decide ((all + 1) * 100 ≤ pct * planSlots)
  if c = .V ∧ usedV < v ∨ c = .S ∧ usedS < s then decide (all < planSlots)
  else decide (all - usedV - usedS + 1 ≤ planSlots - v - s) && (decide (c ≠ .G) || mark Config.slotAmber) && mark Config.slotCrimson

/-- The rank of a waiting operation: that of its class, and among the programs of the internal passes the order of Table 7-9 (R335). Below URGENT a
program of scrape within its floor goes with ochre work, so that it progresses (R242, R330). -/
def Dev.opRank (d : Dev) (o : FlashOp) : Nat :=
  match o.op.rowOf with
  | some (g, l) => 16 * (if o.claim = .S ∧ d.slotsOn o.die (some .S) ≤ d.slotFloorS g then flashRank .O else flashRank o.claim) + d.rowPass g l
  | none => 16 * flashRank o.claim

/-- Whether the write guard holds programs and erases of port n now (R290). During the dump its temperature conditions place no hold (R297). -/
def Dev.guarded (d : Dev) (n : Nat) : Bool := d.isSet (FLP_GUARD_STAT_HELD n)

/-- Whether port n takes operations: OWNED, not failed, not in training (R264, R266). -/
def Dev.portReady (d : Dev) (n : Nat) : Bool :=
  match tget d.ports n with
  | some p => decide (p.own = .owned) && !p.training && !d.isSet (FLP_STAT_FAILED n)
  | none => false

/-- The window of the 8 ms plan that runs. The windows are counted from the part's time 0, a choice of the model's (log 118). -/
def Dev.planWindow (d : Dev) : Nat := d.now / msNs 8

/-- Read slots that rebuild and the sanding pass have used on a die in the running window. -/
def Dev.planUsed (d : Dev) (die : Nat) : Nat × Nat :=
  match tget d.dies die with
  | some x => if x.plan.1 = d.planWindow then x.plan.2 else (0, 0)
  | none => (0, 0)

/-- The flash read an operation belongs to. -/
def Dev.readOf (d : Dev) (o : FlashOp) : Option FRead := match o.op with | .read r _ => tget d.freads r | _ => none

/-- Whether the plan has a slot for a read: rebuild reads take at most ARR_CFG.READ_SHARE percent of a die's read slots (R392), the sanding
pass at most MAP_SAND_CFG.SHARE percent (R350). -/
def Dev.slotFree (d : Dev) (o : FlashOp) : Bool :=
  match d.readOf o, (tget d.ports (diePort o.die)).bind (·.profile) with
  | some r, some p =>
    let slc := r.cws.any fun e => decide (e.2.die = o.die) && e.2.slc
    match r.use with
    | .unit _ _ _ => decide (((d.planUsed o.die).1 + 1) * 100 ≤ p.readSlots slc * d.rd ARR_CFG_READ_SHARE)
    | .sample _ _ => decide (((d.planUsed o.die).2 + 1) * 100 ≤ p.readSlots slc * d.rd MAP_SAND_CFG_SHARE)
    | _ => true
  | _, _ => true

/-- A read of rebuild or the sanding pass takes its slot. -/
def Dev.takeSlot (d : Dev) (o : FlashOp) : Dev :=
  let u := d.planUsed o.die
  match (d.readOf o).map FRead.use with
  | some (.unit _ _ _) => d.modDie o.die fun x => { x with plan := (d.planWindow, u.1 + 1, u.2) }
  | some (.sample _ _) => d.modDie o.die fun x => { x with plan := (d.planWindow, u.1, u.2 + 1) }
  | _ => d

/-- Whether an operation programs a unit of a rebuild. -/
def FOp.isRebuild : FOp → Bool
  | .rebuild _ _ _ => true
  | _ => false

/-- Whether a row program waits for the rebuild onto its die: the program slots of the spare die serve the rebuild alone while it has units to program
(R392). The rows of segments formed on the spare die meanwhile (R390) are programmed there between its units (DEDUCED, log 167). -/
def Dev.slotsKept (d : Dev) (o : FlashOp) : Bool := o.op.rowOf.isSome && d.flash.any fun x => decide (x.die = o.die) && x.op.isRebuild

/-- Whether an operation may be issued now: its port ready, its die idle, no hold on it (R290, R293), a slot of the plan for it. -/
def Dev.mayIssue (d : Dev) (o : FlashOp) : Bool :=
  !o.issued && d.portReady (diePort o.die) && !(d.flash.any fun x => x.issued && x.die = o.die)
    && !(o.op.writes && d.guarded (diePort o.die)) && d.slotFree o && !d.slotsKept o

/-- The row address of a page of a die (R253): LUN, block and page at the places the profile gives. -/
def Dev.rowAddress (d : Dev) (die block page : Nat) : Nat :=
  match (tget d.ports (diePort die)).bind (·.profile) with
  | some p => page + block * 2 ^ p.pageBits + die % 4 * 2 ^ (p.pageBits + p.blockBits)
  | none => 0

/-- An operation on a die whose RESET still runs waits for that die's ready status first (R274). -/
def Dev.awaitReset (d : Dev) (die : Nat) : Dev :=
  match tget d.ports (diePort die) with
  | some p => if p.resetting.contains die then
      ((d.runBuiltinAt die slotStatus { FAddr.none_ with row := d.rowAddress die 0 0 } []).emit (.cycles die [.poll 1000])).modPort (diePort die) fun p => { p with resetting := p.resetting.filter (· ≠ die) }
    else d
  | none => d

/-- The parameters that FEAT steps of an operation's sequence take: for a read the offsets of the die's read levels, by level; none otherwise
(DESIGN CHOICE, log 117). -/
def Dev.opParams (d : Dev) (o : FlashOp) : List Bytes :=
  match o.op with
  | .read _ _ => (upTo 16).map fun k => toLE 4 (unsigned 32 ((tget d.levels (o.die * 16 + k)).getD 0))
  | _ => []

/-- Mark the first operation equal to o issued, and run its sequence on its port to its first WAIT_RDY; a read first has its levels set
(R286). -/
def Dev.issueOne (d : Dev) (o : FlashOp) : Dev :=
  let d := (d.awaitReset o.die).takeSlot o
  let d := match o.op with
    | .read r i => match tget d.freads r with
      | some f => match tget f.cws i with
        | some w => d.setLevels w
        | none => d
      | none => d
    | _ => d
  let i := (d.flash.idxOf o)
  let s := { o with params := d.opParams o }.start ((tget d.ports (diePort o.die)).bind (·.profile))
  ({ d with flash := modAt d.flash i fun _ => s.1 }.emit (.flash o.die o.op)).emit
    (.cycles o.die s.2)

/-- Count once each operation a write-guard hold keeps back (R295). -/
def Dev.countHeld (d : Dev) : Dev :=
  let isHeld (o : FlashOp) : Bool := !o.issued && o.op.writes && !o.counted && d.guarded (diePort o.die)
  let d' := d.flash.foldl (fun d o => if isHeld o then d.bump (FLP_GUARD_STAT_HELD_OPS (diePort o.die)) else d) d
  { d' with flash := d'.flash.map fun o => if isHeld o then { o with counted := true } else o }

/-- Issue every operation that may go, class by class and in arrival order within a class, at most n of them. -/
def Dev.issueN : Nat → Dev → Dev
  | 0, d => d
  | n + 1, d =>
    match argMin d.opRank (d.flash.filter d.mayIssue) with
    | none => d
    | some o => Dev.issueN n (d.issueOne o)

/-- Issue what may go now. -/
def Dev.issueFlash (d : Dev) : Dev := Dev.issueN d.flash.length d.countHeld

/-- An operation not yet issued: die, class, what it does, and the place of its sequence in the profile's `uses` with its pages. -/
def FlashOp.new (die : Nat) (claim : Claim) (op : FOp) (seq : Nat) (pages : List FAddr) : FlashOp :=
  { die := die, claim := claim, op := op, seq := seq, pages := pages, issued := false, counted := false, left := [], marked := false }

/-- Places in `uses`: page read, program, erase, each for SLC and for QLC. -/
def seqRead (slc : Bool) : Nat := b2n !slc
def seqProgram (slc : Bool) : Nat := 2 + b2n !slc
def seqErase (slc : Bool) : Nat := 4 + b2n !slc

/-- The erase of a block. -/
def Dev.eraseOp (d : Dev) (die : Nat) (op : FOp) (block : Nat) : FlashOp :=
  let slc := match d.blk die block with | some k => k.slc | none => false
  .new die .S op (seqErase slc) [{ row := d.rowAddress die block 0, column := 0, data := [], length := 0 }]

/-- The sensing of codeword cw of a read (R275, R281): the codeword alone at its column, the whole page at stage 5. -/
def Dev.senseOp (d : Dev) (id cw : Nat) (w : CwRead) (c : Claim) : FlashOp :=
  let per := match (tget d.ports (diePort w.die)).bind (·.profile) with | some p => Nat.max 1 p.cwPerPage | none => 1
  let row := d.rowAddress w.die w.block w.page
  let page : FAddr := if w.stage = 5 then { row := row, column := 0, data := [], length := per * 4608 }
    else { row := row, column := cw % per * 4608, data := [], length := 4608 }
  .new w.die c (.read id cw) (seqRead w.slc) [page]

/-- Put operations to the flash scheduler. -/
def Dev.flashPut (d : Dev) (ops : List FlashOp) : Dev := { d with flash := d.flash ++ ops }.issueFlash

/-- PROG_TEMP of each codeword of a page as it is programmed, those of FILL and those whose temperature is unknown apart (Tables 6-6, 6-7). -/
def progTemps (b : Bytes) : List Int :=
  ((upTo (b.length / 4608)).filter fun i => !bit (le b (i * 4608 + 3) 1) 1 && decide (le b (i * 4608 + 0x1013) 1 ≠ 0x80)).map fun i =>
    signed 8 (le b (i * 4608 + 0x1013) 1)

/-- The block that a row address names. -/
def Dev.blockAt (d : Dev) (die row : Nat) : Nat :=
  match (tget d.ports (diePort die)).bind (·.profile) with
  | some p => row / 2 ^ p.pageBits % 2 ^ p.blockBits
  | none => 0

/-- Pages have been programmed on a die: the program temperatures of their codewords count in those of their block (R286). -/
def Dev.noteTemps (d : Dev) (die : Nat) (pages : List FAddr) : Dev :=
  match tget d.dies die with
  | none => d
  | some x =>
    let one (x : Die) (a : FAddr) : Die :=
      let ts := progTemps a.data
      if ts.isEmpty then x else
      x.modBlk (d.blockAt die a.row) fun k => { k with tempSum := k.tempSum + ts.foldl (· + ·) 0, tempCount := k.tempCount + ts.length }
    { d with dies := tput d.dies die (pages.foldl one x) }

/-- Take an issued operation off its die. -/
def Dev.flashTake (d : Dev) (die : Nat) (op : FOp) : Dev :=
  { d with flash := d.flash.filter fun o => !(o.die = die && decide (o.op = op)) }

/-- An issued operation has ended with the die's status byte: the rest of its sequence has run, and it is off its die; whether it has failed at a
CHECK (R263). -/
def Dev.flashEnd (d : Dev) (die : Nat) (op : FOp) (status : Byte) : Dev × Bool :=
  match d.flash.find? fun o => o.issued && decide (o.die = die) && decide (o.op = op) with
  | some o => ((d.emit (.cycles die (o.finish status).1)).flashTake die op, (o.finish status).2)
  | none => (d.flashTake die op, false)

/-- An issued operation is complete. -/
def Dev.flashDone (d : Dev) (die : Nat) (op : FOp) : Dev := (d.flashEnd die op statusPass).1

/-- Whether a die's port is in training: nothing is transferred on it, a status poll neither, so that the end of an operation is not seen (R268). -/
def Dev.busPaused (d : Dev) (die : Nat) : Bool := (tget d.ports (diePort die)).any fun p => p.training

/-- Whether an operation is issued on a die. -/
def Dev.flashIssued (d : Dev) (die : Nat) (op : FOp) : Bool :=
  d.flash.any fun o => o.issued && o.die = die && decide (o.op = op)

/-! ### Ownership and training (R264–R274) -/

/-- Ask for port n (R272): PORTOWN high. A port with ENABLE 0 is never asked for. -/
def Dev.askPort (d : Dev) (n : Nat) : Dev :=
  match tget d.ports n with
  | some p => if p.own = .free ∧ p.enabled then
      (d.modPort n fun p => { p with own := .ask, askedAt := d.now }).showOwn n 1 true else d
  | none => d

/-- The mode a port's setting gives with its profile (R256). -/
def Dev.modeFor (d : Dev) (n mode : Nat) : Nat :=
  match (tget d.ports n).bind (·.profile) with | some q => q.clampMode mode | none => mode

/-- The mode training runs at (R256, R264). -/
def Dev.targetMode (d : Dev) (n : Nat) : Nat := d.modeFor n (d.rd (FLP_CTL_MODE n))

/-- The chip enables of a port with a die in use. -/
def Dev.enablesOf (d : Dev) (n : Nat) : List Nat :=
  (upTo 8).filter fun ce => d.dies.any fun e => decide (diePort e.1 = n) && e.2.used && decide (e.1 % 32 / 4 = ce)

/-- Start a training of port n at a mode (R264, R271): the steps the profile declares, for each chip enable, in the order ZQ, duty cycle, read
DQ, write DQ; VREFQ training, where the profile declares it (Table 6-1), comes with the read DQ training. MODE_NOW follows when it passes (R256). A full
training that is due stays due while the port trains at another mode (R271). -/
def Dev.startTraining (d : Dev) (n mode : Nat) : Dev :=
  let d := (d.modPort n fun p => { p with training := true, trainAt := mode, due := p.due && decide (mode ≠ d.targetMode n) }).emit (.train n mode)
  match (tget d.ports n).bind (·.profile) with
  | none => d
  | some q =>
    let steps := [TrainStep.zq, .dutyCycle, .readDq, .vref, .writeDq].filter q.trains.contains
    (d.enablesOf n).foldl (fun d ce => steps.foldl (fun d s => d.runBuiltin (n * 32 + ce * 4) s.slot []) d) d

/-- The first profile, in die order, that the dies' identities match (R258). -/
def matchProfile (ps : List Profile) (ids : List (Option DieId)) : Option Profile :=
  ids.findSome? fun i => match i with
    | none => none
    | some x => ps.find? fun p => x.fits p

/-- The ID bytes that are read: as many as the longest of the accepted profiles has. Bytes of a parameter page: ONFI's (PRESUMED, log 117). -/
def Dev.idLength (d : Dev) : Nat := (d.profiles.map fun p => p.idBytes.length).foldl Nat.max 1
def paramLength : Nat := 256

/-- READ ID and the parameter page of every chip enable and LUN, in mode 0 (R258). -/
def Dev.readIds (d : Dev) (n : Nat) : Dev :=
  (upTo 32).foldl (fun d k => (d.runBuiltinAt (n * 32 + k) slotReadId (.reads d.idLength) []).runBuiltinAt (n * 32 + k) slotParam (.reads paramLength) [])
    (d.wr (FLP_STAT_MODE_NOW n) 0)

/-- The on-die termination a profile declares, set on every chip enable in use and read back (Table 6-1). -/
def Dev.setOdt (d : Dev) (n : Nat) (p : Profile) : Dev :=
  match p.odt with
  | none => d
  | some v => (d.enablesOf n).foldl (fun d ce => (d.runBuiltin (n * 32 + ce * 4) slotOdt [toLE 4 v]).runBuiltin (n * 32 + ce * 4) slotGet []) d

/-- A die found on a port and in use: its blocks as they were known, or all FREE (R259). -/
def Die.fresh (p : Profile) : Die :=
  { used := true, retired := false, group := none, blocks := [], spares := (if p.spares < p.blocks / 40 then p.blocks / 40 else p.spares),
    current := 0, groups := [], plan := (0, 0, 0) }

/-- Identify the dies of port n (R258, R259): the first match fixes the profile, dies that match it are in use, the others
are unused and counted, with one manager event. The port's modes are clamped anew to the profile's (R256). -/
def Dev.identify (d : Dev) (n : Nat) (ids : List (Option DieId)) : Dev :=
  let d := d.readIds n
  match matchProfile d.profiles ids with
  | none =>
    let d := ((d.wr (FLP_STAT_PROFILE_OK n) 0).wr (FLP_STAT_DIES n) 0).wr (FLP_STAT_UNUSED n) (countP ids (·.isSome))
    let d := ((d.wr (FLP_PROFILE_PROFILE_ID n) 0xFFFF).wr (FLP_PROFILE_MAX_MODE n) 0).modPort n fun x => { x with profile := none }
    let d := { d with dies := tmap d.dies fun k x => if diePort k = n then { x with used := false } else x }
    if ids.any (·.isSome) then d.event 0x0405 0 0 n [countP ids (·.isSome)] else d
  | some p =>
    let hit := (ids.take 32).map fun i => match i with | some x => x.fits p | none => false
    let unused := countP (ids.take 32) fun i => match i with | some x => !x.fits p | none => false
    let d := (((((d.wr (FLP_STAT_PROFILE_OK n) 1).wr (FLP_STAT_DIES n) (countP hit id)).wr (FLP_STAT_UNUSED n) unused).wr
      (FLP_PROFILE_PROFILE_ID n) p.id).wr (FLP_PROFILE_MAX_MODE n) p.maxMode)
    let d := d.modPort n fun x => { x with profile := some p }
    let d := d.wr (FLP_CTL_MODE n) (p.clampMode (d.rd (FLP_CTL_MODE n)))
    let d := d.wr (FLP_CTL_TAKEOVER_MODE n) (clampN 1 (d.rd (FLP_CTL_MODE n)) (d.rd (FLP_CTL_TAKEOVER_MODE n)))
    let put (t : Tbl Die) (e : Bool × Nat) : Tbl Die :=
      match tget t (n * 32 + e.2) with
      | some x => tput t (n * 32 + e.2) { x with used := e.1 }
      | none => if e.1 then tput t (n * 32 + e.2) (Die.fresh p) else t
    let d := ({ d with dies := hit.zipIdx.foldl put d.dies }).setOdt n p
    if unused = 0 then d else d.event 0x0405 0 0 n [unused]

/-! ### Marker search (R277) -/

/-- Bit i of a captured byte string, least significant bit of each byte first. -/
def capBit (b : Bytes) (i : Nat) : Bool := (b.getD (i / 8) 0).getLsbD (i % 8)

/-- The 16 bits at bit position i, the first in bit 0. -/
def cap16 (b : Bytes) (i : Nat) : Nat :=
  ((upTo 16).map fun j => if capBit b (i + j) then 2 ^ j else 0).foldl (· + ·) 0

/-- Number of ones in the low 16 bits. -/
def ones16 (n : Nat) : Nat := countP (upTo 16) fun j => bit n j

/-- Whether the marker 0xC35A stands at bit position i, at most 2 bits off (R277). -/
def markerAt (b : Bytes) (i : Nat) : Bool := decide (ones16 (Nat.xor (cap16 b i) 0xC35A) ≤ 2)

/-- Slips tried, in order (R277): early before late, nearest first. -/
def slips : List Int := [-1, 1, -2, 2, -3, 3, -4, 4, -5, 5, -6, 6, -7, 7, -8, 8]

/-- Where the marker search finds the codeword in a capture whose trained start is bit 8 (one extra beat before, R277). -/
def findMarker (b : Bytes) : Option Int :=
  if markerAt b 8 then some 0 else slips.find? fun s => markerAt b (8 + s).toNat

/-- Ones in a byte. -/
def onesByte (x : Byte) : Nat := countP (upTo 8) fun j => x.getLsbD j

/-- Whether the codeword at the trained start is erased: at least 36,496 of its 36,864 bits are ones (R277). -/
def unwritten (b : Bytes) : Bool := decide (36496 ≤ sumN ((slice b 1 4608).map onesByte))

end Sys2Proof.Machine
end

