-- ==== Sys2Proof/Machine/Buffers.lean ====
section
/-! DEFINITION. Buffer pools, reference counts, free rings and ledger breaches (chapter 05). -/

namespace Sys2Proof.Machine

/-! ### Breaches (R243–R250) -/

/-- The 32-byte breach record (Table 5-7). -/
def breachBody (ledger term inst left right stamp : Nat) : Bytes :=
  toLE 1 ledger ++ toLE 1 term ++ toLE 2 inst ++ zeros 4 ++ toLE 8 left ++ toLE 8 right ++ toLE 8 stamp

/-- TERM of a breach of R231 or R234: the fifth of row 0 of Table 5-5, numbered from 0. It has no two sides: LEFT is the allocation bit
found and RIGHT the one expected (the model's choice; log 116). -/
def refTerm : Nat := 4

/-- Latch the first breach since reset (FLT_BREACH_INFO). -/
def Dev.latchBreach (d : Dev) (ledger term inst left right : Nat) : Dev :=
  if d.rd FLT_BREACH_INFO_LEDGER = 0xFF then
    ((((((d.wr FLT_BREACH_INFO_LEDGER ledger).wr FLT_BREACH_INFO_TERM term).wr FLT_BREACH_INFO_INSTANCE inst).wr
      FLT_BREACH_LEFT_LO_LEFT left).wr FLT_BREACH_LEFT_HI_LEFT (left / 2 ^ 32)).wr FLT_BREACH_RIGHT_LO_RIGHT right).wr
      FLT_BREACH_RIGHT_HI_RIGHT (right / 2 ^ 32)
  else d

/-- A ledger is found unequal (R246): the breach is latched and recorded, and the device fences; after PWRFAIL_N has fallen it
does not fence, and the record waits for the next boot (R249). -/
def Dev.breach (d : Dev) (ledger term inst left right : Nat) : Dev :=
  let body := breachBody ledger term inst left right (stampLow d.stamp)
  let d := d.latchBreach ledger term inst left right
  let d := d.wr FLT_LEDGER_STAT_BREACH (d.rd FLT_LEDGER_STAT_BREACH ||| 2 ^ ledger)
  let d := { d with boot := { d.boot with breaches := ((body, false) :: d.boot.breaches).take 16 } }
  if d.dumping then d else
    (d.eventRec 0x0101 2 0 inst false [] body).fenceQuiet 0x0101

/-! ### Free rings (R232, R233) -/

/-- Handles in a list of runs. -/
def runCount (r : List (Nat × Nat)) : Nat := sumN (r.map (·.2))

/-- The first n handles of a list of runs, and the rest. -/
def runTake : Nat → List (Nat × Nat) → List (Nat × Nat) × List (Nat × Nat)
  | _, [] => ([], [])
  | n, (a, k) :: r =>
    if n = 0 then ([], (a, k) :: r)
    else if k ≤ n then let x := runTake (n - k) r; ((a, k) :: x.1, x.2)
    else ([(a, n)], (a + n, k - n) :: r)

/-- The handles of a list of runs. -/
def runList (r : List (Nat × Nat)) : List Nat := r.flatMap fun x => (upTo x.2).map (· + x.1)

/-- Handles moved between ring and cache: 256 into a cache below 128, 256 out of one above 448 (R233). -/
def Pool.balance (p : Pool) : Pool :=
  if runCount p.cache < 128 then
    let x := runTake 256 p.ring
    { p with cache := p.cache ++ x.1, ring := x.2 }
  else if 448 < runCount p.cache then
    let x := runTake 256 p.cache
    { p with cache := x.2, ring := p.ring ++ x.1 }
  else p

/-- A pool with all its buffers free (R236), the cache filled. -/
def Pool.fresh (p : Nat) : Pool :=
  Pool.balance { alloc := [], cache := [], ring := [(0, poolTotal p)], waiting := [], amberAt := none, crimsonAt := none }

/-- Pool p of the part. -/
def Dev.pool (d : Dev) (p : Nat) : Pool := (tget d.pools p).getD (Pool.fresh p)

/-- The part with pool p changed by f. -/
def Dev.modPool (d : Dev) (p : Nat) (f : Pool → Pool) : Dev := { d with pools := tput d.pools p (f (d.pool p)) }

/-! ### Credits (R239, Table 5-4) -/

/-- Whether the credits of a queue pair are withheld (R239, Table 5-4). -/
def Dev.withheld (d : Dev) (n : Nat) : Bool :=
  let classes := match tget d.eth.qps n with | some p => p.classes | none => []
  if (upTo 3).any fun p => d.isSet (BPM_WM_CRIMSON_NOW p) then !classes.contains .V
  else if (upTo 3).any fun p => d.isSet (BPM_WM_AMBER_NOW p) then !classes.contains .V && !classes.contains .O
  else false

/-- The credits of one queue pair brought up to date: its queue's free command slots; while they are withheld, new ones are not advertised.
Ledger 1 is compared: ADVERTISED + OCCUPIED + WITHHELD = DEPTH (frames of an earlier, deeper binding that are still outstanding count no
further than DEPTH). INSTANCE of the breach record has 16 bits: it is the queue pair's number modulo 65,536 (DESIGN CHOICE, log 136). -/
def Dev.advertiseOne (d : Dev) (n : Nat) (p : Qp) : Dev :=
  match p.use with
  | .queue k =>
    match tget d.queues k with
    | none => d
    | some q =>
      if p.failed ∨ !p.up then d else
      let taken := Nat.min q.depth (d.outstanding k)
      let free := q.depth - taken
      let now := if d.withheld n then Nat.min p.credits free else free
      let back := free - now
      let d := if now = p.credits ∧ back = p.heldBack then d else d.modQp n fun p => { p with credits := now, heldBack := back }
      let d := if now = p.credits then d else d.emit (.credits n now)
      if now + taken + back = q.depth then d else d.breach 1 0 (n % 65536) (now + taken + back) q.depth
  | _ => d

/-- Credits of every queue pair advertised anew (R239). -/
def Dev.advertise (d : Dev) : Dev := d.eth.qps.foldl (fun d e => d.advertiseOne e.1 e.2) d

/-! ### Flash blocks (ledger 3) -/

/-- Ledger 3 compared for a die after a block has changed state: FREE + OPEN + SEALED + ERASING + RETIRED = blocks of the die. Blocks not
listed are FREE. -/
def Dev.checkDie (d : Dev) (die : Nat) : Dev :=
  match tget d.dies die, (tget d.ports (diePort die)).bind (·.profile) with
  | some x, some p =>
    let inState (s : BlkState) : Nat := countP x.blocks fun e => decide (e.2.state = s)
    let left := (p.blocks - x.blocks.length) + inState .free + inState .open_ + inState .sealed + inState .erasing + inState .retired
    if left = p.blocks then d else d.breach 3 0 (die % 65536) left p.blocks
  | _, _ => d

/-! ### Use, floors and watermarks (R212–R222) -/

/-- Buffers held from the floor of class c in pool p; from the general area for `none`. -/
def Pool.used (p : Pool) (c : Option Claim) : Nat := countP p.alloc fun e => decide (e.2.floor = c)

/-- Floor of class c in pool p; none for a class without a floor. -/
def Dev.floorOf (d : Dev) (p : Nat) (c : Claim) : Option Nat :=
  match c with
  | .V => some (d.rd (BPM_VFLOOR_V_FLOOR p))
  | .J => some (d.rd (BPM_FLOOR_J_FLOOR p))
  | .S => some (d.rd (BPM_FLOOR_S_FLOOR p))
  | _ => none

/-- gen_size of R214. -/
def Dev.genSize (d : Dev) (p : Nat) : Nat :=
  let m c := Nat.max ((d.floorOf p c).getD 0) ((d.pool p).used (some c))
  poolTotal p - m .V - m .J - m .S

/-- The procedure of R214 for n buffers of pool p under class c: refused, or granted from a floor (some class) or from the
general area (none). A floor grant also needs n free buffers (R227), and any grant needs handles. -/
def Dev.mayGrant (d : Dev) (p n : Nat) (c : Claim) : Option (Option Claim) :=
  let q := d.pool p
  let alloc := q.alloc.length
  let fits := match d.floorOf p c with
    | some f => decide (q.used (some c) + n ≤ f) && decide (n ≤ poolTotal p - alloc)
    | none => false
  if fits then some (some c)
  else if d.genSize p < q.used none + n then none
  else if c = .G ∧ d.rd (BPM_WM_AMBER p) * poolTotal p < (alloc + n) * 100 then none
  else if d.rd (BPM_WM_CRIMSON p) * poolTotal p < (alloc + n) * 100 then none
  else some none

/-- Bytes that a tenant's commands hold from the general areas (Table 15-1). -/
def Dev.quotaUsed (d : Dev) (t : Nat) : Nat :=
  sumN (d.pools.map fun e => poolSize e.1 * countP e.2.alloc fun b => decide (b.2.floor = none) && decide (b.2.tenant = t) && b.2.owner.isSome)

/-- Whether n more general buffers of pool p keep tenant t within BUFFER_QUOTA (MiB). -/
def Dev.quotaOk (d : Dev) (p n t : Nat) : Bool :=
  match tget d.tenants t with
  | some x => decide (d.quotaUsed t + n * poolSize p ≤ x.quota * 1048576)
  | none => true

/-- A watermark event, limited to one per second and pool and watermark; others count in BPM_WAITS (R220). -/
def Dev.watermarkEvent (d : Dev) (p which : Nat) : Dev :=
  let before := d.evt.recs.length + d.evt.next
  let d' := d.eventLim 0x0601 0 0 p (p * 2 + which) (sNs 1) [which]
  if d'.evt.recs.length + d'.evt.next = before then d'.bump (BPM_WAITS_WAITS p) else d'

/-- One watermark of pool p brought up to date (R219), with its event (R220). -/
def Dev.watermark (d : Dev) (p which pct : Nat) (now_ : Fld) : Dev :=
  let a := (d.pool p).alloc.length * 100
  if d.isSet now_ then (if a < (pct - 5) * poolTotal p then d.wr now_ 0 else d)
  else if pct * poolTotal p ≤ a then (d.wr now_ 1).watermarkEvent p which
  else d

/-- The counts and watermarks of pool p's registers brought up to date. -/
def Dev.poolRegs (d : Dev) (p : Nat) : Dev :=
  let q := d.pool p
  let d := (((((d.wr (BPM_FREE_FREE p) (runCount q.cache + runCount q.ring)).wr (BPM_FREE_CACHE p) (runCount q.cache)).wr
    (BPM_USE_V_USED p) (q.used (some .V))).wr (BPM_USE_J_USED p) (q.used (some .J))).wr
    (BPM_USE2_S_USED p) (q.used (some .S))).wr (BPM_USE2_GEN_USED p) (q.used none)
  (d.watermark p 0 (d.rd (BPM_WM_AMBER p)) (BPM_WM_AMBER_NOW p)).watermark p 1 (d.rd (BPM_WM_CRIMSON p))
    (BPM_WM_CRIMSON_NOW p)

/-- n handles taken from the cache one by one, the ring refilling it as it empties (R232, R233). -/
def Pool.takeN : Nat → Pool → Pool × List Nat
  | 0, p => (p, [])
  | n + 1, p =>
    let q := p.balance
    let x := runTake 1 q.cache
    let r := Pool.takeN n { q with cache := x.2 }
    (r.1, runList x.1 ++ r.2)

/-- R222's excess of class c in pool p. -/
def Pool.excessOf (q : Pool) (c : Claim) : Nat := ((q.excess.find? fun e => decide (e.1 = c)).map (·.2)).getD 0

/-- What each class with a floor holds of pool p above it. -/
def Dev.aboveFloor (d : Dev) (p : Nat) (c : Claim) : Nat := (d.pool p).used (some c) - (d.floorOf p c).getD 0

/-- The floors of pool p have been set: what a class holds above its own is excess from now on (R222). -/
def Dev.setExcess (d : Dev) (p : Nat) : Dev :=
  d.modPool p fun q => { q with excess := [Claim.V, .J, .S].map fun c => (c, d.aboveFloor p c) }

/-- A buffer of pool p has been freed: excess that has been returned is gone. -/
def Dev.trimExcess (d : Dev) (p : Nat) : Dev :=
  d.modPool p fun q => { q with excess := q.excess.map fun e => (e.1, Nat.min e.2 (d.aboveFloor p e.1)) }

/-- The equations of row 0 of Table 5-5 for pool p, as (TERM, left, right): FREE + ALLOC = TOTAL; ALLOC = V_USED + J_USED + S_USED + GEN_USED;
popcount of the bitmap = ALLOC; each floor's use at most the floor with R222's excess. -/
def Dev.poolTerms (d : Dev) (p : Nat) : List (Nat × Nat × Nat) :=
  let q := d.pool p
  let bound (c : Claim) : Nat := (d.floorOf p c).getD 0 + q.excessOf c
  [(0, runCount q.cache + runCount q.ring + q.alloc.length, poolTotal p),
   (1, q.alloc.length, q.used (some .V) + q.used (some .J) + q.used (some .S) + q.used none),
   (2, (q.alloc.map (·.1)).eraseDups.length, q.alloc.length)] ++
    [Claim.V, .J, .S].map fun c => (3, Nat.max (q.used (some c)) (bound c), bound c)

/-- Ledger 0 compared after an update of pool p (R243): the first equation that does not hold is a breach. -/
def Dev.checkPool (d : Dev) (p : Nat) : Dev :=
  match (d.poolTerms p).find? fun e => decide (e.2.1 ≠ e.2.2) with
  | some e => d.breach 0 e.1 p e.2.1 e.2.2
  | none => d

/-- Take n buffers of pool p for a tenant and command, from a floor or the general area; count 1 each (R228). A handle whose buffer is
allocated already breaches ledger 0 and is not granted (R234). -/
def Dev.takeBuffers (d : Dev) (p n : Nat) (from_ : Option Claim) (tenant : Nat) (owner : Option Nat) : Dev × List Nat :=
  let x := (d.pool p).takeN n
  let twice := x.2.filter fun h => thas x.1.alloc h
  let hs := x.2.filter fun h => !thas x.1.alloc h
  let put (t : Tbl Buf) (h : Nat) : Tbl Buf := tput t h { refs := 1, waiting := 0, floor := from_, tenant := tenant, owner := owner }
  let q := Pool.balance { x.1 with alloc := hs.foldl put x.1.alloc }
  let d := ({ d with pools := tput d.pools p q }).poolRegs p
  (twice.foldl (fun d _ => d.breach 0 refTerm p 1 0) (if twice.isEmpty then d.checkPool p else d), hs)

/-- A handle (R211): POOL in [2:0], INDEX in [16:3]. -/
def handleOf (p i : Nat) : Nat := p + i * 8
def handlePool (h : Nat) : Nat := h % 8
def handleIndex (h : Nat) : Nat := h / 8 % 16384

/-- Whether a handle names a buffer of the pool (R211). -/
def handleValid (h : Nat) : Bool := decide (h < 2 ^ 17) && decide (handlePool h < 5) && decide (handleIndex h < poolTotal (handlePool h))

/-- The buffer a handle names, if it is allocated. -/
def Dev.buf (d : Dev) (h : Nat) : Option Buf :=
  if handleValid h then tget (d.pool (handlePool h)).alloc (handleIndex h) else none

/-- Offset of a buffer in tile memory: pools lie one after another, buffers in index order (Tables 5-1 and 19-3). -/
def handleOffset (h : Nat) : Nat :=
  sumN ((upTo (handlePool h)).map fun p => poolTotal p * poolSize p) + handleIndex h * poolSize (handlePool h)

/-- Whether a further reference on a buffer must wait (R230). -/
def Dev.refFull (d : Dev) (h : Nat) : Bool := match d.buf h with | some b => decide (b.refs = 255) | none => false

/-- Take one reference (R228–R231): a waiting increment where the count is 255; a breach of ledger 0 where the buffer is not
allocated. Its record has LEFT 0 and RIGHT 1: R231 and R234 compare no two sides, so the values are the model's choice (DESIGN CHOICE, log 116). -/
def Dev.takeRef (d : Dev) (h : Nat) : Dev :=
  match d.buf h with
  | none => d.breach 0 refTerm (handlePool h) 0 1
  | some b =>
    if b.refs = 255 then
      (d.modPool (handlePool h) fun p => { p with alloc := tmod p.alloc (handleIndex h) fun b => { b with waiting := b.waiting + 1 } }).bump
        BPM_REFWAIT_REFWAIT
    else d.modPool (handlePool h) fun p => { p with alloc := tmod p.alloc (handleIndex h) fun b => { b with refs := b.refs + 1 } }

/-- Apply one decrement (R229–R231): waiting increments follow it; at 0 the buffer is freed in the same step, and returns to
the floor it came from (R218). LEFT and RIGHT of a breach are those of log 116. -/
def Dev.release (d : Dev) (h : Nat) : Dev :=
  match d.buf h with
  | none => d.breach 0 refTerm (handlePool h) 0 1
  | some b =>
    let i := handleIndex h
    if b.refs ≤ 1 ∧ b.waiting = 0 then
      (((d.modPool (handlePool h) fun p => Pool.balance { p with alloc := tdel p.alloc i, cache := p.cache ++ [(i, 1)] }).trimExcess (handlePool h)).poolRegs
        (handlePool h)).checkPool (handlePool h)
    else if b.waiting = 0 then
      d.modPool (handlePool h) fun p => { p with alloc := tmod p.alloc i fun b => { b with refs := b.refs - 1 } }
    else d.modPool (handlePool h) fun p => { p with alloc := tmod p.alloc i fun b => { b with waiting := b.waiting - 1 } }

/-- The command a request belongs to. -/
def Use.owner (u : Use) : Option Nat :=
  match u with
  | .piece id _ => some id
  | .payload id => some id
  | .reads id => some id
  | .coded id _ => some id
  | _ => none

/-- Release every buffer granted to a command, and forget its waiting requests. A buffer that others still refer to (R50) is the
command's no more. -/
def Dev.releaseAll (d : Dev) (cmd : Nat) : Dev :=
  let hs := d.pools.flatMap fun e => (e.2.alloc.filter fun b => decide (b.2.owner = some cmd)).map fun b => handleOf e.1 b.1
  let disown (b : Buf) : Buf := if b.owner = some cmd then { b with owner := none } else b
  let d := hs.foldl (fun d h => d.release h) d
  { d with
    pools := tmap d.pools fun _ p => { p with
      waiting := p.waiting.filter fun r => decide (r.use.owner ≠ some cmd)
      alloc := tmap p.alloc fun _ b => disown b }
    hands := d.hands.filter fun h => decide (h.1.owner ≠ some cmd) }

/-- Put a request for n buffers of the smallest pool that holds `size` bytes (R208). -/
def Dev.request (d : Dev) (size n : Nat) (c : Claim) (tenant : Nat) (use : Use) : Dev :=
  match poolFor size with
  | none => d
  | some p => d.modPool p fun q =>
      { q with waiting := q.waiting ++ [{ claim := c, tenant := tenant, count := n, use := use, waited := false }] }

/-- Tenant of a request that no tenant's command makes. -/
def noTenant : Nat := 65536

/-- Buffers that a unit of the device holds for a use. -/
def Dev.handsOf (d : Dev) (u : Use) : List Nat := ((d.hands.find? fun h => decide (h.1 = u)).map (·.2)).getD []

/-- Whether a request for a use waits. -/
def Dev.asking (d : Dev) (u : Use) : Bool := d.pools.any fun e => e.2.waiting.any fun r => decide (r.use = u)

/-- What a unit holds for a use replaced. -/
def Dev.setHands (d : Dev) (u : Use) (hs : List Nat) : Dev :=
  let rest := d.hands.filter fun h => decide (h.1 ≠ u)
  { d with hands := if hs.isEmpty then rest else rest ++ [(u, hs)] }

/-- A unit of the device asks for what it lacks of n buffers that hold `size` bytes, unless its request waits already (R210). -/
def Dev.ask (d : Dev) (u : Use) (size n : Nat) (c : Claim) (tenant : Nat) : Dev :=
  let k := (d.handsOf u).length
  if n ≤ k ∨ d.asking u then d else d.request size (n - k) c tenant u

/-- The first n buffers that a unit holds for a use, taken out. -/
def Dev.takeHands (d : Dev) (u : Use) (n : Nat) : Dev × List Nat :=
  (d.setHands u ((d.handsOf u).drop n), (d.handsOf u).take n)

/-- A unit lets go what it holds or has asked for a use. -/
def Dev.dropHands (d : Dev) (u : Use) : Dev :=
  let d' := (d.handsOf u).foldl (fun d h => d.release h) (d.setHands u [])
  { d' with pools := tmap d'.pools fun _ p => { p with waiting := p.waiting.filter fun r => decide (r.use ≠ u) } }

/-- The requests of class c in pool p that may be looked at: the oldest, and, past requests that wait only on their own tenant's
quota, the oldest of each later tenant (R216). -/
def Dev.nextOf (d : Dev) (p : Nat) (c : Claim) : List Nat → List (BufReq × Nat) → Option (Nat × BufReq × Option Claim)
  | _, [] => none
  | blocked, (r, i) :: rest =>
    if r.claim ≠ c ∨ blocked.contains r.tenant then Dev.nextOf d p c blocked rest else
    match d.mayGrant p r.count c with
    | none => none
    | some none => if d.quotaOk p r.count r.tenant then some (i, r, none) else Dev.nextOf d p c (r.tenant :: blocked) rest
    | some (some f) => some (i, r, some f)

/-- The request that R214 grants next in pool p, with the floor it is granted from: classes in the order V, J, S, O, G. -/
def Dev.nextGrant (d : Dev) (p : Nat) : Option (Nat × BufReq × Option Claim) :=
  [Claim.V, .J, .S, .O, .G].findSome? fun c => d.nextOf p c [] (d.pool p).waiting.zipIdx

/-- Count the requests of pool p that are found waiting for the first time (BPM_WAITS). -/
def Dev.countWaits (d : Dev) (p : Nat) : Dev :=
  let n := countP (d.pool p).waiting fun r => !r.waited
  (d.modPool p fun q => { q with waiting := q.waiting.map fun r => { r with waited := true } }).addSat (BPM_WAITS_WAITS p) n

/-- The recount of a full audit (R244): every allocated buffer's index lies in the pool, and none is also free. -/
def Pool.audit (p : Pool) (n : Nat) : Bool :=
  decide (p.alloc.length + runCount p.cache + runCount p.ring = poolTotal n) &&
    p.alloc.all fun e => decide (e.1 < poolTotal n) && !(p.cache ++ p.ring).any fun r => decide (r.1 ≤ e.1) && decide (e.1 < r.1 + r.2)

/-- The meaning of LEDGER_AUDIT (R244): the bitmap equation of every pool is checked, and the audit counted. -/
def execLedgerAudit (s : State) : Host.Outcome State Fault Refusal :=
  onDev (fun d =>
    let d := d.addWrap FLT_LEDGER_AUDIT_AUDITS 1
    (upTo 5).foldl (fun d p => if (d.pool p).audit p then d else
      d.breach 0 2 p (d.pool p).alloc.length (poolTotal p - runCount (d.pool p).cache - runCount (d.pool p).ring)) d) s

/-- Rebuild the free ring of pool p from the allocation bitmap (R235). -/
def Dev.rebuildRing (d : Dev) (p : Nat) : Dev :=
  let q := d.pool p
  let free := (upTo (poolTotal p)).filter fun i => !thas q.alloc i
  ((d.modPool p fun q => Pool.balance { q with cache := [], ring := free.map fun i => (i, 1) }).event 0x0602 0 0 p []).poolRegs p

end Sys2Proof.Machine
end

