-- ==== Sys2Proof/Machine/Crypto.lean ====
section
/-! DEFINITION. SHA-256 (FIPS 180-4), HMAC (FIPS 198-1), AES-256 (FIPS 197), XTS (IEEE Std 1619) and GCM (SP 800-38D), which the
lanes compute (R475–R486, R489), and the GF(2^8) arithmetic of parity rows (R373). -/

namespace Sys2Proof.Machine

/-! ### SHA-256 -/

/-- The round constants of SHA-256, sixteen to a number, the first of each in the lowest 32 bits. -/
def shaTable : List Nat :=
  [ 0xc19bf1749bdc06a780deb1fe72be5d74550c7dc3243185be12835b01d807aa98ab1c5ed5923f82a459f111f13956c25be9b5dba5b5c0fbcf71374491428a2f98
  , 0x1429296706ca6351d5a79147c6e00bf3bf597fc7b00327c8a831c66d983e515276f988da5cb0a9dc4a7484aa2de92c6f240ca1cc0fc19dc6efbe4786e49b69c1
  , 0x106aa070f40e3585d6990624d192e819c76c51a3c24b8b70a81a664ba2bfe8a192722c8581c2c92e766a0abb650a735453380d134d2c6dfc2e1b213827b70a85
  , 0xc67178f2bef9a3f7a4506ceb90befffa8cc7020884c8781478a5636f748f82ee682e6ff35b9cca4f4ed8aa4a391c0cb334b0bcb52748774c1e376c0819a4c116 ]

/-- The constant of round i. -/
def shaK (i : Nat) : Word32 := BitVec.ofNat 32 (shaTable.getD (i / 16) 0 >>> (i % 16 * 32))

/-- The initial working words of SHA-256, the first in the lowest 32 bits of one number. -/
def shaInit : List Word32 :=
  (upTo 8).map fun i => BitVec.ofNat 32 (0x5be0cd191f83d9ab9b05688c510e527fa54ff53a3c6ef372bb67ae856a09e667 >>> (i * 32))

/-- Word i of a list of words. -/
def wAt (l : List Word32) (i : Nat) : Word32 := l.getD i 0

/-- A word turned right by each of some amounts, the results combined by exclusive or. -/
def turned (w : Word32) (by_ : List Nat) : Word32 := by_.foldl (fun x n => x ^^^ w.rotateRight n) 0

/-- The message schedule, newest word first, extended by n words. -/
def shaSchedule : Nat → List Word32 → List Word32
  | 0, w => w
  | n + 1, w =>
    let late := turned (wAt w 1) [17, 19] ^^^ (wAt w 1 >>> 10)
    let early := turned (wAt w 14) [7, 18] ^^^ (wAt w 14 >>> 3)
    shaSchedule n ((late + wAt w 6 + early + wAt w 15) :: w)

/-- One round on the working words a–h with the sum of a schedule word and its constant. -/
def shaRound (h : List Word32) (kw : Word32) : List Word32 :=
  match h with
  | [a, b, c, d, e, f, g, last] =>
    let pick := g ^^^ (e &&& (f ^^^ g))
    let most := (a &&& b) ||| (c &&& (a ||| b))
    let new := last + kw + turned e [6, 11, 25] + pick
    [new + most + turned a [2, 13, 22], a, b, c, d + new, e, f, g]
  | l => l

/-- One 64-byte block taken into the working words. -/
def shaBlock (h : List Word32) (b : Bytes) : List Word32 :=
  let first := (chunks 4 16 b).map fun x => BitVec.ofNat 32 (fromBE x)
  let words := (shaSchedule 48 first.reverse).reverse
  (h.zip (words.zipIdx.foldl (fun h w => shaRound h (w.1 + shaK w.2)) h)).map fun x => x.1 + x.2

/-- Whole blocks taken into the working words. -/
def shaBlocks (h : List Word32) (b : Bytes) : List Word32 :=
  (chunks 64 (b.length / 64) b).foldl shaBlock h

/-- The padding of a message of n bytes. -/
def shaPad (n : Nat) : Bytes := 0x80 :: zeros ((119 - n % 64) % 64) ++ toBE 8 (8 * n)

/-- The bytes of the working words. -/
def shaOut (h : List Word32) : Bytes := h.flatMap fun w => toBE 4 w.toNat

/-- SHA-256 continued from working words after n bytes. -/
def shaFrom (h : List Word32) (n : Nat) (b : Bytes) : Bytes := shaOut (shaBlocks h (b ++ shaPad (n + b.length)))

/-- SHA-256. -/
def sha256 (b : Bytes) : Bytes := shaFrom shaInit 0 b

/-- HMAC-SHA-256 (keys longer than a block are hashed first). -/
def hmac (key b : Bytes) : Bytes :=
  let k := padTo 64 (if 64 < key.length then sha256 key else key)
  sha256 (k.map (· ^^^ 0x5c) ++ sha256 (k.map (· ^^^ 0x36) ++ b))

/-! ### GF(2^8) -/

/-- Doubling in GF(2^8) with polynomial 0x100 + p. -/
def gfDouble (p : Byte) (a : Byte) : Byte := if a.getLsbD 7 then (a <<< 1) ^^^ p else a <<< 1

/-- The product of a and b in GF(2^8) with polynomial 0x100 + p. -/
def gfMulN (p : Byte) : Nat → Byte → Byte → Byte
  | 0, _, _ => 0
  | n + 1, a, b => (if b.getLsbD 0 then a else 0) ^^^ gfMulN p n (gfDouble p a) (b >>> 1)

def gfMul (p a b : Byte) : Byte := gfMulN p 8 a b

/-- The n-th power of a. -/
def gfPow (p a : Byte) : Nat → Byte
  | 0 => 1
  | n + 1 => gfMul p a (gfPow p a n)

/-- The inverse of a, 0 for 0: a^254. -/
def gfInv (p a : Byte) : Byte := gfPow p a 254

/-! ### AES-256 -/

/-- The AES S-box: inverse, then the affine map. -/
def sbox (a : Byte) : Byte :=
  let b := gfInv 0x1B a
  b ^^^ b.rotateLeft 1 ^^^ b.rotateLeft 2 ^^^ b.rotateLeft 3 ^^^ b.rotateLeft 4 ^^^ 0x63

/-- The inverse S-box. -/
def sboxInv (a : Byte) : Byte :=
  gfInv 0x1B (a.rotateLeft 1 ^^^ a.rotateLeft 3 ^^^ a.rotateLeft 6 ^^^ 0x05)

/-- Bytewise exclusive or. -/
def xorB (a b : Bytes) : Bytes := List.zipWith (· ^^^ ·) a b

/-- Key expansion of AES-256: words newest first, i the index of the next word. -/
def aesExpand : Nat → Nat → List Bytes → List Bytes
  | 0, _, w => w
  | n + 1, i, w =>
    let t := w.getD 0 []
    let t := if i % 8 = 0 then xorB ((t.drop 1 ++ t.take 1).map sbox) (gfPow 0x1B 2 (i / 8 - 1) :: zeros 3)
      else if i % 8 = 4 then t.map sbox else t
    aesExpand n (i + 1) (xorB (w.getD 7 []) t :: w)

/-- The fifteen round keys of a 32-byte key. -/
def aesKeys (key : Bytes) : List Bytes :=
  chunks 16 15 (aesExpand 52 8 (chunks 4 8 key).reverse).reverse.flatten

/-- Byte i of a block. -/
def bAt (b : Bytes) (i : Nat) : Byte := b.getD i 0

/-- ShiftRows: byte r + 4c comes from column c + r. -/
def shiftRows (b : Bytes) : Bytes := (upTo 16).map fun i => bAt b ((i + 4 * (i % 4)) % 16)

/-- InvShiftRows. -/
def shiftRowsInv (b : Bytes) : Bytes := (upTo 16).map fun i => bAt b ((i + 16 - 4 * (i % 4)) % 16)

/-- A column matrix product with coefficients c0–c3 of row 0. -/
def mixWith (c0 c1 c2 c3 : Byte) (b : Bytes) : Bytes :=
  (upTo 16).map fun i =>
    let q := i / 4 * 4
    let f k := bAt b (q + (i + k) % 4)
    gfMul 0x1B c0 (f 0) ^^^ gfMul 0x1B c1 (f 1) ^^^ gfMul 0x1B c2 (f 2) ^^^ gfMul 0x1B c3 (f 3)

/-- AES-256 encryption of one block under round keys. -/
def aesEnc (ks : List Bytes) (b : Bytes) : Bytes :=
  let s := ((ks.drop 1).take 13).foldl (fun s k => xorB (mixWith 2 3 1 1 (shiftRows (s.map sbox))) k) (xorB b (ks.getD 0 []))
  xorB (shiftRows (s.map sbox)) (ks.getD 14 [])

/-- AES-256 decryption of one block under round keys. -/
def aesDec (ks : List Bytes) (b : Bytes) : Bytes :=
  let s := ((ks.drop 1).take 13).reverse.foldl
    (fun s k => mixWith 14 11 13 9 (xorB ((shiftRowsInv s).map sboxInv) k)) (xorB b (ks.getD 14 []))
  xorB ((shiftRowsInv s).map sboxInv) (ks.getD 0 [])

/-! ### AES-256 key wrap (NIST SP 800-38F) -/

/-- The check value of a wrapped key. -/
def kwCheck : Bytes := List.replicate 8 0xA6

/-- Step s of a wrap of n words of 8 bytes: the check word and word s mod n through the cipher. -/
def kwStep (ks : List Bytes) (n : Nat) (x : Bytes × List Bytes) (s : Nat) : Bytes × List Bytes :=
  let b := aesEnc ks (x.1 ++ x.2.getD (s % n) [])
  (xorB (b.take 8) (toBE 8 (s + 1)), x.2.set (s % n) (b.drop 8))

/-- Step s undone. -/
def kwBack (ks : List Bytes) (n : Nat) (x : Bytes × List Bytes) (s : Nat) : Bytes × List Bytes :=
  let b := aesDec ks (xorB x.1 (toBE 8 (s + 1)) ++ x.2.getD (s % n) [])
  (b.take 8, x.2.set (s % n) (b.drop 8))

/-- A key of 8·n bytes wrapped: 8 bytes longer. -/
def kwWrap (key b : Bytes) : Bytes :=
  let n := b.length / 8
  let x := (upTo (6 * n)).foldl (kwStep (aesKeys key) n) (kwCheck, chunks 8 n b)
  x.1 ++ x.2.flatten

/-- What a wrapped key holds; none where its integrity check fails. -/
def kwUnwrap (key w : Bytes) : Option Bytes :=
  let n := w.length / 8 - 1
  let x := (upTo (6 * n)).reverse.foldl (kwBack (aesKeys key) n) (w.take 8, chunks 8 n (w.drop 8))
  if x.1 = kwCheck then some x.2.flatten else none

/-! ### XTS-AES-256 -/

/-- A tweak multiplied by the primitive element (IEEE Std 1619): little-endian. -/
def xtsDouble (t : Nat) : Nat := if t < 2 ^ 127 then 2 * t else (2 * t - 2 ^ 128) ^^^ 0x87

/-- The blocks of one data unit, from tweak value t. -/
def xtsBlocks (f : Bytes → Bytes) : Nat → List Bytes → Bytes
  | _, [] => []
  | t, b :: r =>
    let m := toLE 16 t
    xorB (f (xorB b m)) m ++ xtsBlocks f (xtsDouble t) r

/-- One data unit under a 64-byte key and a 128-bit tweak (R476). -/
def xtsUnit (decrypt : Bool) (key : Bytes) (tweak : Nat) (b : Bytes) : Bytes :=
  let k1 := aesKeys (key.take 32)
  let t := fromLE (aesEnc (aesKeys (key.drop 32)) (toLE 16 tweak))
  xtsBlocks (if decrypt then aesDec k1 else aesEnc k1) t (chunks 16 (b.length / 16) b)

/-- The tweak of data unit j (Table 11-1): a grain fragment of content ID `id`, or a system fragment of LOG_STRIPE `id` whose
header stands at offset `off` in units of 16 bytes. -/
def xtsTweak (system : Bool) (id off j : Nat) : Nat :=
  if system then id % 2 ^ 64 + off % 65536 * 2 ^ 64 + j % 65536 * 2 ^ 80 + 2 ^ 127
  else id % 2 ^ 40 + j % 65536 * 2 ^ 40

/-- A fragment body encrypted or decrypted whole: data unit j is bytes from 4,096 × j on (R475). -/
def xtsBody (decrypt : Bool) (key : Bytes) (system : Bool) (id off : Nat) (b : Bytes) : Bytes :=
  ((chunks 4096 (b.length / 4096 + 1) b).zipIdx.map fun u => xtsUnit decrypt key (xtsTweak system id off u.2) u.1).flatten

/-! ### AES-256-GCM -/

/-- Product in the field of GHASH, most significant bit first. -/
def ghashMul : Nat → Nat → Nat → Nat → Nat
  | 0, z, _, _ => z
  | n + 1, z, v, x =>
    let z := if bit x n then z ^^^ v else z
    ghashMul n z (if v % 2 = 1 then (v / 2) ^^^ (0xE1 * 2 ^ 120) else v / 2) x

/-- GHASH of whole blocks under hash key h. -/
def ghash (h : Nat) (bs : List Bytes) : Nat := bs.foldl (fun y b => ghashMul 128 0 h (y ^^^ fromBE (padTo 16 b))) 0

/-- The key stream blocks of GCM from counter c on, n blocks. -/
def gcmStream (ks : List Bytes) (nonce : Bytes) : Nat → Nat → Bytes
  | 0, _ => []
  | n + 1, c => aesEnc ks (nonce ++ toBE 4 c) ++ gcmStream ks nonce n (c + 1)

/-- The 96-bit nonce (R478): fixed field, then counter field, both little-endian. -/
def gcmNonce (fixedField counter : Nat) : Bytes := toLE 4 fixedField ++ toLE 8 counter

/-- The tag of AAD and ciphertext. -/
def gcmTag (key nonce aad ct : Bytes) : Bytes :=
  let ks := aesKeys key
  let h := fromBE (aesEnc ks (zeros 16))
  let g := ghash h (chunks 16 (aad.length / 16 + 1) aad ++ chunks 16 (ct.length / 16 + 1) ct ++
    [toBE 8 (8 * aad.length) ++ toBE 8 (8 * ct.length)])
  xorB (toBE 16 g) (aesEnc ks (nonce ++ toBE 4 1))

/-- Encryption or decryption of GCM. -/
def gcmCrypt (key nonce b : Bytes) : Bytes := xorB b (gcmStream (aesKeys key) nonce (ceilDiv b.length 16) 2)

/-- The nonce fixed field (Table 11-2): USE, ROLE, PART. -/
def nonceField (use role part : Nat) : Nat := use + role * 256 + part * 65536

end Sys2Proof.Machine
end

