-- ==== Sys2Proof/Machine/SecOps.lean ====
section
/-! DEFINITION. Keys, leaves, entropy and what the trust unit gives the other families (chapter 17). -/

namespace Sys2Proof.Machine

/-! ### Key places and records (R668–R674) -/

/-- Place of a tenant's key domain 0–15 or GCM slot 0–7 in the key table; metadata keys of sides A and B stand at 0 and 1. -/
def keyPlace (tenant : Nat) (slot : Bool) (i : Nat) : Nat := tenant * 32 + (if slot then 16 + i else i)

/-- The record at a place, if it is a key's (RKIND 1–3). -/
def Dev.recordAt (d : Dev) (place : Nat) : Option KeyRec :=
  match tget d.sec.keys place with
  | some k => if k.rkind = 1 ∨ k.rkind = 2 ∨ k.rkind = 3 then some k else none
  | none => none

/-- The key at a place, if its record has one that can be used: a record whose unwrap has failed is as good as lost (R670). -/
def Dev.keyAt (d : Dev) (place : Nat) : Option KeyRec := if d.sec.lost.contains place then none else d.recordAt place

/-- The place of the metadata key that serves groups of a side (R671): 0 for side A and SOLO, 1 for side B. -/
def metaPlace (sideB : Bool) : Nat := if sideB then 1 else 0

/-- ASCII bytes. -/
def ascii (l : List Nat) : Bytes := l.map (BitVec.ofNat 8)

/-- "XTS1" and "XTS2" (R667). -/
def xts1 : Bytes := ascii [0x58, 0x54, 0x53, 0x31]
def xts2 : Bytes := ascii [0x58, 0x54, 0x53, 0x32]

/-- The 64-byte XTS key of a record (R667, R671). -/
def keyXts (k : KeyRec) : Bytes := if k.rkind = 3 then k.t ++ k.r else hmac k.r (k.t ++ xts1) ++ hmac k.r (k.t ++ xts2)

/-- Bytes 0x00–0x0F of a key record (Table 17-4). -/
def keyHeader (k : KeyRec) : Bytes := toLE 1 k.rkind ++ toLE 1 k.index ++ toLE 2 k.tenant ++ toLE 4 k.gen ++ zeros 8

/-- "QZ-ANCHOR". -/
def keyAnchor : Bytes := ascii [0x51, 0x5A, 0x2D, 0x41, 0x4E, 0x43, 0x48, 0x4F, 0x52]

/-- The wrapping key of a record (R670). -/
def wrapKey (k : KeyRec) : Bytes := hmac Config.dus (keyAnchor ++ keyHeader k)

/-- A key record as the anchor store holds it (Table 17-4). -/
def keyBytes (k : KeyRec) : Bytes := keyHeader k ++ kwWrap (wrapKey k) (k.t ++ padTo 32 k.r) ++ zeros 8

/-- Keys held by a tenant: domains, or slots. -/
def Dev.keysOf (d : Dev) (tenant : Nat) (slot : Bool) : List Nat :=
  (upTo (if slot then 8 else 16)).filter fun i => (d.recordAt (keyPlace tenant slot i)).isSome

/-- Keys of lanes and slots: the places that a lane holds now. -/
def Dev.heldKeys (d : Dev) : List Nat :=
  (d.ciphers.flatMap fun e => (e.2.slots ++ e.2.running.toList).filterMap (·.key)) ++
    (d.digests.flatMap fun e => (e.2.slots ++ e.2.running.toList).filterMap (·.key))

/-- Put a key into the cache as most recently used; at 4,096 entries the least recently used one that nothing holds goes (R674). -/
def Dev.cacheKey (d : Dev) (place : Nat) : Dev :=
  let c := d.sec.cache.filter (· ≠ place)
  let c := if 4096 ≤ c.length then
      match (c.reverse.find? fun p => !d.heldKeys.contains p) with
      | some p => c.filter (· ≠ p)
      | none => c
    else c
  let d := { d with sec := { d.sec with cache := place :: c, wanted := d.sec.wanted.filter (· ≠ place) } }
  d.wr SEC_KCACHE_USED (place :: c).length

/-- Whether a place's key is in the cache. -/
def Dev.cached (d : Dev) (place : Nat) : Bool := d.sec.cache.contains place

/-- The counts of SEC_KREC and KEYS brought up to date. -/
def Dev.keyRegs (d : Dev) : Dev :=
  let d := d.wr SEC_KREC_RECORDS (countP d.sec.keys fun e => decide (e.2.rkind ≠ 0))
  let d := d.wr SEC_KREC_META (b2n (d.recordAt (metaPlace (d.side = 2))).isSome)
  d.wr SEC_KREC_PENDING (b2n !d.peer.owed.isEmpty)

/-! ### GCM counters (R480–R482) -/

/-- The counter of the GCM key at a place. -/
def Dev.gcmAt (d : Dev) (place : Nat) : Gcm := (tget d.sec.gcm place).getD { counter := 0, reserved := 2 ^ 20, seen := [] }

/-- Take one counter value: the reserved end runs ahead of it in steps of 2^20; none at 2^48 − 1 (R480–R482). -/
def Dev.takeCounter (d : Dev) (place : Nat) : Dev × Option Nat :=
  let g := d.gcmAt place
  if 2 ^ 48 - 1 ≤ g.counter then (d, none) else
  let g' := { g with counter := g.counter + 1, reserved := if g.reserved ≤ g.counter + 1 then g.reserved + 2 ^ 20 else g.reserved }
  ({ d with sec := { d.sec with gcm := tput d.sec.gcm place g' } }, some g.counter)

/-- PART of the nonces this part makes (Table 11-2): 0 side A or SOLO, 1 side B. -/
def Dev.part (d : Dev) : Nat := if d.side = 2 then 1 else 0

/-! ### Randomness (R678–R681) -/

/-- Whether the entropy source delivers. -/
def Dev.entropyOk (d : Dev) : Bool := d.isSet SEC_STAT_ES_READY && !d.isSet SEC_STAT_ES_FAILED

/-- n bytes of DRBG output after a reseed (R681): a value the specification does not fix. -/
def Dev.random (d : Dev) (n : Nat) : Dev × Bytes := (d.drawn, padTo n (Config.drbg d.draws n))

/-- Replace SEC_NONCE (R664, R682). -/
def Dev.newNonce (d : Dev) : Dev :=
  let x := d.random 16
  (upTo 4).foldl (fun d j => d.wr (SEC_NONCE_NONCE j) (le x.2 (4 * j) 4)) x.1

/-- The 16 bytes of SEC_NONCE. -/
def Dev.nonce (d : Dev) : Bytes := (upTo 4).flatMap fun j => toLE 4 (d.rd (SEC_NONCE_NONCE j))

/-! ### Leaves (R658–R662) -/

/-- SPENT of ledger 5. -/
def LeafRec.spentNow (r : LeafRec) : Nat := r.spent + r.bits

/-- Whether the next leaf can sign now: leaves left, and its bottom tree ready (R661, R662). -/
def Dev.leafReady (d : Dev) : Bool :=
  decide (d.sec.leaf < 2 ^ 40) && (decide (d.sec.leaf % 2 ^ 20 ≠ 0) || decide (d.sec.leaf = 0) || d.isSet SEC_STAT_NEXT_TREE)

/-- Ledger 5 compared for a record and the next leaf (R243): its three equations, with the LEFT and RIGHT of log 136 for TERM 1 and 2 (DESIGN CHOICE). -/
def Dev.checkLeaves (d : Dev) (r : LeafRec) (l : Nat) : Dev :=
  if l ≠ r.spentNow + r.skipped then d.breach 5 0 0 l (r.spentNow + r.skipped)
  else if r.resEnd < l then d.breach 5 1 0 l r.resEnd
  else if 2 ^ 40 < r.resEnd then d.breach 5 1 0 r.resEnd (2 ^ 40)
  else if r.resEnd % 1024 ≠ 0 then d.breach 5 2 0 r.resEnd (r.resEnd / 1024 * 1024) else d

/-- Spend the next leaf (R658, R659): a new block is reserved first; the next bottom tree comes into use at its first leaf. Ledger 5 is compared
(`Dev.checkLeaves`; LEFT and RIGHT of log 136, DESIGN CHOICE). -/
def Dev.spendLeaf (d : Dev) : Dev × Nat :=
  let leaf := d.sec.leaf
  let r := d.sec.record
  let r := if r.resEnd ≤ leaf then { resEnd := leaf + 1024, spent := r.spentNow, skipped := r.skipped, bits := 0 } else r
  let r := { r with bits := r.bits + 1 }
  let d := { d with sec := { d.sec with leaf := leaf + 1, record := r } }
  let d := if leaf % 2 ^ 20 = 0 ∧ leaf ≠ 0 then d.wr SEC_STAT_NEXT_TREE 0 else d
  let d := if leaf + 1 = 2 ^ 40 then d.wr SEC_STAT_EXHAUSTED 1 else d
  let l := leaf + 1
  let d := (d.wr SEC_LEAF_LO_LEAF l).wr SEC_LEAF_HI_LEAF (l / 2 ^ 32)
  let d := (d.wr SEC_RES_LO_RES r.resEnd).wr SEC_RES_HI_RES (r.resEnd / 2 ^ 32)
  (d.checkLeaves r l, leaf)

/-- The reservation record read at boot (R660). -/
def LeafRec.recover (r : LeafRec) : LeafRec × Nat :=
  if r.resEnd = 0 then (r, 0) else
  ({ r with spent := r.spent + r.bits, skipped := r.skipped + (r.resEnd - 1024 - (r.spent + r.skipped)) + 1024 - r.bits, bits := 0 },
    r.resEnd)

/-! ### Measurements (R493–R495) -/

/-- Measurement register i. -/
def Dev.meas (d : Dev) (i : Nat) : Bytes := (tget d.boot.meas i).getD (zeros 32)

/-- Extend measurement register i by v (R494). -/
def Dev.extend (d : Dev) (i : Nat) (v : Bytes) : Dev :=
  { d with boot := { d.boot with
      meas := tput d.boot.meas i (sha256 (d.meas i ++ v))
      measCount := tput d.boot.measCount i (satAt 65535 ((tget d.boot.measCount i).getD 0 + 1)) } }

/-! ### Signatures of standards outside the specification -/

/-- Whether an HSS signature under a public key verifies a message (RFC 8554). -/
def hssOk (pub msg sig : Bytes) : Bool := Config.hssVerify pub msg sig

/-- The owner key's check of a message: no owner key, or its signature verifies. -/
def Dev.ownerOk (d : Dev) (msg sig : Bytes) : Bool :=
  match d.sec.owner with
  | none => true
  | some pub => hssOk pub msg sig

/-- The device's 48-bit serial as 6 little-endian bytes. -/
def serialBytes : Bytes := toLE 6 Config.serial.toNat

end Sys2Proof.Machine
end

