-- ==== Sys2Proof/Machine/TileMem.lean ====
section
/-! DEFINITION. Bytes and parity of tile memory (chapter 19). -/

namespace Sys2Proof.Machine

/-! ### Bytes and parity of tile memory (R724, R725) -/

/-- The byte at a tile-memory offset: one not listed is zero, as boot writes it. -/
def Tmem.byte (m : Tmem) (o : Nat) : Byte := (tget m.mem o).getD 0

/-- Byte o set to v, in the memory's canonical form. -/
def Tmem.set (m : Tmem) (o : Nat) (v : Byte) : Tmem :=
  { m with mem := if v = 0 then tdel m.mem o else tput m.mem o v }

/-- n bytes from offset o. -/
def Tmem.read (m : Tmem) (o n : Nat) : Bytes := (upTo n).map fun i => m.byte (o + i)

/-- Bytes stored from offset o on, their words' parity good again. -/
def Tmem.write (m : Tmem) (o : Nat) (b : Bytes) : Tmem :=
  let m' := b.zipIdx.foldl (fun m x => m.set (o + x.2) x.1) m
  { m' with bad := m'.bad.filter fun e => !(decide (o / 8 ≤ e.1) && decide (e.1 < ceilDiv (o + b.length) 8)) }

/-- The canonical form of tile memory: offsets rise and no byte listed is zero; wrong parity bits likewise. -/
def Tmem.wf (m : Tmem) : Bool :=
  Tbl.rising m.mem && m.mem.all (fun e => decide (e.2 ≠ 0)) && Tbl.rising m.bad && m.bad.all fun e => decide (e.2 ≠ 0)

/-- The parity bits of word w that are wrong, one bit per byte. -/
def Tmem.badBits (m : Tmem) (w : Nat) : Nat := (tget m.bad w).getD 0

def Tmem.setBad (m : Tmem) (w v : Nat) : Tmem := { m with bad := if v % 256 = 0 then tdel m.bad w else tput m.bad w (v % 256) }

/-- The even-parity bit of a byte. -/
def parityBit (x : Byte) : Bool := onesByte x % 2 = 1

/-- The eight parity bits of the word at offset o as they would be if good. -/
def Tmem.goodPar (m : Tmem) (o : Nat) : Nat := sumN ((upTo 8).map fun i => if parityBit (m.byte (o + i)) then 2 ^ i else 0)

def Dev.setTmem (d : Dev) (m : Tmem) : Dev := { d with tmem := m }

end Sys2Proof.Machine
end

