-- ==== Sys2Proof/Machine/EngineOps.lean ====
section
/-! DEFINITION. How compression engines and lanes take, run, suspend and end messages (chapters 10 and 11). -/

namespace Sys2Proof.Machine

/-! ### Whom a message serves -/

/-- The command a message serves, if any (R470, R503). -/
def Dev.jobCmd (d : Dev) (src : JobSrc) : Option Nat :=
  match src with
  | .grain c _ => some c
  | .task t => (tget d.sched.tasks t).map (·.cmd)
  | _ => none

/-- Whether a command has been aborted or reset or has failed. -/
def Dev.cmdGone (d : Dev) (id : Nat) : Bool :=
  match tget d.cmds id with | some x => decide (x.stage = .done) && decide (x.outcome ≠ .success) | none => true

/-- Whether what a message serves has ended: its command completed, its task or its session gone; of a descriptor the command that owned its
buffers as it was queued. -/
def Dev.jobOrphan (d : Dev) (src : JobSrc) (serves : Option Nat) : Bool :=
  match src with
  | .grain c _ => d.cmdGone c
  | .task t => !thas d.sched.tasks t
  | .session n => !thas d.sessions n
  | .desc _ => serves.any d.cmdGone

/-! ### Compression engines (R467–R470) -/

def Engine.idle : Engine := { queue := [], running := none, grants := 0 }

/-- Engine e. -/
def Dev.engine (d : Dev) (e : Nat) : Engine := (tget d.engines e).getD Engine.idle

/-- Whether a message's IN_LEN or LIMIT exceeds 16,384 bytes (R469). -/
def CmpJob.long (j : CmpJob) : Bool := decide (16384 < j.len) || decide (16384 < j.limit)

/-- The state of engine e shown in CMP_ENG. -/
def Dev.engineRegs (d : Dev) (e : Nat) : Dev :=
  let x := d.engine e
  ((d.wr (CMP_ENG_BUSY e) (b2n x.running.isSome)).wr (CMP_ENG_LONG e) (b2n ((x.queue ++ x.running.toList).any (·.long)))).wr
    (CMP_ENG_QUEUE e) x.queue.length

/-- Engine e replaced by x. -/
def Dev.setEngine (d : Dev) (e : Nat) (x : Engine) : Dev := { d with engines := tput d.engines e x }.engineRegs e

/-- Whether engine e may take message j (R467, R469): in service, room in its queue, and long messages only on engine 4q + 3,
where no class-V message goes while one is there. -/
def Dev.engineTakes (d : Dev) (e : Nat) (j : CmpJob) : Bool :=
  let x := d.engine e
  d.isSet (CMP_ENG_IN_SERVICE e) && decide (x.queue.length < 64) && (!j.long || decide (e % 4 = 3)) &&
    !(decide (j.claim = .V) && (x.queue ++ x.running.toList).any (·.long))

/-- The engine R467 sends a message to: one of its input's quadrant with room, else the one with the shortest queue; of several,
the shortest queue and then the lowest number. -/
def Dev.pickEngine (d : Dev) (quadrant : Nat) (j : CmpJob) : Option Nat :=
  let ok := (upTo 16).filter fun e => d.engineTakes e j
  let weight (e : Nat) : Nat := (d.engine e).queue.length
  match argMin weight (ok.filter fun e => e / 4 = quadrant) with
  | some e => some e
  | none => argMin weight ok

/-- The waiting message an engine takes next (R468): the first of class V, else the highest PRIO, earliest first; every FAIR-th
grant the oldest not of class V. -/
def Dev.nextMessage (d : Dev) (x : Engine) : Option CmpJob :=
  let other := x.queue.find? fun j => j.claim ≠ .V
  let fair := d.rd CMP_CFG_FAIR ≠ 0 ∧ (x.grants + 1) % d.rd CMP_CFG_FAIR = 0
  let usual := (x.queue.find? fun j => j.claim = .V).orElse fun _ => argMax (·.prio) x.queue
  if fair then other.orElse fun _ => usual else usual

/-- Engine e takes its next message if it is in service and runs none. -/
def Dev.engineNext (d : Dev) (e : Nat) : Dev :=
  let x := d.engine e
  match x.running, d.isSet (CMP_ENG_IN_SERVICE e), d.nextMessage x with
  | none, true, some j => d.setEngine e { queue := x.queue.filter (·.order ≠ j.order), running := some j, grants := x.grants + 1 }
  | _, _, _ => d

/-- Submit a message (R467); none when every queue is full and the producer is held. -/
def Dev.submitCmp (d : Dev) (quadrant : Nat) (j : CmpJob) : Option Dev :=
  let j := { j with order := d.nextOrder }
  match d.pickEngine quadrant j with
  | none => none
  | some e =>
    let x := d.engine e
    some (({ d with nextOrder := d.nextOrder + 1 }.setEngine e { x with queue := x.queue ++ [j] }).engineNext e)

/-- How a message ends (Table 10-2), its output, the bytes RESULT_LEN counts, and its codes. -/
structure CmpOut where
  result : Nat
  out : Bytes
  codes : Nat
  deriving DecidableEq, Repr

/-- What running a message gives (R454–R463): nothing is read of one that R466 or a parity error stops. -/
def CmpJob.run (j : CmpJob) : CmpOut :=
  if j.bad ≠ 0 then { result := j.bad, out := [], codes := 0 }
  else if j.decode then
    let r := lzwDecode j.limit j.expect j.input
    { result := match r.1 with | .done => 0 | .outLimit => 2 | .corrupt => 3, out := r.2.1, codes := r.2.2 }
  else
    let r := lzwUpTo j.limit j.input
    { result := b2n r.1, out := r.2.1, codes := r.2.2 }

/-- The counts a finished message leaves in the registers of engine e. -/
def Dev.countCmp (d : Dev) (e : Nat) (j : CmpJob) (r : CmpOut) : Dev :=
  if r.result = 2 then d.bump (CMP_DERR_LIMIT e)
  else if r.result = 3 then d.bump (CMP_DERR_CORRUPT e)
  else if j.decode ∨ j.bad ≠ 0 then d
  else
    let d := d.bump (CMP_GRAINS_COUNT e)
    if r.result = 1 then d.bump (CMP_RAW_COUNT e) else d

/-! ### Lanes (R473, R499–R504) -/

def Lane.idle : Lane := { queue := [], slots := [], running := none, starts := 0 }

/-- Lane l: a digest lane or a cipher lane. -/
def Dev.lane (d : Dev) (dig : Bool) (l : Nat) : Lane := (tget (if dig then d.digests else d.ciphers) l).getD Lane.idle

/-- The state of a lane shown in CIP_LANE or DIG_LANE. -/
def Dev.laneRegs (d : Dev) (dig : Bool) (l : Nat) : Dev :=
  let x := d.lane dig l
  if dig then ((d.wr (DIG_LANE_BUSY l) (b2n x.running.isSome)).wr (DIG_LANE_SLOTS l) x.slots.length).wr (DIG_LANE_QUEUE l) x.queue.length
  else ((d.wr (CIP_LANE_BUSY l) (b2n x.running.isSome)).wr (CIP_LANE_SLOTS l) x.slots.length).wr (CIP_LANE_QUEUE l) x.queue.length

/-- A lane replaced by x. -/
def Dev.setLane (d : Dev) (dig : Bool) (l : Nat) (x : Lane) : Dev :=
  (if dig then { d with digests := tput d.digests l x } else { d with ciphers := tput d.ciphers l x }).laneRegs dig l

/-- The block size of a lane: 16 bytes, or 64 bytes for a digest lane. -/
def laneBlock (dig : Bool) : Nat := if dig then 64 else 16

/-- The quadrant of a lane. -/
def laneQuadrant (dig : Bool) (l : Nat) : Nat := if dig then l / 16 else l / 8

/-- Rank of a message (R499). -/
def LaneJob.rank (j : LaneJob) : Nat := if j.claim = .V then 4 else j.prio

/-- Whether a lane is in service and not stopped with its quadrant (R488). -/
def Dev.laneUp (d : Dev) (dig : Bool) (l : Nat) : Bool :=
  if dig then d.isSet (DIG_LANE_IN_SERVICE l)
  else d.isSet (CIP_LANE_IN_SERVICE l) && !bit (d.rd CIP_MASK_STAT_STOPPED) (l / 8)

/-- The lane R473 sends a message to. -/
def Dev.pickLane (d : Dev) (dig : Bool) (quadrant : Nat) : Option Nat :=
  let ok := (upTo (if dig then 64 else 32)).filter fun l => d.laneUp dig l && decide ((d.lane dig l).queue.length < 64)
  let weight (l : Nat) : Nat := (d.lane dig l).queue.length
  match argMin weight (ok.filter fun l => laneQuadrant dig l = quadrant) with
  | some l => some l
  | none => argMin weight ok

/-- The counter of the key at a place has gone on: from 2^40 on REKEY_DUE of each session that uses the slot, with its tenant event, and at 2^48 − 1 each of
them stops (R146, R449). -/
def Dev.counterNotes (d : Dev) (place : Nat) : Dev :=
  let n := (d.gcmAt place).counter
  if n < 2 ^ 40 then d else
  let mine (p : Sess → Bool) : List Nat := tkeys d.sessions fun _ x => decide (keyPlace x.tenant true x.keyslot = place) && p x
  let d := (mine fun x => !x.rekeyDue).foldl (fun d i => match tget d.sessions i with
    | some x => ({ d with sessions := tput d.sessions i { x with rekeyDue := true } }).tenantEvent x.tenant 8 i
    | none => d) d
  if n < 2 ^ 48 - 1 then d else
  (mine fun x => decide (x.state ≠ .mismatch)).foldl (fun (d : Dev) i => { d with sessions := tmod d.sessions i fun x => { x with state := .stopped } }) d

/-- What starting a message does: a seal takes its counter value (R480, R481), and a key that is not cached is asked for (R674). -/
def Dev.startJob (d : Dev) (j : LaneJob) : Dev × LaneJob :=
  let d := match j.key with
    | some p => if d.cached p then d else { d with sec := { d.sec with wanted := (d.sec.wanted.filter (· ≠ p)) ++ [p] } }
    | none => d
  if j.op = .seal ∧ j.bad = 0 ∧ j.done = 0 then
    match j.key with
    | none => (d, j)
    | some p => match d.takeCounter p with
      | (d, some c) => (d.counterNotes p, { j with counter := c, aad := match j.src with | .session _ => patch j.aad 8 (toLE 8 c) | _ => j.aad })
      | (d, none) => (d, { j with bad := 3 })
  else (d, j)

/-- Run message j on lane l. -/
def Dev.laneRun (d : Dev) (dig : Bool) (l : Nat) (x : Lane) (j : LaneJob) : Dev :=
  let r := d.startJob j
  r.1.setLane dig l { x with running := some r.2, starts := x.starts + 1 }

/-- The oldest of a list of messages. -/
def oldest (l : List LaneJob) : Option LaneJob := argMin (·.order) l

/-- The work a lane takes next (R502): the oldest of the highest rank, suspended or waiting; every FAIR-th start the oldest of rank
below 4. -/
def Dev.nextWork (d : Dev) (dig : Bool) (x : Lane) : Option LaneJob :=
  let all := x.queue ++ x.slots
  let fair := d.rd (if dig then DIG_CFG_FAIR else CIP_CFG_FAIR)
  let top := all.foldl (fun m j => Nat.max m j.rank) 0
  let usual := oldest (all.filter fun j => j.rank = top)
  if fair ≠ 0 ∧ (x.starts + 1) % fair = 0 then (oldest (all.filter fun j => j.rank < 4)).orElse fun _ => usual else usual

/-- A lane that runs nothing takes its next work. -/
def Dev.laneNext (d : Dev) (dig : Bool) (l : Nat) : Dev :=
  let x := d.lane dig l
  match x.running, d.laneUp dig l, d.nextWork dig x with
  | none, true, some j =>
    d.laneRun dig l { x with queue := x.queue.filter (·.order ≠ j.order), slots := x.slots.filter (·.order ≠ j.order) } j
  | _, _, _ => d

/-- Submit a message to a lane (R473); none when every queue is full. -/
def Dev.submitLane (d : Dev) (dig : Bool) (quadrant : Nat) (j : LaneJob) : Option Dev :=
  let j := { j with order := d.nextOrder }
  match d.pickLane dig quadrant with
  | none => none
  | some l =>
    let x := d.lane dig l
    some (({ d with nextOrder := d.nextOrder + 1 }.setLane dig l { x with queue := x.queue ++ [j] }).laneNext dig l)

/-- How a lane message ends (Table 11-6), its output, MATCH, tag and state record. -/
structure LaneOut where
  result : Nat
  out : Bytes
  match_ : Bool
  tag : Bytes
  deriving DecidableEq, Repr

/-- A digest state record (Table 11-3): H0–H7 as little-endian words, LENGTH, OP, CHK. -/
def stateRecord (h : List Word32) (n : Nat) : Bytes :=
  let b := (h.flatMap fun w => toLE 4 w.toNat) ++ toLE 8 n ++ toLE 1 1 ++ zeros 3
  b ++ toLE 4 (crc32c b)

/-- The working words and LENGTH of a state record; none where R492 ends MALFORMED. -/
def readState (b : Bytes) : Option (Bytes × Nat) :=
  if b.length = 48 ∧ le b 0x2C 4 = crc32c (b.take 0x2C) ∧ le b 0x28 1 = 1 ∧ le b 0x20 8 % 64 = 0
  then some (b.take 32, le b 0x20 8) else none

/-- The working words a state record holds. -/
def stateWords (b : Bytes) : List Word32 := (chunks 4 8 b).map fun x => BitVec.ofNat 32 (fromLE x)

/-- What a lane message gives, its key at hand (R475–R492). -/
def Dev.laneResult (d : Dev) (j : LaneJob) : LaneOut :=
  let fail (n : Nat) : LaneOut := { result := n, out := [], match_ := false, tag := [] }
  if j.keyGone then fail 4 else if j.bad ≠ 0 then fail j.bad else
  let key := j.key.bind d.keyAt
  let ok (b t : Bytes) : LaneOut := { result := 0, out := b, match_ := false, tag := t }
  let digest (b : Bytes) : LaneOut :=
    match j.compare with
    | some e => { result := 0, out := [], match_ := decide (b = e), tag := [] }
    | none => ok b []
  match j.op, key with
  | .xts dec, some k => ok (xtsBody dec (keyXts k) j.system j.id j.off j.input) []
  | .seal, some k =>
    let n := gcmNonce j.fixedField j.counter
    let ct := gcmCrypt k.t n j.input
    ok ct (gcmTag k.t n j.aad ct)
  | .openTag, some k =>
    let n := gcmNonce j.fixedField j.counter
    if gcmTag k.t n j.aad j.input ≠ j.tag then fail 1
    else match j.key with
      | none => fail 5
      | some p =>
        match tget (d.gcmAt p).seen j.fixedField with
        | some last => if j.counter ≤ last then fail 2 else ok (gcmCrypt k.t n j.input) []
        | none => ok (gcmCrypt k.t n j.input) []
  | .sha, _ =>
    let st := match j.restore with | some s => (stateWords s.1, s.2) | none => (shaInit, 0)
    if j.save then ok (stateRecord (shaBlocks st.1 j.input) (st.2 + j.input.length)) []
    else digest (shaFrom st.1 st.2 j.input)
  | .hmacCaller, _ => digest (hmac j.callerKey j.input)
  | .hmacStore, some k => digest (hmac k.t j.input)
  | _, none => fail 5

/-- What an ended message leaves behind: the last counter accepted, CIP_AUTHFAIL, mask requests (R484, R485, R488). -/
def Dev.laneEffects (d : Dev) (dig : Bool) (l : Nat) (j : LaneJob) (r : LaneOut) : Dev :=
  let d := if !dig ∧ (r.result = 1 ∨ r.result = 2) then d.bump (CIP_AUTHFAIL_COUNT l) else d
  let d := match j.op, j.key, r.result with
    | .openTag, some p, 0 =>
      let g := d.gcmAt p
      { d with sec := { d.sec with gcm := tput d.sec.gcm p { g with seen := tput g.seen j.fixedField j.counter } } }
    | _, _, _ => d
  if dig then d else
    let q := l / 8
    let m := (tget d.masks q).getD { requests := 0 }
    { d with masks := tput d.masks q { requests := m.requests + ceilDiv (j.aad.length + j.input.length) 16 } }

/-- The RESULT of a lane descriptor at a (Tables 11-4 and 11-5) written. -/
def Tmem.laneResult (m : Tmem) (dig : Bool) (a r : Nat) : Tmem := m.write (a + (if dig then 0x19 else 0x1E)) (toLE 1 r)

/-- Descriptors whose message stands suspended on a lane and whose command has ended (R503). -/
def Dev.deadSlots (d : Dev) (lanes : Tbl Lane) : List Nat :=
  (lanes.flatMap fun e => e.2.slots.filter fun j => d.jobOrphan j.src j.serves).filterMap fun j => match j.src with | .desc a => some a | _ => none

/-- Waiting messages whose command has ended are removed, suspended ones cleared, a descriptor's DISCARDED, running ones left to end (R470, R503). -/
def Dev.purgeJobs (d : Dev) : Dev :=
  let m := (d.deadSlots d.ciphers).foldl (fun (m : Tmem) a => m.laneResult false a 9) d.tmem
  let d1 := { d with
    tmem := (d.deadSlots d.digests).foldl (fun (m : Tmem) a => m.laneResult true a 9) m
    engines := tmap d.engines fun _ x => { x with queue := x.queue.filter fun j => !d.jobOrphan j.src j.serves }
    ciphers := tmap d.ciphers fun _ x => { x with queue := x.queue.filter (fun j => !d.jobOrphan j.src j.serves), slots := x.slots.filter fun j => !d.jobOrphan j.src j.serves }
    digests := tmap d.digests fun _ x => { x with queue := x.queue.filter (fun j => !d.jobOrphan j.src j.serves), slots := x.slots.filter fun j => !d.jobOrphan j.src j.serves } }
  let d1 := (tkeys d1.engines fun _ _ => true).foldl (fun d e => d.engineRegs e) d1
  let d1 := (tkeys d1.ciphers fun _ _ => true).foldl (fun d l => d.laneRegs false l) d1
  (tkeys d1.digests fun _ _ => true).foldl (fun d l => d.laneRegs true l) d1

/-- A key is destroyed (R504): every message that names it ends KEY_GONE, and the cache lets it go. -/
def Dev.dropKey (d : Dev) (place : Nat) : Dev :=
  let gone (j : LaneJob) : LaneJob := if j.key = some place then { j with keyGone := true } else j
  let f (_ : Nat) (x : Lane) : Lane := { x with queue := x.queue.map gone, slots := x.slots.map gone, running := x.running.map gone }
  let c := d.sec.cache.filter (· ≠ place)
  ({ d with
    ciphers := tmap d.ciphers f
    digests := tmap d.digests f
    sec := { d.sec with cache := c, wanted := d.sec.wanted.filter (· ≠ place) } }).wr SEC_KCACHE_USED c.length

/-- The meaning of CONTEXT_SAVE (R500): at a block boundary of the running message, past what it had processed, a waiting message
of higher rank starts and the running one goes into a free slot. -/
def execContextSave (dig : Bool) (l pos : Nat) (s : State) : Host.Outcome State Fault Refusal :=
  onDev (fun d =>
    let x := d.lane dig l
    match x.running with
    | none => d
    | some j =>
      let top := x.queue.foldl (fun m j => Nat.max m j.rank) 0
      if pos % laneBlock dig = 0 ∧ j.done < pos ∧ pos < j.aad.length + j.input.length ∧ j.rank < top ∧ x.slots.length < 64 then
        match oldest (x.queue.filter fun k => k.rank = top) with
        | none => d
        | some k => d.laneRun dig l { x with queue := x.queue.filter (·.order ≠ k.order), slots := x.slots ++ [{ j with done := pos }] } k
      else d) s

/-- The meaning of YIELD (R501): after each further 65,536 bytes, with a message of the same rank waiting, the running message goes
into a free slot, counted as having arrived now. -/
def execLaneYield (dig : Bool) (l : Nat) (s : State) : Host.Outcome State Fault Refusal :=
  onDev (fun d =>
    let x := d.lane dig l
    match x.running with
    | none => d
    | some j =>
      let pos := (j.done / 65536 + 1) * 65536
      if pos < j.aad.length + j.input.length ∧ x.queue.any (fun k => k.rank = j.rank) ∧ x.slots.length < 64 then
        let y := { j with done := pos, order := d.nextOrder }
        ({ d with nextOrder := d.nextOrder + 1 }.setLane dig l { x with running := none, slots := x.slots ++ [y] }).laneNext dig l
      else d) s

/-- The meaning of MASK_RESEED (R488): after 2^20 requests the quadrant's mask DRBG takes a new seed; with the source failed it
goes on from its last seed, with one manager event. -/
def execMaskReseed (q : Nat) (s : State) : Host.Outcome State Fault Refusal :=
  onDev (fun d =>
    let m := (tget d.masks q).getD { requests := 0 }
    if m.requests < 2 ^ 20 ∨ 4 ≤ q then d
    else if d.entropyOk then
      { d with masks := tput d.masks q { requests := 0 } }.drawn.wr CIP_MASK_STAT_UNSEEDED
        (setBits (d.rd CIP_MASK_STAT_UNSEEDED) q 1 0)
    else if bit (d.rd CIP_MASK_STAT_UNSEEDED) q then d
    else (d.wr CIP_MASK_STAT_UNSEEDED (setBits (d.rd CIP_MASK_STAT_UNSEEDED) q 1 1)).event 0x0701 2 0 q [1]) s

/-- The meaning of MASK_DRBG_LIMIT (R488): at 2^32 requests on its last seed the quadrant's cipher lanes stop, with a device-fault
event, and their work goes to the other quadrants. -/
def execMaskDrbgLimit (q : Nat) (s : State) : Host.Outcome State Fault Refusal :=
  onDev (fun d =>
    let m := (tget d.masks q).getD { requests := 0 }
    if m.requests < 2 ^ 32 ∨ !bit (d.rd CIP_MASK_STAT_UNSEEDED) q ∨ 4 ≤ q then d else
    let d := (d.wr CIP_MASK_STAT_STOPPED (setBits (d.rd CIP_MASK_STAT_STOPPED) q 1 1)).event 0x0701 2 0 q [2]
    let lanes := (upTo 8).map (· + 8 * q)
    let work := lanes.flatMap fun l => let x := d.lane false l; x.running.toList ++ x.slots ++ x.queue
    let d := lanes.foldl (fun d l => d.setLane false l { (d.lane false l) with queue := [], slots := [], running := none }) d
    work.foldl (fun d j => match d.submitLane false q { j with done := 0 } with
      | some d => d
      | none => d.setLane false (8 * q) { (d.lane false (8 * q)) with queue := (d.lane false (8 * q)).queue ++ [{ j with done := 0 }] }) d) s

/-- T and R of a record as an unwrap of what was read gives them (R670); none where the integrity check fails, as it does for fewer or more than
its 72 bytes. A record that reads as it was written unwraps. -/
def unwrapped (k : KeyRec) (read : Option Bytes) : Option KeyRec :=
  match read with
  | none => some k
  | some w => if w.length = 72 then (kwUnwrap (wrapKey k) w).map fun b => { k with t := b.take 32, r := b.drop 32 } else none

/-- The meaning of KEY_UNWRAP (R674): the record's key comes into the cache; a record that fails its check is lost, with a device-fault event
(R670). -/
def execKeyUnwrap (fetch : KeyFetch) (s : State) : Host.Outcome State Fault Refusal :=
  let place := fetch.place
  onDev (fun d =>
    if d.isSet SEC_STAT_KEYS_SEALED then d else
    match d.keyAt place with
    | none => d
    | some k =>
      if d.cached place then d else
      match unwrapped k fetch.read with
      | some k => ({ d with sec := { d.sec with keys := tput d.sec.keys place k } }.cacheKey place).bump SEC_KCACHE_LOADS
      | none => ({ d with sec := { d.sec with lost := place :: d.sec.lost, wanted := d.sec.wanted.filter (· ≠ place) } }).event 0x0702 2 0 0 [place]) s

end Sys2Proof.Machine
end

