-- ==== Sys2Proof/Machine/TintCore.lean ====
section
/-! DEFINITION. What one Tint instruction does to a task and its program (chapter 12), apart from the scheduler. -/

namespace Sys2Proof.Machine

/-! ### Encodings (Tables 12-1 and 12-2) -/

/-- The word of an instruction: guard, opcode, and the 22 operand bits. -/
def tintWord (g : BitVec 4) (op : Nat) (operands : Nat) : Nat := g.toNat * 2 ^ 28 + op * 2 ^ 22 + operands

def opcodeOf (w : Nat) : Nat := bits w 22 6

/-- The operand bits an opcode reads; the others are reserved or unused and are ignored (R11, R512). -/
def operandMask (op : Nat) : Nat :=
  match op with
  | 0x00 => 0x3FFFFF
  | 0x01 | 0x02 | 0x03 | 0x04 => 0x3FFFFF
  | 0x05 | 0x06 | 0x07 => 0x3FF03F
  | 0x08 | 0x09 | 0x0A | 0x0B => 0x3EFFFF
  | 0x10 => 0x3FFFE0
  | 0x11 => 0x3FFFFF
  | 0x12 => 0x3FFE00
  | 0x18 | 0x19 | 0x1A | 0x1B | 0x1C | 0x1D | 0x1E | 0x20 | 0x21 | 0x22 | 0x23 => 0x3FFFFF
  | 0x24 | 0x25 | 0x26 => 0x3FFFF8
  | 0x28 => 0x3FFFFE
  | 0x29 => 0x3E000F
  | 0x30 | 0x31 => 0x3FFFFF
  | 0x33 | 0x34 | 0x36 | 0x3A => 0x01F000
  | 0x35 | 0x37 => 0x3E0000
  | 0x38 | 0x3B => 0x000FFF
  | _ => 0

/-- A word with the operand bits its opcode does not read cleared. -/
def tintCanon (w : Nat) : Nat := w / 2 ^ 22 * 2 ^ 22 + Nat.land (w % 2 ^ 22) (operandMask (opcodeOf w))

/-- Whether a word uses a reserved opcode, FN, cond or lop (R513). -/
def tintReserved (w : Nat) : Bool :=
  match opcodeOf w with
  | 0x00 => decide (0x13 < bits w 0 7)
  | 0x10 | 0x11 => decide (7 < bits w 15 4)
  | 0x12 => decide (bits w 11 2 = 3)
  | op => !(decide (op ≤ 0x0B) || (decide (0x18 ≤ op) && decide (op ≤ 0x1E)) || (decide (0x20 ≤ op) && decide (op ≤ 0x29)) ||
      (decide (0x30 ≤ op) && decide (op ≤ 0x3B)))

/-! ### Registers and predicates (R511) -/

/-- Register r: r0 reads as zero. -/
def Task.reg (t : Task) (r : Nat) : Word64 := if r = 0 then 0 else t.regs.getD r 0

/-- Write register r: a write to r0 is ignored. -/
def Task.setReg (t : Task) (r : Nat) (v : Word64) : Task := if r = 0 then t else { t with regs := t.regs.set r v }

/-- Predicate p: p0 reads as true. -/
def Task.pred (t : Task) (p : Nat) : Bool := if p = 0 then true else t.preds.getLsbD p

/-- Write predicate p: a write to p0 is ignored. -/
def Task.setPred (t : Task) (p : Nat) (v : Bool) : Task :=
  if p = 0 then t else { t with preds := (t.preds &&& ~~~ (1#8 <<< p)) ||| (if v then 1#8 <<< p else 0) }

/-- Whether the guard of a word lets it execute (R515). -/
def Task.guard (t : Task) (w : Nat) : Bool := if bit w 31 then !t.pred (bits w 28 3) else t.pred (bits w 28 3)

/-! ### Arithmetic (R514, Tables 12-3 and 12-4) -/

/-- Position of the highest one bit counted from the top; 64 for zero. -/
def clz (a : Word64) : Nat := if a = 0 then 64 else 63 - Nat.log2 a.toNat

/-- Trailing zeros; 64 for zero. -/
def ctz (a : Word64) : Nat := ((upTo 64).find? fun i => a.getLsbD i).getD 64

/-- ra FN rb. -/
def aluFn (fn : Nat) (a b : Word64) : Word64 :=
  match fn with
  | 0x00 => a + b
  | 0x01 => a - b
  | 0x02 => a &&& b
  | 0x03 => a ||| b
  | 0x04 => a ^^^ b
  | 0x05 => a <<< (b.toNat % 64)
  | 0x06 => a >>> (b.toNat % 64)
  | 0x07 => a.sshiftRight (b.toNat % 64)
  | 0x08 => a * b
  | 0x09 => BitVec.ofNat 64 (a.toNat * b.toNat / 2 ^ 64)
  | 0x0A => if b = 0 then BitVec.allOnes 64 else a / b
  | 0x0B => if b = 0 then a else a % b
  | 0x0C => if a ≤ b then a else b
  | 0x0D => if a ≤ b then b else a
  | 0x0E => if a.sle b then a else b
  | 0x0F => if a.sle b then b else a
  | 0x10 => BitVec.ofNat 64 (countP (upTo 64) fun i => a.getLsbD i)
  | 0x11 => BitVec.ofNat 64 (clz a)
  | 0x12 => BitVec.ofNat 64 (ctz a)
  | _ => BitVec.ofNat 64 (fromLE (toBE 8 a.toNat))

/-- a cond b. -/
def condFn (cond : Nat) (a b : Word64) : Bool :=
  match cond with
  | 0 => decide (a = b)
  | 1 => decide (a ≠ b)
  | 2 => a.slt b
  | 3 => b.sle a
  | 4 => decide (a < b)
  | 5 => decide (b ≤ a)
  | 6 => decide (a &&& b ≠ 0)
  | _ => decide (a &&& b = 0)

/-! ### Outcomes -/

/-- What an instruction does: the task goes on (with its next pc, or the one that follows), traps (cause, segment, offset, code),
ends, is delayed by some µs, or waits on an engine call. -/
inductive TRes where
  | go (t : Task) (p : Prog) (pc : Option Nat)
  | trap (cause seg off code : Nat)
  | ended
  | delay (us : Nat)
  | call (fn : Nat)

/-- The task goes on to the instruction that follows. -/
def tgo (t : Task) (p : Prog) : TRes := .go t p none

/-! ### Segments (R518–R521) -/

/-- Segment register s. -/
def Task.seg (t : Task) (s : Nat) : TSeg := t.segs.getD s { region := 0, base := 0, limit := 0, r := false, w := false, x := false, tag := 0 }

/-- The memory behind a segment. -/
def tmemOf (t : Task) (p : Prog) (region : Nat) : Bytes :=
  match region with
  | 0 => p.code | 1 => t.stack | 2 => t.input | 3 => t.output | _ => p.state

/-- The checks of R519 on an access of `size` bytes at an offset, aligned to `align`: the trap cause of the first that fails. -/
def segCheck (t : Task) (s : Nat) (off size align : Nat) (r w : Bool) : Option Nat :=
  let g := t.seg s
  if g.tag ≠ t.tenant then some 0xD
  else if (r && !g.r) || (w && !g.w) then some 0x4
  else if g.limit < off + size then some 0x3
  else if off % align ≠ 0 then some 0x5
  else none

/-- The bytes at an offset of a segment. -/
def segRead (t : Task) (p : Prog) (s off size : Nat) : Bytes :=
  let g := t.seg s
  padTo size (slice (tmemOf t p g.region) (g.base + off) size)

/-- Store bytes at an offset of a segment. -/
def segWrite (t : Task) (p : Prog) (s off : Nat) (b : Bytes) : Task × Prog :=
  let g := t.seg s
  match g.region with
  | 1 => ({ t with stack := patch t.stack (g.base + off) b }, p)
  | 3 => ({ t with output := patch t.output (g.base + off) b }, p)
  | 4 => (t, { p with state := patch p.state (g.base + off) b })
  | _ => (t, p)

/-- A load of `size` bytes, sign-extended or zero-extended. -/
def tintLoad (size : Nat) (sx : Bool) (rd ra s : Nat) (imm : BitVec 8) (t : Task) (p : Prog) : TRes :=
  let off := (t.reg ra + BitVec.signExtend 64 imm * BitVec.ofNat 64 size).toNat
  match segCheck t s off size size true false with
  | some c => .trap c s off 0
  | none =>
    let v := fromLE (segRead t p s off size)
    tgo (t.setReg rd (if sx then BitVec.ofInt 64 (signed (8 * size) v) else BitVec.ofNat 64 v)) p

/-- A store of the low `size` bytes of rs. -/
def tintStore (size : Nat) (rs ra s : Nat) (imm : BitVec 8) (t : Task) (p : Prog) : TRes :=
  let off := (t.reg ra + BitVec.signExtend 64 imm * BitVec.ofNat 64 size).toNat
  match segCheck t s off size size false true with
  | some c => .trap c s off 0
  | none => let x := segWrite t p s off (toLE size (t.reg rs).toNat); tgo x.1 x.2

/-- An atomic on one 64-bit word: f gives the word to store from the one found. -/
def tintAmo (f : Word64 → Option Word64) (rd ra s : Nat) (t : Task) (p : Prog) : TRes :=
  let off := (t.reg ra).toNat
  match segCheck t s off 8 8 true true with
  | some c => .trap c s off 0
  | none =>
    let old := BitVec.ofNat 64 (fromLE (segRead t p s off 8))
    let x := match f old with
      | some v => segWrite t p s off (toLE 8 v.toNat)
      | none => (t, p)
    tgo (x.1.setReg rd old) x.2

/-- SEGN (R521). -/
def tintSegn (sd ss ra rb : Nat) (rights : BitVec 3) (t : Task) (p : Prog) : TRes :=
  let g := t.seg ss
  let a := (t.reg ra).toNat
  let b := (t.reg rb).toNat
  if g.limit < a + b then .trap 0x3 ss a 0
  else if sd = 0 then .trap 0x4 ss a 0
  else
    let n : TSeg := { g with base := g.base + a, limit := b, r := g.r && rights.getLsbD 2, w := g.w && rights.getLsbD 1, x := g.x && rights.getLsbD 0 }
    tgo { t with segs := t.segs.set sd n } p

/-! ### Return stack (R523, R524) -/

/-- Push onto the 16-entry return stack; none where it traps RS_OVER. -/
def tintPush (t : Task) (p : Prog) (v : Word64) : Option Task :=
  if t.rstack.length < 16 then some { t with rstack := v :: t.rstack }
  else if p.wraps.getD t.entry false then some { t with rstack := v :: t.rstack.take 15 }
  else none

/-- CALL and CALLR: push the address that follows, go to the target. -/
def tintCall (target : Nat) (t : Task) (p : Prog) : TRes :=
  match tintPush t p (BitVec.ofNat 64 (t.pc + 4)) with
  | none => .trap 0x6 0 0 0
  | some t => .go t p (some target)

/-- The branch target of imm22: words from the instruction's own address, on a 32-bit pc. -/
def branchTo (t : Task) (imm : BitVec 22) : Nat := (BitVec.ofNat 32 t.pc + BitVec.signExtend 32 imm * 4).toNat

/-- RET and RPOP take the newest entry. -/
def tintPop (f : Word64 → Task → TRes) (t : Task) : TRes :=
  match t.rstack with
  | [] => .trap 0x7 0 0 0
  | v :: r => f v { t with rstack := r }

/-! ### Engine calls (R527, R528, Table 12-6) -/

/-- The segment number in a register: bits [3:0]. -/
def Task.segReg (t : Task) (r : Nat) : Nat := (t.reg r).toNat % 16

/-- Check an input and an output operand of an engine call and submit it. -/
def tintCallCheck (fn : Nat) (ins : List (Nat × Nat × Nat)) (outs : List (Nat × Nat × Nat)) (t : Task) : TRes :=
  let bad (r w : Bool) (x : Nat × Nat × Nat) : Option (Nat × Nat × Nat) := (segCheck t x.1 x.2.1 x.2.2 1 r w).map fun c => (c, x.1, x.2.1)
  match (ins.findSome? (bad true false)).orElse fun _ => outs.findSome? (bad false true) with
  | some (c, s, off) => .trap c s off 0
  | none => .call fn

/-- Register r as a number. -/
def Task.num (t : Task) (r : Nat) : Nat := (t.reg r).toNat

/-- The operands of an engine call checked (Table 12-6): lengths first, then each operand under R519. -/
def tintEcall (fn : Nat) (t : Task) : TRes :=
  match fn with
  | 1 => if 262144 < t.num 5 then .trap 0x9 0 0 0 else
      tintCallCheck 1 [(t.segReg 3, t.num 4, t.num 5)] [(t.segReg 6, t.num 7, 32)] t
  | 2 => if 262144 < t.num 5 ∨ t.num 10 < 1 ∨ 64 < t.num 10 then .trap 0x9 0 0 0 else
      tintCallCheck 2 [(t.segReg 3, t.num 4, t.num 5), (t.segReg 8, t.num 9, t.num 10)] [(t.segReg 6, t.num 7, 32)] t
  | 3 => if t.num 5 < 1 ∨ 262144 < t.num 5 ∨ t.num 8 < 1 ∨ 262144 < t.num 8 then .trap 0x9 0 0 0 else
      tintCallCheck 3 [(t.segReg 3, t.num 4, t.num 5)] [(t.segReg 6, t.num 7, t.num 8)] t
  | 4 => tintCallCheck 4 [(t.segReg 3, t.num 4, 32)] [] t
  | 5 => .call 5
  | _ => .trap 0x9 0 0 0

/-! ### Issue (R515, R516) -/

/-- The word at the task's pc; none where the fetch traps. -/
def tintFetch (t : Task) (p : Prog) : Option Nat :=
  let g := t.seg 0
  if g.limit < t.pc + 4 ∨ !g.x ∨ t.pc % 4 ≠ 0 then none else some (fromLE (segRead t p 0 t.pc 4))

/-- What issuing at the task's pc does, when the device is to issue the instruction whose word is `word` and whose effect is
`body`: FETCH and ILLEGAL traps come first, whatever the guard; another instruction at the pc is not issued (none); then the
budget, an engine call that Table 12-6 does not define, the guard, and the effect. -/
def tintIssue (word : Nat) (body : Task → Prog → TRes) (t : Task) (p : Prog) : Option TRes :=
  match tintFetch t p with
  | none => some (.trap 0x2 0 0 0)
  | some w =>
    if tintReserved w then some (.trap 0x1 0 0 0) else
    let undefinedCall := decide (opcodeOf w = 0x38) && (decide (bits w 0 12 = 0) || decide (5 < bits w 0 12))
    if tintCanon w ≠ word ∧ !undefinedCall then none else
    let t := { t with budget := t.budget - 1 }
    if t.budget < 0 then some (.trap 0x8 0 0 0)
    else if !t.guard w then some (tgo t p)
    else if undefinedCall then some (.trap 0x9 0 0 0)
    else some (body t p)

end Sys2Proof.Machine
end

