-- ==== Sys2Proof/Machine/SchedOps.lean ====
section
/-! DEFINITION. Operand slots, ready lists, delay lists, dispatch and spare cores (chapter 13). -/

namespace Sys2Proof.Machine

/-! ### Cores (R507, R509) -/

/-- Core c after reset: 32 cores of each quadrant's 34 are active, two are spare; one that failed stays out (TINT_CORE.FAILED
survives RESET_N). -/
def Core.fresh (c : Nat) (failed : Bool) : Core :=
  { active := decide (c % 34 < 32) && !failed, spare := decide (32 ≤ c % 34) && !failed, failed := failed, retiring := false
    ready := [[], [], [], []], resident := [], running := none, delay := [], dispatches := 0, hist := [], misses := 0, late := 0
    issuedAt := 0, testedAt := 0, testNow := false }

/-- Core c. -/
def Dev.core (d : Dev) (c : Nat) : Core := (tget d.cores c).getD (Core.fresh c (d.isSet (TINT_CORE_FAILED c)))

/-- Task t. -/
def Dev.task (d : Dev) (t : Nat) : Option Task := tget d.sched.tasks t

/-- The scheduler with its tasks changed. -/
def Dev.setTasks (d : Dev) (ts : Tbl Task) : Dev := { d with sched := { d.sched with tasks := ts } }

def Dev.modTask (d : Dev) (t : Nat) (f : Task → Task) : Dev := d.setTasks (tmod d.sched.tasks t f)

/-- KiB of a core's scratch that its resident tasks' stacks leave (R509). -/
def Dev.scratchLeft (d : Dev) (x : Core) : Nat :=
  256 - sumN (x.resident.map fun t => match d.task t with
    | some k => (match tget d.progs k.prog with | some p => p.stack | none => 0)
    | none => 0)

/-- The registers TINT_CORE of core c. -/
def Dev.coreRegs (d : Dev) (c : Nat) : Dev :=
  let x := d.core c
  (((((d.wr (TINT_CORE_ACTIVE c) (b2n x.active)).wr (TINT_CORE_SPARE c) (b2n x.spare)).wr (TINT_CORE_FAILED c) (b2n x.failed)).wr
    (TINT_CORE_RESIDENT c) x.resident.length).wr (TINT_CORE_SCRATCH_KIB c) (d.scratchLeft x))

/-- Core c replaced by x. -/
def Dev.setCore (d : Dev) (c : Nat) (x : Core) : Dev := { d with cores := tput d.cores c x }.coreRegs c

/-! ### Operand slots (R548–R555) -/

/-- Declared slots of an entry (Table 13-1), without the return slot. -/
def declaredSlots (entry : Nat) : Nat := match entry with | 0 => 3 | 1 => 2 | 2 => 2 | _ => 1

/-- Slots a task holds: declared ones until it is first dispatched, the return slot until it ends. -/
def Task.held (t : Task) : Nat := 1 + (if t.started then 0 else declaredSlots t.entry)

/-- Slots of a task that hold a token. -/
def Task.filled (t : Task) : Nat := (if t.started then 0 else countP t.slots (·.isSome)) + b2n t.ret.isSome

/-- Slots held in all, and those held from the vermilion slot floor. -/
def Dev.slotsHeld (d : Dev) : Nat := sumN (d.sched.tasks.map fun e => e.2.held)
/-- FILLED of ledger 2: the slots of the matching store that hold a token. -/
def Dev.slotsFilled (d : Dev) : Nat := sumN (d.sched.tasks.map fun e => e.2.filled)
def Dev.slotsFloor (d : Dev) : Nat := sumN (d.sched.tasks.map fun e => if e.2.fromFloor then e.2.held else 0)

/-- A slot watermark brought up to date, with R219's hysteresis. -/
def Dev.slotMark (d : Dev) (pct : Nat) (f : Fld) : Dev :=
  let a := d.slotsHeld * 100
  if d.isSet f then (if a < (pct - 5) * 65536 then d.wr f 0 else d) else if pct * 65536 ≤ a then d.wr f 1 else d

/-- Tokens delivered into slots, and tokens consumed out of them (ledger 2). -/
def Dev.delivers (d : Dev) (n : Nat) : Dev := { d with sched := { d.sched with delivered := d.sched.delivered + n } }
def Dev.consumes (d : Dev) (n : Nat) : Dev := { d with sched := { d.sched with consumed := d.sched.consumed + n } }

/-- The scheduler's registers brought up to date, and ledger 2 compared (R243): FREE + RESERVED + FILLED = 65,536 slots, and tokens delivered less tokens
consumed = FILLED. -/
def Dev.schedRegs (d : Dev) : Dev :=
  let filled := d.slotsFilled
  let free := 65536 - d.slotsHeld
  let d := ((d.wr SCH_SLOT_FREE_FREE free).wr SCH_SLOT_FILLED_FILLED filled).wr SCH_PENDING_READY_PENDING d.sched.pending.length
  let d := (d.slotMark (d.rd SCH_SLOT_WM_AMBER) SCH_SLOT_WM_AMBER_NOW).slotMark (d.rd SCH_SLOT_WM_CRIMSON) SCH_SLOT_WM_CRIMSON_NOW
  if free + d.slotsHeld ≠ 65536 then d.breach 2 0 0 (free + d.slotsHeld) 65536
  else if d.sched.delivered ≠ d.sched.consumed + filled then d.breach 2 1 0 (d.sched.delivered - d.sched.consumed) filled
  else d

/-- The procedure of R214 for n slots under class c with the single vermilion floor (R553): refused, or granted, from the floor or
not. -/
def Dev.maySlots (d : Dev) (n : Nat) (c : Claim) : Option Bool :=
  let f := d.rd SCH_SLOT_VFLOOR_V_FLOOR
  let usedV := d.slotsFloor
  let alloc := d.slotsHeld
  if c = .V ∧ usedV + n ≤ f ∧ alloc + n ≤ 65536 then some true
  else if 65536 - Nat.max f usedV < alloc - usedV + n then none
  else if c = .G ∧ d.rd SCH_SLOT_WM_AMBER * 65536 < (alloc + n) * 100 then none
  else if d.rd SCH_SLOT_WM_CRIMSON * 65536 < (alloc + n) * 100 then none
  else some false

/-! ### Ready lists (R558–R563) -/

/-- Entries a core holds at a level. -/
def Core.depth (x : Core) (level : Nat) : Nat := (x.ready.getD level []).length

/-- Whether a ready list of `n` entries accepts a task of class c (R559). -/
def Dev.listTakes (d : Dev) (n : Nat) (c : Claim) : Bool :=
  match c with
  | .V => decide (n < 256)
  | .G => decide (n * 100 < d.rd SCH_SLOT_WM_AMBER * 256)
  | _ => decide (n * 100 < d.rd SCH_SLOT_WM_CRIMSON * 256)

/-- The core of a set that a ready task goes to (R559): fewest entries at its level, ties to the lowest number. -/
def Dev.readyCore (d : Dev) (t : Task) : Option Nat :=
  let ok := t.cores.filter fun c => (d.core c).active && !(d.core c).retiring && d.listTakes ((d.core c).depth t.level) t.claim
  argMin (fun c => (d.core c).depth t.level * 256 + c) ok

/-- Insert into a delay list sorted by wake time, ties in order of entry (R564). -/
def delayPut (l : List (Nat × Nat)) (e : Nat × Nat) : List (Nat × Nat) :=
  match l with
  | [] => [e]
  | x :: r => if x.1 ≤ e.1 then x :: delayPut r e else e :: x :: r

/-- The delay list that a firmware post goes to: of the active cores of its set the one with the fewest entries, if one of the 4,080 that are not
reserved for DELAY is free (R564, R565). -/
def Dev.postCore (d : Dev) (t : Task) : Option Nat :=
  (argMin (fun c => (d.core c).delay.length * 256 + c) (t.cores.filter fun c => (d.core c).active && !(d.core c).retiring)).filter fun c =>
    decide ((d.core c).delay.length < 4080)

/-- Enter a firmware post on a delay list; with no room it waits (R565). -/
def Dev.postTask (d : Dev) (ti : Nat) : Dev :=
  match d.task ti with
  | none => d
  | some t =>
    match if d.sched.posts.isEmpty then d.postCore t else none with
    | none => { d with sched := { d.sched with posts := d.sched.posts ++ [ti] } }
    | some c =>
      let x := d.core c
      (d.setCore c { x with delay := delayPut x.delay (t.wake, ti) }).modTask ti fun t => { t with state := .delayed, core := some c }

/-- Posts that wait enter as room appears, in the order they were made. -/
def Dev.enterPosts (d : Dev) : Dev :=
  d.sched.posts.foldl (fun d ti => d.postTask ti) { d with sched := { d.sched with posts := [] } }

/-- Put a task on a core's ready list. -/
def Dev.putReady (d : Dev) (c ti : Nat) (resumed : Bool) : Dev :=
  match d.task ti with
  | none => d
  | some t =>
    let x := d.core c
    (d.setCore c { x with ready := modAt x.ready t.level fun l => l ++ [(ti, resumed)] }).modTask ti fun t =>
      { t with state := .ready, core := some c, readyAt := d.now }

/-- A task that has become ready: placed, or ready-pending (R550, R560); one posted with a start time to come goes to a delay list (R564). -/
def Dev.makeReady (d : Dev) (ti : Nat) : Dev :=
  match d.task ti with
  | none => d
  | some t =>
    if d.now < t.wake ∧ !t.started then d.postTask ti else
    match d.readyCore t with
    | some c => if d.sched.pending.isEmpty then d.putReady c ti false else
        { d with sched := { d.sched with pending := d.sched.pending ++ [ti] } }.modTask ti fun t => { t with state := .readyPending, readyAt := d.now }
    | none => { d with sched := { d.sched with pending := d.sched.pending ++ [ti] } }.modTask ti fun t => { t with state := .readyPending, readyAt := d.now }

/-- The ready-pending task to be placed next (R560): the first for which a list has room, class V first. -/
def Dev.nextPending (d : Dev) : Option (Nat × Nat) :=
  let fits (ti : Nat) : Option (Nat × Nat) := (d.task ti).bind fun t => (d.readyCore t).map fun c => (ti, c)
  let isV (ti : Nat) : Bool := match d.task ti with | some t => decide (t.claim = .V) | none => false
  ((d.sched.pending.filter isV).findSome? fits).orElse fun _ => (d.sched.pending.filter fun t => !isV t).findSome? fits

/-- The meaning of READY_PENDING_PLACE (R560). -/
def execReadyPendingPlace (s : State) : Host.Outcome State Fault Refusal :=
  onDev (fun d => match d.nextPending with
    | none => d
    | some (ti, c) => ({ d with sched := { d.sched with pending := d.sched.pending.filter (· ≠ ti) } }.putReady c ti false).schedRegs) s

/-- The waiting time bucket of SCH_CHIST (SCH_CSEL.BUCKET). -/
def waitBucket (ns : Nat) : Nat := if ns < 1000 then 0 else satAt 15 (Nat.log2 (ns / 1000) + 1)

/-- The task core c takes (R561, R562): highest level first, resuming before unstarted, class V before others, then arrival; every
FAIR-th dispatch the one that has waited longest among those not of class V.  A task that has not started needs a free resident
place and scratch for its stack (R509). -/
def Dev.nextTask (d : Dev) (x : Core) : Option Nat :=
  let fits (e : Nat × Bool) : Bool := e.2 || (decide (x.resident.length < 16) && match d.task e.1 with
    | some t => (match tget d.progs t.prog with | some p => decide (p.stack ≤ d.scratchLeft x) | none => false)
    | none => false)
  let isV (e : Nat × Bool) : Bool := match d.task e.1 with | some t => decide (t.claim = .V) | none => false
  let age (e : Nat × Bool) : Nat := match d.task e.1 with | some t => t.readyAt | none => d.now
  let all := (x.ready.reverse.flatten).filter fits
  let fair := d.rd SCH_CFG_FAIR
  let level (l : List (Nat × Bool)) : Option (Nat × Bool) :=
    let l := l.filter fits
    let r := if l.any (·.2) then l.filter (·.2) else l
    (r.find? isV).orElse fun _ => r.head?
  let usual := x.ready.reverse.findSome? level
  let other := argMin age (all.filter fun e => !isV e)
  ((if fair ≠ 0 ∧ (x.dispatches + 1) % fair = 0 then other.orElse fun _ => usual else usual)).map (·.1)

/-- A core's ready lists without a task. -/
def Core.unlist (x : Core) (ti : Nat) : List (List (Nat × Bool)) := x.ready.map fun l => l.filter fun e => e.1 ≠ ti

/-- The segments and registers of a task at its first instruction (R522, R542, Table 12-5). -/
def Task.start (t : Task) (p : Prog) : Task :=
  let seg (region limit : Nat) (r w x : Bool) : TSeg :=
    { region := region, base := 0, limit := limit, r := r && decide (limit ≠ 0), w := w && decide (limit ≠ 0), x := x && decide (limit ≠ 0), tag := t.tenant }
  let none_ : TSeg := { region := 0, base := 0, limit := 0, r := false, w := false, x := false, tag := t.tenant }
  { t with
    started := true
    slots := []
    pc := ((p.entries.getD t.entry none).getD 0)
    regs := (0 :: t.params) ++ List.replicate (31 - t.params.length) 0
    preds := 1
    segs := [seg 0 p.code.length true false true, seg 1 (p.stack * 1024) true true false, seg 2 t.input.length true false false,
      seg 3 t.output.length true true false, seg 4 p.stateLen true true false] ++ List.replicate 11 none_
    rstack := []
    budget := (p.budgets.getD t.entry 0 * 1024 : Nat)
    stack := zeros (p.stack * 1024)
    output := zeros t.output.length }

/-- The meaning of CORE_DISPATCH (R561): a core that runs nothing takes a task from its ready lists. -/
def execCoreDispatch (c : Nat) (s : State) : Host.Outcome State Fault Refusal :=
  onDev (fun d =>
    let x := d.core c
    if !x.active ∨ x.retiring ∨ x.running.isSome ∨ 136 ≤ c then d else
    match d.nextTask x with
    | none => d
    | some ti => match d.task ti with
      | none => d
      | some t => match tget d.progs t.prog with
        | none => d
        | some p =>
          let b := t.level * 16 + waitBucket (d.now - t.readyAt)
          let t' := if t.started then t else t.start p
          let d := (d.modTask ti fun _ => { t' with state := .running, core := some c }).consumes (if t.started then 0 else t.filled)
          let y : Core := { x with
            ready := x.unlist ti
            running := some ti
            resident := if x.resident.contains ti then x.resident else x.resident ++ [ti]
            dispatches := x.dispatches + 1
            issuedAt := d.now
            hist := tput x.hist b (sat32 ((tget x.hist b).getD 0 + 1)) }
          (d.setCore c y).schedRegs) s

/-! ### Ending and moving tasks -/

/-- Take a task off every list of its core, and out of the matching store; its index's generation moves on (R551), and the
references it holds end (R228). -/
def Dev.dropTask (d : Dev) (ti : Nat) : Dev :=
  match d.task ti with
  | none => d
  | some t =>
    let d := match t.core with
      | none => d
      | some c =>
        let x := d.core c
        d.setCore c { x with
          ready := x.unlist ti
          resident := x.resident.filter (· ≠ ti)
          running := if x.running = some ti then none else x.running
          delay := x.delay.filter (·.2 ≠ ti) }
    let d := t.refs.foldl (fun d h => d.release h) d
    let d := { d with sched := { d.sched with
      tasks := tdel d.sched.tasks ti
      gens := tput d.sched.gens ti (t.gen + 1)
      pending := d.sched.pending.filter (· ≠ ti)
      posts := d.sched.posts.filter (· ≠ ti) } }.consumes t.filled
    let d := match t.core with | some c => d.coreRegs c | none => d
    d.purgeJobs.schedRegs

/-- End every task of a command without running it further (R529), and forget its waiting creations. -/
def Dev.dropTasks (d : Dev) (cmd : Nat) : Dev :=
  let ts := tkeys d.sched.tasks fun _ t => decide (t.cmd = cmd)
  let d := ts.foldl (fun d t => d.dropTask t) d
  { d with sched := { d.sched with waiting := d.sched.waiting.filter fun w => w.1 ≠ cmd, refWaits := d.sched.refWaits.filter fun w => w.1 ≠ cmd } }

/-- The spare core of a quadrant that comes next (R507, R572). -/
def Dev.nextSpare (d : Dev) (q : Nat) : Option Nat := [34 * q + 32, 34 * q + 33].find? fun c => (d.core c).spare

/-- One core put in another's place in a core set. -/
def swapCore (old : Nat) (new : Option Nat) (l : List Nat) : List Nat :=
  l.filterMap fun c => if c = old then new else some c

/-- Every core set with a core replaced, or removed. -/
def Dev.swapCores (d : Dev) (old : Nat) (new : Option Nat) : Dev :=
  { d with
    bindings := d.bindings.map fun b => { b with cores := swapCore old new b.cores }
    cmds := tmap d.cmds fun _ c => if c.op = .scan then { c with waits := swapCore old new c.waits } else c
    sched := { d.sched with tasks := tmap d.sched.tasks fun _ t =>
      { t with cores := swapCore old new t.cores, core := if t.core = some old then new else t.core } } }

/-- How many core sets a core belongs to (R557): those of bindings, and those of SCANs that have not ended. -/
def Dev.coreUse (d : Dev) (c : Nat) : Nat :=
  countP d.bindings (fun b => b.cores.contains c) +
    countP d.cmds fun e => decide (e.2.op = .scan) && decide (e.2.stage ≠ .done) && e.2.waits.contains c

/-- Choose n cores (R557): active cores of the given quadrant first, then of the others in ascending order; within a quadrant those
that belong to the fewest sets, then the lowest number. -/
def Dev.chooseCores (d : Dev) (n first : Nat) : List Nat :=
  let quads := first :: (upTo 4).filter (· ≠ first)
  let sorted (q : Nat) : List Nat :=
    let l := ((upTo 34).map (· + 34 * q)).filter fun c => (d.core c).active
    let use := l.map fun c => (d.coreUse c, c)
    (use.foldl (fun acc e => delayPut acc e) []).map (·.2)
  (quads.flatMap sorted).take n

/-- The cores of every set and of every task of a set left empty are replaced by one new core (R573). -/
def Dev.refillSets (d : Dev) : Dev :=
  let one (l : List Nat) : List Nat := if l.isEmpty then d.chooseCores 1 0 else l
  { d with
    bindings := d.bindings.map fun b => { b with cores := one b.cores }
    cmds := tmap d.cmds fun _ c => if c.op = .scan ∧ c.stage ≠ .done then { c with waits := one c.waits } else c
    sched := { d.sched with tasks := tmap d.sched.tasks fun _ t => { t with cores := one t.cores } } }

/-- Take core c out of service (R570, R572, R573): a spare of its quadrant takes its lists, its waiting tasks and its place in
every core set; with no spare, its tasks go to the other cores of their sets. -/
def Dev.failCore (d : Dev) (c : Nat) : Dev :=
  let x := d.core c
  let q := c / 34
  let d := (d.setCore c { x with active := false, spare := false, failed := true, retiring := false, ready := [[], [], [], []], resident := [],
                                 running := none, delay := [] }).bump SCH_SPARES_FAILED
  match d.nextSpare q with
  | some s =>
    let left := bits (d.rd SCH_SPARES_LEFT) (2 * q) 2 - 1
    let d := (d.wr SCH_SPARES_LEFT (setBits (d.rd SCH_SPARES_LEFT) (2 * q) 2 left)).swapCores c (some s)
    let y := d.core s
    (d.setCore s { y with active := true, spare := false, ready := x.ready, resident := x.resident, delay := x.delay, issuedAt := d.now }).event
      0x0603 0 0 c [2, left]
  | none =>
    let d := (d.swapCores c none).refillSets
    let d := (d.event 0x0F00 0 0 c [0]).event 0x0604 2 0 c [2]
    let waiting := x.ready.reverse.flatten
    let moved := x.resident.filter fun t => !waiting.any (·.1 = t)
    let d := waiting.foldl (fun d e => d.makeReady e.1) d
    let posted := (x.delay.map (·.2)).filter fun t => !x.resident.contains t
    let d := posted.foldl (fun d t => d.postTask t) d
    moved.foldl (fun d ti => match d.task ti with
      | none => d
      | some t => match t.cores.head? with
        | none => d
        | some k =>
          let y := d.core k
          let dl := (x.delay.filter (·.2 = ti)).foldl delayPut y.delay
          (d.setCore k { y with resident := y.resident ++ [ti], delay := dl }).modTask ti fun t => { t with core := some k }) d

/-- Stop a running task of core c for a wait or its end; a retiring core then leaves service (R571). -/
def Dev.coreIdle (d : Dev) (c : Nat) : Dev :=
  let x := d.core c
  let d := d.setCore c { x with running := none }
  if x.retiring then d.failCore c else d

/-- The meaning of DELAY_WAKE (R566): at a 1 µs tick, entries whose wake time has passed move to the ready lists, up to 64; those
that move more than one tick after it are counted late. -/
def execDelayWake (c : Nat) (s : State) : Host.Outcome State Fault Refusal :=
  onDev (fun d =>
    let x := d.core c
    let due := (x.delay.filter fun e => e.1 ≤ d.now).take 64
    let late := countP due fun e => decide (e.1 + 1000 < d.now)
    if due.isEmpty then d else
    let d := d.setCore c { x with delay := x.delay.filter (fun e => !due.contains e), late := satAt 65535 (x.late + late) }
    let resumes (ti : Nat) : Bool := match d.task ti with | some t => t.started | none => false
    (due.foldl (fun d e => d.putReady c e.2 (resumes e.2)) d).enterPosts) s

/-- The meaning of ECALL_RETURN (R562): the engine has reported; the result passes into r1 and r2, and the task goes back on the list
of its own core. -/
def execEcallReturn (task : Nat) (s : State) : Host.Outcome State Fault Refusal :=
  onDev (fun d => match d.task task with
    | none => d
    | some t => match t.state, t.ret, t.core with
      | .ecall, some (a, b), some c =>
        let d := d.modTask task fun t =>
          { ((t.setReg 1 (BitVec.ofNat 64 a)).setReg 2 (BitVec.ofNat 64 b)) with ret := none, call := none }
        ((d.consumes 1).putReady c task true).schedRegs
      | _, _, _ => d) s

/-- The meaning of SELFTEST (R570): between tasks, when due or asked for, the core tests itself; a failure takes it out of service. -/
def execSelftest (c : Nat) (pass : Bool) (s : State) : Host.Outcome State Fault Refusal :=
  onDev (fun d =>
    let x := d.core c
    let due := x.testNow || decide (x.testedAt + msNs (d.rd SCH_CFG_SELFTEST) ≤ d.now)
    if !x.active ∨ x.running.isSome ∨ !due ∨ 136 ≤ c then d
    else if pass then d.setCore c { x with testedAt := d.now, testNow := false }
    else d.failCore c) s

/-- Whether core c of SCH_CSEL can be acted on: a core that is in service (R574). -/
def Dev.selectedCore (d : Dev) : Option Nat :=
  let c := d.rd SCH_CSEL_CORE
  if c < 136 ∧ (d.core c).active then some c else none

/-- SCH_CCTL.RETIRE (R570, R571, R574): the selected core leaves service at its task's next wait or END; ignored where its quadrant
would be left with no active core. -/
def Dev.retireCore (d : Dev) : Dev :=
  match d.selectedCore with
  | none => d
  | some c =>
    let q := c / 34
    let others := (upTo 34).any fun i => decide (34 * q + i ≠ c) && ((d.core (34 * q + i)).active || (d.core (34 * q + i)).spare)
    if !others then d
    else if (d.core c).running.isSome then d.setCore c { (d.core c) with retiring := true }
    else d.failCore c

/-- SCH_CCTL.HIST_CLEAR and SELFTEST_NOW. -/
def Dev.clearHist (d : Dev) : Dev :=
  match d.selectedCore with
  | none => d
  | some c => d.setCore c { (d.core c) with hist := [] }

def Dev.selftestNow (d : Dev) : Dev :=
  match d.selectedCore with
  | none => d
  | some c => d.setCore c { (d.core c) with testNow := true }

end Sys2Proof.Machine
end

