-- ==== Sys2Proof/Machine/StencilOps.lean ====
section
/-! DEFINITION. The stencil array: matching, order, banks, classification and hot fingerprints (chapter 14). -/

namespace Sys2Proof.Machine

/-! ### Matching (R575–R578) -/

/-- Whether a key matches a valid entry (R575). -/
def SEntry.hits (e : SEntry) (k : BitVec 256) : Bool := (k ^^^ e.key) &&& e.mask = 0

/-- Mask length (R576). -/
def SEntry.len (e : SEntry) : Nat := countP (upTo 256) fun i => e.mask.getLsbD i

/-- Bank b. -/
def Stencil.bank (s : Stencil) (b : Nat) : Bank := s.banks.getD b { kind := 0, tenant := 0, next := none }

/-- The matching entries of the banks a region holds, a bank being cleared left out (R586), as (mask length, index, RESULT), in
index order. -/
def Stencil.matches (s : Stencil) (region : Nat → Bool) (k : BitVec 256) : List (Nat × Nat × BitVec 64) :=
  (s.entries.filter fun e => region (e.1 / 4096) && (s.bank (e.1 / 4096)).next.isNone && e.2.hits k).map fun e => (e.2.len, e.1, e.2.result)

/-- Whether (m, i) comes after (m', i') in the order of R578: mask length descending, then index ascending. -/
def after (m i m' i' : Nat) : Bool := decide (m < m') || (decide (m = m') && decide (i' < i))

/-- The first of a list of matches in that order: the winner (R577). -/
def winner (l : List (Nat × Nat × BitVec 64)) : Option (Nat × Nat × BitVec 64) :=
  l.foldl (fun b x => match b with | none => some x | some y => if after y.1 y.2.1 x.1 x.2.1 then some x else b) none

/-- r1 and r2 of ECALL STENCIL for a tenant (R585, R587, Table 14-3). -/
def Dev.stencilCall (d : Dev) (tenant : Nat) (k : BitVec 256) : Nat × Nat :=
  let s := d.stencil
  let l := s.matches (fun b => decide ((s.bank b).kind = 3) && decide ((s.bank b).tenant = tenant)) k
  match winner l with
  | none => (2 ^ 64 - 1, 0)
  | some w => (w.2.1, 1 + 2 * b2n (decide (1 < l.length)) + 4 * w.1 + 65536 * satAt 65535 l.length + 2 ^ 32 * (w.2.2.toNat % 2 ^ 32))

/-! ### Entries -/

/-- The number of valid entries of each bank shown in STN_BANK. -/
def Dev.bankRegs (d : Dev) (b : Nat) : Dev :=
  let x := d.stencil.bank b
  let d := ((d.wr (STN_BANK_KIND b) (match x.next with | some n => n.1 | none => x.kind)).wr (STN_BANK_BUSY b) (b2n x.next.isSome)).wr
    (STN_BANK_USED b) (countP d.stencil.entries fun e => decide (e.1 / 4096 = b))
  let o := x.next.getD (x.kind, x.tenant)
  (d.wr (STN_BANK_ASSIGNED b) (b2n (decide (o.1 = 3)))).wr (STN_BANK_TENANT b) (if o.1 = 3 then o.2 else 0)

/-- Write entry e whole (R580): none makes it invalid. A row that is left out takes no entry (R593). -/
def Dev.setEntry (d : Dev) (e : Nat) (x : Option SEntry) : Dev :=
  let t := match if d.stencil.out.contains e then none else x with | some v => tput d.stencil.entries e v | none => tdel d.stencil.entries e
  { d with stencil := { d.stencil with entries := t } }.bankRegs (e / 4096)

/-- Bank b replaced. -/
def Dev.setBank (d : Dev) (b : Nat) (x : Bank) : Dev :=
  { d with stencil := { d.stencil with banks := d.stencil.banks.set b x } }.bankRegs b

/-- A bank's owner changes (R586): its entries are invalid at once and it is busy until cleared. -/
def Dev.changeBank (d : Dev) (b kind tenant : Nat) : Dev :=
  let d := { d with stencil := { d.stencil with entries := d.stencil.entries.filter fun e => e.1 / 4096 ≠ b } }
  d.setBank b { d.stencil.bank b with next := some (kind, tenant) }

/-- The meaning of STENCIL_BANK_CLEARED (R586): the new owner can use the bank. -/
def execStencilBankCleared (b : Nat) (s : State) : Host.Outcome State Fault Refusal :=
  onDev (fun d => match (d.stencil.bank b).next with
    | some (k, t) => if b < 16 then d.setBank b { kind := k, tenant := t, next := none } else d
    | none => d) s

/-! ### Manager lookups (R577, R578, STN_LOOK_RES) -/

/-- The manager's key. -/
def Dev.lookKey (d : Dev) : BitVec 256 :=
  BitVec.ofNat 256 (sumN ((upTo 8).map fun j => d.rd (STN_LOOK_KEY_KEY j) * 2 ^ (32 * j)))

/-- The matches in the banks STN_LOOK_CTL.BANKS names. -/
def Dev.lookMatches (d : Dev) : List (Nat × Nat × BitVec 64) :=
  d.stencil.matches (fun b => bit (d.rd STN_LOOK_CTL_BANKS) b) d.lookKey

/-- STN_LOOK_RES for a match, or for none with END as given. -/
def Dev.lookResult (d : Dev) (w : Option (Nat × Nat × BitVec 64)) (multi endMark : Bool) : Dev :=
  let put (i b h m : Nat) (d : Dev) : Dev :=
    ((((d.wr STN_LOOK_RES_INDEX i).wr STN_LOOK_RES_BANK b).wr STN_LOOK_RES_HIT h).wr STN_LOOK_RES_MULTI (b2n multi)).wr
      STN_LOOK_RES_MASKLEN m
  let d := match w with
    | some x => put (x.2.1 % 4096) (x.2.1 / 4096) 1 x.1 d
    | none => put 0 0 0 0 d
  d.wr STN_LOOK_RES_END (b2n endMark)

/-- LOOKUP: the winner, and the cursor set to it; no match sets END. -/
def Dev.lookup (d : Dev) : Dev :=
  let l := d.lookMatches
  match winner l with
  | some w => { d with stencil := { d.stencil with cursor := some (w.1, w.2.1) } }.lookResult (some w) (decide (1 < l.length)) false
  | none => { d with stencil := { d.stencil with cursor := none } }.lookResult none false true

/-- STEP: the next match after the cursor (R578); without one, END. -/
def Dev.lookStep (d : Dev) : Dev :=
  match d.stencil.cursor with
  | none => d.lookResult none false true
  | some (m, i) =>
    match winner (d.lookMatches.filter fun x => after x.1 x.2.1 m i) with
    | some w => { d with stencil := { d.stencil with cursor := some (w.1, w.2.1) } }.lookResult (some w) false false
    | none => d.lookResult none false true

/-! ### Assignment (R583–R586, STN_BANK) -/

/-- A write of STN_BANK[b] with ASSIGNED and TENANT: ignored for CLASS and HOT banks; a tenant that does not exist sets OWN_ERR and
leaves the register; otherwise the bank changes owner. -/
def Dev.assignBank (d : Dev) (b : Nat) (assigned : Bool) (t : Nat) : Dev :=
  let x := d.stencil.bank b
  let kind := (x.next.getD (x.kind, 0)).1
  if kind = 1 ∨ kind = 2 ∨ 16 ≤ b then d
  else if t = 0 ∧ !assigned then (if kind = 3 then d.changeBank b 0 0 else d)
  else if t = 0 ∨ !thas d.tenants t then d.wr STN_STAT_OWN_ERR 1
  else if assigned then (if kind = 3 ∧ (x.next.getD (x.kind, x.tenant)).2 = t then d else d.changeBank b 3 t)
  else if kind = 3 then d.changeBank b 0 0
  else d

/-- The order in which banks become HOT (Table 14-2). -/
def hotOrder : List Nat := [3, 7, 11, 15, 2, 6, 10, 14]

/-- MAP_DEDUP_CFG.HOT_BANKS brought to its highest legal value (R584). -/
def Dev.clampHot (d : Dev) (v : Nat) : Nat :=
  let top := satAt 8 v
  let now := d.rd MAP_DEDUP_CFG_HOT_BANKS
  let free (b : Nat) : Bool := let x := d.stencil.bank b; decide (x.kind = 0) && x.next.isNone
  let extra := ((hotOrder.take top).drop now).takeWhile free
  if top ≤ now then top else now + extra.length

/-- Banks made HOT or given up when HOT_BANKS goes from `old` to `new`. -/
def Dev.moveHot (d : Dev) (old new : Nat) : Dev :=
  if old ≤ new then ((hotOrder.take new).drop old).foldl (fun d b => d.changeBank b 2 0) d
  else ((hotOrder.take old).drop new).foldl (fun d b => d.changeBank b 0 0) d

/-! ### Classification (R589, R590) -/

/-- KEY and MASK of a classification entry. -/
def classKey (qpn hostGroup : Nat) : BitVec 256 := BitVec.ofNat 256 (qpn % 2 ^ 24 + hostGroup % 4 * 2 ^ 24 + 2 ^ 26)
def classMask : BitVec 256 := BitVec.ofNat 256 (2 ^ 27 - 1)

/-- RESULT of a classification entry (R589): KIND 0, tenant and queue number, or KIND 1 and session. -/
def classResult (session : Bool) (tenant n : Nat) : BitVec 64 :=
  BitVec.ofNat 64 (if session then 1 + n % 64 * 4 else tenant % 1024 * 4 + n % 16 * 4096)

/-- The banks of classification entries. -/
def classBanks : List Nat := [0, 1, 4, 8, 12]

/-- Write a classification entry into the first free row of the CLASS banks. -/
def Dev.addClass (d : Dev) (qpn hostGroup : Nat) (r : BitVec 64) : Dev :=
  let free := (classBanks.flatMap fun b => (upTo 4096).map (· + b * 4096)).find? fun e => !thas d.stencil.entries e && !d.stencil.out.contains e
  match free with
  | some e => d.setEntry e (some { key := classKey qpn hostGroup, mask := classMask, result := r })
  | none => d

/-- Remove the classification entries of a queue pair. -/
def Dev.delClass (d : Dev) (qpn : Nat) : Dev :=
  let es := tkeys d.stencil.entries fun e x => classBanks.contains (e / 4096) && decide (x.key.toNat % 2 ^ 24 = qpn)
  es.foldl (fun d e => d.setEntry e none) d

/-- The RESULT a frame's queue pair and host port group classify to (R577, R590). -/
def Dev.classify (d : Dev) (qpn hostGroup : Nat) : Option (BitVec 64) :=
  (winner (d.stencil.matches (fun b => classBanks.contains b) (classKey qpn hostGroup))).map (·.2.2)

/-! ### Hot fingerprints (R591, R592) -/

/-- KEY of a hot-fingerprint entry: fingerprint, tenant, key domain, group. -/
def hotKey (fp : Bytes) (tenant keydom group : Nat) : BitVec 256 :=
  BitVec.ofNat 256 (fromLE (fp.take 24) + tenant % 1024 * 2 ^ 192 + keydom % 16 * 2 ^ 202 + group % 256 * 2 ^ 206)
def hotMask : BitVec 256 := BitVec.ofNat 256 (2 ^ 214 - 1)

/-- The entries of the hot banks in clock order. -/
def Dev.hotEntries (d : Dev) : List Nat :=
  ((hotOrder.take (d.rd MAP_DEDUP_CFG_HOT_BANKS)).filter fun b => decide ((d.stencil.bank b).kind = 2) && (d.stencil.bank b).next.isNone).flatMap
    fun b => ((upTo 4096).map (· + b * 4096)).filter fun e => !d.stencil.out.contains e

/-- Look a fingerprint up in the hot banks; a hit sets its reference bit (R592). -/
def Dev.hotLookup (d : Dev) (fp : Bytes) (tenant keydom group : Nat) : Dev × Option (BitVec 64) :=
  match winner (d.stencil.matches (fun b => decide ((d.stencil.bank b).kind = 2)) (hotKey fp tenant keydom group)) with
  | some w => ({ d with stencil := { d.stencil with refs := if d.stencil.refs.contains w.2.1 then d.stencil.refs else w.2.1 :: d.stencil.refs } }, some w.2.2)
  | none => (d, none)

/-- The clock hand's advance over n entries: the first whose reference bit is clear, clearing bits as it passes. -/
def clockHand : Nat → List Nat → Nat → List Nat → Option (Nat × List Nat)
  | 0, l, i, refs => (l[i % l.length]?).map fun e => (e, refs)
  | n + 1, l, i, refs =>
    match l[i % l.length]? with
    | none => none
    | some e => if refs.contains e then clockHand n l (i + 1) (refs.filter (· ≠ e)) else some (e, refs)

/-- Write a fingerprint whose DRAM lookup hit into the hot banks (R592): RESULT holds bucket and entry. -/
def Dev.hotPut (d : Dev) (fp : Bytes) (tenant keydom group bucket entry : Nat) : Dev :=
  let l := d.hotEntries
  match clockHand l.length l d.stencil.hand d.stencil.refs with
  | none => d
  | some (e, refs) =>
    let d := { d with stencil := { d.stencil with refs := refs, hand := ((l.idxOf e) + 1) % Nat.max 1 l.length } }
    d.setEntry e (some { key := hotKey fp tenant keydom group, mask := hotMask, result := BitVec.ofNat 64 (bucket % 2 ^ 29 + entry % 16 * 2 ^ 32) })

/-- Invalidate the hot entry of a fingerprint, in the step that evicts, removes or repoints its index entry (R592). -/
def Dev.hotDrop (d : Dev) (fp : Bytes) (tenant keydom group : Nat) : Dev :=
  let k := hotKey fp tenant keydom group
  let es := tkeys d.stencil.entries fun e x => decide ((d.stencil.bank (e / 4096)).kind = 2) && decide (x.key = k)
  es.foldl (fun d e => d.setEntry e none) d

/-! ### Parity (R593) -/

/-- A free row in another bank of the kind, and for a TENANT bank of the tenant, of bank b. -/
def Dev.otherRow (d : Dev) (b : Nat) : Option Nat :=
  let x := d.stencil.bank b
  let alike (c : Nat) : Bool :=
    let y := d.stencil.bank c
    decide (c ≠ b) && decide (y.kind = x.kind) && (decide (x.kind ≠ 3) || decide (y.tenant = x.tenant)) && y.next.isNone
  (((upTo 16).filter alike).flatMap fun c => (upTo 4096).map (· + c * 4096)).find? fun e =>
    !thas d.stencil.entries e && !d.stencil.out.contains e

/-- Entry e fails its parity check during a lookup (log 128): reloaded from its shadow, with a manager event. The second failure of its row takes a spare
row of the bank; with none left the row is left out and the entry goes to another bank, or is lost. -/
def Dev.stencilFault (d : Dev) (e : Nat) : Dev :=
  let b := e / 4096
  match tget d.stencil.entries e with
  | none => d
  | some x =>
    if (d.stencil.bank b).next.isSome then d else
    let d := (d.bump (STN_SPARE_PARITY_ERR b)).event 0x0F00 0 0 b [0x0593]
    let left := d.rd (STN_SPARE_LEFT b)
    if !d.stencil.failed.contains e then { d with stencil := { d.stencil with failed := e :: d.stencil.failed } }
    else
      let d := { d with stencil := { d.stencil with failed := d.stencil.failed.filter (· ≠ e) } }
      if 0 < left then d.wr (STN_SPARE_LEFT b) (left - 1) else
      let d := { d with stencil := { d.stencil with out := e :: d.stencil.out } }.setEntry e none
      match d.otherRow b with
      | some f => d.setEntry f (some x)
      | none =>
        let d := d.event 0x0604 2 0 b [5]
        if (d.stencil.bank b).kind = 3 then d.tenantEvent (d.stencil.bank b).tenant 11 b else d

/-- The shadow of every entry is rebuilt from the array (Table 19-2): the entries themselves do not change. -/
def Dev.rebuildShadow (d : Dev) : Dev := d

end Sys2Proof.Machine
end

