-- ==== Sys2Proof/Machine/CmdOps.lean ====
section
/-! DEFINITION. How a command ends, wholly or at a grain: buffers, tasks, messages and reads it held are let go (R46, R98, R105,
R106, R529). -/

namespace Sys2Proof.Machine

/-- Whether a command changes the content of its range: ordered as a write. -/
def Op.edits (o : Op) : Bool := match o with | .write | .writeZeroes | .discard | .strip => true | _ => false

/-- V: VOLUME names a volume or snapshot of the issuing tenant. -/
def Op.usesV (o : Op) : Bool :=
  [.read, .write, .writeZeroes, .discard, .strip, .flush, .volDelete, .volResize, .volQuery, .snapCreate, .snapDelete, .cloneCreate,
   .replOpen, .streamOpen, .streamClose, .streamQuery, .queryTime, .bindProgram, .unbindProgram, .scan].contains o

/-- Volume barriers (R131). -/
def Op.barrier (o : Op) : Bool := [.volDelete, .volResize, .snapDelete, .cryptoErase].contains o

/-- D: LENGTH gives the data moved; of these, READ moves it to the host. -/
def Op.usesD (o : Op) : Bool := [.read, .write, .loadProgram, .patternLoad, .keyInstall, .ownerEnrol, .debugUnlock, .fwStage].contains o

/-- Opcodes that carry data to the device, which alone may carry it inline (R78). -/
def Op.carries (o : Op) : Bool := o.usesD && decide (o ≠ .read)

/-- One MiB: writes of at most this length are applied whole or not at all (R105). -/
def oneMiB : Nat := 1048576

/-- LENGTH of a command. -/
def Cmd.length (c : Cmd) : Nat := c.msg.length.toNat

/-- First byte of a command's range in its volume. -/
def Cmd.startByte (c : Cmd) : Nat := c.msg.lba.toNat * 4096

/-- Operation-specific numbers: entry 0 is the grain size in bytes of a command that works on grains. -/
def Cmd.num (c : Cmd) (i : Nat) : Nat := c.aux.getD i 0

def Cmd.setNum (c : Cmd) (i v : Nat) : Cmd :=
  { c with aux := (c.aux ++ List.replicate (i + 1 - c.aux.length) 0).set i v }

/-- The piece of a command's range in which grain g lies (R210): a range of at most 1 MiB is one piece, a longer one is cut into pieces of as
many grains as 1 MiB holds, from its first grain on. -/
def Cmd.pieceOf (c : Cmd) (g : Nat) : Nat :=
  if c.length ≤ oneMiB then 0 else (g - c.startByte / Nat.max 1 (c.num 0)) / Nat.max 1 (oneMiB / Nat.max 1 (c.num 0))

/-- Whether a command came in a frame: the grains that a replication session writes stand under keys of the model's own. -/
def Cmd.framed (c : Cmd) : Bool := decide (c.qkey < internalKey)

/-- Whether a command has failed, or will. -/
def Cmd.failing (k : Cmd) : Bool := decide (k.outcome ≠ .success) && decide (k.outcome ≠ .successLate)

/-- Number of the volume a handle names: SIDE × 16,384 + VINDEX (Table 9-1). -/
def volNum (h : Nat) : Nat := h % 16384 + bits h 14 1 * 16384

/-- The snapshot slot a handle names, if it is a snapshot handle. -/
def handleSnap (h : Nat) : Option Nat := if bit h 15 then some (bits h 16 10) else none

def Cmd.volume (c : Cmd) : Nat := volNum c.msg.volume.toNat
def Cmd.snap (c : Cmd) : Option Nat := handleSnap c.msg.volume.toNat

/-- Volume number and generation that a handle of a volume or of one of its snapshots names. -/
def volKey (h : Nat) : Nat := h % 32768 + h / 2 ^ 32 % 65536 * 2 ^ 32

/-- Whether the map-log record of a grain has been issued (write step 15). -/
def Grain.issued (x : Grain) : Bool := decide (14 ≤ x.step) && decide (x.step ≤ 20)

/-- Bytes of a failed command's range that are applied all the same (R105, R106): none of one of at most 1 MiB; of a longer one those of
its leading grains whose map-log records have been issued. -/
def Cmd.appliedPrefix (c : Cmd) : Nat :=
  if c.length ≤ oneMiB then 0 else
  match (c.grains.takeWhile fun e => e.2.issued).getLast? with
  | none => 0
  | some e => satAt c.length ((e.1 + 1) * c.num 0 - c.startByte)

/-- Whether transfer x, which is t, has gone out: of a queue pair's RDMA READs 16 are outstanding at most, the oldest (Table 18-3). -/
def Dev.posted (d : Dev) (x : Nat) (t : Xfer) : Bool :=
  !t.read || decide (countP d.xfers (fun e => e.2.read && decide (e.2.qpn = t.qpn) && decide (e.1 < x)) < 16)

/-- Transfers end; the RDMA READs that their queue pairs now have room for go out. -/
def Dev.endXfers (d : Dev) (gone : Nat → Xfer → Bool) : Dev :=
  let e : Dev := { d with xfers := d.xfers.filter fun y => !gone y.1 y.2 }
  (e.xfers.filter fun y => e.posted y.1 y.2 && !d.posted y.1 y.2).foldl (fun d y => d.emit (.rdmaRead y.1 y.2.qpn y.2.addr y.2.length)) e

/-- The transfers of a command end, words of migration bitmaps apart (R618). -/
def Dev.dropXfers (d : Dev) (id : Nat) : Dev := d.endXfers fun _ t => decide (t.cmd = id) && decide (t.load ≠ Load.bitmap)

/-- The stream of a write (R136). -/
def Cmd.streamId (c : Cmd) : Option Nat := if c.op = .write ∧ c.msg.stream ≠ 0xFFFF then some c.msg.stream.toNat else none

/-- A miss counted for a write that then fails with another status than DROPPED_LATE is taken back (R179). -/
def Dev.unmiss (d : Dev) (id : Nat) : Dev :=
  match tget d.cmds id with
  | none => d
  | some c => match c.streamId with
    | none => d
    | some i =>
      if !c.late then d else
      let d := d.modCmd id fun c => { c with late := false }
      (d.modStream i fun s => { s with misses := s.misses - 1 }).modTenant c.tenant fun t => { t with misses := t.misses - 1 }

/-- End a command: status queued, and everything it held let go; a failure is not counted late (R179). -/
def Dev.endCmd (d : Dev) (id : Nat) (code : Code) (applied retval : Nat) : Dev :=
  match tget d.cmds id with
  | none => d
  | some c =>
    if c.stage = .done then d else
    let d := if code = .success ∨ code = .successLate ∨ code = .droppedLate then d else d.unmiss id
    let d := c.grains.foldl (fun d e => e.2.refs.foldl (fun d h => d.release h) d) (d.completeAs id code applied retval false)
    let d := ((d.modCmd id fun c => { c with grains := tmap c.grains fun _ x => { x with refs := [], buf := none } }).releaseAll id).dropTasks id
    let d := d.dropXfers id
    let d := { d with freads := d.freads.filter fun e => match e.2.use with
      | .grain k _ => k ≠ id | .verify k _ _ => k ≠ id | _ => true }
    d.purgeJobs

/-- A command fails: nothing of it is applied beyond the grains whose records have been issued.  A WRITE of at most 1 MiB whose records
have been issued is applied whole and does not fail any more (R105). -/
def Dev.failCmd (d : Dev) (id : Nat) (code : Code) : Dev :=
  match tget d.cmds id with
  | none => d
  | some c =>
    if c.op = .write ∧ c.length ≤ oneMiB ∧ c.num 3 ≠ 0 then d
    else if c.op = .write then d.endCmd id code c.appliedPrefix 0 else if c.op = .scan then d.endCmd id code c.applied 0 else d.endCmd id code 0 0

/-- A command fails at grain g (R106, Table 12-8): a write longer than 1 MiB keeps the grains before it, and completes with this
status once they are done; any other command fails whole. -/
def Dev.failAt (d : Dev) (id g : Nat) (code : Code) : Dev :=
  match tget d.cmds id with
  | none => d
  | some c =>
    if c.op = .write ∧ oneMiB < c.length ∧ c.grains.any (fun e => decide (e.1 < g)) then
      d.modCmd id fun c => { c with
        grains := c.grains.filter fun e => decide (e.1 < g) || e.2.issued
        outcome := if c.outcome = .success then code else c.outcome }
    else d.failCmd id code

/-- A command's transfer has failed: a write keeps the grains it has, any other command fails whole. -/
def Dev.transferFailed (d : Dev) (id : Nat) : Dev :=
  match tget d.cmds id with
  | none => d
  | some c =>
    match c.op, c.grains.find? fun (e : Nat × Grain) => decide (e.2.step ≤ 4) with
    | .write, some e => d.failAt id e.1 .transferFail
    | _, _ => d.failCmd id .transferFail

/-- The grain of a command. -/
def Dev.grain (d : Dev) (id g : Nat) : Option Grain := (tget d.cmds id).bind fun c => tget c.grains g

/-- A grain of a command changed by f. -/
def Dev.modGrain (d : Dev) (id g : Nat) (f : Grain → Grain) : Dev :=
  d.modCmd id fun c => { c with grains := tmod c.grains g f }

/-- The guards of a grain's sectors (R310). -/
def guardsOf (b : Bytes) : Bytes := (chunks 4096 (b.length / 4096) b).flatMap fun s => toLE 8 (Config.guard s).toNat

/-- A grain at the start of its path. -/
def Grain.fresh (data : Bytes) : Grain :=
  { step := 3, data := data, stamps := [], quality := 0, buf := none, writers := [], refs := [], laid := [], stale := false, zero := false, dropped := false, replaced := false, digest := []
    match? := none, content := none, frag := [], fragLen := 0, raw := false, row := none, entered := false, mirrored := false
    programmed := false, mapped := false, annot := 0 }

/-- The command that holds the buffer at a tile-memory offset, with the handle (R46). -/
def Dev.bufferAt (d : Dev) (off : Nat) : Option (Nat × Buf) :=
  let base (p : Nat) : Nat := sumN ((upTo p).map fun q => poolTotal q * poolSize q)
  let p? := (upTo 5).find? fun p => decide (base p ≤ off) && decide (off < base p + poolTotal p * poolSize p)
  match p? with
  | none => none
  | some p =>
    let i := (off - base p) / poolSize p
    (tget (d.pool p).alloc i).map fun b => (handleOf p i, b)

/-- A trap of a task (R531–R533, Table 12-8): counted and recorded with the program, a tenant event at most once a second per
program, the task ended, and its command's outcome. -/
def Dev.trap (d : Dev) (ti cause seg off code : Nat) : Dev :=
  match d.task ti with
  | none => d
  | some t =>
    let r : TrapRec := { cause := cause, entry := t.entry, seg := seg, code := code, pc := t.pc, off := off % 2 ^ 32 }
    let handle := t.prog + (match tget d.progs t.prog with | some p => p.gen * 65536 | none => 0)
    let d := { d with progs := tmod d.progs t.prog fun p => { p with traps := sat32 (p.traps + 1), last := r } }
    let d := d.modTenant t.tenant (·.raise 6)
    let word := cause + t.entry * 16 + seg * 64 + code * 1024
    let d := d.eventLim 0x0A03 1 t.tenant t.prog t.prog (sNs 1) [handle, word]
    let d := if cause = 0xD then d.event 0x0704 2 t.tenant t.prog [handle] else d
    let core := t.core
    let d := d.dropTask ti
    let d := match core with | some c => d.coreIdle c | none => d
    let out := if cause = 0xB then Code.bufferParity else Code.programTrap
    match t.entry with
    | 0 => d.failAt t.cmd t.grain out
    | 1 => d
    | _ =>
      match tget d.cmds t.cmd with
      | none => d
      | some c => d.endCmd t.cmd out c.applied 0

end Sys2Proof.Machine
end

