-- ==== Sys2Proof/Machine/MemOps.lean ====
section
/-! DEFINITION. Tile memory and DRAM (chapter 19). -/

namespace Sys2Proof.Machine

/-! ### Rows and spares (R727–R729) -/

/-- Tile of an offset and the tile's quadrant. -/
def tileOf (o : Nat) : Nat := o / 524288
def tileQuadrant (t : Nat) : Nat := t % 4

/-- Withdraw a row (R729): in the buffer pool every buffer that touches it is held for good. -/
def Dev.withdrawRow (d : Dev) (row : Nat) : Dev :=
  let q := tileQuadrant (tileOf (row * 128))
  let d := (d.setTmem { d.tmem with withdrawn := row :: d.tmem.withdrawn }).bump (TMEM_SPARE_WITHDRAWN q)
  let base (p : Nat) : Nat := sumN ((upTo p).map fun i => poolTotal i * poolSize i)
  let o := row * 128
  let hold (d : Dev) (p : Nat) : Dev :=
    if o + 127 < base p ∨ base p + poolTotal p * poolSize p ≤ o then d else
    let first := (o - base p) / poolSize p
    match tget (d.pool p).alloc first with
    | some _ => d.takeRef (handleOf p first)
    | none =>
      let cut (r : List (Nat × Nat)) : List (Nat × Nat) := r.flatMap fun x =>
        if x.1 ≤ first ∧ first < x.1 + x.2 then [(x.1, first - x.1), (first + 1, x.1 + x.2 - first - 1)].filter (·.2 ≠ 0) else [x]
      (d.modPool p fun x => { x with
        cache := cut x.cache, ring := cut x.ring
        alloc := tput x.alloc first { refs := 1, waiting := 0, floor := none, tenant := 0, owner := none } }).poolRegs p
  let d := if o < 0x0C000000 then (upTo 5).foldl hold d else d
  d.event 0x0604 2 0 q [3]

/-- One more parity error of a row (R727, R728, R729): at its second a spare row of its tile replaces it; a tile without one is
replaced by a spare tile of its quadrant; without that the row is withdrawn. -/
def Dev.countRow (d : Dev) (o : Nat) : Dev :=
  let row := o / 128
  let t := tileOf o
  let q := tileQuadrant t
  let n := (tget d.tmem.rowErrs row).getD 0 + 1
  let d := d.setTmem { d.tmem with rowErrs := tput d.tmem.rowErrs row n }
  if n < 2 ∨ d.tmem.withdrawn.contains row ∨ d.tmem.copying.contains t then d else
  let used := (tget d.tmem.rowsUsed t).getD 0
  if used < 16 then
    let d := d.setTmem { d.tmem with rowsUsed := tput d.tmem.rowsUsed t (used + 1), rowErrs := tdel d.tmem.rowErrs row }
    (d.bump (TMEM_SPARE_ROWS_USED q)).event 0x0603 0 0 q [3, 15 - used]
  else if d.rd (TMEM_SPARE_TILES q) ≠ 0 then
    let left := d.rd (TMEM_SPARE_TILES q) - 1
    let d := d.setTmem { d.tmem with copying := t :: d.tmem.copying }
    (d.wr (TMEM_SPARE_TILES q) left).event 0x0603 0 0 q [4, left]
  else d.withdrawRow row

/-! ### Parity errors (R726, R570) -/

/-- The task whose slots hold matching-store slot i, tasks counted in index order. -/
def slotOwner : List (Nat × Task) → Nat → Option Nat
  | [], _ => none
  | (ti, t) :: r, i => if i < t.held then some ti else slotOwner r (i - t.held)

/-- The core whose scratch is the a-th: the core itself, or the spare that replaced it. -/
def Dev.scratchCore (d : Dev) (a : Nat) : Nat :=
  let q := a / 32
  ([34 * q + a % 32, 34 * q + 32, 34 * q + 33].find? fun c => (d.core c).active).getD (34 * q + a % 32)

/-- A parity error in the buffer of unit j of a row (R46, R47). Before the row's STRIPE entry it fails the commands with data in the unit;
from then until the row is programmed it fails none: the unit is rebuilt from the others and P or Q, and the device fences itself once
more units of the row have failed than its group's k. -/
def Dev.unitError (d : Dev) (key j : Nat) (w : Row) : Dev :=
  let k := match tget d.groups w.group with | some x => geoK x.geometry | none => 0
  match w.state with
  | .programmed => d
  | .filling | .closed =>
    let here (i : Item) : Bool := decide (i.offset < (j + 1) * 65536) && decide (j * 65536 < i.offset + i.bytes.length)
    let hit := (w.items.filterMap fun i => match i.cargo with | .grain c _ _ => if here i then some c else none | _ => none).eraseDups
    hit.foldl (fun d c => d.failCmd c .bufferParity) d
  | .journalled | .programming =>
    let bad := if w.badUnits.contains j then w.badUnits else j :: w.badUnits
    let d := { d with rows := tmod d.rows key fun w => { w with badUnits := bad } }
    if bad.length ≤ k then d else d.fence 0x0F00 0 (w.group % 65536) [1]

/-- A parity error in a buffer that command c holds (R46): it fails the command, unless the data of the grain it holds has gone into a
row whose STRIPE entry has been issued, or has left the path. -/
def Dev.dataError (d : Dev) (h c : Nat) : Dev :=
  match tget d.cmds c with
  | none => d
  | some x =>
    let past := x.grains.any fun e => decide (e.2.buf = some h) && decide (x.op = .write) && (e.2.entered || e.2.issued || e.2.dropped || e.2.zero || e.2.replaced)
    if past then d else d.failCmd c .bufferParity

/-- A parity error in a buffer, found by whoever uses it: the row whose unit it is, the command that holds it, the reads that refer to it. -/
def Dev.bufferError (d : Dev) (h : Nat) (b : Buf) : Dev :=
  match d.rows.find? fun e => e.2.bufs.contains h with
  | some (key, w) => d.unitError key ((w.bufs.zipIdx.find? fun x => decide (x.1 = h)).map (·.2) |>.getD 0) w
  | none =>
    let readers := tkeys d.cmds fun _ c => c.grains.any fun e => e.2.refs.contains h && decide (e.2.step ≠ 12)
    let d := readers.foldl (fun d c => d.failCmd c .bufferParity) d
    match b.owner with
    | some c => d.dataError h c
    | none => d

/-- A parity error at an offset handled by the area that holds it (R726). -/
def Dev.tileError (d : Dev) (o : Nat) : Dev :=
  if o < 0x0C000000 then
    match d.bufferAt o with
    | none => d
    | some (h, b) => d.bufferError h b
  else if o < 0x0E000000 then
    let c := d.scratchCore ((o - 0x0C000000) / 262144)
    let x := d.core c
    match x.running.orElse fun _ => x.resident.head? with
    | some t => d.trap t 0xB 1 (o % 262144) 0
    | none => d
  else if o < 0x0F000000 then d
  else if o < 0x0F400000 then
    match slotOwner d.sched.tasks ((o - 0x0F000000) / 64) with
    | some t => d.trap t 0xB 0 0 0
    | none => d
  else if o < 0x0F580000 then
    let n := (o - 0x0F400000) / 256
    let l := n / 64
    let dig := decide (32 ≤ l)
    let l := if dig then l - 32 else l
    let x := d.lane dig l
    d.setLane dig l { x with slots := modAt x.slots (n % 64) fun j => { j with bad := 8 } }
  else if o < 0x0F980000 then d
  else d.fence 0x0F00 0 (tileQuadrant (tileOf o)) [1]

/-- The meaning of TILE_PARITY_ERROR (R726, R727; of a core's latches, R570, R571; of a stencil entry, R593). -/
def execTileParityError (site : ParitySite) (s : State) : Host.Outcome State Fault Refusal :=
  onDev (fun d => match site with
    | .tile o => if 0x10000000 ≤ o then d else ((d.bump TMEM_PERR_COUNT).tileError o).countRow o
    | .stencil e => if 65536 ≤ e then d else d.stencilFault e
    | .core c =>
      let x := d.core c
      if !x.active ∨ 136 ≤ c then d else
      let d := match x.running with | some t => d.trap t 0xB 0 0 0 | none => d
      if (d.core c).active then d.failCore c else d) s

/-- The meaning of TILE_COPY_DONE (R728): the spare tile has taken the tile's place. -/
def execTileCopyDone (tile : Nat) (s : State) : Host.Outcome State Fault Refusal :=
  onDev (fun d =>
    if d.tmem.copying.contains tile then
      let keep (e : Nat × Nat) : Bool := decide (tileOf (e.1 * 128) ≠ tile)
      d.setTmem { d.tmem with copying := d.tmem.copying.filter (· ≠ tile), rowsUsed := tdel d.tmem.rowsUsed tile, rowErrs := d.tmem.rowErrs.filter keep }
    else d) s

/-! ### Test mode (R730, R731) -/

/-- The test buffer has been granted: HELD, and its offset in OFFSET. -/
def Dev.testGranted (d : Dev) (hs : List Nat) : Dev :=
  match hs with
  | h :: _ => ((d.setTmem { d.tmem with test := some h }).wr TMEM_TEST_HELD 1).wr TMEM_TEST_OFFSET (handleOffset h)
  | [] => d

/-- RELEASE: the test buffer is returned. -/
def Dev.testRelease (d : Dev) : Dev :=
  match d.tmem.test with
  | none => d
  | some h => ((d.setTmem { d.tmem with test := none }).release h).wr TMEM_TEST_HELD 0

/-- CLAIM: with TEST_EN set and none held, one 4 KiB buffer of pool 1 is asked as class G, behind the requests of its class (R216), and
granted at once where R214 lets it; with one held, it is returned. -/
def Dev.testClaim (d : Dev) : Dev :=
  if d.rd TMEM_CTL_TEST_EN = 0 then d else
  match d.tmem.test with
  | some _ => d.testRelease
  | none =>
    if d.asking .test then d else
    let d := d.request 4096 1 .G noTenant .test
    match d.nextGrant 1 with
    | some (i, r, f) =>
      if r.use ≠ .test then d else
      let x := (d.modPool 1 fun q => { q with waiting := q.waiting.eraseIdx i }).takeBuffers 1 1 f noTenant none
      x.1.testGranted (x.2.map (handleOf 1))
    | none => d

/-- Whether an offset is a word of the held test buffer. -/
def Dev.testWord (d : Dev) (o : Nat) : Bool :=
  match d.tmem.test with
  | some h => decide (o % 8 = 0) && decide (handleOffset h ≤ o) && decide (o < handleOffset h + 4096)
  | none => false

/-- TEST_WRITE: TMEM_TDATA stored with the parity bits of TMEM_TPAR as given. -/
def Dev.testWrite (d : Dev) : Dev :=
  let o := d.rd TMEM_TEST_OFFSET
  if d.isSet TMEM_CTL_TEST_EN && d.testWord o then
    let m := d.tmem.write o (toLE 4 (d.rd TMEM_TDATA_LO_DATA) ++ toLE 4 (d.rd TMEM_TDATA_HI_DATA))
    d.setTmem (m.setBad (o / 8) (Nat.xor (m.goodPar o) (d.rd TMEM_TPAR_PAR)))
  else d.wr TMEM_TEST_ERR 1

/-- TEST_READ: the stored data and parity into TMEM_TDATA and TMEM_TPAR. -/
def Dev.testRead (d : Dev) : Dev :=
  let o := d.rd TMEM_TEST_OFFSET
  if d.isSet TMEM_CTL_TEST_EN && d.testWord o then
    let d := (d.wr TMEM_TDATA_LO_DATA (fromLE (d.tmem.read o 4))).wr TMEM_TDATA_HI_DATA (fromLE (d.tmem.read (o + 4) 4))
    d.wr TMEM_TPAR_PAR (Nat.xor (d.tmem.goodPar o) (d.tmem.badBits (o / 8)))
  else d.wr TMEM_TEST_ERR 1

/-- INJECT: the stored parity bits TMEM_TPAR names inverted at any word outside the context-slot area (R731). -/
def Dev.testInject (d : Dev) : Dev :=
  let o := d.rd TMEM_TEST_OFFSET
  if !d.isSet TMEM_CTL_TEST_EN ∨ o % 8 ≠ 0 ∨ (0x0F400000 ≤ o ∧ o < 0x0F580000) then d.wr TMEM_TEST_ERR 1
  else d.setTmem (d.tmem.setBad (o / 8) (Nat.xor (d.tmem.badBits (o / 8)) (d.rd TMEM_TPAR_PAR)))

/-- ACT: the operation TMEM_TPAR.OP names. -/
def Dev.testAct (d : Dev) : Dev :=
  match d.rd TMEM_TPAR_OP with
  | 0 => d.testWrite
  | 1 => d.testRead
  | 2 => d.testInject
  | _ => d

/-! ### Range scrubber (R732, R733, R174) -/

/-- A scrub that starts if none runs, and else waits its turn (an opcode's). -/
def Dev.queueScrub (d : Dev) (x : Scrub) : Dev :=
  match d.tmem.scrub with
  | none => (d.setTmem { d.tmem with scrub := some x }).wr TMEM_SCRUB_CTL_BUSY 1
  | some _ => d.setTmem { d.tmem with scrubs := d.tmem.scrubs ++ [x] }

/-- START (R733): refused with START_ERR while BUSY or with a range that breaks the limits. -/
def Dev.scrubStart (d : Dev) : Dev :=
  let a := d.rd TMEM_SCRUB_FIRST_VALUE
  let n := d.rd TMEM_SCRUB_BYTES_VALUE
  if d.tmem.scrub.isSome ∨ a % 8 ≠ 0 ∨ n % 8 ≠ 0 ∨ 0x10000000 < a + n then d.wr TMEM_SCRUB_CTL_START_ERR 1
  else d.queueScrub { first := a, bytes := n, cmd := none }

/-- Offsets of the bad words of a range, rising. -/
def Tmem.errors (m : Tmem) (a n : Nat) : List Nat :=
  (tkeys m.bad fun w _ => decide (a ≤ 8 * w) && decide (8 * w < a + n)).map (8 * ·)

/-- The 32-byte summary of TMEM_SCRUB (R174). -/
def scrubSummary (n : Nat) (es : List Nat) : Bytes :=
  let none_ := 2 ^ 64 - 1
  toLE 8 (n / 8) ++ toLE 8 es.length ++ toLE 8 (es.head?.getD none_) ++ toLE 8 (es.getLast?.getD none_)

/-! ### DRAM (R711–R723) -/

/-- Repair a DRAM row (R722, R723): soft post-package repair while its bank group has a resource, else its page goes to the spare
area. Rows are numbered channel × 2^32 + row; 64 rows share a bank group's resources. -/
def Dev.repairRow (d : Dev) (ch row : Nat) : Dev :=
  let key := ch * 2 ^ 32 + row
  let bg := ch * 2 ^ 32 + row / 64
  if d.dram.soft.contains key then d else
  let left := (tget d.dram.resources bg).getD 1
  if left ≠ 0 then
    let d := { d with dram := { d.dram with soft := key :: d.dram.soft, resources := tput d.dram.resources bg (left - 1), ces := tdel d.dram.ces key } }
    (d.bump DRC_PPR_REPAIRS).event 0x0603 0 0 ch [7, left - 1]
  else if d.dram.pageSpares ≠ 0 then
    let d := { d with dram := { d.dram with pageSpares := d.dram.pageSpares - 1, ces := tdel d.dram.ces key } }
    (d.bump DRC_PPR_MAPPED).event 0x0603 0 0 ch [7, d.dram.pageSpares]
  else d.event 0x0604 2 0 ch [7]

/-- The meaning of PATROL_SCRUB (R719, R711, R722): a word of a row is read; found 0 good, 1 corrected (returned, written back and
counted; enough within 24 h repair the row), more detected as uncorrectable, which DRAM_UNCORRECTABLE handles. -/
def execPatrolScrub (ch row found : Nat) (s : State) : Host.Outcome State Fault Refusal :=
  onDev (fun d =>
    let d := { d with dram := { d.dram with patrol := d.dram.patrol + 1 } }
    if found ≠ 1 ∨ 8 ≤ ch then d else
    let key := ch * 2 ^ 32 + row
    let recent := d.now :: (((tget d.dram.ces key).getD []).filter fun t => d.now < t + sNs 86400)
    let d := { d with dram := { d.dram with ces := tput d.dram.ces key recent } }.bump (DRC_CH_CE ch)
    if d.rd DRC_PPR_CE_LIMIT ≤ recent.length then d.repairRow ch row else d) s

/-- The meaning of DRAM_RETRAIN (R716, R717): each INTERVAL, offset by the channel's eighth of it, or when a DIMM sensor has moved
by more than TEMP_DELTA since the channel's last training. -/
def execDramRetrain (ch : Nat) (temp : Int) (s : State) : Host.Outcome State Fault Refusal :=
  onDev (fun d =>
    let ivl := msNs (d.rd DRC_TRAIN_INTERVAL)
    let last := (tget d.dram.trainedAt ch).getD (ch * ivl / 8)
    let moved := match tget d.dram.trainedTemp ch with
      | some t => decide ((d.rd DRC_TRAIN_TEMP_DELTA : Int) < (temp - t).natAbs)
      | none => false
    if 8 ≤ ch ∨ (d.now < last + ivl ∧ !moved) then d else
    { d with dram := { d.dram with trainedAt := tput d.dram.trainedAt ch d.now, trainedTemp := tput d.dram.trainedTemp ch temp } }.addWrap
      (DRC_CH_RETRAINS ch) 1) s

/-- The meaning of REFRESH (R712): a channel's refresh is issued, and its activation window starts again (R721). -/
def execRefresh (ch : Nat) (s : State) : Host.Outcome State Fault Refusal :=
  onDev (fun d => if 8 ≤ ch then d else
    { d with dram := { d.dram with refreshed := tput d.dram.refreshed ch d.now, held := d.dram.held.filter fun k => k / 2 ^ 32 ≠ ch } }) s

/-- The meaning of ROW_ACTIVATION_LIMIT (R721): the row's neighbours are refreshed; its requester is held for the rest of the window,
and a program's throttle is counted, with one manager event per program per second. -/
def execRowActivationLimit (ch bank row : Nat) (prog : Option Nat) (s : State) : Host.Outcome State Fault Refusal :=
  onDev (fun d =>
    if 8 ≤ ch then d else
    let d := { d with dram := { d.dram with held := (ch * 2 ^ 32 + bank * 2 ^ 20 + row % 2 ^ 20) :: d.dram.held } }.bump DRC_RH_THROTTLES
    match prog with
    | some p => d.eventLim 0x0F00 0 0 p p (sNs 1) [2]
    | none => d) s

end Sys2Proof.Machine
end

