-- ==== Sys2Proof/Machine/LinkOps.lean ====
section
/-! DEFINITION. Sending on the Jarel link: sequence numbers, counters, key replacement, retransmission (R626–R628). -/

namespace Sys2Proof.Machine

/-- TYPE of a frame (Table 16-2). -/
def LinkBody.kind (b : LinkBody) : Nat :=
  match b with
  | .heartbeat _ _ _ => 0x01
  | .data _ _ _ => 0x02
  | .jrn _ => 0x03
  | .maplog _ _ _ => 0x04
  | .release _ => 0x05
  | .accept _ => 0x06
  | .control _ => 0x07
  | .rekey _ => 0x08
  | .hello _ => 0x10
  | .cert _ _ => 0x11
  | .attest _ _ => 0x12
  | .kem _ => 0x13
  | .fetch _ => 0x14

/-- Whether the body is sealed (R626, R631). -/
def LinkBody.sealed_ (b : LinkBody) : Bool := decide (b.kind < 0x10)

/-- Put one frame on the link under the next SEQ; a sealed one takes the next counter value. -/
def Dev.linkPut (d : Dev) (b : LinkBody) : Dev :=
  let p := d.peer
  let c := if b.sealed_ then p.txKey.counter else 0
  let key : LinkKey := if b.sealed_ then { p.txKey with counter := c + 1, next := none } else p.txKey
  let tx : LinkTx := { seq := p.txSeq, counter := c, body := b, sentAt := d.now }
  { d with peer := { p with txSeq := (p.txSeq + 1) % 2 ^ 32, txKey := key, unacked := p.unacked ++ [tx] } }.emit (.link b.kind p.txSeq c)

/-- Replace the transmit key (R628): REKEY goes out under the old key, every later frame under the new one, whose first frame
carries NEWKEY (`next` holds the new key until that frame is sent). -/
def Dev.rekeyTx (d : Dev) : Dev :=
  let r := Config.kemEncaps d.peer.hisKem d.draws
  let d := d.drawn.linkPut (.rekey r.1)
  { d with peer := { d.peer with txKey := { secret := r.2, counter := 0, next := some r.2 } } }

/-- Send a frame: its SEQ, or none while the link is down. At counter 2^REKEY_EXP the key is replaced first. -/
def Dev.linkSend (d : Dev) (b : LinkBody) : Dev × Option Nat :=
  if d.solo || !d.isSet PEER_LINK_UP then (d, none) else
  let d := if b.sealed_ && decide (2 ^ d.rd PEER_CFG_REKEY_EXP ≤ d.peer.txKey.counter + 1) then d.rekeyTx else d
  (d.linkPut b, some d.peer.txSeq)

/-- Send a frame, its SEQ not kept. -/
def Dev.linkTell (d : Dev) (b : LinkBody) : Dev := (d.linkSend b).1

/-- Mirror content: sent only while LINKED (R42, R650). -/
def Dev.mirrorSend (d : Dev) (b : LinkBody) : Dev × Option Nat := if d.linked then d.linkSend b else (d, none)

/-- The meaning of RETRANSMIT (R627): every frame not acknowledged within 8 µs is sent again, sealed under a fresh counter value. -/
def execRetransmit (s : State) : Host.Outcome State Fault Refusal :=
  onDev (fun d =>
    if !d.isSet PEER_LINK_UP then d else
    let again (d : Dev) (x : LinkTx) : Dev :=
      if d.now < x.sentAt + usNs 8 then { d with peer := { d.peer with unacked := d.peer.unacked ++ [x] } } else
      let c := if x.body.sealed_ then d.peer.txKey.counter else 0
      let key : LinkKey := if x.body.sealed_ then { d.peer.txKey with counter := c + 1 } else d.peer.txKey
      { d with peer := { d.peer with txKey := key, unacked := d.peer.unacked ++ [{ x with counter := c, sentAt := d.now }] } }.emit
        (.link x.body.kind x.seq c)
    d.peer.unacked.foldl again { d with peer := { d.peer with unacked := [] } }) s

end Sys2Proof.Machine
end

