-- ==== Sys2Proof/Machine/Groups.lean ====
section
/-! DEFINITION. Redundancy groups, blocks, segments, space and spare dies (chapters 07 and 08). -/

namespace Sys2Proof

/-- A locator as 64 bits (Table 7-4). -/
def Loc.word (l : Loc) : Nat := l.offset % 2 ^ 20 + l.index % 2 ^ 28 * 2 ^ 20 + l.group % 256 * 2 ^ 48 + l.gen % 256 * 2 ^ 56

/-- An unmapped entry. -/
def Entry.none_ : Entry := { kind := 0, content := 0, epoch := 0 }

end Sys2Proof

namespace Sys2Proof.Machine

/-! ### Segments, slots and rows of a group -/

/-- Bytes of one stripe unit and one log stripe of payload. -/
def unitBytes : Nat := 65536
def stripeBytes : Nat := 1048576

/-- Pages of a block in a mode: a block run in one-bit mode holds one quarter. -/
def pagesIn (p : Profile) (slc : Bool) : Nat := if slc then p.pages / 4 else p.pages

/-- Rows of a segment: a unit takes 16/c pages of each member. -/
def rowsIn (p : Profile) (slc : Bool) : Nat := pagesIn p slc * p.cwPerPage / 16

/-- Payload of a segment that whole log stripes use (R305). -/
def segPayload (p : Profile) (slc : Bool) (n : Nat) : Nat := rowsIn p slc * n / 16 * stripeBytes

/-- Segment s of group g. -/
def Dev.seg (d : Dev) (g s : Nat) : Option Seg := (d.group g).bind fun x => tget x.segs s

/-- Segment s of group g changed by f. -/
def Dev.modSeg (d : Dev) (g s : Nat) (f : Seg → Seg) : Dev := d.modGroup g fun x => { x with segs := tmod x.segs s f }

/-- Log stripe slot i of group g. -/
def Dev.slot (d : Dev) (g i : Nat) : Option Slot := (d.group g).bind fun x => tget x.slots i

def Dev.modSlot (d : Dev) (g i : Nat) (f : Slot → Slot) : Dev := d.modGroup g fun x => { x with slots := tmod x.slots i f }

/-- Key of a row, of a group and a LOGSEQ. -/
def rowKey (g l : Nat) : Nat := g * 2 ^ 40 + l

def Dev.row (d : Dev) (g l : Nat) : Option Row := tget d.rows (rowKey g l)

def Dev.modRow (d : Dev) (g l : Nat) (f : Row → Row) : Dev := { d with rows := tmod d.rows (rowKey g l) f }

/-- Rows of group g that are not yet retired, by LOGSEQ. -/
def Dev.groupRows (d : Dev) (g : Nat) : List (Nat × Row) :=
  (d.rows.filter fun e => decide (e.1 / 2 ^ 40 = g)).map fun e => (e.1 % 2 ^ 40, e.2)

/-! ### Map pages (R319–R323) -/

/-- Pages of a table: 16 KiB each. Tables: 0 volume map, 1 content records, 2 media map, 3 time index, 4 dedup index. -/
def volPage (v g : Nat) : Nat × Nat := (0, v * 2 ^ 34 + g / 2048)
def crecPage (content : Nat) : Nat × Nat := (1, content / 1024)
def slotPage (g slot : Nat) : Nat × Nat := (2, g * 2 ^ 20 + slot / 1024)
def tidxPage (stream : Nat) : Nat × Nat := (3, stream)
def indexPage (bucket : Nat) : Nat × Nat := (4, bucket / 32)

/-- The checkpoint directory page that holds the locator of a map page's copy: 2,048 locators each. Its table is that of the map pages plus 8, and it is
checkpointed as they are. How map pages are spread over directory pages is the model's choice (DESIGN CHOICE, log 161). -/
def dirPage (p : Nat × Nat) : Nat × Nat := (p.1 + 8, p.2 / 2048)
def isDir (p : Nat × Nat) : Bool := decide (8 ≤ p.1)

/-- Where the checkpoint copy of a page lies. -/
def Dev.pageLoc (d : Dev) (p : Nat × Nat) : Option Loc := (d.sysFrags.find? fun f => decide (f.cargo = .page p.1 p.2)).map (·.loc)

/-- The root table (R321): the locator of every checkpoint directory page, 8 bytes each and at most 256 KiB in all. -/
def Dev.rootTable (d : Dev) : List (Nat × Nat × Loc) :=
  (d.sysFrags.filterMap fun f => match f.cargo with | .page t p => if isDir (t, p) then some (t, p, f.loc) else none | _ => none).take 32768

/-- Whether a map page is in DRAM (R323). -/
def Dev.pageHeld (d : Dev) (p : Nat × Nat) : Bool := d.ckpt.held.contains p

/-- A page has changed since the last checkpoint cycle (R319). An absent page that has a checkpoint copy stays absent: its records wait in the tail (R323). -/
def Dev.soil (d : Dev) (p : Nat × Nat) : Dev :=
  let c := d.ckpt
  { d with ckpt := { c with dirty := if c.dirty.contains p then c.dirty else p :: c.dirty
                            held := if c.held.contains p || (d.pageLoc p).isSome then c.held else p :: c.held } }

/-! ### Blocks (R300–R304, R341, R345) -/

/-- The blocks that a group's standby segments keep FREE (R635). -/
def Dev.standbyBlocks (d : Dev) : List (Nat × Nat) :=
  d.groups.flatMap fun e => e.2.segs.flatMap fun s => if s.2.state = .free then s.2.blocks.filterMap id else []

/-- Whether block b of a die is of the primer pool: those up to the primer's share, but for the blocks that have changed pools. Which blocks the two
pools begin with is the model's choice (DESIGN CHOICE, log 159). -/
def Dev.inPrimer (d : Dev) (x : Die) (p : Profile) (b : Nat) : Bool := decide (b < d.primerBlocks p) != x.moved.contains b

/-- A block changes between the primer and the QLC pool (R342). -/
def Die.changePool (x : Die) (b : Nat) : Die := { x with moved := if x.moved.contains b then x.moved.filter (· ≠ b) else b :: x.moved }

/-- FREE blocks of a die's pool of a mode, those of standby segments apart. -/
def Dev.freeIn (d : Dev) (die : Nat) (slc : Bool) : List Nat :=
  match tget d.dies die, d.dieProfile die with
  | some x, some p => (upTo p.blocks).filter fun b =>
      decide ((x.blk b).state = .free) && (d.inPrimer x p b == slc) && !d.standbyBlocks.contains (die, b)
  | _, _ => []

/-- RETIRED blocks of a die. -/
def Die.gone (x : Die) : Nat := countP x.blocks fun e => decide (e.2.state = .retired)

/-- The FREE block of a mode's pool that a new segment takes, lowest erase counter first, then lowest number (R341); or the
highest counter first (R342). The blocks kept as spares stay outside (R345). -/
def Dev.freeBlock (d : Dev) (die : Nat) (slc high : Bool) : Option Nat :=
  match tget d.dies die, d.dieProfile die with
  | some x, some p =>
    let room := if slc then decide (x.inMode true < d.primerBlocks p)
      else decide (x.inMode false + x.gone + x.spares + d.primerBlocks p < p.blocks)
    let free := d.freeIn die slc
    if room && !x.retired then
      if high then argMax (fun b => (x.blk b).erases) free else argMin (fun b => (x.blk b).erases) free
    else none
  | _, _ => none

/-- Block b of a die changed by f. -/
def Dev.modBlk (d : Dev) (die b : Nat) (f : Blk → Blk) : Dev := d.modDie die fun x => x.modBlk b f

/-- Dies of the spare-die pool (R346): home dies in use, in no group, not retired. -/
def Dev.pool? (d : Dev) : List Nat :=
  tkeys d.dies fun n x => x.used && !x.retired && x.group.isNone && homePort d.side (diePort n)

/-- MAP_SPARE_DIES.LEFT brought up to date. -/
def Dev.spareRegs (d : Dev) : Dev := d.wr MAP_SPARE_DIES_LEFT d.pool?.length

/-- The block groups of a die with numbers still free (R304). -/
def Die.freeGroup (x : Die) : Option Nat := (upTo 256).find? fun i => !thas x.groups i

/-- Merge the two block groups whose first-seal times are closest (R303): the older stays. -/
def Die.mergeGroups (x : Die) : Die × Option Nat :=
  let l := x.groups
  let pairs := l.flatMap fun a => (l.filter fun b => decide (a.1 ≠ b.1) && decide (a.2.first ≤ b.2.first)).map fun b => (a, b)
  match argMin (fun q => q.2.2.first - q.1.2.first) pairs with
  | none => (x, none)
  | some (a, b) =>
    let keep := { a.2 with count := a.2.count + b.2.count, age := Nat.max a.2.age b.2.age }
    ({ x with
        groups := tdel (tput l a.1 keep) b.1
        blocks := tmap x.blocks fun _ k => if k.bgroup = b.1 ∧ k.state = .sealed then { k with bgroup := a.1 } else k }, some b.1)

/-- Whether a die's current block group takes no more blocks (R302). -/
def Die.groupFull (x : Die) (now blocks : Nat) : Bool :=
  match tget x.groups x.current with
  | none => true
  | some g => decide (g.first + sNs 43200 < now) || decide (blocks ≤ 64 * g.count)

/-- Reset the offset entries of a block group number (R304). -/
def Dev.resetOffsets (d : Dev) (die bg : Nat) : Dev :=
  { d with
    offsets := d.offsets.filter fun e => e.1 / 16 ≠ die * 256 + bg
    learnedAt := d.learnedAt.filter fun e => e.1 / 16 ≠ die * 256 + bg }

/-- Seal a block (R302, R303): it joins the die's current block group, a new one being opened when that is full. -/
def Dev.sealBlock (d : Dev) (die b : Nat) : Dev :=
  match tget d.dies die, d.dieProfile die with
  | some x, some p =>
    if (x.blk b).state ≠ .open_ then d else
    let r : Die × Option Nat := if x.groupFull d.now p.blocks then (if x.freeGroup.isNone then x.mergeGroups else (x, none)) else (x, none)
    let d := match r.2 with | some n => d.resetOffsets die n | none => d
    let x := r.1
    let fresh := x.groupFull d.now p.blocks
    let num := if fresh then x.freeGroup.getD x.current else x.current
    let d := if fresh then d.resetOffsets die num else d
    let g := if fresh then { first := d.now, age := 0, count := 0, provisional := 0 }
      else (tget x.groups num).getD { first := d.now, age := 0, count := 0, provisional := 0 }
    let x := { x with current := num, groups := tput x.groups num { g with count := g.count + 1 } }
    { d with dies := tput d.dies die (x.modBlk b fun k => { k with state := .sealed, bgroup := num }) }.checkDie die
  | _, _ => d

/-- A block leaves SEALED: its group's count falls, and an empty group is freed (R304). -/
def Dev.unsealBlock (d : Dev) (die b : Nat) : Dev :=
  match tget d.dies die with
  | none => d
  | some x =>
    let k := x.blk b
    if k.state ≠ .sealed then d else
    match tget x.groups k.bgroup with
    | none => d
    | some g =>
      if g.count ≤ 1 then { d with dies := tput d.dies die { x with groups := tdel x.groups k.bgroup } }
      else { d with dies := tput d.dies die { x with groups := tput x.groups k.bgroup { g with count := g.count - 1 } } }

/-- A block that is not RETIRED changes its state (Table 7-1): one that was SEALED leaves its block group, and ledger 3 is compared (R243). -/
def Dev.setBlock (d : Dev) (die b : Nat) (s : BlkState) : Dev :=
  match d.blk die b with
  | some k => if k.state = .retired then d else ((d.unsealBlock die b).modBlk die b fun k => { k with state := s }).checkDie die
  | none => d

/-- A FREE block of a die becomes OPEN in a mode. -/
def Dev.openBlock (d : Dev) (die b : Nat) (slc : Bool) : Dev :=
  (d.modBlk die b fun k => { k with state := .open_, slc := slc, tempSum := 0, tempCount := 0 }).checkDie die

/-! ### Segments (R299, R325, R326, R341, R393) -/

/-- The lowest segment number not in use in a group. -/
def Group.freshSeg (x : Group) : Nat := ((upTo (x.segs.length + 1)).find? fun i => !thas x.segs i).getD x.segs.length

/-- The slots of a group that give a block to a new segment: those whose member has not failed, or is being rebuilt (R390, R393). -/
def Group.giving (x : Group) : List Nat := (upTo x.m).filter fun m => match x.member m with | some k => !k.failed || k.target | none => false

/-- The die a slot writes to now: the spare being written for a slot under rebuild (R390). -/
def Group.slotDie (x : Group) (m : Nat) : Option Nat :=
  match x.rebuild, x.member m with
  | some (spare, slot, _, _), some k => if slot = m ∧ k.target then some spare else some k.die
  | none, some k => some k.die
  | _, none => none

/-- Form a segment of a mode for a place: its number, or none when some member has no block to give. Its blocks are OPEN, or stay
FREE for a standby segment (`reserve`). -/
def Dev.formSegment (d : Dev) (g : Nat) (slc : Bool) (place : Nat) (high reserve : Bool) : Option (Dev × Nat) :=
  match d.group g with
  | none => none
  | some x =>
    let picks := (upTo x.m).map fun m => if x.giving.contains m then (x.slotDie m).bind fun die => (d.freeBlock die slc high).map fun b => (die, b) else none
    if x.giving.any fun m => (picks.getD m none).isNone then none else
    let s := x.freshSeg
    let seg : Seg := { blocks := picks, slc := slc, place := place, state := if reserve then .free else .open_, sealedAt := 0
                       claim := none, strip := false, stale := false, pos := 0, rows := 0, evacuated := false, erasable := false
                       erasing := [], issued := false, moves := [] }
    let d := if reserve then d else
      (picks.filterMap id).foldl (fun d b => d.openBlock b.1 b.2 slc) d
    some (d.modGroup g fun x => { x with segs := tput x.segs s seg }, s)

/-- The open segment of a group for a place, if one is open there. -/
def Group.openSeg (x : Group) (place : Nat) : Option Nat :=
  (tkeys x.segs fun _ s => decide (s.place = place) && decide (s.state = .open_)).head?

/-- Log stripes that satisfy p go from open to sealed: their pages of the media map change (R319). -/
def Dev.sealSlots (d : Dev) (g : Nat) (p : Nat → Slot → Bool) : Dev :=
  match d.group g with
  | none => d
  | some x =>
    let now := tkeys x.slots fun i k => decide (k.state = 1) && p i k
    now.foldl (fun d i => (d.modSlot g i fun k => { k with state := 2 }).soil (slotPage g i)) d

/-- Seal a segment (Table 7-1): its blocks are SEALED. -/
def Dev.sealSegment (d : Dev) (g s : Nat) : Dev :=
  match d.seg g s with
  | none => d
  | some x =>
    if x.state ≠ .open_ then d else
    let d := (x.blocks.filterMap id).foldl (fun d b => d.sealBlock b.1 b.2) d
    let d := d.modSeg g s fun x => { x with state := .sealed, sealedAt := d.now }
    d.sealSlots g fun _ l => decide (l.segment = s)

/-- Claim a segment for a pass (R335): a claim that another pass holds stays, whatever its order, and the segment's erase serves this pass too. -/
def Dev.claim (d : Dev) (g s : Nat) (p : Pass) : Dev :=
  d.modSeg g s fun x => if x.claim.isNone then { x with claim := some p } else x

/-- Segments of a group that hold a block of a die. -/
def Dev.segsOn (d : Dev) (die b : Nat) : List (Nat × Nat) :=
  d.groups.flatMap fun e => (tkeys e.2.segs fun _ s => s.blocks.contains (some (die, b))).map fun s => (e.1, s)

/-! ### Primer and dump reserve (R325, R326, R635) -/

/-- Primer segments of a group, dump reserve excluded, that are not FREE, and those that its dies can form. -/
def Dev.primerUse (d : Dev) (g : Nat) : Nat × Nat :=
  match d.group g, d.groupProfile g with
  | some x, some p => (countP x.segs fun e => e.2.slc && decide (e.2.place ≠ 3) && decide (e.2.state ≠ .free),
      d.primerBlocks p - countP x.segs fun e => decide (e.2.place = 3))
  | _, _ => (0, 0)

/-- The groups of a part's own side that exist. -/
def Dev.ownGroups (d : Dev) : List Nat := tkeys d.groups fun g _ => d.side = 3 || decide (d.side = 1) == decide (g < 128)

/-- PRIMER_FILL in percent, as MAP_PRIMER_STAT shows it: of the primer segments of the part's groups those that are not FREE. -/
def Dev.primerFillAll (d : Dev) : Nat :=
  let l := d.groups.map fun e => d.primerUse e.1
  let all := sumN (l.map (·.2))
  if l.isEmpty then 0 else if all = 0 then 100 else satAt 100 (sumN (l.map (·.1)) * 100 / all)

/-- Payload bytes of dump reserve a group must keep: its share of 192 MiB by dies (R326). -/
def Dev.dumpShare (d : Dev) (g : Nat) : Nat :=
  let all := sumN (d.groups.map fun e => e.2.members.length)
  match d.group g with
  | some x => ceilDiv (201326592 * x.members.length) (Nat.max 1 all)
  | none => 0

/-- Dump reserve a group holds now. -/
def Dev.dumpHeld (d : Dev) (g : Nat) : Nat :=
  match d.group g, d.groupProfile g with
  | some x, some p => countP x.segs (fun e => decide (e.2.place = 3) && decide (e.2.state = .open_) && decide (e.2.pos = 0)) * segPayload p true x.n
  | _, _ => 0

/-- The standby segment of a group: a reserved segment whose blocks stay FREE (R635). -/
def Group.standby (x : Group) : Option Nat := (tkeys x.segs fun _ s => decide (s.state = .free)).head?

/-- The settings of a volume as item 5 of VOL_QUERY gives them (Table 3-9). -/
def Vol.settings (x : Vol) : Nat := x.vflags + b2n x.grain16 * 2 ^ 16 + x.group * 2 ^ 32 + x.keydom * 2 ^ 48

/-- Clones of a list of volumes in an order in which every origin comes before its clones. -/
def cloneOrder : Nat → Tbl Vol → List Nat → List (Nat × Vol)
  | 0, _, _ => []
  | fuel + 1, l, made =>
    let now := l.filter fun e => match e.2.origin with | some (o, _) => made.contains o || !thas l o | none => true
    if now.isEmpty then [] else
    now ++ cloneOrder fuel (l.filter fun e => !(thas now e.1)) (made ++ now.map (·.1))

/-- Grain size in bytes, sectors of a grain, capacity in grains. -/
def Vol.grainBytes (v : Vol) : Nat := if v.grain16 then 16384 else 4096
def Vol.grainSectors (v : Vol) : Nat := if v.grain16 then 4 else 1
def Vol.grains (v : Vol) : Nat := v.capacity / v.grainSectors

/-- Whether a clone is still being filled. -/
def Vol.filling (x : Vol) : Bool := decide (x.fillTo < x.grains)

/-- The records that make a volume: it, its snapshots in the order of their epochs, its entries and the grains of it that have been filled ahead, the base of
its replication; a snapshot that is being deleted is hidden once more (R427). -/
def Vol.recs (v : Nat) (x : Vol) : List Rec :=
  let make : List Rec := match x.origin, x.filling with
    | some (o, s), true => [.clone v x.vgen o s, .volResize v x.capacity, .cloneFill v 0 x.fillTo]
    | _, _ => [.volCreate v x.vgen x.capacity x.settings x.tenant]
  let snaps := x.snaps.mergeSort fun a b => a.2.epoch ≤ b.2.epoch
  let ahead := if x.origin.isSome ∧ x.filling then x.filledAhead.filter fun g => !thas x.map g else []
  make ++ (snaps.flatMap fun e => Rec.snap v e.1 e.2.sgen e.2.epoch e.2.hidden :: e.2.delta.map fun k => Rec.deltaPut v e.1 k.1 k.2)
    ++ (x.map.map fun k => Rec.vmap v k.1 k.2) ++ (ahead.map fun g => Rec.vmap v g Entry.none_)
    ++ ((snaps.filter fun e => e.2.deleting).map fun e => Rec.snap v e.1 e.2.sgen e.2.epoch true)
    ++ (match x.replBase with | some (s, c) => [.replBase 0 v s c] | none => [])

/-- The MMAP_SET record of a media-map entry (R316, Table 7-5). -/
def Slot.record (k : Slot) (i : Nat) : Rec := .mmapSet i k.segment k.unit k.slc k.state k.ovl k.live k.gen

/-- The number of a state in ARR_GRP_STAT. -/
def GrpState.num (s : GrpState) : Nat :=
  match s with | .normal => 1 | .degraded => 2 | .rebuilding => 3 | .verifying => 4 | .readOnly => 5 | .offline => 6

/-- The state of a number in ARR_GRP_STAT. -/
def GrpState.ofNum (n : Nat) : GrpState :=
  match n with | 2 => .degraded | 3 => .rebuilding | 4 => .verifying | 5 => .readOnly | 6 => .offline | _ => .normal

/-- The state a group's member faults give. -/
def Group.faultState (x : Group) : GrpState :=
  if geoK x.geometry < x.faults then .offline
  else if x.rebuild.isSome then .rebuilding
  else if x.faults = 0 then .normal else .degraded

/-- Whether a batch that has not been applied forms a segment with a block of a die. -/
def formsWith (batches : List Batch) (g die b : Nat) : Bool :=
  batches.any fun k => decide (k.group = g) && k.recs.any fun r => match r with | .segForm _ bs _ _ => bs.contains (some (die, b)) | _ => false

/-- What the checkpoint pages of a group hold, up to the first record that has not been applied. -/
def Dev.pagesOf (d : Dev) (g : Nat) (x : Group) : Pages :=
  let first := (d.batches.filterMap fun b => if b.group = g then some b.first else none).foldl Nat.min x.nextMlseq
  let segs := x.segs.flatMap fun (e : Nat × Seg) =>
    if e.2.state = .free then [] else
    Rec.segForm e.1 e.2.blocks e.2.slc e.2.place :: if e.2.state = .erasing then [.segErase e.1] else []
  let slots := x.slots.map fun (e : Nat × Slot) => e.2.record e.1
  let overlay := d.overlay.filterMap fun e =>
    if e.1 / 2 ^ 36 = g then some (Rec.ovlSet (e.1 / 256 % 2 ^ 28) (e.1 % 256) e.2.1 e.2.2.1 e.2.2.2) else none
  let contents := d.crecs.flatMap fun e => match e.2.loc with
    | some l =>
      if e.1 / 2 ^ 32 ≠ g ∨ e.2.refs = 0 then [] else
      [Rec.crecNew e.1 l e.2.size e.2.sectors e.2.raw
        { refs := e.2.refs, pinned := e.2.pinned, stripPending := e.2.stripPending, indexed := e.2.indexed, bucket := e.2.bucket }]
    | none => []
  let plain := d.vols.filter fun e => decide (e.2.group = g)
  let roots := plain.filter fun e => e.2.origin.isNone
  let vols := roots ++ cloneOrder plain.length (plain.filter fun e => e.2.origin.isSome) (roots.map (·.1))
  let origins := vols.filterMap fun e => if e.2.filling then e.2.origin.map (·.1) else none
  let dying := (vols.filter fun e => e.2.dying && origins.contains e.1).map fun e => Rec.volDelete e.1
  let times := d.streams.flatMap fun e => e.2.index.filterMap fun t =>
    if thas vols t.volume then some (Rec.tidx e.1 t) else none
  let retired := x.members.flatMap fun (k : Member) => match tget d.dies k.die with
    | some y => (tkeys y.blocks fun _ b => decide (b.state = .retired)).map fun b => Rec.segRetire k.die b
    | none => []
  let dies := x.members.filterMap fun (k : Member) => (tget d.dies k.die).map fun y => (k.die, y)
  let inSeg (b : Nat × Nat) : Bool := x.segs.any fun e => e.2.blocks.contains (some b)
  let spent := (x.members.flatMap fun (k : Member) => k.jblocks.map fun b => (k.die, b.1)) ++ dies.flatMap fun e =>
    (tkeys e.2.blocks fun b k => decide (k.state = .erasing) && !inSeg (e.1, b)).map fun b => (e.1, b)
  let copies := d.sysFrags.filterMap fun f => match f.cargo with
    | .page t p => if t % 8 < 3 ∧ f.loc.group = g then some (Rec.ckptPage t p f.loc) else none
    | _ => none
  { geometry := x.geometry, cover := x.cover, members := x.members.map fun (k : Member) => (k.die, k.failed), first := first
    logseq := x.nextLogseq, recs := copies ++ segs ++ slots ++ overlay ++ contents ++ vols.flatMap (fun e => e.2.recs e.1) ++ dying ++ times ++ retired
    gens := x.slotGens, state := x.state.num
    rebuild := x.rebuild.map fun r => (r.1, r.2.1, (x.member r.2.1).any (·.copy)), orphan := x.rebuild.bind fun r => x.rebuildBlock.map fun b => (r.1, b)
    freed := x.freed, dead := x.deadSerials, nextSerial := x.nextSerial, vgens := d.vgens
    sgens := plain.flatMap fun (e : Nat × Vol) => e.2.sgens.map fun s => (e.1, s.1, s.2)
    reserved := plain.flatMap fun (e : Nat × Vol) => e.2.snaps.map fun s => (e.1, s.1, s.2.reserved)
    ovls := dies.flatMap fun e => e.2.ovl.map fun b => (e.1, b.1, b.2), spent := spent }

/-- Name a standby segment for a group that has none, and send the name to the partner (R635). -/
def Dev.nameStandby (d : Dev) (g : Nat) : Dev :=
  match d.group g with
  | none => d
  | some x => match x.standby with
    | some _ => d
    | none => match d.formSegment g true 0 false true with
      | none => d
      | some (d, s) => d.linkTell (.control (.root g s [] (d.pagesOf g x)))

/-- The partner learns what it has to know of a group to take it over (R394, R402): with the group's root table, as at a resynchronisation. -/
def Dev.tellGroup (d : Dev) (g : Nat) : Dev :=
  match d.group g with
  | some x => if !d.linked then d else
      d.linkTell (.control (.root g (x.standby.getD 0) (d.rootTable.flatMap fun e => toLE 8 e.2.2.word) (d.pagesOf g x)))
  | none => d

/-! ### Space (R356–R359) -/

/-- Bytes of live fragments in a group. -/
def Group.used (x : Group) : Nat := sumN (x.slots.map fun e => e.2.live)

/-- USABLE of a group with an OP and a SHARE: data payload of its QLC-mode capacity, spare and primer blocks excluded, less OP
percent. Spare blocks count as built, so that retirements do not lower it (R359). -/
def Dev.usableWith (d : Dev) (g op share : Nat) : Nat :=
  match d.group g, d.groupProfile g with
  | some x, some p =>
    let spares := Nat.max p.spares (p.blocks / 40)
    let blocks := p.blocks - spares - share * p.blocks / 128
    blocks * rowsIn p false * x.n * unitBytes * (100 - op) / 100
  | _, _ => 0

def Dev.usable (d : Dev) (g : Nat) : Nat := d.usableWith g (d.rd MAP_SPACE_CFG_OP) (d.rd MAP_PRIMER_CFG_SHARE)

/-- The reserve floor of a group in bytes: RESERVE is in 0.1% of USABLE. -/
def Dev.reserveFloor (d : Dev) (g : Nat) : Nat := d.usable g * d.rd MAP_SPACE_CFG_RESERVE / 1000

/-- Tenants that hold a volume in a group. -/
def Dev.groupTenants (d : Dev) (g : Nat) : List Nat :=
  ((d.vols.filter fun e => decide (e.2.group = g)).map fun e => e.2.tenant).eraseDups

/-- The AMBER events of a group (R357). -/
def Dev.spaceCheck (d : Dev) (g : Nat) : Dev :=
  match d.group g with
  | none => d
  | some x =>
    let pct := d.rd MAP_SPACE_CFG_AMBER
    let u := d.usable g
    if x.amber then
      if x.used * 100 < (pct - 2) * u then d.modGroup g fun x => { x with amber := false } else d
    else if pct * u ≤ x.used * 100 ∧ u ≠ 0 then
      let d := (d.modGroup g fun x => { x with amber := true }).event 0x0409 0 0 g [0]
      (d.groupTenants g).foldl (fun d t => d.tenantEvent t 4 g) d
    else d

/-- Whether scrape is due in a group (R330). -/
def Dev.scrapeState (d : Dev) (g : Nat) : Dev :=
  let q := d.qlcSegments g
  let on (old : Bool) : Bool :=
    if q.1 * 1000 < d.rd MAP_SCRAPE_CFG_START * q.2 then true
    else if d.rd MAP_SCRAPE_CFG_STOP * q.2 ≤ q.1 * 1000 then false else old
  d.modGroup g fun x => { x with scrapeOn := on x.scrapeOn }

end Sys2Proof.Machine
end

