-- ==== Sys2Proof/Machine/MapOps.lean ====
section
/-! DEFINITION. Maps and their records: volume maps, content records, the media map, the time index, the dedup index, snapshots and
clones as map-log records change them (chapters 07 and 09). -/

namespace Sys2Proof

open Sys2Proof.Machine

/-! ### Entries, locators and records -/

/-- The generation that an index of volumes, snapshot slots or programs starts with: no handle is zero, since VOLUME and REMOTE_VOLUME of
zero name no volume (DEDUCED). -/
def firstGen : Nat := 1

/-- The generation after one (R405, R541): 16 bits, never zero (DEDUCED). -/
def nextGen (g : Nat) : Nat := g % 65535 + 1

/-- What entry e is when seen at epoch s (R425). -/
def Entry.at_ (e : Entry) (s : Nat) : Entry := if s < e.epoch then Entry.none_ else e

/-- An entry less the sectors [a, a + n) of volume v: none, one or two pieces. -/
def TIdx.trim (e : TIdx) (v a n : Nat) : List TIdx :=
  if e.volume ≠ v ∨ e.lba + e.sectors ≤ a ∨ a + n ≤ e.lba then [e] else
  ([{ e with sectors := a - e.lba }] ++ [{ e with lba := a + n, sectors := e.lba + e.sectors - (a + n) }]).filter fun e => e.sectors ≠ 0

/-- Whether entry e goes on where entry o of the same stream write ends (R203): a write applied in pieces has one entry. -/
def TIdx.joins (o e : TIdx) : Bool :=
  decide (o.write = e.write) && decide (o.volume = e.volume) && decide (o.stamp = e.stamp) && decide (o.lba + o.sectors = e.lba)

/-- A volume-map entry as 64 bits (Table 7-6). -/
def Entry.word (e : Entry) : Nat := e.content % 2 ^ 40 + e.kind % 4 * 2 ^ 40 + e.epoch % 65536 * 2 ^ 48

/-- TYPE and body words of a record (Tables 7-8, 9-2, 9-5). Of CREC_NEW the size, the sectors and RAW stand in the fragment's header. Table 7-8 has no record
of a trim of the time index: it goes as a TIDX record of stream 0xFFFF (DESIGN CHOICE, log 172). h gives the handles of volumes and snapshots
(Table 9-1). The new numbering of COMPACT is the epoch E that it ends with (DESIGN CHOICE, log 182). -/
def Rec.words (h : Nat → Option Nat → Nat) (r : Rec) : Nat × List Nat :=
  match r with
  | .vmap v g e => (0x01, [h v none, g, e.word])
  | .crecNew c loc _ _ _ a => (0x02, [c, loc.word, a.refs % 2 ^ 24 + (b2n a.pinned + 2 * b2n a.stripPending + 4 * b2n a.indexed) * 2 ^ 24 + a.bucket % 2 ^ 32 * 2 ^ 32])
  | .crecRef c n => (0x03, [c, unsigned 64 n])
  | .crecMove c a b => (0x04, [c, a.word, b.word])
  | .mmapSet s seg u slc st ovl live gen => (0x05, [s, seg % 2 ^ 32 + u % 65536 * 2 ^ 32 + (st % 4 + 4 * b2n slc + 8 * (ovl % 64)) * 2 ^ 48, live % 2 ^ 32 + gen % 65536 * 2 ^ 32])
  | .mmapFree s => (0x06, [s])
  | .ovlSet s p die b pg => (0x07, [s, p, die, b, pg])
  | .ovlClear s p => (0x08, [s, p])
  | .segErase s => (0x09, [s])
  | .segForm s bs slc place => (0x0A, [s, b2n slc + b2n (decide (place = 3)) * 2] ++ bs.map fun b => match b with
      | some (die, k) => die * 2 ^ 32 + k
      | none => 2 ^ 64 - 1)
  | .segRetire die b => (0x0B, [die, b])
  | .tidx s e => (0x0C, [s, h e.volume none, e.lba, e.sectors, stampBits e.stamp % 2 ^ 64, stampBits e.stamp / 2 ^ 64 + e.quality * 2 ^ 32, e.write])
  | .tidxTrim v a n => (0x0C, [0xFFFF, h v none, a, n])
  | .ckptPage t p l => (0x0D, [t, p, l.word])
  | .ckptRoot m => (0x0E, [m])
  | .volCreate v gen cap set _ => (0x0F, [0x01, v % 32768 + gen * 2 ^ 32, cap, set])
  | .volDelete v => (0x0F, [0x02, h v none])
  | .volResize v c => (0x0F, [0x03, h v none, c])
  | .snap v s k e hid => (0x0F, [0x04, h v (some s) % 2 ^ 48 + k % 65536 * 2 ^ 48, e, b2n hid])
  | .snapDelete v s => (0x0F, [0x05, h v (some s)])
  | .deltaPut v s g e => (0x0F, [0x06, h v (some s), g, e.word])
  | .deltaMove v a b g => (0x0F, [0x07, h v (some a), h v (some b), g])
  | .deltaDrop v s g => (0x0F, [0x08, h v (some s), g])
  | .clone v gen ov os => (0x0F, [0x09, v % 32768 + gen * 2 ^ 32, h ov (some os)])
  | .cloneFill v a n => (0x0F, [0x0A, h v none, a, n])
  | .compact v p m => (0x0F, [0x0B, h v none, p, m])
  | .replBase n v s c => (0x0F, [0x0C, n, h v (some s), c])
  | .batchEnd => (0x10, [])

/-- A record with its header (Table 7-7). -/
def Rec.bytes (h : Nat → Option Nat → Nat) (r : Rec) (mlseq : Nat) : Bytes :=
  toLE 1 (r.words h).1 ++ toLE 1 (r.words h).2.length ++ zeros 6 ++ toLE 8 mlseq ++ (r.words h).2.flatMap (toLE 8)

end Sys2Proof

namespace Sys2Proof.Machine

/-! ### DRAM-scaled limits (R714, R438) -/

/-- D, installed DRAM in GiB. -/
def Dev.dGiB (d : Dev) : Nat := d.rd DRC_SIZE_D_GIB
def Dev.mapCeil (d : Dev) : Nat := 2 ^ 25 * d.dGiB
def Dev.crecLimit (d : Dev) : Nat := 2 ^ 25 * d.dGiB * 17 / 16
def Dev.bucketCount (d : Dev) : Nat := 2 ^ 18 * d.dGiB
def Dev.indexLimit (d : Dev) : Nat := 2 ^ 20 * d.dGiB + (if d.solo then 2 ^ 24 else 0)

/-! ### Volumes and grains -/

/-- Volume v. -/
def Dev.vol (d : Dev) (v : Nat) : Option Vol := tget d.vols v

/-- The handle of volume number v. -/
def Vol.handle (x : Vol) (v : Nat) : Nat := v % 32768 + x.vgen % 65536 * 2 ^ 32

/-- The handle of a snapshot of volume number v. -/
def Vol.snapHandle (x : Vol) (v slot : Nat) : Nat :=
  x.handle v + 2 ^ 15 + slot * 2 ^ 16 + (match tget x.snaps slot with | some s => s.sgen | none => 0) * 2 ^ 48

/-- VFLAGS (chapter 03). -/
def Vol.dedup (v : Vol) : Bool := bit v.vflags 0
def Vol.verify (v : Vol) : Bool := bit v.vflags 1 && v.dedup
def Vol.compress (v : Vol) : Bool := bit v.vflags 2
def Vol.autoDelete (v : Vol) : Bool := bit v.vflags 3

/-- Entry of grain g in a volume's own map. -/
def Vol.entry (v : Vol) (g : Nat) : Entry := (tget v.map g).getD Entry.none_

/-- Whether grain g of a clone has been filled (R434). -/
def Vol.filled (v : Vol) (g : Nat) : Bool :=
  match v.origin with
  | none => true
  | some _ => decide (g < v.fillTo) || v.filledAhead.contains g

/-- The first of some candidates in a snapshot's chain: the delta of the lowest epoch from s that holds the grain (R425). -/
def Vol.deltaAt (v : Vol) (s g : Nat) : Option Entry :=
  let ts := v.snaps.filter fun e => decide (s ≤ e.2.epoch) && thas e.2.delta g
  (argMin (fun e => e.2.epoch) ts).bind fun e => tget e.2.delta g

/-- Entry of grain g of volume v, through origins (R434); `fuel` bounds the chain of origins. -/
def Dev.resolve : Nat → Dev → Nat → Option Nat → Nat → Entry
  | 0, _, _, _, _ => Entry.none_
  | fuel + 1, d, v, epoch, g =>
    match d.vol v with
    | none => Entry.none_
    | some x =>
      let delta := epoch.bind fun s => x.deltaAt s g
      match delta with
      | some e => match epoch with | some s => e.at_ s | none => e
      | none =>
        if x.filled g then
          match epoch with | some s => (x.entry g).at_ s | none => x.entry g
        else match x.origin with
          | none => Entry.none_
          | some (ov, os) =>
            let e := match d.vol ov with
              | some o => match tget o.snaps os with
                | some sn => Dev.resolve fuel d ov (some sn.epoch) g
                | none => Entry.none_
              | none => Entry.none_
            { e with epoch := 0 }

/-- The volumes in which grain g of a volume is looked for, now or at an epoch, each with the epoch it is seen at: the volume itself, and through origins
while the grain is unfilled (R434). -/
def Dev.lookLevels : Nat → Dev → Nat → Option Nat → Nat → List (Nat × Option Nat)
  | 0, _, _, _, _ => []
  | fuel + 1, d, v, epoch, g =>
    match d.vol v with
    | none => []
    | some x => (v, epoch) ::
      if x.filled g || (epoch.bind fun s => x.deltaAt s g).isSome then [] else
      match x.origin.bind fun o => ((d.vol o.1).bind fun y => tget y.snaps o.2).map fun k => (o.1, k.epoch) with
      | some (ov, e) => Dev.lookLevels fuel d ov (some e) g
      | none => []
def Dev.levelsOf (d : Dev) (v : Nat) (epoch : Option Nat) (g : Nat) : List (Nat × Option Nat) := Dev.lookLevels (d.vols.length + 1) d v epoch g

/-- Whether a clone that is still being filled reads a volume's snapshots, or one snapshot of it. -/
def Dev.originOf (d : Dev) (v : Nat) : Bool := d.vols.any fun e => e.2.filling && match e.2.origin with | some o => decide (o.1 = v) | none => false
def Dev.isOrigin (d : Dev) (v slot : Nat) : Bool := d.vols.any fun e => e.2.filling && decide (e.2.origin = some (v, slot))

/-- Entry of grain g of volume v now, or at an epoch. -/
def Dev.entryAt (d : Dev) (v : Nat) (epoch : Option Nat) (g : Nat) : Entry := Dev.resolve (d.vols.length + 1) d v epoch g

/-! ### Dedup index (R415–R422) -/

/-- A bucket's number: a hash of fingerprint, group and key domain, modulo the bucket count. -/
def Dev.bucketOf (d : Dev) (fp : Bytes) (group keydom : Nat) : Nat :=
  (fromLE fp + group * 2 ^ 13 + keydom * 2 ^ 21) % Nat.max 1 d.bucketCount

def Dev.bucket (d : Dev) (b : Nat) : List IdxEntry := (tget d.index b).getD []

def Dev.setBucket (d : Dev) (b : Nat) (l : List IdxEntry) : Dev :=
  { d with index := if l.isEmpty then tdel d.index b else tput d.index b l }.soil (indexPage b)

/-- Remove the index entry of a content, and its hot copy in the same step (R412, R422, R592). -/
def Dev.dropIndex (d : Dev) (content : Nat) : Dev :=
  match tget d.crecs content with
  | none => d
  | some c =>
    if !c.indexed then d else
    let l := d.bucket c.bucket
    let d := (l.filter fun e => decide (e.content = content)).foldl (fun d e => d.hotDrop e.fp e.tenant e.keydom (content / 2 ^ 32)) d
    let d := d.setBucket c.bucket (l.filter fun e => e.content ≠ content)
    { d with crecs := tmod d.crecs content fun c => { c with indexed := false } }

/-! ### Content (R408–R413) -/

/-- The group of a content ID. -/
def contentGroup (c : Nat) : Nat := c / 2 ^ 32

/-- Bytes of a fragment with its header and stamps, on 16-byte boundaries (Table 7-2). -/
def fragBytes (sectors body : Nat) : Nat := 16 + 16 * sectors + ceilDiv body 16 * 16

/-- The content record of a content that is placed for the first time (Table 9-2). -/
def Dev.crecAt (d : Dev) (content : Nat) : CrecAt :=
  match tget d.crecs content with
  | some c => { stripPending := c.stripPending, indexed := c.indexed, bucket := c.bucket }
  | none => {}

/-- Live bytes of a slot changed (R319, R356). -/
def Dev.addLive (d : Dev) (loc : Loc) (n : Int) : Dev :=
  (d.modSlot loc.group loc.index fun s => { s with live := (s.live + n).toNat }).soil (slotPage loc.group loc.index)

/-- Bytes of a system fragment with its header. -/
def SysFrag.bytes (f : SysFrag) : Nat := fragBytes 0 f.body

/-- The system fragments in the logs change: those that go and those that come count in LIVE of their slots (R356). -/
def Dev.setSysFrags (d : Dev) (l : List SysFrag) : Dev :=
  let gone := d.sysFrags.filter fun f => !l.contains f
  let come := l.filter fun f => !d.sysFrags.contains f
  let d := gone.foldl (fun d f => d.addLive f.loc (-(f.bytes : Int))) d
  come.foldl (fun d f => d.addLive f.loc f.bytes) { d with sysFrags := l }

/-- Unpinned content dies (R412): LIVE falls, the index entry goes, a STRIP-pending segment is claimed, and its serial waits for the
erase of the segment that held it (R413). -/
def Dev.contentDies (d : Dev) (content : Nat) : Dev :=
  match tget d.crecs content with
  | none => d
  | some c =>
    let d := d.dropIndex content
    let d := match c.loc with
      | none => d
      | some l =>
        let d := d.addLive l (-(c.size : Int))
        match d.slot l.group l.index with
        | none => d
        | some s =>
          let d := if c.stripPending then d.claim l.group s.segment .strip else d
          d.modGroup l.group fun x => { x with deadSerials := (s.segment, l.index, content % 2 ^ 32) :: x.deadSerials }
    { d with crecs := tdel d.crecs content }

/-- Content that nothing references or holds any more dies. -/
def Dev.contentCheck (d : Dev) (content : Nat) : Dev :=
  match tget d.crecs content with
  | some c => if c.refs = 0 ∧ c.holds = 0 ∧ !c.pinned then d.contentDies content else d
  | none => d

/-- A reference count changed by n (R410, R411): at 2^24 − 1 the content is pinned, and pinned content does not change. -/
def Dev.crecRef (d : Dev) (content : Nat) (n : Int) : Dev :=
  match tget d.crecs content with
  | none => d
  | some c =>
    if c.pinned then d else
    let r := (c.refs + n).toNat
    let c' := { c with refs := satAt 16777215 r, pinned := decide (16777215 ≤ r) }
    let d := { d with crecs := tput d.crecs content c' }.soil (crecPage content)
    (if c'.pinned then d.bump MAP_PINNED_PINNED else d).contentCheck content

/-- A hold on content ends (R419). -/
def Dev.unhold (d : Dev) (content : Nat) : Dev :=
  { d with crecs := tmod d.crecs content fun c => { c with holds := c.holds - 1 } }.contentCheck content

/-- A content ID with the oldest freed serial of a group, else the lowest never used (R408, R413): none when 2^32 − 1 are in use. -/
def Dev.takeSerial (d : Dev) (g : Nat) : Option (Dev × Nat) :=
  match d.group g with
  | none => none
  | some x => match x.freed with
    | s :: r => some (d.modGroup g fun x => { x with freed := r }, g * 2 ^ 32 + s)
    | [] => if 2 ^ 32 ≤ x.nextSerial then none
      else some (d.modGroup g fun x => { x with nextSerial := x.nextSerial + 1 }, g * 2 ^ 32 + x.nextSerial)

/-! ### Time index (R203–R205) -/

/-- Some entries less a range, with so many entries free in the index: an entry that the range cuts in two takes one more; with none free its part behind
the range is lost (DESIGN CHOICE, log 187). Entries free after it, and what is left. -/
def trimEntries (v a n : Nat) : Nat → List TIdx → Nat × List TIdx
  | free, [] => (free, [])
  | free, e :: r =>
    let p := (e.trim v a n).take (free + 1)
    let x := trimEntries v a n (free + 1 - p.length) r
    (x.1, p ++ x.2)

/-- Time-index entries in use on the part. -/
def Dev.indexUsed (d : Dev) : Nat := sumN (d.streams.map fun e => e.2.index.length)

/-- Every stream's index less a range (R204). -/
def Dev.trimIndex (d : Dev) (v a n : Nat) : Dev :=
  let one (x : Nat × Tbl Strm) (e : Nat × Strm) : Nat × Tbl Strm :=
    let t := trimEntries v a n x.1 e.2.index
    (t.1, x.2 ++ [(e.1, { e.2 with index := t.2 })])
  { d with streams := (d.streams.foldl one (d.indexLimit - d.indexUsed, [])).2 }

/-- A stream's index with one entry more. -/
def addIdx (l : List TIdx) (e : TIdx) : List TIdx :=
  if l.any (·.joins e) then l.map fun o => if o.joins e then { o with sectors := o.sectors + e.sectors } else o else l ++ [e]

/-! ### Records applied in map-log order -/

/-- Overlay key of a piece of a log stripe (R313). -/
def ovlKey (g slot piece : Nat) : Nat := (g * 2 ^ 28 + slot) * 256 + piece

/-- Overlay entries of a slot dropped. -/
def Dev.clearOverlay (d : Dev) (g slot : Nat) : Dev :=
  let d := { d with overlay := d.overlay.filter fun e => e.1 / 256 ≠ g * 2 ^ 28 + slot }
  (d.modSlot g slot fun s => { s with ovl := 0 }).wr MAP_OVL_STAT_USED d.overlay.length

/-- A snapshot changed by f. -/
def Dev.modSnap (d : Dev) (v slot : Nat) (f : Snap → Snap) : Dev := d.modVol v fun x => { x with snaps := tmod x.snaps slot f }

/-- Put a map entry; one that says nothing is not kept. -/
def putEntry (m : Tbl Entry) (g : Nat) (e : Entry) : Tbl Entry := if e = Entry.none_ then tdel m g else tput m g e

/-- Apply one record of group g's log. VOL_DELETE of a volume that a clone is still being filled from only marks it (R437). -/
def Dev.applyRec (d : Dev) (g : Nat) (r : Rec) : Dev :=
  match r with
  | .vmap v n e =>
    (d.modVol v fun x => { x with
      map := putEntry x.map n e
      filledAhead := if x.filled n then x.filledAhead else n :: x.filledAhead }).soil (volPage v n)
  | .crecNew c loc size sectors raw a =>
    let old := tget d.crecs c
    let rec_ : Crec := { loc := some loc, size := size, sectors := sectors, raw := raw, refs := a.refs, pinned := a.pinned
                         stripPending := a.stripPending || (old.map (·.stripPending)).getD false
                         indexed := (old.map (·.indexed)).getD a.indexed, bucket := (old.map (·.bucket)).getD a.bucket
                         holds := (old.map (·.holds)).getD 0 }
    ({ d with crecs := tput d.crecs c rec_ }.soil (crecPage c)).addLive loc size
  | .crecRef c n => d.crecRef c n
  | .crecMove c old new =>
    match tget d.crecs c with
    | some x =>
      if x.loc = some old then
        (({ d with crecs := tput d.crecs c { x with loc := some new } }.soil (crecPage c)).addLive old (-(x.size : Int))).addLive new x.size
      else d
    | none => d
  | .mmapSet s segment unit slc _ _ _ gen =>
    let old := (d.slot g s).map (·.segment)
    let moved (e : Nat × Nat × Nat) : Nat × Nat × Nat := if some e.1 = old ∧ e.2.1 = s then (segment, e.2) else e
    let d := (d.modSlot g s fun x => { x with segment := segment, unit := unit, slc := slc, gen := gen, state := if x.state = 1 then 1 else 2 }).soil (slotPage g s)
    (d.modGroup g fun x => { x with deadSerials := x.deadSerials.map moved }).clearOverlay g s
  | .mmapFree s => ((d.clearOverlay g s).modGroup g fun x => { x with slots := tdel x.slots s }).soil (slotPage g s)
  | .ovlSet s piece die block page =>
    let d := { d with overlay := tput d.overlay (ovlKey g s piece) (die, block, page) }
    let n := countP d.overlay fun e => decide (e.1 / 256 = g * 2 ^ 28 + s)
    let d := match d.slot g s with | some k => d.modSeg g k.segment fun y => { y with stale := true } | none => d
    ((d.modSlot g s fun x => { x with ovl := satAt 63 n }).soil (slotPage g s)).wr MAP_OVL_STAT_USED d.overlay.length
  | .ovlClear s piece =>
    let d := { d with overlay := tdel d.overlay (ovlKey g s piece) }
    let n := countP d.overlay fun e => decide (e.1 / 256 = g * 2 ^ 28 + s)
    ((d.modSlot g s fun x => { x with ovl := n }).soil (slotPage g s)).wr MAP_OVL_STAT_USED d.overlay.length
  | .segErase s =>
    match d.seg g s with
    | none => d
    | some x =>
      let d := (x.blocks.filterMap id).foldl (fun d b => d.setBlock b.1 b.2 .erasing) d
      d.modSeg g s fun x => { x with state := .erasing, erasable := true }
  | .segForm s blocks slc place =>
    let old := match d.seg g s with | some x => (x.blocks.filterMap id).filter fun b => !blocks.contains (some b) | none => []
    let d := old.foldl (fun d b => d.setBlock b.1 b.2 .erasing) d
    d.modSeg g s fun x => if x.blocks = blocks then x else { x with blocks := blocks, slc := slc, place := place, claim := none }
  | .segRetire die block => d.setBlock die block .retired
  | .tidx stream e => (d.modStream stream fun s => { s with index := addIdx s.index e }).soil (tidxPage stream)
  | .tidxTrim v a n =>
    let hit := tkeys d.streams fun _ s => s.index.any fun e => e.trim v a n != [e]
    hit.foldl (fun d s => d.soil (tidxPage s)) (d.trimIndex v a n)
  | .ckptPage table page loc =>
    let d := d.setSysFrags ({ cargo := .page table page, loc := loc, body := 16384 } :: d.sysFrags.filter fun f => decide (f.cargo ≠ .page table page))
    if isDir (table, page) && d.ckpt.cycle.isNone then { d with boot := { d.boot with root := d.rootTable } } else d
  | .ckptRoot m => match d.ckpt.cycle with
    | some (t, l) =>
      let left := l.filter fun e => decide (e.1 ≠ g)
      let c := d.ckpt
      let d := d.setSysFrags (d.sysFrags.filter fun f => match f.cargo with | .records k first => decide (k ≠ g) || decide (m ≤ first) | _ => true)
      { d with
        ckpt := let c := { c with past := c.past.filter fun b => decide (b.1 ≠ g) || decide (m < b.2.1 + b.2.2.length) }
          if left.isEmpty then { c with tail := c.tail - t, cycle := none, todo := none, whole := if c.whole = 1 then 2 else c.whole }
          else { c with cycle := some (t, left) }
        boot := if left.isEmpty then { d.boot with root := d.rootTable } else d.boot }
    | none => d
  | .volCreate _ _ _ _ _ => d
  | .volDelete v => if d.originOf v then d.modVol v fun x => { x with dying := true } else { d with
      vols := tdel d.vols v
      vgens := match d.vol v with | some x => tput d.vgens v (nextGen x.vgen) | none => d.vgens
      streams := tmap (d.streams.filter fun e => e.2.isOpen || decide (e.2.volume ≠ v)) fun _ s => { s with index := s.index.filter fun e => e.volume ≠ v } }
  | .volResize v cap => d.modVol v fun x => { x with capacity := cap }
  | .snap _ _ _ _ _ => d
  | .snapDelete v slot => d.modVol v fun x => { x with
      snaps := tdel x.snaps slot
      sgens := match tget x.snaps slot with | some k => tput x.sgens slot (nextGen k.sgen) | none => x.sgens }
  | .deltaPut v slot n e => d.modSnap v slot fun s => { s with delta := tput s.delta n e }
  | .deltaMove v a b n =>
    match (d.vol v).bind fun x => (tget x.snaps a).bind fun s => tget s.delta n with
    | some e => (d.modSnap v a fun s => { s with delta := tdel s.delta n }).modSnap v b fun s => { s with delta := tput s.delta n e }
    | none => d
  | .deltaDrop v slot n => d.modSnap v slot fun s => { s with delta := tdel s.delta n }
  | .clone _ _ _ _ => d
  | .cloneFill v first n => d.modVol v fun x => { x with
      fillTo := Nat.max x.fillTo (first + n), filledAhead := x.filledAhead.filter fun k => first + n ≤ k }
  | .compact _ _ _ => d
  | .replBase _ _ _ _ => d
  | .batchEnd => d

/-- Apply a batch: its records in order. -/
def Dev.applyBatch (d : Dev) (b : Batch) : Dev := b.recs.foldl (fun d r => d.applyRec b.group r) d

/-- The part as its maps will stand when every issued batch has been applied: what an entry names when it is replaced (R424). -/
def Dev.issued (d : Dev) : Dev := d.batches.foldl (fun d b => d.applyBatch b) d

/-! ### Replacing an entry (R424, R436) -/

/-- The slot of the newest snapshot of a volume, not being deleted, whose epoch is below `ep` (R424): a write that a snapshot
already holds (R143) leaves nothing of what it replaces to that snapshot. -/
def Vol.newestBelow (v : Vol) (ep : Nat) : Option (Nat × Snap) :=
  argMax (fun e => e.2.epoch) (v.snaps.filter fun e => !e.2.deleting && decide (e.2.epoch < ep))

/-- The records by which a change of epoch ep puts entry e at grain g of volume v, in a part whose issued view is w: an unfilled
grain of a clone is filled first (R436), the old entry goes to the newest snapshot's delta or is dropped with its reference
(R424). -/
def Dev.replace (w : Dev) (v g ep : Nat) (e : Entry) : List Rec :=
  match w.vol v with
  | none => []
  | some x =>
    let fill : List Rec := if x.filled g then [] else
      let o := { w.entryAt v none g with epoch := 0 }
      [Rec.vmap v g o] ++ (if o.kind = 2 then [Rec.crecRef o.content 1] else [])
    let old := if x.filled g then x.entry g else { w.entryAt v none g with epoch := 0 }
    let keep : List Rec := match x.newestBelow ep with
      | some (slot, n) => if old.kind ≠ 0 ∧ old.epoch ≤ n.epoch then [Rec.deltaPut v slot g old]
          else if old.kind = 2 then [Rec.crecRef old.content (-1)] else []
      | none => if old.kind = 2 then [Rec.crecRef old.content (-1)] else []
    fill ++ [Rec.vmap v g e] ++ keep

/-! ### Records as bytes (Tables 7-7, 7-8, 9-5) -/

/-- The handle of volume number v, or of a snapshot slot of it (Table 9-1). -/
def Dev.handle (d : Dev) (v : Nat) (slot : Option Nat) : Nat :=
  match d.vol v, slot with
  | some x, some s => x.snapHandle v s
  | some x, none => x.handle v
  | none, _ => v % 32768

/-- The records of a batch as bytes. -/
def Dev.batchBytes (d : Dev) (b : Batch) : Bytes := b.recs.zipIdx.flatMap fun x => x.1.bytes d.handle (b.first + x.2)

/-! ### Retirement (R345, R346, R301) -/

/-- A FREE block of the QLC pool takes the place of a primer block that is retired. -/
def Dev.refillPrimer (d : Dev) (die b : Nat) : Dev :=
  match tget d.dies die, d.dieProfile die with
  | some x, some p =>
    if !d.inPrimer x p b then d else
    match argMin (fun k => (x.blk k).erases) (d.freeIn die false) with
    | some k => d.modDie die fun x => x.changePool k
    | none => d
  | _, _ => d

/-- Retire a block: it draws one of its die's spares. False when the die had none left. -/
def Dev.retireBlock (d : Dev) (die b : Nat) : Dev × Bool :=
  match tget d.dies die with
  | none => (d, true)
  | some x =>
    if (x.blk b).state = .retired then (d, true) else
    let d := ((d.setBlock die b .retired).modBlk die b fun k => { k with retire := true }).refillPrimer die b
    if x.spares = 0 then (d, false) else (d.modDie die fun x => { x with spares := x.spares - 1 }, true)

end Sys2Proof.Machine
end

