-- ==== Sys2Proof/Machine/Streams.lean ====
section
/-! DEFINITION. Ingest streams: the admission test, the vermilion floors, AT_RISK, misses (chapter 04, R223–R227). -/

namespace Sys2Proof.Machine

/-! ### Capacities (Table 4-2) -/

/-- Ports this part drives. -/
def Dev.drives (d : Dev) (n : Nat) : Bool :=
  match tget d.ports n with
  | some p => decide (p.own = .owned) && !d.isSet (FLP_STAT_FAILED n)
  | none => false

/-- The rate of a port mode in MB/s (Table 6-2). -/
def modeRate (m : Nat) : Nat := [10, 800, 1200, 1600, 1600, 2400, 3600, 4200, 4800].getD m 4800

/-- Whether a die is a failed member of its group, which runs degraded (R387). -/
def Dev.memberDown (d : Dev) (die : Nat) (x : Die) : Bool :=
  match x.group.bind d.group with
  | some g => g.members.any fun m => decide (m.die = die) && m.failed
  | none => false

/-- Dies on a port that take programs: in use, not retired, and not a failed member of a group. -/
def Dev.portDies (d : Dev) (n : Nat) : Nat :=
  countP d.dies fun e => decide (diePort e.1 = n) && e.2.used && !e.2.retired && !d.memberDown e.1 e.2

/-- Program capacity of the dies the part drives in MB/s, each die giving `f` of its profile and no port more than its mode. -/
def Dev.capOf (d : Dev) (f : Profile → Nat) : Nat :=
  sumN (d.ports.map fun e => match e.2.profile with
    | some p => if d.drives e.1 then Nat.min (modeRate (d.rd (FLP_STAT_MODE_NOW e.1))) (d.portDies e.1 * f p) else 0
    | none => 0)

def Dev.capQ (d : Dev) : Nat := d.capOf (·.qlcMBs)
def Dev.capP (d : Dev) : Nat := d.capOf (·.slcMBs)

/-- Primer space: payload of the primer blocks of the dies the part drives, less the dump reserve (R185, R326). -/
def Dev.primerSpace (d : Dev) : Nat :=
  sumN (d.ports.map fun e => match e.2.profile with
    | some p => if d.drives e.1 then d.portDies e.1 * (d.primerBlocks p * (pagesIn p true * p.cwPerPage * 4096)) else 0
    | none => 0) - 201326592

/-- T_PIPE in µs for the current WMAX, and WMAX in bytes. -/
def Dev.tPipe (d : Dev) : Nat := 48 + 16 * d.rd STRM_ADM_CFG_WMAX
def Dev.wmax (d : Dev) : Nat := d.rd STRM_ADM_CFG_WMAX * 1048576

/-- T_MEDIUM in µs: one slot period and the slowest SLC program time of the profiles in use. -/
def Dev.tMedium (d : Dev) : Nat :=
  Config.slotPeriodUs + d.ports.foldl (fun m e => match e.2.profile with
    | some p => if d.drives e.1 then Nat.max m p.slcProgUs else m
    | none => m) 0

/-- P_A: 1,024, or the cap of thermal throttling where that is lower. -/
def Dev.paceA (d : Dev) : Nat := if d.adm.paceCap = 0 then 1024 else satAt 1024 d.adm.paceCap

/-! ### The admission test (R183) -/

/-- What the test and the floors ask of a vermilion stream: RATE, DEADLINE, geometry, buffer pool of its volume's grain. -/
structure VStream where
  rate : Nat
  deadline : Nat
  n : Nat
  k : Nat
  pool : Nat
  deriving DecidableEq, Repr

/-- A stream on volume v as the test sees it. -/
def Dev.vstream (d : Dev) (v rate deadline : Nat) : VStream :=
  match d.vol v with
  | some x =>
    let geo := match d.group x.group with | some g => g.geometry | none => 3
    { rate := rate, deadline := deadline, n := geoN geo, k := geoK geo, pool := if x.grain16 then 2 else 1 }
  | none => { rate := rate, deadline := deadline, n := 16, k := 2, pool := 1 }

/-- The open vermilion streams. -/
def Dev.vset (d : Dev) : List VStream :=
  (d.streams.filter fun e => e.2.isOpen && decide (e.2.cls = 2)).map fun e => d.vstream e.2.volume e.2.rate e.2.deadline

/-- Physical rate of a set in units of 1/384 MB/s: E = 4,608/4,096 × (n + k)/n. -/
def phiOf (vs : List VStream) : Nat := sumN (vs.map fun s => s.rate * (432 * (s.n + s.k)) / Nat.max 1 s.n)

/-- Bytes of primer a set needs under HORIZON; none where VSHARE × CAP_Q carries it. -/
def Dev.horizonNeed (d : Dev) (phi : Nat) : Option Nat :=
  let excess := phi * 100 - d.rd STRM_ADM_CFG_VSHARE * d.capQ * 384
  if excess = 0 then none else some (ceilDiv (excess * d.rd STRM_ADM_CFG_HORIZON * 1000000) 38400)

/-- Capacities in MB/s of the pace-scaled stages, as their instances in service give them (R189), with the numerator of their share in
eighths: digest, compression, cipher, parity. -/
def Dev.stages (d : Dev) : List (Nat × Nat) :=
  let count (n : Nat) (f : Nat → Fld) : Nat := ((upTo n).filter fun i => d.isSet (f i)).length
  let parity := ((upTo 2).filter fun i => !d.outOfService.contains (768 + i)).length
  [(3200 * count 64 DIG_LANE_IN_SERVICE, 8), (8000 * count 16 CMP_ENG_IN_SERVICE, 8), (8000 * count 32 CIP_LANE_IN_SERVICE, 8)
   , (160000 * parity, 9)]

/-- p_req of a set; of a stage without capacity, more than any pace. -/
def Dev.pReq (d : Dev) (vs : List VStream) : Nat :=
  let r := sumN (vs.map (·.rate))
  d.stages.foldl (fun m s => Nat.max m
    (if s.1 = 0 ∧ r ≠ 0 then 2 ^ 32 else ceilDiv (102400 * r * s.2) (d.rd STRM_ADM_CFG_VSHARE * s.1 * 8))) 0

/-- The p_lat term of one stream; none where its slack is not positive. -/
def Dev.pLatOf (d : Dev) (s : VStream) : Option Nat :=
  let have_ := (s.deadline - d.tMedium) * s.rate
  if have_ ≤ 2 * d.wmax then none else some (ceilDiv (1024 * d.tPipe * s.rate) (have_ - 2 * d.wmax))

/-- P_HOLD of a set; none where some slack is not positive. -/
def Dev.pHoldOf (d : Dev) (vs : List VStream) : Option Nat :=
  let lats := vs.map d.pLatOf
  if lats.any (·.isNone) then none else
  let m := (lats.filterMap id).foldl Nat.max (d.pReq vs)
  some (ceilDiv (m * (128 + d.rd STRM_ADM_CFG_GUARD)) 128)

/-- A stream's demand in buffers of `size` bytes scaled by num/den (R223, R224). -/
def Dev.demand (d : Dev) (hold : Nat) (s : VStream) (size num den : Nat) : Nat :=
  let p := Nat.max 1 hold
  ceilDiv ((2 * d.wmax * p + s.rate * (d.tPipe * 1024 + d.tMedium * p)) * num) (p * size * Nat.max 1 den)

/-- The vermilion floor of pool p for a set (R224, R225). -/
def Dev.vfloor (d : Dev) (hold : Nat) (vs : List VStream) (p : Nat) : Nat :=
  match p with
  | 0 => if vs.isEmpty then 0 else 512
  | 3 => sumN (vs.map fun s => d.demand hold s 65536 (s.n + s.k) s.n)
  | 4 => 0
  | _ => sumN (vs.map fun s => if s.pool = p then d.demand hold s (poolSize p) 1 1 else 0)

/-- The physical and headroom lines of the test. -/
def Dev.flashFits (d : Dev) (vs : List VStream) : Bool :=
  let phi := phiOf vs
  decide (phi * 100 ≤ d.rd STRM_ADM_CFG_VSHARE * d.capP * 384) &&
    (match d.horizonNeed phi with
     | none => true
     | some need => decide (d.rd STRM_ADM_CFG_HORIZON ≠ 0) && decide (need ≤ d.primerSpace))

/-- The test of R183 with the condition of R226 for a set whose candidate belongs to a tenant with a sum of open vermilion rates
and a reserve: P_HOLD. -/
def Dev.admits (d : Dev) (vs : List VStream) (cand : VStream) (sum reserve : Nat) : Option Nat :=
  let all := vs ++ [cand]
  if reserve < sum + cand.rate ∨ !d.flashFits all then none else
  match d.pHoldOf all with
  | none => none
  | some h =>
    if d.paceA < h then none
    else if (upTo 5).all fun p => decide (d.vfloor h all p * 100 ≤ d.rd (BPM_VFLOOR_V_MAX p) * poolTotal p) then some h else none

/-- Sum of the open vermilion RATEs of a tenant. -/
def Dev.vres (d : Dev) (t : Nat) : Nat :=
  sumN (d.streams.map fun e => if e.2.isOpen ∧ e.2.cls = 2 ∧ e.2.tenant = t then e.2.rate else 0)

/-- The highest RATE admissible now (R184): 0 for none. -/
def Dev.bestRate (d : Dev) (v deadline sum reserve : Nat) : Nat :=
  let vs := d.vset
  (((List.range 190000).reverse.map (· + 1)).find? fun r => (d.admits vs (d.vstream v r deadline) sum reserve).isSome).getD 0

/-! ### Reservations in force (R185–R192, R227) -/

/-- Whether writes of stream i, on volume v, pass a bound FILTER. -/
def Dev.filtered (d : Dev) (i v : Nat) : Bool :=
  d.bindings.any fun b => decide (b.point = 1) && b.ended.isNone && decide (b.volume = v) && (decide (b.stream = none) || decide (b.stream = some i))

/-- The vermilion slot floor that the open streams with a FILTER ask for (R554). -/
def Dev.slotNeed (d : Dev) : Nat :=
  sumN (d.streams.map fun e =>
    if e.2.isOpen ∧ e.2.cls = 2 ∧ d.filtered e.1 e.2.volume then
      let s := d.vstream e.2.volume e.2.rate e.2.deadline
      4 * d.demand d.adm.pHold s (poolSize s.pool) 1 1
    else 0)

/-- The most that floor may be (R555). -/
def Dev.slotMost (d : Dev) : Nat := d.rd SCH_SLOT_WM_V_MAX * 65536 / 100

/-- The vermilion slot floor as the streams and bindings stand (R554, R555). -/
def Dev.slotFloor (d : Dev) : Dev := d.wr SCH_SLOT_VFLOOR_V_FLOOR (satAt d.slotMost d.slotNeed)

/-- The vermilion floors for the present set and P_HOLD. -/
def Dev.setFloors (d : Dev) : Dev :=
  ((upTo 5).foldl (fun d p => (d.wr (BPM_VFLOOR_V_FLOOR p) (d.vfloor d.adm.pHold d.vset p)).setExcess p) d).slotFloor

/-- The registers of the admission test. -/
def Dev.admRegs (d : Dev) : Dev :=
  let risk := d.streams.any fun e => e.2.atRisk
  let d := ((d.wr STRM_ADM_TIME_T_PIPE d.tPipe).wr STRM_ADM_TIME_T_MEDIUM d.tMedium).wr STRM_ADM_STAT_P_HOLD d.adm.pHold
  let d := (d.wr STRM_ADM_STAT_P_A d.paceA).wr STRM_ADM_STAT_AT_RISK (b2n risk)
  let d := (d.wr STRM_ADM_FLASH_PHI (satAt 65535 (ceilDiv d.adm.phi 6144))).wr STRM_ADM_FLASH_CAP_Q (satAt 65535 (d.capQ / 16))
  (d.wr STRM_ADM_PRIMER_CAP_P (satAt 65535 (d.capP / 16))).wr STRM_ADM_PRIMER_HEADROOM
    (satAt 65535 (ceilDiv d.adm.headroom 1073741824))

/-- Program slots that the open vermilion streams reserve on the dies of each group, as a physical rate in units of 1/384 MB/s (R185). -/
def Dev.slotRates (d : Dev) : Tbl Nat :=
  d.streams.foldl (fun t e =>
    match e.2.isOpen && decide (e.2.cls = 2), d.vol e.2.volume with
    | true, some v => tput t v.group ((tget t v.group).getD 0 + phiOf [d.vstream e.2.volume e.2.rate e.2.deadline])
    | _, _ => t) []

/-- P_HOLD, the physical rate, the headroom, the program slots and the floors recomputed for the open set (R185, R188, R227). -/
def Dev.readmit (d : Dev) : Dev :=
  let vs := d.vset
  let phi := phiOf vs
  let hold := if vs.isEmpty then 0 else (d.pHoldOf vs).getD d.adm.pHold
  let d := { d with
    adm := { d.adm with pHold := hold, phi := phi, headroom := (d.horizonNeed phi).getD 0, slots := d.slotRates
                        horizonUsed := d.adm.horizonUsed && (d.horizonNeed phi).isSome }
    streams := tmap d.streams fun _ s => { s with pLat := if s.isOpen ∧ s.cls = 2 then (d.pLatOf (d.vstream s.volume s.rate s.deadline)).getD 0 else 0 } }
  d.setFloors.admRegs

/-- Whether a quadrant's rail stands at its ceiling with its pace below P_HOLD (R189). -/
def Dev.railShort (d : Dev) (q : Nat) : Bool :=
  decide (d.rd (PWR_PACE_PACE q) < d.adm.pHold) && decide (d.rd (PWR_RAIL_VMAX_MV q) ≤ d.rd (PWR_VOUT_MV q))

/-- Whether the guarantees can no longer be kept (R189, R200; of engines that have failed, R775). -/
def Dev.guaranteesLost (d : Dev) : Bool :=
  !d.vset.isEmpty && (decide (d.paceA < d.adm.pHold) || decide (d.paceA < d.pReq d.vset) || (upTo 4).any d.railShort || !d.flashFits d.vset)

/-- AT_RISK brought up to date (R189, R190, R555): set with its events; when the condition has ended, the time of its end is kept. -/
def Dev.reRisk (d : Dev) : Dev :=
  let lost := d.guaranteesLost
  let open_ := tkeys d.streams fun _ s => s.isOpen && decide (s.cls = 2)
  let one (d : Dev) (i : Nat) : Dev :=
    match tget d.streams i with
    | none => d
    | some s =>
      if lost ∨ (d.slotMost < d.slotNeed ∧ d.filtered i s.volume) then
        if s.atRisk then d.modStream i fun s => { s with clearSince := none } else
        let d := (d.modStream i fun s => { s with atRisk := true, clearSince := none }).event 0x0202 0 s.tenant i [1]
        d.tenantEvent s.tenant 3 i
      else if s.atRisk ∧ s.clearSince.isNone then d.modStream i fun s => { s with clearSince := some d.now }
      else d
  (open_.foldl one d).admRegs

/-- The meaning of AT_RISK_CLEAR (R190). -/
def execAtRiskClear (i : Nat) (s : State) : Host.Outcome State Fault Refusal :=
  onDev (fun d =>
    match tget d.streams i with
    | none => d
    | some x => match x.atRisk, x.clearSince with
      | true, some t =>
        if d.now < t + sNs 1 ∨ d.guaranteesLost ∨ (d.slotMost < d.slotNeed ∧ d.filtered i x.volume) then d
        else ((d.modStream i fun s => { s with atRisk := false, clearSince := none }).event 0x0202 0 x.tenant i [0]).admRegs
      | _, _ => d) s

/-- Close a stream: its reservation ends and its time index stays (R149, R188). -/
def Dev.closeStream (d : Dev) (i : Nat) : Dev :=
  (d.modStream i fun s => { s with isOpen := false, atRisk := false, clearSince := none }).readmit.reRisk

/-- Close the open streams that satisfy p. -/
def Dev.closeStreams (d : Dev) (p : Strm → Bool) : Dev :=
  (tkeys d.streams fun _ s => s.isOpen && p s).foldl (fun d i => d.closeStream i) d

/-! ### Token buckets (R180, R181) -/

/-- A stream's bucket filled up to now: RATE MB/s is RATE bytes per µs, that is, RATE thousandths of a byte per ns. -/
def Strm.fill (s : Strm) (now depth : Nat) : Strm :=
  { s with tokens := satAt (depth * 1000) (s.tokens + (now - s.filledAt) * s.rate), filledAt := now }

/-- The claimant class of a write of stream i and length n, and the bucket after it (Table 5-2, R180, R181). -/
def Dev.streamClass (d : Dev) (i n : Nat) : Dev × Claim :=
  match tget d.streams i with
  | none => (d, .G)
  | some s =>
    match s.cls with
    | 0 => (d, .G)
    | 1 => (d, .O)
    | _ =>
      let s := s.fill d.now (2 * d.wmax)
      if d.wmax < n ∨ s.tokens < n * 1000 then (d.modStream i fun _ => { s with overBytes := s.overBytes + n }, .O)
      else (d.modStream i fun _ => { s with tokens := s.tokens - n * 1000 }, .V)

/-! ### Lateness and misses (R178, R194–R199) -/

/-- The deadline of a stream write as a stamp; none for any other command. -/
def Dev.deadlineOf (d : Dev) (c : Cmd) : Option Nat :=
  c.streamId.bind fun i => (tget d.streams i).map fun s => c.stamp + s.deadline * 65536000

/-- Lateness of a stream write in ns if it were acknowledged now; 0 when it is not late. -/
def Dev.lateness (d : Dev) (c : Cmd) : Nat :=
  match d.deadlineOf c with
  | some t => ceilDiv (d.stamp - t) 65536
  | none => 0

/-- The vermilion stream writes on their way that satisfy p, and for which no cause has been identified, take this one (R196). -/
def Dev.noteCause (d : Dev) (cause : Nat) (p : Nat → Cmd → Bool) : Dev :=
  { d with cmds := tmap d.cmds fun i c =>
      if c.claim = .V ∧ c.streamId.isSome ∧ c.stage ≠ .done ∧ c.missCause = 0xF ∧ p i c then { c with missCause := cause } else c }

/-- A write is held behind an overlapping command (R196). -/
def Dev.noteHazard (d : Dev) (id : Nat) : Dev := d.noteCause 4 fun i _ => decide (i = id)

/-- Some dies fail, are retired or have their programs held: the writes with data in rows that wait to be programmed there lose a planned
slot, where slots of their group are reserved (R185, R196). -/
def Dev.noteFlash (d : Dev) (dies : Nat → Bool) : Dev :=
  let lost := d.flash.filterMap fun o => match o.op with
    | .program g l _ => if dies o.die ∧ thas d.adm.slots g then d.row g l else none
    | _ => none
  d.noteCause 1 fun i _ => lost.any fun w => w.items.any fun t => match t.cargo with | .grain k _ _ => decide (k = i) | _ => false

/-- A quadrant's pace below P_HOLD is the cause of what it delays (R196). -/
def Dev.notePace (d : Dev) : Dev :=
  if (upTo 4).any fun q => decide (d.rd (PWR_PACE_PACE q) < d.adm.pHold) then d.noteCause 0 fun _ _ => true else d

/-- Whether the ingest filter runs, or is due, for some grain of a write. -/
def Dev.filtering (d : Dev) (id : Nat) : Bool :=
  (d.sched.tasks.any fun e => decide (e.2.entry = 0) && decide (e.2.cmd = id)) ||
    d.sched.waiting.any fun w => decide (w.1 = id) && decide (w.2.2 = 0)

/-- Whether a write-guard hold keeps back programs of a group: they fill program slots, and what the group's writes wait for is behind them (R297). -/
def Dev.heldBack (d : Dev) (g : Nat) : Bool :=
  d.flash.any fun o => !o.issued && d.guarded (diePort o.die) && (match o.op with | .program k _ _ => decide (k = g) | _ => false)

/-- The cause of a miss as far as it can be told (R196, Table 4-5): the first one noted, else what stands in its way now. -/
def Dev.missCause (d : Dev) (id : Nat) (c : Cmd) : Nat :=
  if c.missCause ≠ 0xF then c.missCause
  else if c.hold = .hazard ∨ c.hold = .fence then 4
  else if d.filtering id then 5
  else if d.adm.horizonUsed then 2
  else if (upTo 4).any fun q => decide (d.rd (PWR_PACE_PACE q) < d.adm.pHold) then 0
  else if (d.vol c.volume).any fun v => d.heldBack v.group then 1
  else 0xF

/-- A late stream write is found (R194, Table 4-1): counted once; for class V a tenant event, for class O a tenant event whose record
is limited to one per stream and second. -/
def Dev.findLate (d : Dev) (id : Nat) : Dev :=
  match tget d.cmds id with
  | none => d
  | some c => match c.streamId with
    | none => d
    | some i =>
      if c.late then d else
      let d := d.modCmd id fun c => { c with late := true, missCause := d.missCause id c }
      let d := d.modStream i fun s => { s with misses := s.misses + 1 }
      let d := d.modTenant c.tenant fun t => { t with misses := sat32 (t.misses + 1) }
      match c.claim with
      | .V => d.tenantEvent c.tenant 1 i
      | .O => (d.modTenant c.tenant (·.raise 2)).eventLim 0x0A01 1 c.tenant i i (sNs 1) [2]
      | _ => d

/-- The meaning of DEADLINE_MISS (R194): a vermilion write that reaches its deadline unacknowledged. -/
def execDeadlineMiss (cmd : Nat) (s : State) : Host.Outcome State Fault Refusal :=
  onDev (fun d => match tget d.cmds cmd with
    | none => d
    | some c => if c.stage ≠ .done ∧ c.claim = .V ∧ d.lateness c ≠ 0 then d.findLate cmd else d) s

/-- The body of a miss record (Table 4-4). -/
def missBody (stream tenant cause : Nat) (dropped risk : Bool) (capture length late : Nat) : Bytes :=
  toLE 2 stream ++ toLE 2 tenant ++ toLE 1 2 ++ toLE 1 cause ++ toLE 2 (b2n dropped + 2 * b2n risk) ++ stampBytes capture ++
    toLE 4 length ++ toLE 8 (satAt (2 ^ 64 - 1) late)

/-- A stream write reaches its acknowledgement point, or is dropped (R178, R195, R199): whether it is late, with its counts and, for
class V, its miss record. -/
def Dev.settleLate (d : Dev) (id : Nat) (dropped : Bool) : Dev × Bool :=
  match tget d.cmds id with
  | none => (d, false)
  | some c => match c.streamId with
    | none => (d, false)
    | some i =>
      let late := d.lateness c
      if late = 0 then (d, false) else
      let d := (d.findLate id).modStream i fun s => { s with maxLate := Nat.max s.maxLate late }
      let c := (tget d.cmds id).getD c
      let risk := match tget d.streams i with | some s => s.atRisk | none => false
      let d := if c.claim = .V then
          d.eventRec 0x0201 0 c.tenant i false [] (missBody i c.tenant c.missCause dropped risk c.stamp c.length late)
        else d
      (d, true)

end Sys2Proof.Machine
end

