-- ==== Sys2Proof/Machine/Log.lean ====
section
/-! DEFINITION. The log: batches of records, fragments packed into rows, parity, the stripe journal, programs, map updates and
commits (chapters 06, 07 and 08; write steps 13–18). -/

namespace Sys2Proof.Machine

/-! ### Records and the rows they name (Table 8-2) -/

/-- The content in a row: of grains, and of fragments that are moved. -/
def Row.contents (w : Row) : List Nat := w.items.filterMap fun i => match i.cargo with | .grain _ _ c => some c | .moved c _ => some c | _ => none

/-- Whether a record names content in a row: of its fragments, of a log stripe that it holds whole, or of a checkpoint page. -/
def Row.namedBy (w : Row) (r : Rec) : Bool :=
  match r with
  | .vmap _ _ e => decide (e.kind = 2) && w.contents.contains e.content
  | .crecNew c _ _ _ _ _ => w.contents.contains c
  | .crecRef c _ => w.contents.contains c
  | .crecMove c _ _ => w.contents.contains c
  | .deltaPut _ _ _ e => decide (e.kind = 2) && w.contents.contains e.content
  | .mmapSet i _ _ _ _ _ _ _ => w.items.any fun t => decide (t.cargo = .stripe i)
  | .ckptPage t p _ => w.items.any fun i => decide (i.cargo = .page t p)
  | _ => false

/-- A row once records from an MLSEQ on have been issued: the first and the last that name content in it. -/
def Row.noted (w : Row) (first : Nat) (recs : List Rec) : Row :=
  match recs.zipIdx.filterMap fun r => if w.namedBy r.1 then some (first + r.2) else none with
  | [] => w
  | a :: r => { w with mlseqs := some ((w.mlseqs.map (·.1)).getD a, r.getLastD a) }

/-! ### Batches (R316, R317, R41) -/

/-- Issue a batch of records in group g's log: BATCH_END closes it, MLSEQs are taken, it is mirrored to the partner and counts in
the tail (R319). It goes under the class of its command, or else of what issues it (Table 5-2). -/
def Dev.logBatch (d : Dev) (g : Nat) (recs : List Rec) (cmd : Option Nat) (piece : Nat)
    (needs : List Nat) (c : Claim := .G) : Dev :=
  match d.group g with
  | none => d
  | some x =>
    let recs := recs ++ [.batchEnd]
    let r := d.mirrorSend (.maplog g x.nextMlseq recs)
    let b : Batch := { group := g, first := x.nextMlseq, recs := recs, cmd := cmd, piece := piece, needs := needs
                       linkSeq := r.2, mirrored := false, placed := false, pieces := 0, durable := false
                       claim := match cmd.bind fun i => tget d.cmds i with | some k => k.claim | none => c }
    let d := r.1.modGroup g fun x => { x with nextMlseq := x.nextMlseq + recs.length }
    { d with
      batches := d.batches ++ [b]
      rows := tmap d.rows fun k w => if k / 2 ^ 40 = g then w.noted b.first recs else w
      ckpt := { d.ckpt with tail := d.ckpt.tail + (d.batchBytes b).length } }

/-- The device's own batch: of class G but for a pass that Table 5-2 names. -/
def Dev.logOwn (d : Dev) (g : Nat) (recs : List Rec) (c : Claim := .G) : Dev := if recs.isEmpty then d else d.logBatch g recs none 0 [] c

/-! ### Dump reserve (R326) -/

/-- Form dump-reserve segments of group g until its share is held, at most k; the SEG_FORM of each is logged, so that a survivor knows them (R326). -/
def Dev.fillReserve : Nat → Nat → Dev → Dev
  | 0, _, d => d
  | k + 1, g, d =>
    if d.dumpShare g ≤ d.dumpHeld g then d else
    match d.formSegment g true 3 false false with
    | none => d
    | some (d, s) => match d.seg g s with
      | some y => Dev.fillReserve k g (d.logOwn g [.segForm s y.blocks y.slc 3])
      | none => d

/-- The dump reserve of every group filled, and MAP_PRIMER_STAT brought up to date. -/
def Dev.reserves (d : Dev) : Dev :=
  let d := (tkeys d.groups fun _ _ => true).foldl (fun d g => d.fillReserve 64 g) d
  let ok := !d.groups.isEmpty && d.groups.all fun e => decide (d.dumpShare e.1 ≤ d.dumpHeld e.1)
  (d.wr MAP_PRIMER_STAT_DUMP_RES_OK (b2n ok)).wr MAP_PRIMER_STAT_FILL d.primerFillAll

/-! ### What is in the log -/

/-- The lowest MLSEQ of a group's batches that have not been applied. -/
def Dev.batchesOf (d : Dev) (g : Nat) : List Batch := d.batches.filter fun b => b.group = g

/-! ### Fragments (Table 7-2) -/

/-- A fragment header: content ID, body length, sectors, RAW, pad, stamps of the sectors. -/
def fragHeader (cid body : Nat) (raw : Bool) (pad : Nat) (stamps : List Nat) : Bytes :=
  toLE 8 cid ++ toLE 4 body ++ toLE 1 stamps.length ++ toLE 1 (b2n raw) ++ toLE 1 pad ++ zeros 1 ++
    stamps.flatMap fun t => stampBytes t ++ zeros 4

/-- System content IDs (Table 7-3). -/
def logBlockId : Nat := 0x8000000000000001
def pageId : Nat := 0x8000000000000002

/-- What is to be packed: a finished fragment, or a system fragment, encrypted where it comes to lie (R309, R476). -/
inductive Frag where
  | data (b : Bytes)
  | system (cid : Nat) (body : Bytes)
  deriving DecidableEq, Repr

/-- Bytes of a fragment. -/
def Frag.size (f : Frag) : Nat :=
  match f with
  | .data b => b.length
  | .system _ b => 16 + ceilDiv b.length 16 * 16

/-- LOG_STRIPE of a slot (R306). -/
def Dev.logStripe (d : Dev) (g slot : Nat) : Nat :=
  slot % 2 ^ 28 + (match d.slot g slot with | some s => s.gen % 65536 | none => 0) * 2 ^ 32 + g % 256 * 2 ^ 48

/-- Whether side B owns a group (R362, R671). -/
def Dev.sideBGroup (d : Dev) (g : Nat) : Bool := decide (d.side ≠ 3) && decide (128 ≤ g)

/-- The bytes of a fragment at an offset of a log stripe. -/
def Dev.fragBytesAt (d : Dev) (g slot off : Nat) (f : Frag) : Bytes :=
  match f with
  | .data b => b
  | .system cid body =>
    let padded := padTo (ceilDiv body.length 16 * 16) body
    let ct := match d.keyAt (metaPlace (d.sideBGroup g)) with
      | some k => xtsBody false (keyXts k) true (d.logStripe g slot) (off / 16) padded
      | none => padded
    fragHeader cid padded.length false (padded.length - body.length) [] ++ ct

/-! ### Log stripes and rows (R305–R308) -/

/-- The slot of the log stripe that begins at data unit u of a segment. -/
def Group.slotAt (x : Group) (s u : Nat) : Option Nat := (tkeys x.slots fun _ k => decide (k.segment = s) && decide (k.unit = u)).head?

/-- The lowest media-map slot not in use. -/
def Group.freshSlot (x : Group) : Nat := ((upTo (x.slots.length + 1)).find? fun i => !thas x.slots i).getD x.slots.length

/-- Media-map slots of a group (R312): the log stripes that its segments can hold, plus 1/16. -/
def Dev.slotLimit (d : Dev) (g : Nat) : Nat :=
  match d.group g, d.groupProfile g with
  | some x, some p =>
    let qlc := p.blocks - Nat.max p.spares (p.blocks / 40) - d.primerBlocks p
    let n := (qlc * segPayload p false x.n + d.primerBlocks p * segPayload p true x.n) / stripeBytes
    n + n / 16
  | _, _ => 0

/-- Put a new log stripe at data unit u of a segment (R306): its slot, whose GEN moves on at each reuse; none when every slot is in use. -/
def Dev.newSlot (d : Dev) (g s u : Nat) (slc : Bool) (c : Claim) : Option (Dev × Nat) :=
  match d.group g with
  | none => none
  | some x =>
    let i := x.freshSlot
    if d.slotLimit g ≤ i then none else
    let gen := match tget x.slotGens i with | some n => (n + 1) % 65536 | none => 0
    let e : Slot := { segment := s, unit := u, state := 1, slc := slc, ovl := 0, live := 0, gen := gen, logseq := 0, since := d.now }
    let d := d.modGroup g fun x => { x with slots := tput x.slots i e, slotGens := tput x.slotGens i gen }
    some (d.logOwn g [e.record i] c, i)

/-- The row of a segment that has not been retired, by its number. -/
def Dev.rowIn (d : Dev) (g s r : Nat) : Option (Nat × Row) :=
  (d.groupRows g).find? fun e => decide (e.2.segment = s) && decide (e.2.row = r)

/-- The higher of two classes at the flash scheduler. -/
def Claim.higher (a b : Claim) : Claim := if flashRank b < flashRank a then b else a

/-- Begin row r of a segment: it takes the next LOGSEQ (R307). -/
def Dev.beginRow (d : Dev) (g s r : Nat) (x : Seg) (c : Claim) : Dev × Nat :=
  match d.group g with
  | none => (d, 0)
  | some y =>
    let l := y.nextLogseq
    let t := d.takeHands (.units g x.place c) y.n
    let d := t.1
    let w : Row := { group := g, segment := s, row := r, slotA := 0, slotB := 0, slc := x.slc, move := decide (x.place = 2) || decide (x.place = 4), items := []
                     units := 0, since := d.now, claim := c, urgent := false, state := .filling, p := [], q := [], jseq := 0
                     linkSeq := none, mirrored := false, failed := [], bufs := t.2, badUnits := [] }
    ({ (d.modGroup g fun y => { y with nextLogseq := l + 1 }) with rows := tput d.rows (rowKey g l) w }, l)

/-- Rows that the packer would begin for n bytes at a place of a group: a fragment that its log stripe does not hold goes behind a
filler, one that its segment does not hold into a new segment. -/
def Dev.rowsAhead (d : Dev) (g place n : Nat) : Nat :=
  match d.group g, d.groupProfile g with
  | some x, some p =>
    let size := Nat.max 1 (x.n * unitBytes)
    match (x.openSeg place).bind fun s => (d.seg g s).map fun y => (s, y) with
    | none => ceilDiv n size
    | some (s, y) =>
      let left := stripeBytes - y.pos % stripeBytes
      let n' := if left < n then left + n else n
      if segPayload p y.slc x.n < y.pos + n' then ceilDiv n size
      else ceilDiv (y.pos % size + n') size - (if (d.rowIn g s (y.pos / size)).isSome then 1 else 0)
  | _, _ => 0

/-- The packer asks for the stripe-unit buffers that n bytes at a place of a group take, under the class of what it packs, and says whether
it has them (R210, R212). -/
def Dev.unitsFor (d : Dev) (g place n : Nat) (c : Claim) : Dev × Bool :=
  let need := d.rowsAhead g place n * (match d.group g with | some x => x.n | none => 0)
  let d := d.ask (.units g place c) unitBytes need c noTenant
  (d, decide (need ≤ (d.handsOf (.units g place c)).length))

/-! ### The parity engines (R173, R373) -/

/-- Whether parity engine e, 0 in Q1 and 1 in Q3, is in service. -/
def Dev.parityUp (d : Dev) (e : Nat) : Bool := !d.outOfService.contains (768 + e)

/-- Whether work is still to be done: a closed row, or a codeword that is lost and not yet given up. -/
def Dev.parityOpen (d : Dev) (k : ParityKey) : Bool :=
  match k with
  | .row g l => match d.row g l with | some w => decide (w.state = .closed) | none => false
  | .cw id i => match (tget d.freads id).bind fun r => tget r.cws i with
    | some w => w.lost && w.bytes.isNone && decide (w.stage ≠ 7)
    | none => false
  | .unit id => thas d.freads id

/-- Work that stands with a parity engine. -/
def Dev.parityLoad (d : Dev) (e : Nat) : Nat := countP d.parityWork fun w => decide (w.1 = e) && d.parityOpen w.2

/-- The engine that work of quadrant q goes to (R373): that of its half of the die, unless its queue is the longer of the two. -/
def Dev.parityEngine (d : Dev) (q : Nat) : Nat :=
  let own := q / 2 % 2
  let other := 1 - own
  if !d.parityUp own ∨ d.parityUp other ∧ d.parityLoad other < d.parityLoad own then other else own

/-- Work sent to a parity engine, and its end. -/
def Dev.sendParity (d : Dev) (q : Nat) (k : ParityKey) : Dev :=
  { d with parityWork := (d.parityWork.filter fun w => d.parityOpen w.2 && decide (w.2 ≠ k)) ++ [(d.parityEngine q, k)] }
def Dev.parityDone (d : Dev) (k : ParityKey) : Dev := { d with parityWork := d.parityWork.filter fun w => decide (w.2 ≠ k) }

/-- The quadrant that the parity work of a row of a group counts in: that of the die of its slot 0 (DESIGN CHOICE, log 162). -/
def Dev.rowQuadrant (d : Dev) (g : Nat) : Nat := match (d.group g).bind (·.slotDie 0) with | some die => portQuadrant (diePort die) | none => 0

/-- Close a row (R372): its slots are those of its first and last log stripe with data; nothing more is put into it. The parity engine
asks for the buffers of its P and Q. -/
def Dev.closeRow (d : Dev) (g l : Nat) : Dev :=
  match d.row g l, d.group g with
  | some w, some x =>
    let units := match (w.items.map fun i => (i.offset + i.bytes.length + 65535) / 65536).foldl Nat.max 0 with | n => n
    let first := w.row * x.n / 16 * 16
    let last := (w.row * x.n + Nat.max 1 units - 1) / 16 * 16
    let moved := w.items.filterMap fun i => match i.cargo with | .stripe k => some k | _ => none
    let a := moved.head?.getD ((x.slotAt w.segment first).getD 0)
    let b := moved.getLast?.getD ((x.slotAt w.segment last).getD a)
    let d := if w.items.isEmpty then d else
      d.modGroup g fun x => { x with slots := tmap x.slots fun i k => if i = a ∨ i = b then { k with logseq := l, since := w.since } else k }
    let d := (d.modRow g l fun w => { w with state := .closed, units := units, slotA := a, slotB := b }).modSeg g w.segment fun s =>
      { s with pos := (w.row + 1) * (x.n * unitBytes) }
    let d := d.sendParity (d.rowQuadrant g) (.row g l)
    if units = 0 then d else d.ask (.parity g l) unitBytes (geoK x.geometry) w.claim noTenant
  | _, _ => d

/-- Put bytes at the write position of a segment, row by row, with the metadata of their codewords where they are copied whole; a row that is full
closes. -/
def Dev.putBytes : Nat → Dev → Nat → Nat → Claim → Cargo → Bytes → Bool → List Bytes → Dev
  | 0, d, _, _, _, _, _, _, _ => d
  | fuel + 1, d, g, s, c, cargo, b, start, metas =>
    match d.seg g s, d.group g with
    | some x, some y =>
      if b.isEmpty then d else
      let size := y.n * unitBytes
      let r := x.pos / size
      let off := x.pos % size
      let e : Dev × Nat := match d.rowIn g s r with
        | some (l, _) => (d, l)
        | none => d.beginRow g s r x c
      let k := Nat.min b.length (size - off)
      let item : Item := { cargo := cargo, offset := off, bytes := b.take k, start := start, head := if start then b.take 28 else [], metas := metas.take (k / 4096) }
      let d := e.1.modRow g e.2 fun w => { w with items := w.items ++ [item], claim := w.claim.higher c }
      let d := d.modSeg g s fun x => { x with pos := x.pos + k }
      let d := if off + k = size then d.closeRow g e.2 else d
      Dev.putBytes fuel d g s c cargo (b.drop k) false (metas.drop (k / 4096))
    | _, _ => d

/-- The rows at the end of a segment that no whole log stripe uses are programmed as FILL (R305). -/
def Dev.finishSegment (d : Dev) (g s : Nat) : Dev :=
  match d.seg g s, d.group g, d.groupProfile g with
  | some x, some y, some p =>
    let size := y.n * unitBytes
    let d := match d.rowIn g s (x.pos / size) with
      | some (l, w) => if w.state = .filling then d.closeRow g l else d
      | none => d
    let next := match d.seg g s with | some x => x.pos / size | none => 0
    ((upTo (rowsIn p x.slc)).filter (next ≤ ·)).foldl (fun d r => let e := d.beginRow g s r x .G; e.1.closeRow g e.2) d
  | _, _, _ => d

/-- The segment of a group open for a place, or a new one (R299, R325). -/
def Dev.segFor (d : Dev) (g place : Nat) (c : Claim) : Option (Dev × Nat) :=
  match d.group g with
  | none => none
  | some x => match x.openSeg place with
    | some s => some (d, s)
    | none => match d.formSegment g (decide (place = 0) || decide (place = 3)) place (decide (place = 4)) false with
      | none => none
      | some (d, s) => match d.seg g s with
        | some y => some (d.logOwn g [.segForm s y.blocks y.slc place] c, s)
        | none => none

/-- Pack a fragment into a group's log for a place (write step 13, R308): a fragment that the rest of the log stripe does not hold
leaves a filler there and goes into the next one. Answers the locator; none when no segment can be formed. -/
def Dev.pack : Nat → Dev → Nat → Nat → Claim → Cargo → Frag → Option (Dev × Loc)
  | 0, _, _, _, _, _, _ => none
  | fuel + 1, d, g, place, c, cargo, f =>
    match d.segFor g place c with
    | none => none
    | some (d, s) => match d.seg g s, d.group g, d.groupProfile g with
      | some x, some y, some p =>
        let pos := x.pos
        if segPayload p x.slc y.n < pos + 1 ∨ (pos % stripeBytes = 0 ∧ segPayload p x.slc y.n < pos + stripeBytes) then
          Dev.pack fuel ((d.finishSegment g s).modSeg g s fun x => { x with place := 9 }) g place c cargo f
        else
          let left := stripeBytes - pos % stripeBytes
          if left < f.size then
            Dev.pack fuel (d.putBytes 64 g s c .filler (fragHeader 0 (left - 16) false 0 [] ++ zeros (left - 16)) true []) g place c cargo f
          else
            let u := pos / stripeBytes * 16
            let e : Option (Dev × Nat) := match y.slotAt s u with
              | some i => some (d, i)
              | none => d.newSlot g s u x.slc c
            let off := pos % stripeBytes
            e.map fun e =>
              let gen := match e.1.slot g e.2 with | some k => k.gen % 256 | none => 0
              (e.1.putBytes 64 g s c cargo (e.1.fragBytesAt g e.2 off f) true [], { group := g, index := e.2, gen := gen, offset := off })
      | _, _, _ => none

/-- Where write data of a class goes (R186, R325): PRIMER_FILL is the one value that MAP_PRIMER_STAT shows. -/
def Dev.hostPlace (d : Dev) (c : Claim) : Nat :=
  if c = .V then 0 else if d.primerFillAll < d.rd MAP_PRIMER_CFG_FULL then 0 else 1

/-- What packing comes to: done, waiting for stripe-unit buffers, or no segment can be formed. -/
inductive Packed where
  | done (d : Dev) (loc : Loc)
  | waits (d : Dev)
  | full
  deriving DecidableEq, Repr

/-- Pack a fragment at a place once the packer has the buffers it takes. -/
def Dev.packAt (d : Dev) (g place : Nat) (c : Claim) (cargo : Cargo) (f : Frag) : Packed :=
  let u := d.unitsFor g place f.size c
  if !u.2 then .waits u.1 else
  match Dev.pack 8 u.1 g place c cargo f with
  | some r => .done r.1 r.2
  | none => .full

/-- Pack data where its class goes now (R325): where no segment can be formed there, it waits. -/
def Dev.packHost (d : Dev) (g : Nat) (c : Claim) (cargo : Cargo) (f : Frag) : Packed := d.packAt g (d.hostPlace c) c cargo f

/-- The pieces of a batch that are still to be packed, one after another; how many have been. -/
def Dev.placePieces (b : Batch) (c : Claim) : List Bytes → Dev → Dev × Nat
  | [], d => (d, 0)
  | x :: r, d => match d.packHost b.group c (.records b.group b.first) (.system logBlockId x) with
    | .done d l =>
      let s : SysFrag := { cargo := .records b.group b.first, loc := l, body := x.length }
      let e := Dev.placePieces b c r (d.setSysFrags (d.sysFrags ++ [s]))
      (e.1, e.2 + 1)
    | .waits d => (d, 0)
    | .full => (d, 0)

/-- The class a batch is packed under (R212): a batch that others of its group's log wait behind goes with them, under the first class of R214 among them
(DEDUCED, log 179). -/
def Dev.batchClass (d : Dev) (b : Batch) : Claim :=
  let behind := (d.batches.filter fun k => decide (k.group = b.group) && decide (b.first ≤ k.first) && !k.placed).map (·.claim)
  ([Claim.V, .J, .S, .O].find? behind.contains).getD .G

/-- Place one batch in its group's log as map-log block fragments: those pieces that buffers are held for. -/
def Dev.placeBatch (d : Dev) (b : Batch) : Dev :=
  let c := d.batchClass b
  let bytes := d.batchBytes b
  let pieces := chunks 1048560 (bytes.length / 1048560 + 1) bytes
  let e := Dev.placePieces b c (pieces.drop b.pieces) d
  let upd (k : Batch) : Batch :=
    if k.group = b.group ∧ k.first = b.first then { k with pieces := b.pieces + e.2, placed := decide (pieces.length ≤ b.pieces + e.2) } else k
  { e.1 with batches := e.1.batches.map upd }

/-- Place every batch that waits, those its placing issues included; a batch that buffers are lacking for holds back its own group's log alone. -/
def Dev.placeIn : Nat → List Nat → Dev → Dev
  | 0, _, d => d
  | fuel + 1, stuck, d => match d.batches.find? fun b => !b.placed && !stuck.contains b.group with
    | none => d
    | some b =>
      let d' := d.placeBatch b
      if d'.batches.any fun k => decide (k.group = b.group) && decide (k.first = b.first) && !k.placed then Dev.placeIn fuel (b.group :: stuck) d'
      else Dev.placeIn fuel stuck d'

def Dev.placeBatches (fuel : Nat) (d : Dev) : Dev := d.placeIn fuel []

/-! ### Codewords and parity (R365–R370, Tables 6-5 to 6-7) -/

/-- The payload of a row: its items at their offsets, zeros elsewhere. -/
def Row.payload (w : Row) (n : Nat) : Bytes := w.items.foldl (fun b i => patch b i.offset i.bytes) (zeros (n * unitBytes))

/-- What Table 6-7 says of the fragments that start in a codeword, given by their offsets in its payload and their headers: BACK_ID, BACK_OFF,
FRAGS and the STAMP of the first of them, 23 bytes. Where no fragment starts BACK_ID and STAMP are zero, and STAMP where the first one has no sectors;
the specification gives neither (DESIGN CHOICE, log 170). -/
def cwMeta (starts : List (Nat × Bytes)) : Bytes :=
  match starts with
  | [] => zeros 8 ++ toLE 2 0xFFFF ++ zeros 13
  | t :: _ => slice t.2 0 8 ++ toLE 2 t.1 ++ toLE 1 (satAt 255 starts.length) ++ (if le t.2 0x0C 1 = 0 then zeros 12 else padTo 12 (slice t.2 0x10 12))

/-- Bytes 0x0008–0x1043 of codeword i of data unit j of a row, PROG_TEMP taken as zero (R368): all zero for a FILL unit (R370). -/
def Dev.cwBody (d : Dev) (l : Nat) (w : Row) (n : Nat) (payload : Bytes) (j i : Nat) : Bytes :=
  if w.units ≤ j then zeros 4156 else
  let o := j * unitBytes + i * 4096
  let slot := if (w.row * n + j) / 16 = w.row * n / 16 then w.slotA else w.slotB
  let m := match w.items.find? fun t => decide (t.offset ≤ o) && decide (o < t.offset + 4096 * t.metas.length) with
    | some t => t.metas.getD ((o - t.offset) / 4096) []
    | none => cwMeta ((w.items.filter fun t => t.start && decide (o ≤ t.offset) && decide (t.offset < o + 4096)).map fun t => (t.offset - o, t.head))
  slice payload o 4096 ++ slice m 0 11 ++ zeros 1 ++ toLE 4 (l / 2 ^ 32) ++ slice m 11 12 ++ toLE 2 j ++ toLE 2 i ++
    toLE 8 (d.logStripe w.group slot) ++ zeros 20

/-- The body of a data unit: its 16 codewords. -/
def Dev.unitBody (d : Dev) (l : Nat) (w : Row) (n : Nat) (payload : Bytes) (j : Nat) : Bytes :=
  (upTo 16).flatMap fun i => d.cwBody l w n payload j i

/-- g^j in the field of R367. -/
def gExp (j : Nat) : Byte := gfPow 0x1D 2 j

/-- P of some unit bodies (R367). -/
def parityP (us : List Bytes) : Bytes := match us with | [] => [] | u :: r => r.foldl xorB u

/-- Q of some unit bodies (R367). -/
def parityQ (us : List Bytes) : Bytes :=
  parityP (us.zipIdx.map fun u => u.1.map (gfMul 0x1D (gExp u.2)))

/-- The frame header of a codeword (Table 6-6). -/
def cwHeader (slc fill jrn par : Bool) (l : Nat) : Bytes :=
  [0x5A, 0xC3, 0x01] ++ toLE 1 (b2n slc + 2 * b2n fill + 4 * b2n jrn + 8 * b2n par) ++ toLE 4 l

/-- A codeword of a header and bytes 0x0008–0x1043, with its CW_CRC (R276). -/
def sealed (header body : Bytes) : Bytes := header ++ body ++ toLE 4 (crc32c (header ++ body))

/-- A codeword as it goes to the LDPC encoder: header, bytes 0x0008–0x1043 with PROG_TEMP set, CW_CRC (R276, R368). -/
def codeword (header body : Bytes) (temp : Int) : Bytes := sealed header (patch body 0x100B (toLE 1 (unsigned 8 temp)))

/-- A codeword as it is programmed (Table 6-5): with its 440 bytes of QC-LDPC parity, whose matrix the specification does not give. -/
def encoded (c : Bytes) : Bytes := c ++ padTo 440 (Config.qcParity c)

/-- Package temperature for PROG_TEMP: the port's sensor, unknown when that has failed (Table 6-7). -/
def Dev.packageTemp (d : Dev) (die : Nat) : Int :=
  if d.sensorFailed (d.portSensor (diePort die)) then -128 else d.readTemp (diePort die)

/-- Codeword i of the unit of role j of a row, as it is programmed on a die: a data unit, or the result of R367 under its own header
(R275, R368, R369); of a FILL unit all zero behind its header, PROG_TEMP with the rest (R370). -/
def Dev.unitCodeword (d : Dev) (l : Nat) (w : Row) (n : Nat) (pay : Bytes) (j i die : Nat) : Bytes :=
  if j < n ∧ w.units ≤ j then encoded (sealed (cwHeader w.slc true false false l) (zeros 4156)) else
  let body := if j < n then d.cwBody l w n pay j i else slice (if j = n then w.p else w.q) (i * 4156) 4156
  encoded (codeword (cwHeader w.slc false false (decide (n ≤ j)) l) body (d.packageTemp die))

/-- The pages that a stripe unit fills on a die in row r of its segment: c codewords each, codeword i at column i × 4,608 (R275). -/
def Dev.unitPages (d : Dev) (l : Nat) (w : Row) (n j die block r : Nat) : List FAddr :=
  let c := match d.dieProfile die with | some p => Nat.max 1 p.cwPerPage | none => 1
  let pay := w.payload n
  (upTo (16 / c)).map fun q =>
    { row := d.rowAddress die block (r * (16 / c) + q), column := 0
      data := (upTo c).flatMap fun i => d.unitCodeword l w n pay j (q * c + i) die, length := 0 }

/-- The STRIPE entry of a row as it is mirrored. -/
def JEntry.jrn (e : JEntry) : Jrn :=
  { type := e.type, group := e.group, segment := e.segment, logseq := e.logseq, jseq := e.jseq, row := e.row, slotA := e.slotA, slotB := e.slotB }

/-- Whether the journal ring has a buffer for one more entry: 512-byte buffers of class J hold 8 each (R207, R212). -/
def Dev.ringRoom (d : Dev) : Bool := decide (d.journal.length < 8 * (d.handsOf .ring).length)

/-- The journal unit asks for a buffer ahead of its next entry, and lets go what the entries no longer take. -/
def Dev.ringAsk (d : Dev) : Dev :=
  let keep := d.journal.length / 8 + 1
  let hs := d.handsOf .ring
  if keep < hs.length then (hs.drop keep).foldl (fun d h => d.release h) (d.setHands .ring (hs.take keep))
  else if d.groups.isEmpty then d else d.ask .ring 512 keep .J noTenant

/-- Issue a journal entry (R374): the next JSEQ, mirrored while linked. -/
def Dev.jentry (d : Dev) (type g segment l row a b : Nat) : Dev :=
  let e : JEntry := { type := type, group := g, segment := segment, logseq := l, jseq := d.nextJseq, row := row, slotA := a, slotB := b
                      onA := false, onB := false, linkSeq := none, mirrored := false }
  let r := d.mirrorSend (.jrn [e.jrn])
  let d := { r.1 with journal := r.1.journal ++ [{ e with linkSeq := r.2 }], nextJseq := r.1.nextJseq + 1 }
  d.wr ARR_JRN_STAT_FREE (32768 - d.journal.length)

/-! ### Journal programs (R375, R377, R378) -/

/-- The members of a group's journal pair: slot, die, and whether it is member A. -/
def Group.pair (x : Group) : List (Nat × Nat × Bool) :=
  [(x.jrnA, true), (x.jrnB, false)].filterMap fun e => match x.member e.1 with
    | some m => if m.failed then none else some (e.1, m.die, e.2)
    | none => none

/-- Whether an entry still has to be programmed on a member. -/
def JEntry.wants (e : JEntry) (g : Nat) (a : Bool) : Bool := decide (e.group = g) && (if a then !e.onA else !e.onB)

/-- The 64 bytes of a journal entry (Table 8-2). FIRST_MLSEQ and LAST_MLSEQ are the first and last record issued so far that name content in the row (of
a row of moved data none need have been, DEDUCED, log 168);
DUMP marks a row that the power-loss dump has taken; a REHOME entry holds its new slots in the two slot places. -/
def Dev.entryBytes (d : Dev) (e : JEntry) : Bytes :=
  let b : Bytes := match e.type with
    | 1 =>
      let flags := match d.row e.group e.logseq with
        | some w => b2n w.slc + 2 * b2n (d.dumping && d.boot.dumped.contains (rowKey e.group e.logseq)) + 4 * b2n w.move + 8 * b2n (decide (w.claim = .V))
        | none => 0
      let units := match d.row e.group e.logseq with | some w => w.units | none => 0
      let geom := match d.group e.group with | some x => x.geometry | none => 0
      let named := ((d.row e.group e.logseq).bind (·.mlseqs)).getD (0, 0)
      toLE 2 flags ++ toLE 4 e.segment ++ toLE 8 e.logseq ++ toLE 8 (d.logStripe e.group e.slotA) ++ toLE 2 e.row ++ toLE 1 units ++ toLE 1 geom
        ++ zeros 4 ++ toLE 8 named.1 ++ toLE 8 named.2
    | 2 => zeros 6 ++ toLE 8 e.logseq ++ zeros 32
    | _ => zeros 26 ++ toLE 4 (e.slotA % 32 + e.slotB % 32 * 256) ++ zeros 16
  let b := toLE 1 e.type ++ toLE 1 e.group ++ b ++ toLE 8 e.jseq
  b ++ toLE 4 (crc32c b) ++ zeros 4

/-- Codewords that a journal block holds. -/
def journalCap (p : Profile) : Nat := pagesIn p true * p.cwPerPage

/-- The journal blocks of slot m of a group. -/
def Dev.modMember (d : Dev) (g m : Nat) (f : Member → Member) : Dev := d.modGroup g fun x => { x with members := modAt x.members m f }

/-- The write point of member m's journal: the block that takes the next codeword, and how many it holds; none where a new block is to be taken. -/
def Dev.journalPoint (d : Dev) (g m : Nat) : Option (Nat × Nat) :=
  match ((d.group g).bind fun x => x.member m).bind fun k => k.jblocks.head? with
  | some (b, _, k, false) => some (b, k)
  | _ => none

/-- A FREE block of the primer pool becomes the newest journal block of a member: OPEN while it is written (R378). -/
def Dev.journalBlock (d : Dev) (g m die : Nat) : Option (Dev × Nat) :=
  (d.freeBlock die true false).map fun b => ((d.openBlock die b true).modMember g m fun k => { k with jblocks := (b, 0, 0, false) :: k.jblocks }, b)

/-- Where the next n codewords of member m's journal go (R377): from the write point of its open block, or of a new one, on into another new block
where they fill it. The blocks are taken now; none where the primer pool has none. -/
def Dev.journalTake (d : Dev) (g m die n : Nat) : Option (Dev × List (Nat × Nat)) :=
  let cap := match d.dieProfile die with | some p => journalCap p | none => 0
  let first : Option (Dev × Nat × Nat) := match d.journalPoint g m with
    | some (b, k) => some (d, b, k)
    | none => (d.journalBlock g m die).map fun e => (e.1, e.2, 0)
  first.bind fun f =>
    if f.2.2 + n ≤ cap then some (f.1, (upTo n).map fun i => (f.2.1, f.2.2 + i)) else
    (f.1.journalBlock g m die).map fun e =>
      (e.1, (upTo n).map fun i => if f.2.2 + i < cap then (f.2.1, f.2.2 + i) else (e.2, f.2.2 + i - cap))

/-- The page writes of the JOURNAL codewords of some entries at their places, 64 entries to each (R377, Table 6-6). -/
def Dev.journalPages (d : Dev) (die : Nat) (es : List JEntry) (places : List (Nat × Nat)) : List FAddr :=
  let c := match d.dieProfile die with | some p => Nat.max 1 p.cwPerPage | none => 1
  let cws := (upTo (ceilDiv es.length 64)).map fun i => (es.drop (64 * i)).take 64
  (cws.zip places).map fun e =>
    let body := padTo 4096 (e.1.flatMap d.entryBytes) ++ zeros 8 ++ toLE 2 0xFFFF ++ zeros 50
    { row := d.rowAddress die e.2.1 (e.2.2 / c), column := e.2.2 % c * 4608
      data := encoded (codeword (cwHeader true false true false 0) body (d.packageTemp die)), length := 0 }

/-- Whether the records of every grain in a row have been issued. -/
def Dev.rowIssued (d : Dev) (w : Row) : Bool :=
  w.items.all fun i => match i.cargo with
    | .grain k n _ => match (tget d.cmds k).bind fun c => tget c.grains n with
      | some x => x.issued || x.mapped || decide (18 ≤ x.step)
      | none => true
    | _ => true

/-- Whether an entry can be programmed: a STRIPE entry names the records of its row's grains, so that they have been issued (Table 8-2). -/
def Dev.entryNamed (d : Dev) (e : JEntry) : Bool :=
  decide (e.type ≠ 1) || match d.row e.group e.logseq with | some w => d.rowIssued w | none => true

/-- The entries that wait for member A or B of a group, a REHOME entry before the others (R381). -/
def Dev.entriesFor (d : Dev) (g : Nat) (a : Bool) : List JEntry :=
  let w := d.journal.filter fun j => j.wants g a && d.entryNamed j
  (w.filter fun j => decide (j.type = 3)) ++ w.filter fun j => decide (j.type ≠ 3)

/-- Begin the next journal program of a group on each member that runs none, with every entry then waiting for it, once the journal
pages of class J that it takes are held (R212, R377) and it has a block to go to. -/
def Dev.journalKick (d : Dev) (g : Nat) : Dev :=
  match d.group g with
  | none => d
  | some x => x.pair.foldl (fun d e =>
      let busy := d.flash.any fun o => decide (o.die = e.2.1) && (match o.op with | .journal k _ => decide (k = g) | _ => false)
      let w := d.entriesFor g e.2.2
      if busy ∨ w.isEmpty then d else
      let need := ceilDiv (w.length * 64) 16384
      let d := d.ask (.page g e.1) 16384 need .J noTenant
      if (d.handsOf (.page g e.1)).length < need then d else
      match d.journalTake g e.1 e.2.1 (ceilDiv w.length 64) with
      | none => d
      | some t => t.1.flashPut [.new e.2.1 .J (.journal g (w.map (·.jseq))) (seqProgram true) (t.1.journalPages e.2.1 w t.2)]) d

/-- Key of a block of a die. -/
def blockKey (die b : Nat) : Nat := die * 2 ^ 20 + b

/-- The 64-byte entries in a JOURNAL codeword as it was programmed. -/
def journalEntries (data : Bytes) : List Bytes := ((upTo 64).map fun i => slice data (8 + 64 * i) 64).filter fun e => decide (le e 0 1 ≠ 0)

/-- One codeword more in block b of a member's journal, with its entries: a full block is SEALED (R377, R378). -/
def Dev.journalWrote (d : Dev) (g m die b : Nat) (es : List Bytes) : Dev :=
  match d.dieProfile die with
  | some p =>
    let top := (es.map fun e => le e 0x30 8).foldl Nat.max 0
    let full (n : Nat) : Bool := decide (journalCap p ≤ n)
    let one (q : Nat × Nat × Nat × Bool) : Nat × Nat × Nat × Bool :=
      if q.1 = b then (b, Nat.max q.2.1 top, q.2.2.1 + 1, q.2.2.2 || full (q.2.2.1 + 1)) else q
    let d := { d with jpages := tput d.jpages (blockKey die b) ((tget d.jpages (blockKey die b)).getD [] ++ es) }
    let d := d.modMember g m fun k => { k with jblocks := k.jblocks.map one }
    if (((d.group g).bind fun x => x.member m).any fun k => k.jblocks.any fun q => decide (q.1 = b) && full q.2.2.1) then d.sealBlock die b else d
  | none => d

/-- Blocks of a die that no segment names go to ERASING. -/
def Dev.eraseBlocks (d : Dev) (g die : Nat) (bs : List Nat) : Dev :=
  bs.foldl (fun d b => (d.setBlock die b .erasing).flashPut [d.eraseOp die (.erase g (2 ^ 30 + b) b) b]) d

/-- Journal blocks of a member that hold no live entry and take no more go to ERASING (R378). -/
def Dev.journalTrim (d : Dev) (g m die : Nat) : Dev :=
  match (d.group g).bind fun x => x.member m with
  | none => d
  | some k =>
    let oldest := match (d.journal.filter fun j => j.group = g).head? with | some j => j.jseq | none => d.nextJseq
    let dead (b : Nat × Nat × Nat × Bool) : Bool := b.2.2.2 && decide (b.2.1 < oldest)
    (d.modMember g m fun k => { k with jblocks := k.jblocks.filter fun b => !dead b }).eraseBlocks g die ((k.jblocks.filter dead).map (·.1))

/-- Whether a die of a group can be read: it is no failed member (R387). -/
def Dev.readable (d : Dev) (g die : Nat) : Bool :=
  match d.group g with
  | some x => !(x.members.any fun m => decide (m.die = die) && m.failed)
  | none => false

/-- The journal head of a group as the anchor store receives it (R380, R381). -/
def Dev.journalHead (d : Dev) (g : Nat) (x : Group) : List (Nat × Nat) × Nat × Nat :=
  (x.pair.filterMap fun m => ((x.member m.1).bind fun k => k.jblocks.head?).map fun b => (m.2.1, b.1),
    ((d.journal.filter fun j => decide (j.group = g)).head?).elim d.nextJseq (·.jseq), x.committed)

/-- Re-homing is over once every live entry is on both members of the new pair: the journal head in the anchor store is that of the new pair, and the old
journal blocks that can still be reached go to ERASING (R381). -/
def Dev.rehomed (d : Dev) (g : Nat) : Dev :=
  match d.group g with
  | none => d
  | some x =>
    if x.rehoming ∧ d.journal.all (fun e => !(e.wants g true || e.wants g false)) then
      let d := (d.modGroup g fun x => { x with rehoming := false, oldJournal := [] })
      let d := { d with
        journal := (d.journal.filter fun e : JEntry => !(decide (e.group = g) && decide (e.type = 3))).map fun e : JEntry => if e.group = g then { e with held := [] } else e }
      let d := { d with boot := { d.boot with heads := tput d.boot.heads g (d.journalHead g x) } }
      let d := (x.oldJournal.filter fun b => d.readable g b.1).foldl (fun d b => d.eraseBlocks g b.1 [b.2]) d
      d.event 0x0503 0 0 g [x.jrnA, x.jrnB]
    else d

/-! ### Programs of rows (R375, R318) -/

/-- Whether a row's STRIPE entry is durable: on both members of the pair, or on one of them and in the mirror (R375); while the journal is re-homed, on a
surviving member of the old pair and in the mirror (R382). -/
def Dev.entryDurable (d : Dev) (g l : Nat) : Bool :=
  d.journal.any fun e => decide (e.type = 1) && decide (e.group = g) && decide (e.logseq = l) &&
    ((e.onA && e.onB) || ((e.onA || e.onB || e.held.any (d.readable g)) && e.mirrored && d.linked))

/-- The program operations of a row: one for each slot of its segment that has a block on a member that has not failed (R393). Their PROG_TEMP is the
temperature now, as they are put to the flash scheduler; Table 6-7 says 'at program', and a hold may delay the issue (DESIGN CHOICE, log 169). -/
def Dev.rowOps (d : Dev) (g l : Nat) (w : Row) : List FlashOp :=
  match d.seg g w.segment, d.group g with
  | some s, some x => s.blocks.zipIdx.filterMap fun b => b.1.bind fun k => if !d.readable g k.1 then none else
      some (.new k.1 (if w.move then .S else w.claim) (.program g l b.2) (seqProgram w.slc) (d.unitPages l w x.n (slotRole x.geometry w.row b.2) k.1 k.2 w.row))
  | _, _ => []

/-- Commands with a grain in a row, and the grains. -/
def Row.grains (w : Row) : List (Nat × Nat) := (w.items.filterMap fun i => match i.cargo with | .grain k g _ => some (k, g) | _ => none).eraseDups
def Row.cmds (w : Row) : List Nat := (w.grains.map (·.1)).eraseDups

/-- Whether the next piece of a write has been found waiting for buffers in a pool that can grant nothing (R210). Steps 15 and 16 are over for a grain once
its command has been acknowledged, or where its acknowledgement follows the program (R40, R42, R43). A write longer than 1 MiB that holds the buffers of
its earlier pieces until step 19 while the pool has none for a later one cannot be acknowledged before these are programmed: only while it so waits does the acceptance of a piece's records stand for its acknowledgement (DEDUCED, log 140). -/
def Dev.pieceStuck (d : Dev) (id : Nat) : Bool :=
  d.pools.any fun e => (d.nextGrant e.1).isNone && e.2.waiting.any fun r => r.waited && (match r.use with | .piece k _ => decide (k = id) | _ => false)

/-- Whether write steps 15 and 16 are over for a grain whose row is to be programmed while the pair is linked. -/
def Dev.ackedGrain (d : Dev) (id g : Nat) : Bool :=
  match tget d.cmds id with
  | none => true
  | some c =>
    decide (c.stage = .done) || c.msg.forceMedium ||
      decide (oneMiB < c.length) && decide (c.stage = .buffers) && d.pieceStuck id &&
        (match tget c.grains g with | some x => x.issued || x.mapped | none => true) &&
        (d.batches.all fun b => decide (b.cmd ≠ some id) || decide (b.piece ≠ c.pieceOf g) || b.mirrored)

/-- Whether a row may be programmed (write step 17): its entry is durable, and while the pair is linked the partner has accepted it with
its entry, and its writes have been acknowledged (R40, R51). -/
def Dev.mayProgram (d : Dev) (g l : Nat) (w : Row) : Bool :=
  d.entryDurable g l && (!d.linked ||
    w.mirrored && (d.journal.all fun j => !(decide (j.type = 1) && decide (j.jseq = w.jseq)) || j.mirrored) &&
      w.grains.all fun k => d.ackedGrain k.1 k.2)

/-- Whether every program of a row has a slot of its die (R242): a row without waits, and what produces rows with it. -/
def Dev.slotsGiven (d : Dev) (g : Nat) (ops : List FlashOp) : Bool := ops.all fun o => d.slotGiven g o.die o.claim

/-- The writes with data in row w of a group lose a planned slot, where slots of the group are reserved (R185, R196). -/
def Dev.noteRow (d : Dev) (g : Nat) (w : Row) : Dev :=
  if thas d.adm.slots g then d.noteCause 1 fun i _ => w.grains.any fun k => decide (k.1 = i) else d

/-- Start the program of every row that may be programmed and has its slots; one that a write-guard hold keeps back, or keeps from its slots, which held
programs fill (R242, R297), loses a planned slot (R196). -/
def Dev.startPrograms (d : Dev) : Dev :=
  d.rows.foldl (fun d e =>
    let g := e.1 / 2 ^ 40
    let l := e.1 % 2 ^ 40
    if e.2.state = .journalled ∧ d.mayProgram g l e.2 ∧ d.slotsGiven g (d.rowOps g l e.2) then
      ((d.modRow g l fun w => { w with state := .programming }).flashPut (d.rowOps g l e.2)).noteFlash fun n => d.guarded (diePort n)
    else if e.2.state = .journalled ∧ d.mayProgram g l e.2 ∧ (d.rowOps g l e.2).any fun o => d.guarded (diePort o.die) then d.noteRow g e.2
    else d) d

/-- Rows of a segment that still have to be programmed before the pages of row r are safe: those with a page whose program the profile's
paired-page rules let disturb one of row r's (R318). A segment that takes no more rows has none to come. -/
def Dev.disturbers (d : Dev) (g s r : Nat) : List Nat :=
  match d.seg g s, d.group g, d.groupProfile g with
  | some x, some y, some p =>
    if x.slc then [] else
    let per := Nat.max 1 (16 / Nat.max 1 p.cwPerPage)
    let pages := (upTo per).flatMap fun k => (tget p.disturbs (r * per + k)).getD []
    let rows := ((pages.map (· / per)).eraseDups).filter fun k => decide (r < k) && decide (k < rowsIn p false)
    rows.filter fun k => match d.rowIn g s k with
      | some (_, w) => decide (w.state ≠ .programmed)
      | none => decide (x.state = .open_) && decide (x.place ≠ 9) && decide (x.pos ≤ k * (y.n * unitBytes))
  | _, _, _ => []

/-- Whether a row counts as programmed (R318). -/
def Dev.rowCounts (d : Dev) (w : Row) : Bool := decide (w.state = .programmed) && (d.disturbers w.group w.segment w.row).isEmpty

/-- Whether a volume barrier covers a command of its tenant (R131): on a volume, what names it or its snapshots; on a snapshot, what names
that snapshot; CRYPTO_ERASE, what names a volume of the domain. -/
def Dev.covers (d : Dev) (b c : Cmd) : Bool :=
  c.op.usesV &&
    match b.op with
    | .volDelete => decide (c.volume = b.volume)
    | .volResize => decide (c.volume = b.volume)
    | .snapDelete => decide (c.msg.volume = b.msg.volume)
    | .cryptoErase => match d.vol c.volume with
      | some v => decide (v.tenant = b.tenant) && decide (v.keydom = b.msg.par 0x28 2)
      | none => false
    | _ => false

/-- Whether a command takes a snapshot whose parse divides its volume's writes (R143): a SNAP_CREATE, or a CLONE_CREATE of a volume (R432), until it has
done so. -/
def Cmd.divides (k : Cmd) : Bool :=
  (decide (k.op = .snapCreate) || decide (k.op = .cloneCreate)) && k.snap.isNone && decide (k.stage ≠ .done) && !k.committed

/-- Whether a command i that takes a snapshot waits at step 4 for a change that was parsed before it: because it has FENCE set, because a volume barrier
between the two waits for that change, or because their side is on its way to another part. Such a change passes its commit point first, so that the
snapshot has it: R143 would hold it until the snapshot commits, and neither could ever go on (DEDUCED, log 180). -/
def Dev.snapAwaits (d : Dev) (i : Nat) (k : Cmd) (id : Nat) (c : Cmd) : Bool :=
  decide (k.stage = .gate) && decide (id < i) &&
    (k.msg.fence || decide (k.hold = .drain) || d.cmds.any fun e =>
      decide (id < e.1) && decide (e.1 < i) && e.2.op.barrier && e.2.framed && decide (e.2.tenant = k.tenant) && decide (e.2.stage ≠ .done) &&
        d.covers e.2 c && d.covers e.2 k)

/-- Whether a change is held at its commit point (R143, R423, R432): a command that takes a snapshot of its volume has been parsed and has not taken it. -/
def Dev.snapHolds (d : Dev) (id : Nat) (c : Cmd) : Bool :=
  !c.committed && c.framed && d.cmds.any fun (e : Nat × Cmd) =>
    decide (e.1 ≠ id) && e.2.divides && decide (e.2.volume = c.volume) && !d.snapAwaits e.1 e.2 id c

/-- Whether the STRIPE entry of a row is the next of each write longer than 1 MiB that has data in it: no earlier row of the group holds
such data without its entry (R45). -/
def Dev.rowTurn (d : Dev) (g l : Nat) (w : Row) : Bool :=
  let long := w.cmds.filter fun k => match tget d.cmds k with | some c => decide (oneMiB < c.length) | none => false
  !(d.groupRows g).any fun e => decide (e.1 < l) && (decide (e.2.state = .filling) || decide (e.2.state = .closed)) &&
    e.2.cmds.any fun k => long.contains k

/-- Whether the parity engine has what write steps 14 and 15 of a row take: buffers for its P and Q, room for its STRIPE entry, its
turn, and no snapshot about to be taken that holds a write in it. Once the dump has been fixed no row passes step 14 (R51, Table 1-6). -/
def Dev.parityReady (d : Dev) (g l : Nat) (w : Row) : Bool :=
  let k := match d.group g with | some x => geoK x.geometry | none => 0
  !d.dumping && (decide (w.units = 0) || decide (k ≤ (d.handsOf (.parity g l)).length)) && d.ringRoom && d.rowTurn g l w &&
    w.cmds.all fun k => match tget d.cmds k with | some c => !d.snapHolds k c | none => true

/-- Parity of a closed row, its STRIPE entry and its mirror frames (write steps 14 and 15). -/
def Dev.rowParity (d : Dev) (g l : Nat) : Dev :=
  match d.row g l, d.group g with
  | some w, some x =>
    if w.state ≠ .closed then d else
    let t := d.takeHands (.parity g l) (geoK x.geometry)
    let d := (t.1.parityDone (.row g l)).modRow g l fun w => { w with bufs := w.bufs ++ t.2 }
    let pay := w.payload x.n
    let us := (upTo x.n).map fun j => d.unitBody l w x.n pay j
    let r := d.mirrorSend (.data g l (pay.take (w.units * unitBytes)))
    let j := r.1.nextJseq
    let d := r.1.modRow g l fun w => { w with
      p := parityP us, q := if geoK x.geometry = 2 then parityQ us else [], state := .journalled, jseq := j, linkSeq := r.2 }
    d.jentry 1 g w.segment l w.row w.slotA w.slotB
  | _, _ => d

/-! ### Step 18: map updates and commits (R316, R376) -/

/-- Whether a row is programmed, or retired already. -/
def Dev.rowDone (d : Dev) (g l : Nat) : Bool := match d.row g l with | some w => d.rowCounts w | none => true

/-- Rows of a group that carry a batch's records. -/
def Dev.recordRows (d : Dev) (b : Batch) : List (Nat × Row) :=
  (d.groupRows b.group).filter fun e => e.2.items.any fun i => decide (i.cargo = .records b.group b.first)

/-- Whether a batch is durable: every codeword that holds its records programmed (R317). -/
def Dev.batchDurable (d : Dev) (b : Batch) : Bool := b.placed && (d.recordRows b).all fun e => d.rowCounts e.2

/-- Clear PENDING of the contents a batch makes, once it is durable (R420). -/
def Dev.clearPending (d : Dev) (b : Batch) : Dev :=
  b.recs.foldl (fun d r => match r with
    | .crecNew c _ _ _ _ _ => match tget d.crecs c with
      | some k => if k.indexed then
          d.setBucket k.bucket ((d.bucket k.bucket).map fun e => if e.content = c then { e with pending := false } else e) else d
      | none => d
    | _ => d) d

/-- Grains of a command's piece marked mapped; the holds of those that were hits end with their references applied (R419). -/
def Dev.markMapped (d : Dev) (b : Batch) : Dev :=
  match b.cmd.bind fun id => (tget d.cmds id).map fun c => (id, c) with
  | none => d
  | some (id, c) =>
    let hits := if c.op ≠ .write then [] else c.grains.filterMap fun e => if c.pieceOf e.1 = b.piece ∧ !e.2.mapped then e.2.match? else none
    let d := d.modCmd id fun c => { c with grains := tmap c.grains fun g x => if c.pieceOf g = b.piece then { x with mapped := true } else x }
    hits.foldl (fun d m => d.unhold m) d

/-- What the batch of one command, or the device's own, puts in place of mapped grains of others: those are no longer served from their
buffers (R49). -/
def Dev.markStale (d : Dev) (b : Batch) : Dev :=
  let hit (v g : Nat) : Bool := b.recs.any fun r => match r with
    | .vmap w n _ => decide (w = v) && decide (n = g)
    | .volDelete w => decide (w = v)
    | _ => false
  { d with cmds := tmap d.cmds fun i c =>
      if b.cmd = some i then c
      else { c with grains := tmap c.grains fun g x => if x.mapped && hit c.volume g then { x with stale := true } else x } }

/-- Map and delta entries that name some content of key domain k. -/
def Dev.naming (d : Dev) (k : Nat) (cs : List Nat) : Nat :=
  let hit (e : Entry) : Bool := decide (e.kind = 2) && cs.contains e.content
  sumN ((d.vols.filter fun v => decide (v.2.tenant * 16 + v.2.keydom = k)).map fun v =>
    countP v.2.map (fun e => hit e.2) + sumN (v.2.snaps.map fun s => countP s.2.delta fun e => hit e.2))

/-- Content that some records name: what is new, what gains or loses references, what entries come to name. -/
def namedBy (recs : List Rec) : List Nat := (recs.filterMap fun r => match r with
  | .crecNew c _ _ _ _ _ => some c
  | .crecRef c _ => some c
  | .vmap _ _ e => if e.kind = 2 then some e.content else none
  | _ => none).eraseDups

/-- Key domains, with their tenants, whose maps some records change. -/
def Dev.domainsOf (d d0 : Dev) (recs : List Rec) : List Nat := ((recs.filterMap fun r => match r with
  | .vmap v _ _ => some v
  | .deltaPut v _ _ _ => some v
  | .deltaDrop v _ _ => some v
  | .volDelete v => some v
  | _ => none).eraseDups.filterMap fun v => ((d0.vol v).orElse fun _ => d.vol v).map fun x => x.tenant * 16 + x.keydom).eraseDups

/-- Ledger 4 compared after the records of a batch have been applied (Table 5-5), for each key domain whose maps they change: the change in its map and delta
entries that name unpinned content of the batch against the change in the sum of the reference counts of what it names, before or after. Content that
none of the domains names counts for the first; content with no record on either side has no count. INSTANCE is the number of the key domain, without its
tenant (DESIGN CHOICE, log 136). -/
def Dev.checkRefs (d d0 : Dev) (recs : List Rec) : Dev :=
  let doms := d.domainsOf d0 recs
  let free (e : Dev) (c : Nat) : Bool := match tget e.crecs c with | some x => !x.pinned | none => true
  let cs := (namedBy recs).filter fun c => free d c && free d0 c && (thas d.crecs c || thas d0.crecs c)
  let names (k c : Nat) : Bool := decide (d.naming k [c] ≠ 0) || decide (d0.naming k [c] ≠ 0)
  let count (e : Dev) (l : List Nat) : Nat := sumN (l.map fun c => match tget e.crecs c with | some x => x.refs | none => 0)
  doms.foldl (fun (d : Dev) k =>
    let mine := cs.filter fun c => names k c || decide (doms.head? = some k) && !doms.any fun j => names j c
    if d.naming k mine + count d0 mine = d0.naming k mine + count d mine then d
    else d.breach 4 0 (k % 16) (d.naming k mine + 2 ^ 64 - d0.naming k mine) (count d mine + 2 ^ 64 - count d0 mine)) d

/-- Apply the durable batches of every group in map-log order; a batch waits for the rows that hold the data it names. -/
def Dev.applyReady : Nat → Dev → Dev
  | 0, d => d
  | fuel + 1, d =>
    let d := (d.batches.filter fun b => !b.durable && d.batchDurable b).foldl (fun d b => d.clearPending b) d
    let d := { d with batches := d.batches.map fun b => if d.batchDurable b then { b with durable := true } else b }
    let first := d.groups.filterMap fun e => (d.batchesOf e.1).head?
    match first.find? fun b => b.durable && b.needs.all fun l => d.rowDone b.group l with
    | none => d
    | some b =>
      let d := { d with batches := d.batches.filter fun k => !(decide (k.group = b.group) && decide (k.first = b.first)) }
      let d := { d with ckpt := { d.ckpt with past := d.ckpt.past ++ [(b.group, b.first, b.recs)] } }
      Dev.applyReady fuel ((((d.applyBatch b).checkRefs d b.recs).markStale b).markMapped b)

/-- Whether every batch from FIRST_MLSEQ to LAST_MLSEQ of a row is durable, those of its grains having been issued (R376). -/
def Dev.rowLogged (d : Dev) (g : Nat) (w : Row) : Bool :=
  d.rowIssued w && match w.mlseqs with
    | some (a, b) => (d.batchesOf g).all fun k => decide (b < k.first) || decide (k.first + k.recs.length ≤ a) || d.batchDurable k
    | none => true

/-- The highest LOGSEQ up to which every row of a group is programmed and its batches durable (R376); a LOGSEQ past the last COMMIT under which no row
stands is that of a row which a boot found unprogrammed. -/
def Dev.commitTop (d : Dev) (g l : Nat) : Nat :=
  (((d.groupRows g).takeWhile fun e => d.rowCounts e.2 && d.rowLogged g e.2).map (·.1)).foldl Nat.max l

/-- COMMIT entries (R376): STRIPE entries of the rows they cover leave the ring, the rows leave the buffers, and the partner is told
to release them. -/
def Dev.commitGroup (d : Dev) (g : Nat) : Dev :=
  match d.group g with
  | none => d
  | some x =>
    let l := d.commitTop g x.committed
    if l ≤ x.committed ∨ !d.ringRoom then d else
    let gone := (d.groupRows g).filter fun e => e.1 ≤ l
    let d := gone.foldl (fun d e => e.2.bufs.foldl (fun d h => d.release h) d) d
    let refs := ((d.groupRows g).filter fun e => e.1 ≤ l).map fun e => (g, e.1)
    let d := { d with
      journal := d.journal.filter fun e => !(decide (e.group = g) && (decide (e.type = 2) || decide (e.type = 1) && decide (e.logseq ≤ l)))
      rows := d.rows.filter fun e => !(decide (e.1 / 2 ^ 40 = g) && decide (e.1 % 2 ^ 40 ≤ l)) }
    let d := (d.modGroup g fun x => { x with committed := l }).jentry 2 g 0 l 0 0 0
    ((d.mirrorSend (.release refs)).1).journalKick g

/-- Step 18 and what it releases, brought up to date: batches placed, journal programs and row programs begun, maps updated, rows
committed. -/
def Dev.settleLog (d : Dev) : Dev :=
  let gs := tkeys d.groups fun _ _ => true
  let d := Dev.placeBatches (2 * d.batches.length + 4) d
  let d := gs.foldl (fun d g => (d.rehomed g).journalKick g) d
  let d := d.startPrograms
  let d := Dev.applyReady d.batches.length d
  let d := (gs.foldl (fun d g => d.commitGroup g) d).ringAsk
  gs.foldl (fun d g => d.spaceCheck g) d

/-! ### Acceptance by the partner (R42, R650) -/

/-- Whether SEQ `x` is at or before SEQ `top`, modulo 2^32. -/
def seqBy (x : Option Nat) (top : Nat) : Bool := match x with | some s => decide ((top + 2 ^ 32 - s) % 2 ^ 32 < 2 ^ 31) | none => false

/-- Everything sent up to SEQ `top` has been accepted into the partner's mirror region. -/
def Dev.accepted (d : Dev) (top : Nat) : Dev :=
  { d with
    rows := tmap d.rows fun _ w => if seqBy w.linkSeq top then { w with mirrored := true } else w
    journal := d.journal.map fun e => if seqBy e.linkSeq top then { e with mirrored := true } else e
    batches := d.batches.map fun b => if seqBy b.linkSeq top then { b with mirrored := true } else b
    peer := { d.peer with accepted := top } }

/-! ### Ends of programs (R318, R344) -/

/-- A row's program has completed: the segment's write point moved, the segment sealed at its end. -/
def Dev.rowProgrammed (d : Dev) (g l : Nat) : Dev :=
  match d.row g l with
  | none => d
  | some w =>
    match d.seg g w.segment, d.groupProfile g with
    | some s, some p =>
      let d := (d.modRow g l fun w => { w with state := .programmed }).modSeg g w.segment fun s => { s with rows := s.rows + 1 }
      let left (i : Nat) : Bool := (d.groupRows g).any fun e => decide (e.2.state ≠ .programmed) && (decide (e.2.slotA = i) || decide (e.2.slotB = i))
      let whole (k : Slot) : Bool := decide (k.segment = w.segment) && decide ((k.unit + 16) * unitBytes ≤ s.pos)
      let d := d.sealSlots g fun i k => whole k && !left i
      if rowsIn p s.slc ≤ s.rows + 1 then d.sealSegment g w.segment else d
    | _, _ => d.modRow g l fun w => { w with state := .programmed }

end Sys2Proof.Machine
end

