-- ==== Sys2Proof/Machine/Reads.lean ====
section
/-! DEFINITION. Flash reads: where a fragment's codewords lie, marker search, decode stages and reconstruction from parity (read steps
7–9; chapters 06 and 08). -/

namespace Sys2Proof.Machine

/-! ### Where a codeword lies (R305, R312, R313, R365) -/

/-- Row and slot of codeword cw of a log stripe that begins at data unit `unit` of its segment: data units lie in the order of rows and then of roles. -/
def Group.placeOf (x : Group) (unit cw : Nat) : Nat × Nat :=
  let u := unit + cw / 16
  (u / Nat.max 1 x.n, roleSlot x.geometry (u / Nat.max 1 x.n) (u % Nat.max 1 x.n))

/-- The page of the fine overlay that holds a codeword, where there is one: of a block run in one-bit mode (R313, R344). -/
def Dev.overlayAt (d : Dev) (g slot cw : Nat) : Option (Nat × Nat × Nat) :=
  match d.groupProfile g, d.slot g slot with
  | some p, some k => if k.ovl = 0 then none else tget d.overlay (ovlKey g slot (cw / Nat.max 1 p.cwPerPage))
  | _, _ => none

/-- Whether a log stripe lies at data unit `unit` of segment s now. -/
def Dev.liesAt (d : Dev) (g slot s unit : Nat) : Bool := (d.slot g slot).any fun k => decide (k.segment = s) && decide (k.unit = unit)

/-- Die, block and page that hold a codeword of a log stripe at data unit `unit` of segment s: the fine overlay's page where it has one (R313), as long as
the log stripe lies there. -/
def Dev.homeIn (d : Dev) (g slot s unit cw : Nat) : Option (Nat × Nat × Nat) :=
  match d.group g, d.groupProfile g with
  | some x, some p =>
    let c := Nat.max 1 p.cwPerPage
    let e := x.placeOf unit cw
    match if d.liesAt g slot s unit then d.overlayAt g slot cw else none with
    | some e => some e
    | none => (d.seg g s).bind fun x => (x.blocks.getD e.2 none).map fun b => (b.1, b.2, e.1 * (16 / c) + cw % 16 / c)
  | _, _ => none

/-- Die, block and page that hold a codeword now. -/
def Dev.home (d : Dev) (g slot cw : Nat) : Option (Nat × Nat × Nat) := (d.slot g slot).bind fun k => d.homeIn g slot k.segment k.unit cw

/-- A codeword of a read before it is sensed. -/
def CwRead.fresh (die block page : Nat) (slc readable : Bool) : CwRead :=
  { die := die, block := block, page := page, slc := slc, stage := if readable then 1 else 6, retry := 0, found := false, decoder := none
    queued := none, bytes := none, unwritten := false, lost := !readable }

/-- A page of a block is read: at the profile's disturb limit its segment is claimed at order 2 (R343). -/
def Dev.countRead (d : Dev) (die b : Nat) : Dev :=
  let d := d.modBlk die b fun k => { k with reads := k.reads + 1 }
  match d.blk die b, d.dieProfile die with
  | some k, some p =>
    if (if k.slc then p.disturbSlc else p.disturbQlc) ≤ k.reads then
      (d.segsOn die b).foldl (fun d s => d.claim s.1 s.2 .media) d
    else d
  | _, _ => d

/-- A codeword of a row that the partner mirrored here and had not programmed (R643): its payload, behind eight bytes that stand for the
frame header. -/
def Dev.mirrorCw (d : Dev) (g slot cw : Nat) : Option Bytes :=
  match d.slot g slot, d.group g with
  | some k, some x =>
    let n := Nat.max 1 x.n
    let u := k.unit + cw / 16
    match d.peer.mirror.journal.find? fun e =>
      decide (e.type = 1) && decide (e.group = g) && decide (e.segment = k.segment) && decide (e.row = u / n) with
    | none => none
    | some e => (tget d.peer.mirror.data (rowKey g e.logseq)).bind fun b =>
        let p := slice b (u % n * unitBytes + cw % 16 * 4096) 4096
        if p.length = 4096 then some (zeros 8 ++ p) else none
  | _, _ => none

/-- Begin a flash read of bytes of a log stripe that lies, or lay when its locator was taken, at data unit `unit` of segment s (read step 7). Codewords that
no member can give wait for reconstruction (R391, R393). Answers the read's number. -/
def Dev.startReadAt (d : Dev) (use : ReadUse) (g slot s unit : Nat) (slc : Bool) (offset size : Nat) (c : Claim) : Dev × Nat :=
  let id := d.nextRead
  let first := offset / 4096
  let last := (offset + Nat.max 1 size - 1) / 4096
  let nums := ((upTo (last + 1)).filter (first ≤ ·))
  let here := d.liesAt g slot s unit
  let one (cw : Nat) : Nat × CwRead :=
    match d.homeIn g slot s unit cw with
    | some (die, b, page) =>
      let at_ := if here then d.mirrorCw g slot cw else none
      let ovl := here && (d.overlayAt g slot cw).isSome
      (cw, { CwRead.fresh die b page (slc || ovl) (at_.isSome || d.readable g die) with found := at_.isSome, bytes := at_ })
    | none => (cw, CwRead.fresh 0 0 0 slc false)
  let cws := nums.map one
  let r : FRead := { use := use, group := g, slot := slot, offset := offset, size := size, claim := c, segment := s, cws := cws, unit := unit }
  let d := { d with freads := tput d.freads id r, nextRead := id + 1 }
  let d := (cws.filter fun e => e.2.lost).foldl (fun d e => d.sendParity (portQuadrant (diePort e.2.die)) (.cw id e.1)) d
  let per := match d.groupProfile g with | some p => Nat.max 1 p.cwPerPage | none => 1
  let sensed := cws.filter fun e => !e.2.lost && e.2.bytes.isNone
  let pages := (sensed.map fun e => (e.2.die, e.2.block, e.1 / per)).eraseDups
  let d := pages.foldl (fun d e => d.countRead e.1 e.2.1) d
  (d.flashPut (sensed.map fun e => d.senseOp id e.1 e.2 c), id)

/-- Begin a flash read of bytes of a log stripe where it lies now. -/
def Dev.startRead (d : Dev) (use : ReadUse) (g slot offset size : Nat) (c : Claim) : Dev × Nat :=
  match d.slot g slot with
  | none => (d, d.nextRead)
  | some k => d.startReadAt use g slot k.segment k.unit k.slc offset size c

/-! ### Marker search (R277, R278) -/

/-- A codeword of a read changed by f. -/
def Dev.modCw (d : Dev) (id cw : Nat) (f : CwRead → CwRead) : Dev :=
  { d with freads := tmod d.freads id fun r => { r with cws := tmod r.cws cw f } }

/-- The codeword of a read. -/
def Dev.cw (d : Dev) (id cw : Nat) : Option (FRead × CwRead) := (tget d.freads id).bind fun r => (tget r.cws cw).map fun w => (r, w)

/-- Count a codeword in the port's window, with a slip if there was one, and its bits where the marker was found (R277, R278). -/
def Dev.countSlip (d : Dev) (n : Nat) (slipped : Bool) (by_ : Option Int) : Dev :=
  let d := d.modPort n fun p => { p with codewords := p.codewords + 1 }
  let d := if slipped then d.bump (FLP_SLIP_SLIPS n) else d
  let d := match by_ with
    | some s => d.wr (FLP_SLIP_LAST_OFFSET n) (unsigned 5 s)
    | none => d
  if d.rd (FLP_SLIP_THRESHOLD n) < d.rd (FLP_SLIP_SLIPS n) then
    (d.wr (FLP_SLIP_SLIPS n) 0).modPort n fun p => { p with due := true, codewords := 0 }
  else match tget d.ports n with
    | some p => if 1000000 ≤ p.codewords then (d.wr (FLP_SLIP_SLIPS n) 0).modPort n fun p => { p with codewords := 0 } else d
    | none => d

/-- Read a codeword again for a further stage, which senses its page once more (R343). -/
def Dev.readAgain (d : Dev) (id cw stage retry : Nat) : Dev :=
  match d.cw id cw with
  | none => d
  | some (r, w) =>
    let w := { w with stage := stage, retry := retry, found := false }
    let d := (d.modCw id cw fun _ => w).countRead w.die w.block
    d.flashPut [d.senseOp id cw w r.claim]

/-- Whether a read reads a log stripe, whose lost codewords are reconstructed one by one: not a sample, nor the units of a row. -/
def ReadUse.stripes (u : ReadUse) : Bool :=
  match u with
  | .sample _ _ | .unit _ _ _ => false
  | _ => true

/-- A codeword cannot be decoded (stage 6): counted, its block noted, and marked for retirement at the second time; the segments that hold a page of the
block are claimed, or for a page of the overlay the segment it belongs to (R280, R352). -/
def Dev.loseCw (d : Dev) (id cw : Nat) : Dev :=
  match d.cw id cw with
  | none => d
  | some (r, w) =>
    let d := d.modCw id cw fun w => { w with stage := 6, lost := true }
    let d := if r.use.stripes then d.sendParity (portQuadrant (diePort w.die)) (.cw id cw) else d
    let d := (d.bump (LDPC_CNT_COUNT 3)).modBlk w.die w.block fun b =>
      { b with stage6 := b.stage6 + 1, retire := b.retire || decide (2 ≤ b.stage6 + 1) }
    match r.use with
    | .sample die b => (d.segsOn die b).foldl (fun d s => d.claim s.1 s.2 .media) d
    | _ => d.claim r.group r.segment .media

/-- The stage after a failed one (Table 6-8): stages 12–14 are the soft decodes under a retry set. None: uncorrectable. -/
def Dev.nextStage (d : Dev) (w : CwRead) : Option (Nat × Nat) :=
  let soft := d.rd LDPC_CFG_SOFT_READS
  let sets := match d.dieProfile w.die with | some p => Nat.min (d.rd LDPC_CFG_RETRY_SETS) p.retry.length | none => 0
  let retry (j : Nat) : Option (Nat × Nat) := if j < sets then some (5, j) else none
  match w.stage with
  | 1 => if w.slc then retry 0 else some (2, 0)
  | 2 => if 2 ≤ soft then some (3, 0) else retry 0
  | 3 => if soft = 3 then some (4, 0) else retry 0
  | 4 => retry 0
  | 5 => if w.slc then retry (w.retry + 1) else some (12, w.retry)
  | 12 => if 2 ≤ soft then some (13, w.retry) else retry (w.retry + 1)
  | 13 => if soft = 3 then some (14, w.retry) else retry (w.retry + 1)
  | 14 => retry (w.retry + 1)
  | _ => none

/-- A sealed block that needs stage 5 while its group is below 10% of the retention limit at its erase count is marked for retirement (R352). -/
def Dev.youngRetry (d : Dev) (die b : Nat) : Dev :=
  match tget d.dies die, d.dieProfile die with
  | some x, some p =>
    if (x.blk b).state ≠ .sealed then d else
    match tget x.groups (x.blk b).bgroup with
    | some g => if g.age * 10 < p.retentionOf (x.blk b).erases * 1000000000 then d.modBlk die b fun k => { k with retire := true } else d
    | none => d
  | _, _ => d

/-- A codeword needs stage 5 (R352): its block is judged, and, where the read is no sample, an immediate sample of it is scheduled. -/
def Dev.needsRetry (d : Dev) (r : FRead) (w : CwRead) : Dev :=
  let d := d.youngRetry w.die w.block
  match r.use with
  | .sample _ _ => d
  | _ => match d.blk w.die w.block with
    | some k => if k.state ≠ .sealed then d else
      (d.modBlk w.die w.block fun k => { k with sampleDue := true }).ask (.sample w.die w.block) 16384 1 .G noTenant
    | none => d

/-- Go on to the next decode stage of a codeword. -/
def Dev.nextDecode (d : Dev) (id cw : Nat) : Dev :=
  match d.cw id cw with
  | none => d
  | some (r, w) => match d.nextStage w with
    | some (s, j) => (if s = 5 ∧ w.stage < 5 then d.needsRetry r w else d).readAgain id cw s j
    | none => d.loseCw id cw

/-! ### Decoding (R276, R280, R284) -/

/-- Quadrant of LDPC decoder i: 24 hard ones (0–95) and 8 soft ones (96–127) each. -/
def decoderQuadrant (i : Nat) : Nat := if 96 ≤ i then (i - 96) / 8 else i / 24

/-- LDPC decoder i has failed: its quadrant's spare of the same kind takes its place (R775), else it stays out of service. -/
def Dev.decoderFails (d : Dev) (i : Nat) : Dev :=
  let d := { d with ldpc := tdel d.ldpc i }
  let q := decoderQuadrant i
  let f := if 96 ≤ i then TOP_LDPC_SPARE_SOFT else TOP_LDPC_SPARE_HARD
  if bit (d.rd f) q then
    let d := d.wr f (setBits (d.rd f) q 1 0)
    let left := ((upTo 4).filter fun k => bit (d.rd TOP_LDPC_SPARE_HARD) k).length + ((upTo 4).filter fun k => bit (d.rd TOP_LDPC_SPARE_SOFT) k).length
    d.event 0x0603 0 0 i [6, left]
  else { d with outOfService := (d.outOfService.filter (· ≠ 1024 + i)) ++ [1024 + i] }

/-- Whether a decode stage is one of the soft decoders' (Table 6-8). -/
def softStage (stage : Nat) : Bool := !(decide (stage = 1) || decide (stage = 5))

/-- Whether a KAT_RUN waits to test LDPC decoder i: it takes no further codeword before (R173). -/
def Dev.katWants (d : Dev) (i : Nat) : Bool :=
  d.cmds.any fun e => decide (e.2.op = .katRun) && decide (e.2.hold = .kat) && decide (e.2.stage ≠ .done) && decide (e.2.msg.par 0x28 1 = 4) && e.2.waits.contains i

/-- The decoders of a kind and quadrant that are in service, and those of them that no codeword occupies. -/
def Dev.decodersOf (d : Dev) (soft : Bool) (q : Nat) : List Nat :=
  (if soft then (upTo 32).map (96 + ·) else upTo 96).filter fun i => decide (decoderQuadrant i = q) && !d.outOfService.contains (1024 + i)
def Dev.freeDecoders (d : Dev) (soft : Bool) (q : Nat) : List Nat :=
  (d.decodersOf soft q).filter fun i => !d.katWants i && !d.freads.any fun e => e.2.cws.any fun w => decide (w.2.decoder = some i)

/-- The codewords that wait for a decoder of a kind in a quadrant: read, codeword, whether of class V, place in the order of arrival. -/
def Dev.decodeQueue (d : Dev) (soft : Bool) (q : Nat) : List (Nat × Nat × Bool × Nat) :=
  d.freads.flatMap fun e => e.2.cws.filterMap fun w => match w.2.queued with
    | some (k, o) => if k = q ∧ softStage w.2.stage = soft then some (e.1, w.1, decide (e.2.claim = .V), o) else none
    | none => none

/-- A free decoder of a kind and quadrant, if there is one; which of several is a free value. -/
def Dev.pickDecoder (d : Dev) (soft : Bool) (q : Nat) : Option Nat :=
  let l := d.freeDecoders soft q
  l[Config.freeNat d.draws % l.length]?

/-- Free decoders of a kind and quadrant take the codewords that wait there: class V first, then in order of arrival (R282). -/
def Dev.serveQueue (soft : Bool) (q : Nat) : Nat → Dev → Dev
  | 0, d => d
  | fuel + 1, d =>
    match argMin (fun e => (if e.2.2.1 then 0 else 2 ^ 64) + e.2.2.2) (d.decodeQueue soft q), d.pickDecoder soft q with
    | some e, some i => Dev.serveQueue soft q fuel ((d.drawn).modCw e.1 e.2.1 fun w => { w with decoder := some i, queued := none })
    | _, _ => d

/-- Every queue served. -/
def Dev.serveDecoders (d : Dev) : Dev :=
  [false, true].foldl (fun d s => (upTo 4).foldl (fun d q => Dev.serveQueue s q (d.decodeQueue s q).length d) d) d

/-- A codeword that has been found goes to a decoder of its port's quadrant when one is free, else to the quadrant with the shortest queue for
its kind of decoder (R282); of equally short ones to one that has a free decoder, then to the lowest. Those that wait go first. -/
def Dev.toDecoder (d : Dev) (id cw : Nat) : Dev :=
  let d := d.serveDecoders
  match d.cw id cw with
  | none => d
  | some (_, w) =>
    let s := softStage w.stage
    match d.pickDecoder s (portQuadrant (diePort w.die)) with
    | some i => (d.drawn).modCw id cw fun w => { w with found := true, decoder := some i }
    | none =>
      let qs := (upTo 4).filter fun q => !(d.decodersOf s q).isEmpty
      let q := (argMin (fun q => 2 * (d.decodeQueue s q).length + b2n (d.freeDecoders s q).isEmpty) qs).getD (portQuadrant (diePort w.die))
      { (d.modCw id cw fun w => { w with found := true, queued := some (q, d.nextOrder) }) with nextOrder := d.nextOrder + 1 }.serveDecoders

/-- A flash read has delivered a capture of a codeword (R277): found at its place or after a slip, unwritten, or not found, which
goes on to the next stage that senses again, as one whose sequence has failed at a CHECK does (R263). Of a sample the capture is kept, for the
corrections of stage 1 to be counted (R351). A port in training transfers nothing (R268). An unwritten codeword is returned as that to the
sanding pass; of mapped data it is uncorrectable (R279). -/
def Dev.captured (d : Dev) (id cw : Nat) (cap : Bytes) : Dev :=
  match d.cw id cw with
  | none => d
  | some (r, w) =>
    let n := diePort w.die
    if !d.flashIssued w.die (.read id cw) ∨ (tget d.ports n).any (fun p => p.training) then d else
    let e := d.flashEnd w.die (.read id cw) statusPass
    let d := e.1
    let keep (d : Dev) (s : Int) : Dev := match r.use with
      | .sample _ _ => d.modCw id cw fun w => { w with cap := cap, at_ := (8 + s).toNat }
      | _ => d
    let d :=
      if e.2 then d.nextDecode id cw else
      if w.stage ≠ 1 ∧ w.stage ≠ 5 then d.toDecoder id cw else
      match findMarker cap with
      | some s => ((keep d s).countSlip n (decide (s ≠ 0)) (if s = 0 then none else some s)).toDecoder id cw
      | none =>
        if unwritten cap then
          let d := (d.countSlip n false none).bump (LDPC_CNT_COUNT 4)
          match r.use with
          | .sample _ _ => d.modCw id cw fun w => { w with unwritten := true, lost := true }
          | _ => (d.modCw id cw fun w => { w with unwritten := true }).loseCw id cw
        else (d.countSlip n true none).nextDecode id cw
    d.issueFlash

/-- A decoder has done a codeword: counted, and it takes the next. -/
def Dev.decoderDone (d : Dev) (id cw i : Nat) : Dev :=
  let x := (tget d.ldpc i).getD { decodes := 0, bad := [] }
  ({ d with ldpc := tput d.ldpc i { x with decodes := x.decodes + 1 } }.modCw id cw fun w => { w with decoder := none }).serveDecoders

/-- Decoder i has called a codeword corrected whose CW_CRC does not match (R276): at the fourth within 10^9 decodes it has failed (R775). -/
def Dev.falseDecode (d : Dev) (i : Nat) : Dev :=
  let x := (tget d.ldpc i).getD { decodes := 0, bad := [] }
  let bad := x.decodes :: x.bad.filter fun n => decide (x.decodes < n + 1000000000)
  if 4 ≤ bad.length then d.decoderFails i
  else { d with ldpc := tput d.ldpc i { x with bad := bad } }

/-- The bits that stage 1 has corrected: those in which the codeword as captured differs from its result (R351). -/
def CwRead.corrected (w : CwRead) (result : Bytes) : Nat :=
  let n := Nat.min 4608 result.length
  sumN ((xorB (toLE n (fromLE w.cap / 2 ^ w.at_)) (result.take n)).map onesByte)

/-- A read other than a sample has needed a retry set, and had its codeword: the page it lies in is refreshed through the overlay (R314), by a read of
its piece of the log stripe, unless one runs. When a single page is refreshed is the model's choice (DESIGN CHOICE, log 160). -/
def Dev.refreshPage (d : Dev) (r : FRead) (w : CwRead) (cw : Nat) : Dev :=
  let live : Bool := match r.use with | .sample _ _ | .unit _ _ _ | .refresh _ _ => false | _ => true
  match d.groupProfile r.group, d.slot r.group r.slot, d.home r.group r.slot cw with
  | some p, some k, some at_ =>
    let c := Nat.max 1 p.cwPerPage
    let piece := cw / c
    let runs := d.freads.any fun e => decide (e.2.group = r.group) && decide (e.2.use = .refresh r.slot piece)
    if !live ∨ runs ∨ k.state ≠ 2 ∨ at_ ≠ (w.die, w.block, w.page) then d
    else (d.startRead (.refresh r.slot piece) r.group r.slot (piece * c * 4096) (c * 4096) .G).1
  | _, _, _ => d

/-- The verdict of the decoder that has a codeword: `result` is the corrected codeword, or none. It is accepted only if its
CW_CRC matches; the bytes kept are 0x0000–0x1043. A retry set that succeeds is learned, and stands in the die until it reads another block group
(R284, R287). -/
def Dev.decoded (d : Dev) (id cw : Nat) (result : Option Bytes) : Dev :=
  match (d.cw id cw).bind fun e => e.2.decoder.map fun i => (e.2, i) with
  | none => d
  | some (w, i) =>
    let d := d.decoderDone id cw i
    if w.bytes.isSome ∨ w.lost then d else
    match result with
    | some b =>
      if le b 0x1044 4 = crc32c (b.take 0x1044) then
        let k := if w.stage = 1 then 0 else if w.stage = 5 ∨ 12 ≤ w.stage then 2 else 1
        let d := (d.bump (LDPC_CNT_COUNT k)).modCw id cw fun w =>
          { w with bytes := some (b.take 0x1044), fixes := if k = 0 then w.corrected b else 0 }
        match (if k = 2 then d.dieProfile w.die else none), (tget d.freads id), d.blk w.die w.block with
        | some p, some r, some x =>
          ((d.learn w.die w.block (p.retry.getD w.retry [])).modDie w.die fun y => { y with retried := some x.bgroup }).refreshPage r w cw
        | _, _, _ => d
      else ((d.bump (LDPC_CNT_COUNT 5)).falseDecode i).nextDecode id cw
    | none => d.nextDecode id cw

/-! ### Reconstruction (R367, R391, R395) -/

/-- Entry j of a list of optional unit bodies. -/
def unitAt (l : List (Option Bytes)) (j : Nat) : Option Bytes := l.getD j none

/-- Data body `want` of a row from its bodies by role, at most k of the row's n + k missing; none where they do not suffice. -/
def rebuildData (n k want : Nat) (us : List (Option Bytes)) : Option Bytes :=
  let zero := zeros 4156
  let missing := (upTo (n + k)).filter fun j => (unitAt us j).isNone
  if k < missing.length then none else
  let have_ := (upTo n).filterMap fun j => (unitAt us j).map fun b => (j, b)
  let pSum := have_.foldl (fun a x => xorB a x.2) zero
  let qSum := have_.foldl (fun a x => xorB a (x.2.map (gfMul 0x1D (gExp x.1)))) zero
  let scale (c : Byte) (b : Bytes) : Bytes := b.map (gfMul 0x1D c)
  match unitAt us want with
  | some b => some b
  | none =>
    match (missing.filter fun j => decide (j < n) && decide (j ≠ want)), unitAt us n, (if k = 2 then unitAt us (n + 1) else none) with
    | [], some p, _ => some (xorB p pSum)
    | [], none, some q => some (scale (gfInv 0x1D (gExp want)) (xorB q qSum))
    | [y], some p, some q =>
      let p' := xorB p pSum
      let q' := xorB q qSum
      some (scale (gfInv 0x1D (gExp want ^^^ gExp y)) (xorB q' (scale (gExp y) p')))
    | _, _, _ => none

/-- The body of role `want` of a row from the others (R367, R373): a data body, or P or Q, which are computed anew from the data. -/
def rebuildUnit (n k want : Nat) (us : List (Option Bytes)) : Option Bytes :=
  if want < n then rebuildData n k want us else
  let data := (upTo n).map fun j => rebuildData n k j us
  if data.any (·.isNone) then none
  else some (if want = n then parityP (data.filterMap id) else parityQ (data.filterMap id))

/-- The codewords of a row by slot, bytes 0x0000–0x1043, put in the order of roles: bytes 0x0008–0x1043 with PROG_TEMP taken as zero
(R368). -/
def byRole (geo row : Nat) (others : List (Option Bytes)) : List (Option Bytes) :=
  (upTo (geoM geo)).map fun j => (unitAt others (roleSlot geo row j)).map fun b => patch (b.drop 8) 0x100B (zeros 1)

/-- A reconstructed codeword, bytes 0x0000–0x1047 (R369): its header anew, with the row's LOGSEQ as another codeword of the row has it, FILL where it
is of a data unit and its body all zero, PROG_TEMP unknown, CW_CRC computed afresh. -/
def rebuilt (slc par : Bool) (others : List (Option Bytes)) (body : Bytes) : Bytes :=
  let l := match others.findSome? id with | some b => le b 4 4 | none => 0
  let fill := !par && body.all fun b => decide (b = 0)
  codeword (cwHeader slc fill false par l) body (-128)

/-- A row with more than k undecodable units and no member fault loses its undecodable data units (R398): each counts once, with an event for those that
have not counted before, and the row's segment is claimed. -/
def Dev.unitsLost (d : Dev) (g segment row : Nat) (slots : List Nat) : Dev :=
  let new := (slots.map fun m => (segment, row, m)).filter fun u => !(d.group g).any fun x => x.lostUnits.contains u
  let d := if new.isEmpty then d else
    (d.modGroup g fun x => { x with lost := sat32 (x.lost + new.length), lostUnits := new ++ x.lostUnits }).event 0x0502 0 0 g [new.length]
  d.claim g segment .media

/-- The pages of a row of a segment that its members other than slot m are read at for a codeword: each counts (R343). -/
def Dev.countOthers (d : Dev) (g s m : Nat) : Dev :=
  match d.seg g s with
    | none => d
    | some y => (y.blocks.zipIdx.filter fun b => decide (b.2 ≠ m)).foldl (fun d b => match b.1 with
        | some k => if d.readable g k.1 then d.countRead k.1 k.2 else d
        | none => d) d

/-- The parity engine's answer for a lost codeword: its body put in, or the codeword given up (stage 7); with the row, and its slots on members that have
not failed which cannot be decoded. The other members have been read for it (R343). -/
def Dev.reconstruct (d : Dev) (id cw : Nat) (others : List (Option Bytes)) : Dev × Nat × List Nat :=
  match d.cw id cw with
  | none => (d, 0, [])
  | some (r, w) =>
    if !w.lost ∨ w.bytes.isSome ∨ !r.use.stripes then (d, 0, []) else
    let d := d.parityDone (.cw id cw)
    match d.group r.group, d.seg r.group r.segment with
    | some x, some k =>
      let (row, m) := x.placeOf r.unit cw
      let d := d.countOthers r.group r.segment m
      let us := byRole x.geometry row others
      let us := us.set (slotRole x.geometry row m) none
      let lost := (upTo x.m).filter fun j => (unitAt us (slotRole x.geometry row j)).isNone && (x.member j).any fun k => !k.failed
      match rebuildUnit x.n (geoK x.geometry) (slotRole x.geometry row m) us with
      | some b => (d.modCw id cw fun w => { w with bytes := some (rebuilt k.slc false others b) }, row, lost)
      | none => (d.modCw id cw fun w => { w with stage := 7 }, row, lost)
    | _, _ => (d.modCw id cw fun w => { w with stage := 7 }, 0, [])

/-- A read that has all its codewords: its bytes; or one that has lost a codeword for good: none. -/
def FRead.finished (r : FRead) : Option (Option Bytes) :=
  if r.cws.any fun e => decide (e.2.stage = 7) then some none
  else if r.cws.all fun e => e.2.bytes.isSome then
    let all := r.cws.flatMap fun e => slice (e.2.bytes.getD []) 8 4096
    some (some (slice all (r.offset % 4096) r.size))
  else none

/-- Fragments of a log stripe's payload from an offset on, the headers giving their lengths (Table 7-2): where each starts, and the start of its
header. Zeros that no header takes up are padding; a header of zeros in the last 16 bytes is the shortest filler. -/
def fragStarts : Nat → Nat → Bytes → List (Nat × Bytes)
  | 0, _, _ => []
  | fuel + 1, o, b =>
    if b.length < 16 ∨ 16 < b.length ∧ b.take 16 = zeros 16 then [] else
    let n := 16 + 16 * le b 0x0C 1 + le b 0x08 4
    (o, b.take 28) :: fragStarts fuel (o + n) (b.drop n)

/-- The metadata of the codewords of a whole log stripe that has been read (R328): as each codeword has them; of one that comes from the partner's
mirror, which holds payload only, made anew from the fragments that start in it. -/
def FRead.metas (r : FRead) (payload : Bytes) : List Bytes :=
  let starts := fragStarts 65536 0 payload
  r.cws.map fun e =>
    let b := e.2.bytes.getD []
    if 0x1044 ≤ b.length then slice b 0x1008 11 ++ slice b 0x1018 12 else
    let o := (e.1 * 4096)
    cwMeta ((starts.filter fun t => decide (o ≤ t.1) && decide (t.1 < o + 4096)).map fun t => (t.1 - o, t.2))

/-- LOGSEQ of a codeword (Tables 6-6, 6-7). -/
def cwLogseq (b : Bytes) : Nat := le b 4 4 + le b 0x1014 4 * 2 ^ 32

end Sys2Proof.Machine
end

