-- ==== Sys2Proof/Machine/Moves.lean ====
section
/-! DEFINITION. Media care: second coat, scrape and the other evacuations, erases, wear levelling, sanding passes, retention ages,
checkpoints (chapter 07). -/

namespace Sys2Proof.Machine

/-! ### Copies -/

/-- Whether the internal passes run: they are suspended on the way to Lulled and below it (Table 20-2). -/
def Dev.passesOn (d : Dev) : Bool := decide (d.rd PWR_STAT_STATE < 2) && d.power.entering.all (fun t => decide (t < 2))

/-- Rows that hold some cargo of a group, by LOGSEQ. -/
def Dev.rowsWith (d : Dev) (g : Nat) (f : Cargo → Bool) : List Nat :=
  ((d.groupRows g).filter fun e => e.2.items.any fun i => f i.cargo).map (·.1)

/-- Copy a whole log stripe to the open segment of a place (R327): the same LOG_STRIPE, new LOGSEQs, the metadata of its codewords as they were (R328).
Answers its MMAP_SET and the rows that hold the copy; none when no segment can be formed. -/
def Dev.packStripe : Nat → Dev → Nat → Nat → Claim → Nat → Bytes → List Bytes → Option (Dev × Rec × List Nat)
  | 0, _, _, _, _, _, _, _ => none
  | fuel + 1, d, g, place, c, slot, b, metas =>
    match d.segFor g place c with
    | none => none
    | some (d, s) => match d.seg g s, d.group g, d.groupProfile g with
      | some x, some y, some p =>
        if segPayload p x.slc y.n < x.pos / stripeBytes * stripeBytes + stripeBytes then
          Dev.packStripe fuel ((d.finishSegment g s).modSeg g s fun x => { x with place := 9 }) g place c slot b metas
        else if x.pos % stripeBytes ≠ 0 then
          let left := stripeBytes - x.pos % stripeBytes
          Dev.packStripe fuel (d.putBytes 64 g s c .filler (fragHeader 0 (left - 16) false 0 [] ++ zeros (left - 16)) true []) g place c slot b metas
        else
          let u := x.pos / unitBytes
          let d := d.putBytes 64 g s c (.stripe slot) b true metas
          (d.slot g slot).map fun k =>
            (d, ({ k with segment := s, unit := u, slc := x.slc, ovl := 0 } : Slot).record slot, d.rowsWith g fun c => decide (c = .stripe slot))
      | _, _, _ => none

/-! ### Live content of a segment -/

/-- Log stripe slots in a segment. -/
def Dev.slotsIn (d : Dev) (g s : Nat) : List Nat := match d.group g with | some x => tkeys x.slots fun _ k => k.segment = s | none => []

/-- Contents whose current copy lies in some slots of a group, with their records. -/
def Dev.liveIn (d : Dev) (g : Nat) (slots : List Nat) : List (Nat × Crec) :=
  d.crecs.filter fun e => match e.2.loc with | some l => decide (l.group = g) && slots.contains l.index | none => false

/-- Live system fragments in some slots of a group (R477). -/
def Dev.systemIn (d : Dev) (g : Nat) (slots : List Nat) : List SysFrag :=
  d.sysFrags.filter fun f => decide (f.loc.group = g) && slots.contains f.loc.index

/-- Begin the reads of live fragments of some slots: of content, and of system fragments. -/
def Dev.readLive (d : Dev) (g s : Nat) (slots : List Nat) : Dev :=
  let d := (d.liveIn g slots).foldl (fun d e => match e.2.loc with
    | some l => (d.startRead (.fragment e.1 s) g l.index l.offset e.2.size .S).1
    | none => d) d
  (d.systemIn g slots).foldl (fun d f => (d.startRead (.system f.cargo s) g f.loc.index f.loc.offset (16 + ceilDiv f.body 16 * 16) .S).1) d

/-- Claimant class of the pass that has claimed a segment (Table 5-2). -/
def Dev.passClass (d : Dev) (g s : Nat) : Claim :=
  match (d.seg g s).bind (·.claim) with
  | some .fold => .O
  | some .rebuild => .O
  | some .media => .G
  | some .wear => .G
  | some .sand => .G
  | _ => .S

/-- An evacuation asks for the buffers of what it reads, one physical stripe of its group, under the class of its pass, and says whether
it holds them (R212). -/
def Dev.sourceFor (d : Dev) (g s : Nat) : Dev × Bool :=
  match d.group g with
  | none => (d, true)
  | some x =>
    let d := d.ask (.moves g s) unitBytes (x.n + geoK x.geometry) (d.passClass g s) noTenant
    (d, decide (x.n + geoK x.geometry ≤ (d.handsOf (.moves g s)).length))

/-- Begin the copies of a segment's log stripes, whole or fragment by fragment (R327, R332), once their buffers are held. -/
def Dev.evacuate (d : Dev) (g s : Nat) (whole : Bool) : Dev :=
  let h := d.sourceFor g s
  if !h.2 then h.1 else
  let slots := d.slotsIn g s
  let d := h.1.modSeg g s fun x => { x with evacuated := true, moves := [] }
  if whole then slots.foldl (fun d i => (d.startRead (.stripe i) g i 0 stripeBytes .S).1) d else d.readLive g s slots

/-- Whether copies out of a segment are still being read. -/
def Dev.reading (d : Dev) (g s : Nat) : Bool := d.freads.any fun e => decide (e.2.group = g) && decide (e.2.segment = s)

/-- Live fragments of a slot that no move in hand has copied: what could not be read stays where it is, and its slot and segment with it (DESIGN
CHOICE, log 164). -/
def Dev.stays (d w : Dev) (g : Nat) (moves : List Rec) (slot : Nat) : Bool :=
  let named := moves.filterMap fun r => match r with | .crecMove c _ _ => some c | _ => none
  (w.liveIn g [slot]).any (fun e => !named.contains e.1) || !(d.systemIn g [slot]).isEmpty

/-- Once every copy of a segment has been packed, the move batch (R317, R332): CREC_MOVEs and the MMAP_SETs of log stripes copied whole, MMAP_FREE for
each slot left, SEG_ERASE. A segment folded log stripe by log stripe is erased once none remains in it (R327). -/
def Dev.finishMoves (d : Dev) (g s : Nat) : Dev :=
  match d.seg g s with
  | none => d
  | some x =>
    if x.issued ∨ d.reading g s then d else
    let named := x.moves.filterMap fun r => match r with | .crecMove c _ _ => some c | _ => none
    let copied := x.moves.filterMap fun r => match r with | .mmapSet i _ _ _ _ _ _ _ => some i | _ => none
    let needs := d.rowsWith g fun c => match c with
      | .moved k _ => named.contains k
      | .stripe i => copied.contains i
      | .page t p => x.moves.any fun r => match r with | .ckptPage a b _ => decide (a = t) && decide (b = p) | _ => false
      | _ => false
    let c := d.passClass g s
    let w := d.issued
    let left := (w.slotsIn g s).filter fun i => !copied.contains i
    let stays := left.filter fun i => d.stays w g x.moves i
    if x.evacuated then
      let done (x : Seg) : Seg := if stays.isEmpty then { x with issued := true, moves := [] } else { x with evacuated := false, claim := none, moves := [] }
      let d := (d.modSeg g s done).dropHands (.moves g s)
      let recs := x.moves ++ (left.filter fun i => !stays.contains i).map .mmapFree ++ if stays.isEmpty then [.segErase s] else []
      if recs.isEmpty then d else d.logBatch g recs none 0 needs c
    else
      let freed := x.moves.filterMap fun r => match r with | .mmapFree i => some i | _ => none
      let gone := (x.moves.filterMap fun r => match r with | .crecMove _ l _ => some l.index | _ => none).eraseDups.filter fun i =>
        !freed.contains i && !stays.contains i
      let d := if x.moves.isEmpty then d else
        (d.modSeg g s fun x => { x with moves := [] }).logBatch g (x.moves.eraseDups ++ gone.map .mmapFree) none 0 needs c
      if x.claim = some .fold ∧ x.state = .sealed ∧ left.all (fun i => gone.contains i || freed.contains i) then
        ((d.modSeg g s fun x => { x with issued := true }).dropHands (.moves g s)).logOwn g [.segErase s] c
      else d

/-- Whether a log stripe that a read brings has rows that the partner mirrored here (R643). -/
def Dev.fromMirror (d : Dev) (r : FRead) : Bool :=
  match r.use with | .stripe slot => (upTo 256).any fun cw => (d.mirrorCw r.group slot cw).isSome | _ => false

/-- Where the copy that a read brings goes, and under which class: a stripe reopened from the mirror to the primer, as class J
(Table 5-2). -/
def Dev.moveTo (d : Dev) (r : FRead) : Nat × Claim :=
  if d.fromMirror r then (0, .J) else
  match r.use with
  | .stripe _ => ((match d.seg r.group r.segment with | some x => if x.claim = some .wear then 4 else 2 | none => 2), d.passClass r.group r.segment)
  | _ => (2, d.passClass r.group r.segment)

/-- Bytes that the copy a read brings takes in the log; none for a read that moves nothing. -/
def FRead.moves (r : FRead) : Option Nat :=
  match r.use with
  | .stripe _ => some stripeBytes
  | .fragment _ _ => some r.size
  | .system _ _ => some r.size
  | _ => none

/-- The packer asks for what the copy of a finished read takes, and says whether it has it. -/
def Dev.moveRoom (d : Dev) (r : FRead) : Dev × Bool :=
  match r.moves with
  | some n => d.unitsFor r.group (d.moveTo r).1 n (d.moveTo r).2
  | none => (d, true)

/-- The body of a system fragment as it was read: decrypted under the metadata key with the tweak of the place it lay at (R477). -/
def Dev.systemBody (d : Dev) (g slot off n : Nat) (b : Bytes) : Bytes :=
  let ct := b.drop 16
  (match d.keyAt (metaPlace (d.sideBGroup g)) with
    | some k => xtsBody true (keyXts k) true (d.logStripe g slot) (off / 16) ct
    | none => ct).take n

/-- A system fragment that was read to be moved on its own: encrypted again under the tweak of its new place, and named anew where it is a
checkpoint page (R477). -/
def Dev.moveSystem (d : Dev) (r : FRead) (cargo : Cargo) (s : Nat) (b : Bytes) : Dev :=
  match d.sysFrags.find? fun f => decide (f.cargo = cargo) && decide (f.loc.group = r.group) && decide (f.loc.index = r.slot) && decide (f.loc.offset = r.offset) with
  | none => d.finishMoves r.group s
  | some f =>
    let cid := match cargo with | .page _ _ => pageId | _ => logBlockId
    match Dev.pack 8 d r.group 2 (d.moveTo r).2 cargo (.system cid (d.systemBody r.group r.slot r.offset f.body b)) with
    | none => d.modSeg r.group s fun x => { x with evacuated := false, moves := [] }
    | some (d, l) =>
      let d := d.setSysFrags (d.sysFrags.map fun k => if k = f then { k with loc := l } else k)
      let d := match cargo with | .page t p => if isDir (t, p) then d else d.soil (dirPage (t, p)) | _ => d
      let rec_ : List Rec := match cargo with | .page t p => [.ckptPage t p l] | _ => []
      let rec_ := if (d.seg r.group s).bind (·.claim) = some .fold then rec_ ++ [.mmapFree r.slot] else rec_
      (d.modSeg r.group s fun x => { x with moves := x.moves ++ rec_ }).finishMoves r.group s

/-- The copy of a whole log stripe has been packed: its MMAP_SET goes into the batch of its segment's evacuation; that of a fold, or of a log stripe
reopened from the mirror, is a batch of its own (R317, R327, R643). -/
def Dev.stripePacked (d : Dev) (r : FRead) (alone fold : Bool) (rec_ : Rec) (needs : List Nat) : Dev :=
  if alone || fold then
    let d := d.logBatch r.group [rec_] none 0 needs (d.moveTo r).2
    if fold then { d with folded := d.folded + stripeBytes } else d
  else d.modSeg r.group r.segment fun x => { x with moves := x.moves ++ [rec_] }

/-- A copy that was read for a move has arrived: packed at its new place, unless the content has died or moved meanwhile. Of a log stripe with a
codeword that is lost the fragments that can be read are copied one by one. -/
def Dev.moveArrived (d : Dev) (r : FRead) (b : Option Bytes) : Dev :=
  let place := (d.moveTo r).1
  match r.use, b with
  | .system cargo s, some b => d.moveSystem r cargo s b
  | .stripe slot, some b =>
    let fold := (d.seg r.group r.segment).any fun x => decide (x.claim = some Pass.fold)
    let alone := d.fromMirror r || !(d.seg r.group r.segment).any (·.evacuated)
    let d := match Dev.packStripe 8 d r.group place (d.moveTo r).2 slot b (r.metas b) with
      | some (d, rec_, needs) => d.stripePacked r alone fold rec_ needs
      | none => d.modSeg r.group r.segment fun x => { x with evacuated := false, moves := [] }
    d.finishMoves r.group r.segment
  | .stripe slot, none => (d.readLive r.group r.segment [slot]).finishMoves r.group r.segment
  | .fragment c s, some b =>
    match (tget d.crecs c).bind (·.loc) with
    | some old =>
      if old.group = r.group ∧ old.index = r.slot ∧ old.offset = r.offset then
        match Dev.pack 8 d r.group 2 (d.moveTo r).2 (.moved c old) (.data b) with
        | some (d, new) => (d.modSeg r.group s fun x => { x with moves := x.moves ++ [.crecMove c old new] }).finishMoves r.group s
        | none => d.modSeg r.group s fun x => { x with evacuated := false, moves := [] }
      else d.finishMoves r.group s
    | none => d.finishMoves r.group s
  | .fragment _ s, none => d.finishMoves r.group s
  | .system _ s, none => d.finishMoves r.group s
  | _, _ => d

/-! ### Second coat (R327) -/

/-- The log stripe second coat takes next: the sealed primer log stripe of lowest LOGSEQ that qualifies. -/
def Dev.foldNext (d : Dev) (g : Nat) : Option (Nat × Slot) :=
  match d.group g with
  | none => none
  | some x =>
    let push := d.rd MAP_PRIMER_CFG_FOLD_PUSH ≤ d.primerFillAll
    let busy (i : Nat) : Bool := (d.freads.any fun e => decide (e.2.group = g) && decide (e.2.slot = i) &&
      match e.2.use with | .stripe _ => true | .fragment _ _ => true | .system _ _ => true | _ => false) || !(d.rowsWith g fun c => decide (c = .stripe i)).isEmpty
    let free (k : Slot) : Bool := match tget x.segs k.segment with
      | some s => decide (s.place ≠ 3) && (decide (s.claim = none) || decide (s.claim = some .fold)) && !s.issued
      | none => false
    let ok := x.slots.filter fun e => decide (e.2.state = 2) && e.2.slc && free e.2 && !busy e.1 &&
      (push || decide (e.2.since + msNs (d.rd MAP_PRIMER_CFG2_FOLD_AGE) ≤ d.now))
    argMin (fun e => e.2.logseq) ok

/-- Second coat takes one log stripe (R327). -/
def Dev.fold (d : Dev) (g : Nat) : Dev :=
  match d.foldNext g with
  | none => d
  | some (i, k) =>
    let h := (d.claim g k.segment .fold).sourceFor g k.segment
    let d := h.1
    if !h.2 then d
    else if d.rd MAP_PRIMER_CFG_FOLD_MIN_LIVE * 1048576 ≤ k.live * 100 then (d.startRead (.stripe i) g i 0 stripeBytes .S).1
    else if (d.liveIn g [i]).isEmpty && (d.systemIn g [i]).isEmpty then (d.logOwn g [.mmapFree i] .O).finishMoves g k.segment
    else d.readLive g k.segment [i]

/-! ### Scrape and the other evacuations (R330–R335, R343, R354) -/

/-- The segment an evacuation takes next: claimed ones in the order of Table 7-9, media care and STRIP first. -/
def Dev.claimedNext (d : Dev) (g : Nat) : Option (Nat × Pass) :=
  match d.group g with
  | none => none
  | some x =>
    let l := x.segs.filterMap fun e => match e.2.claim with
      | some p => if e.2.state = .sealed ∧ !e.2.evacuated ∧ !e.2.issued ∧ p ≠ .rebuild ∧ p ≠ .fold then some (e.1, p) else none
      | none => none
    argMin (fun e => e.2.rank) l

/-- A segment's live payload and data payload in bytes. -/
def Dev.segLive (d : Dev) (g s : Nat) : Nat :=
  match d.group g with | some x => sumN (x.slots.map fun e => if e.2.segment = s then e.2.live else 0) | none => 0

/-- Scrape's victim (R331): the highest (1 − u)·age/(1 + u), compared as (DATA − LIVE)·age/(DATA + LIVE) in units of
1e-9 with the age in whole seconds (DESIGN CHOICE, log 174). -/
def Dev.victim (d : Dev) (g : Nat) : Option Nat :=
  match d.group g, d.groupProfile g with
  | some x, some p =>
    let ok := x.segs.filter fun e => decide (e.2.state = .sealed) && !e.2.slc && e.2.claim.isNone && !e.2.issued
    let score (e : Nat × Seg) : Nat :=
      let data := segPayload p false x.n
      let live := d.segLive g e.1
      let age := (d.now - e.2.sealedAt) / 1000000000
      (data - live) * age * 1000000000 / Nat.max 1 (data + live)
    (argMax score ok).map (·.1)
  | _, _ => none

/-- Run the group's evacuations one step: a claimed segment first, else scrape's victim while scrape is due. -/
def Dev.scrapeStep (d : Dev) (g : Nat) : Dev :=
  let d := d.scrapeState g
  match d.claimedNext g with
  | some (s, p) => (d.evacuate g s (decide (p = .media) || decide (p = .wear) || decide (p = .sand))).finishMoves g s
  | none =>
    match d.group g with
    | none => d
    | some x =>
      if !x.scrapeOn then d else
      match d.victim g with
      | none => d
      | some s => ((d.claim g s (if d.urgent g then .urgent else .scrape)).evacuate g s false).finishMoves g s

/-! ### Erases (R300, R301, R334, R344, R413) -/

/-- A block's erase has ended (R301): its counter rises by the weight of the mode it ran in, and at the profile's endurance the block is marked for
retirement, which comes with its next erase; what it held is gone. One that passed and bore no mark is FREE; whether the block is to be retired. -/
def Dev.blockErased (d : Dev) (die b : Nat) (ok : Bool) : Dev × Bool :=
  match d.blk die b, d.dieProfile die with
  | some k, some p =>
    let n := satAt 16777215 (k.erases + if k.slc then p.weightSlc else p.weightQlc)
    let d := { d with jpages := tdel d.jpages (blockKey die b) }
    let clean : Blk := { k with erases := n, reads := 0, bgroup := 0, retire := k.retire || decide (p.endurance ≤ n), stage6 := 0, tempSum := 0
                                tempCount := 0, sampled := none, sampleDue := false }
    let d := d.modBlk die b fun _ => clean
    if ok && !k.retire then (d.setBlock die b .free, false) else (d, true)
  | _, _ => (d, false)

/-- A segment whose blocks have all been erased is gone: the serials of the content that last lay in it are free (R413). -/
def Dev.segmentGone (d : Dev) (g s : Nat) : Dev :=
  let m := d.peer.mirror
  let mine (e : Jrn) : Bool := decide (e.type = 1) && decide (e.group = g) && decide (e.segment = s)
  let held := (m.journal.filter mine).map fun e => rowKey g e.logseq
  let d := { d with peer := { d.peer with mirror := { m with journal := m.journal.filter fun e => !mine e, data := m.data.filter fun e => !held.contains e.1 } } }
  d.modGroup g fun x => { x with
    segs := tdel x.segs s
    lostUnits := x.lostUnits.filter fun u => decide (u.1 ≠ s)
    freed := x.freed ++ (x.deadSerials.filter fun e => e.1 = s).reverse.map (·.2.2)
    deadSerials := x.deadSerials.filter fun e => e.1 ≠ s }

/-- Whether a read or a merge has taken a locator in a segment and has not finished its flash read (R334): one served from the write buffer has its own to
begin still, should the write that served it fail. -/
def Dev.located (d : Dev) (g s : Nat) : Bool :=
  d.cmds.any fun e => decide (e.2.stage ≠ .done) && e.2.grains.any fun x =>
    x.2.base.any (fun b => decide (b.loc.group = g) && decide (b.segment = s)) &&
      (decide (x.2.step = 5) || decide (x.2.step = 7) || decide (x.2.step = 70) ||
        decide (e.2.op = .read) && x.2.data.isEmpty && (decide (x.2.step = 11) || decide (x.2.step = 12)))

/-- Issue the erases of a segment whose SEG_ERASE is applied and in which no read has a locator before the end of its flash read (R334): of its blocks that
are not RETIRED, on dies that can still be reached. -/
def Dev.eraseSegment (d : Dev) (g s : Nat) : Dev :=
  match d.seg g s with
  | none => d
  | some x =>
    if !x.erasable ∨ x.state ≠ .erasing ∨ !x.erasing.isEmpty ∨ d.reading g s ∨ d.located g s then d else
    let lives (k : Nat × Nat) : Bool := d.readable g k.1 && (d.blk k.1 k.2).any fun b => decide (b.state ≠ .retired)
    let slots := (x.blocks.zipIdx.filterMap fun b => b.1.map fun k => (b.2, k)).filter fun e => lives e.2
    if slots.isEmpty then d.segmentGone g s else
    let d := d.modSeg g s fun x => { x with erasing := slots.map (·.1), erasable := false }
    d.flashPut (slots.map fun e => d.eraseOp e.2.1 (.erase g s e.2.2) e.2.2)

/-- Blocks of a die in ERASING that no segment holds and no erase is under way for are erased. -/
def Dev.eraseLoose (d : Dev) (g die : Nat) : Dev :=
  match tget d.dies die with
  | none => d
  | some x =>
    let way (b : Nat) : Bool := d.flash.any fun o => decide (o.die = die) && (match o.op with | .erase _ _ k => decide (k = b) | _ => false)
    let loose := (tkeys x.blocks fun b k => decide (k.state = .erasing) && !way b).filter fun b => (d.segsOn die b).isEmpty
    if loose.isEmpty ∨ x.retired ∨ !d.readable g die then d else d.flashPut (loose.map fun b => d.eraseOp die (.erase g (2 ^ 30 + b) b) b)

/-! ### Wear levelling (R342) -/

/-- Lowest and highest erase counter of a die's blocks that are not retired. -/
def Dev.wearSpan (d : Dev) (die : Nat) : Nat × Nat :=
  match tget d.dies die, d.dieProfile die with
  | some x, some p =>
    let l := ((upTo p.blocks).map x.blk).filter fun k => decide (k.state ≠ .retired)
    match l with
    | [] => (0, 0)
    | k :: r => r.foldl (fun a k => (Nat.min a.1 k.erases, Nat.max a.2 k.erases)) (k.erases, k.erases)
  | _, _ => (0, 0)

/-- Mean erase counter of the blocks of a die's pool that are not retired. -/
def Dev.poolMean (d : Dev) (x : Die) (p : Profile) (slc : Bool) : Nat :=
  let l := ((upTo p.blocks).filter fun b => (d.inPrimer x p b == slc) && decide ((x.blk b).state ≠ .retired)).map fun b => (x.blk b).erases
  sumN l / Nat.max 1 l.length

/-- Blocks move between the primer and the QLC pool so that their counters advance alike in either mode (R342): the pool of the higher mean counter
gives its highest-counted FREE block for the lowest-counted one of the other, where these are more than SPREAD apart (DESIGN CHOICE, log 159). -/
def Dev.evenPools (d : Dev) (die : Nat) : Dev :=
  match tget d.dies die, d.dieProfile die with
  | some x, some p =>
    let worn := decide (d.poolMean x p false ≤ d.poolMean x p true)
    match argMax (fun b => (x.blk b).erases) (d.freeIn die worn), argMin (fun b => (x.blk b).erases) (d.freeIn die !worn) with
    | some a, some b =>
      if (x.blk b).erases + d.rd MAP_WEAR_CFG_SPREAD < (x.blk a).erases then d.modDie die fun x => (x.changePool a).changePool b else d
    | _, _ => d
  | _, _ => d

/-- Wear levelling on a die: past SPREAD, the segment of oldest seal time that holds a lowest-counted block is evacuated. -/
def Dev.level_ (d : Dev) (die : Nat) : Dev :=
  let d := d.evenPools die
  let w := d.wearSpan die
  if w.2 - w.1 ≤ d.rd MAP_WEAR_CFG_SPREAD then d else
  match tget d.dies die with
  | none => d
  | some x =>
    let lowest := tkeys x.blocks fun _ k => decide (k.erases = w.1) && decide (k.state = .sealed)
    let segs := (lowest.flatMap fun b => d.segsOn die b).filterMap fun e => (d.seg e.1 e.2).map fun s => (e.1, e.2, s)
    let ok := segs.filter fun e => decide (e.2.2.state = .sealed) && e.2.2.claim.isNone
    match argMin (fun e => e.2.2.sealedAt) ok with
    | none => d
    | some (g, s, _) => ((d.claim g s .wear).evacuate g s true).finishMoves g s

/-! ### The overlay (R313, R314, R344) -/

/-- The overlay block that is open on a die with its next free page, or a new one: a full one is SEALED. -/
def Dev.overlayPage (d : Dev) (die : Nat) : Option (Dev × Nat × Nat) :=
  match tget d.dies die, d.dieProfile die with
  | some x, some p =>
    let fresh : Option (Dev × Nat × Nat) := (d.freeBlock die true false).map fun b =>
      ((d.openBlock die b true).modDie die fun x => { x with ovl := (b, 1) :: x.ovl }, b, 0)
    match x.ovl with
    | (b, n) :: r =>
      if pagesIn p true ≤ n then fresh else
      let d := d.modDie die fun x => { x with ovl := (b, n + 1) :: r }
      some (if pagesIn p true ≤ n + 1 then d.sealBlock die b else d, b, n)
    | [] => fresh
  | _, _ => none

/-- Overlay entries of a log stripe that stand, are logged, or whose program is on its way; and those of the part. -/
def Dev.overlaid (d : Dev) (g slot : Nat) : Nat × Nat :=
  let w := d.issued.overlay
  let way := d.flash.filter fun o => match o.op with | .overlay _ _ _ _ _ _ => true | _ => false
  (countP w (fun e => decide (e.1 / 256 = g * 2 ^ 28 + slot)) + countP way fun o => match o.op with
      | .overlay k _ i _ _ _ => decide (k = g) && decide (i = slot)
      | _ => false,
    w.length + way.length)

/-- Whether n pieces more of a log stripe may go through the overlay: not beyond 8 of a log stripe, nor 1,048,576 in all (R313, R314). -/
def Dev.overlayRoom (d : Dev) (g slot n : Nat) : Bool := let k := d.overlaid g slot; decide (k.1 + n ≤ 8) && decide (k.2 + n ≤ 1048576)

/-- Program a piece of a log stripe into the overlay block of a die: its codewords, as they are encoded for that die, fill a page. -/
def Dev.putOverlay (d : Dev) (g l slot piece die : Nat) (cws : List Bytes) (c : Claim) : Dev :=
  match d.overlayPage die with
  | none => d
  | some (d, b, page) =>
    d.flashPut [.new die c (.overlay g l slot piece b page) (seqProgram true)
      [{ row := d.rowAddress die b page, column := 0, data := cws.flatMap id, length := 0 }]]

/-- The place of a log stripe that a segment's evacuation has copied whole and whose MMAP_SET is still to be logged with the segment's batch. -/
def Dev.movedBy (d : Dev) (g slot : Nat) : Option Nat :=
  (d.group g).bind fun x => (x.segs.find? fun e => e.2.moves.any fun r => match r with | .mmapSet i _ _ _ _ _ _ _ => decide (i = slot) | _ => false).map (·.1)

/-- A page of the overlay has been programmed, and its program is off its die: its OVL_SET is logged, behind the row it belongs to (R314, R344), and behind
the MMAP_SET of a copy of the log stripe that waits for its segment's batch. The segment that holds its origin has a stale copy from now on (R354). -/
def Dev.overlayDone (d : Dev) (o : FlashOp) : Dev :=
  match o.op with
  | .overlay g l slot piece b page =>
    let r : Rec := .ovlSet slot piece o.die b page
    match d.movedBy g slot with
    | some s => d.modSeg g s fun x => { x with moves := x.moves ++ [r] }
    | none =>
      let d := match (d.row g l).map (·.segment), d.slot g slot with
        | some s, _ => d.modSeg g s fun y => { y with stale := true }
        | none, some k => d.modSeg g k.segment fun y => { y with stale := true }
        | none, none => d
      d.logBatch g [r] none 0 [l] o.claim
  | _ => d

/-- A piece that was read to be refreshed goes to the overlay block of its die, unless the log stripe has moved; beyond the overlay's limits its segment
is claimed, so that the log stripe moves whole (R314). -/
def Dev.refreshArrived (d : Dev) (r : FRead) : Dev :=
  match r.use, d.slot r.group r.slot, r.cws.head? with
  | .refresh slot piece, some k, some (_, w) =>
    if k.segment ≠ r.segment then d
    else if !d.overlayRoom r.group slot 1 then d.claim r.group r.segment .sand
    else
      let cws := r.cws.map fun e =>
        let b := e.2.bytes.getD []
        let body := slice b 8 4156
        if body.all fun x => decide (x = 0) then encoded (sealed (cwHeader true true false false (cwLogseq b)) body)
        else encoded (codeword (cwHeader true false false false (cwLogseq b)) body (d.packageTemp w.die))
      d.putOverlay r.group (cwLogseq (w.bytes.getD [])) slot piece w.die cws .G
  | _, _, _ => d

/-- Full overlay blocks in which nothing is live any more go to ERASING. -/
def Dev.overlayTrim (d : Dev) (g : Nat) : Dev :=
  let dies := match d.group g with | some x => x.members.map fun (m : Member) => m.die | none => []
  let used := d.issued.overlay.map fun e => (e.2.1, e.2.2.1)
  let one (d : Dev) (die : Nat) : Dev :=
    match tget d.dies die, d.dieProfile die with
    | some x, some p =>
      let way (b : Nat) : Bool := d.flash.any fun o => decide (o.die = die) && (match o.op with | .overlay _ _ _ _ k _ => decide (k = b) | _ => false)
      let dead := (x.ovl.filter fun e => decide (pagesIn p true ≤ e.2) && !used.contains (die, e.1) && !way e.1).map (·.1)
      dead.foldl (fun d b => ((d.modDie die fun x => { x with ovl := x.ovl.filter fun e => decide (e.1 ≠ b) }).setBlock die b .erasing).flashPut
        [d.eraseOp die (.erase g (2 ^ 30 + b) b) b]) d
    | _, _ => d
  dies.foldl one d

/-! ### Sanding passes and retention (R347–R352) -/

/-- The 4 codewords of a sealed block's weak pages that a sample reads (R350). -/
def Dev.sampleCws (d : Dev) (die b : Nat) (slc : Bool) : Tbl CwRead :=
  let weak := match d.dieProfile die with | some p => p.weak | none => []
  (upTo 4).map fun i => (i, CwRead.fresh die b (weak.getD (i % Nat.max 1 weak.length) 0) slc true)

/-- Begin a sample of a sealed block, in the buffer granted for it: its reads are of class G (Table 5-2). A block of the overlay or of a journal lies in no
segment, and its sample in no group. -/
def Dev.sampleReads (d : Dev) (die b : Nat) : Dev :=
  match d.blk die b with
  | none => d
  | some k =>
    if k.state ≠ .sealed then d.dropHands (.sample die b) else
    let id := d.nextRead
    let cws := d.sampleCws die b k.slc
    let at_ := (d.segsOn die b).head?
    let r : FRead :=
      { use := .sample die b, group := (at_.map (·.1)).getD 256, slot := 0, offset := 0, size := 0, claim := .G,
        segment := (at_.map (·.2)).getD 0, cws := cws }
    let d := cws.foldl (fun d _ => d.countRead die b) { d with freads := tput d.freads id r, nextRead := id + 1 }
    d.flashPut (cws.map fun e => d.senseOp id e.1 e.2 .G)

/-- The age bucket of a block's group now. -/
def Dev.bucketNow (d : Dev) (die b : Nat) : Nat :=
  match tget d.dies die with
  | some x => match tget x.groups (x.blk b).bgroup with | some g => ageBucket g.age | none => 0
  | none => 0

/-- Whether a sealed block is due for a sample: never sampled, PERIOD days ago, in another age bucket (R350), or wanted at once (R352). -/
def Dev.sampleWanted (d : Dev) (die b : Nat) (k : Blk) : Bool :=
  k.sampleDue || match k.sampled with
    | none => true
    | some (t, a) => decide (t + sNs (86400 * d.rd MAP_SAND_CFG_PERIOD) ≤ d.now) || decide (a ≠ d.bucketNow die b)

/-- The sanding pass takes up a sealed block that is due: it asks for the buffer of its sample, unless one runs (R212). -/
def Dev.sample (d : Dev) (die b : Nat) : Dev :=
  match d.blk die b with
  | none => d
  | some k => if k.state ≠ .sealed ∨ !d.sampleWanted die b k then d else d.ask (.sample die b) 16384 1 .G noTenant

/-- Whether a SEALED block's group has aged past 80% of the profile's retention limit at the block's erase count. -/
def Dev.tooOld (d : Dev) (die b : Nat) : Bool :=
  match tget d.dies die, d.dieProfile die with
  | some x, some p => decide ((x.blk b).state = .sealed) && match tget x.groups (x.blk b).bgroup with
    | some g => decide (p.retentionOf (x.blk b).erases * 1000000000 * 8 < g.age * 10)
    | none => false
  | _, _ => false

/-- The offsets a sample teaches (R287, R350): a retry set that succeeded has been learned; a codeword that was decoded without one confirms the levels
it was sensed about, which are learned anew under the conditions of now (DESIGN CHOICE, log 163). -/
def Dev.learnSample (d : Dev) (die b : Nat) (r : FRead) : Dev :=
  let plain := r.cws.any fun e => e.2.bytes.isSome && decide (e.2.stage < 5)
  let retried := r.cws.any fun e => e.2.bytes.isSome && (decide (e.2.stage = 5) || decide (12 ≤ e.2.stage))
  match d.dieProfile die with
  | some p => if plain && !retried then d.learn die b ((upTo p.levelCount).map fun k => d.level p die b k) else d
  | none => d

/-- A sample has been decoded (R351): a codeword that needed stage 3 or later, or in which stage 1 corrected more bits than the profile's refresh
threshold, refreshes the block's segments. -/
def Dev.sampled (d : Dev) (r : FRead) : Dev :=
  match r.use with
  | .sample die b =>
    let limit := match d.dieProfile die with | some p => p.refresh | none => 0
    let hard := r.cws.any fun e => decide (3 ≤ e.2.stage)
    let many := r.cws.any fun e => decide (e.2.stage = 1) && decide (limit < e.2.fixes)
    let d := (d.dropHands (.sample die b)).learnSample die b r
    let d := d.modBlk die b fun k => { k with sampled := some (d.now, d.bucketNow die b), sampleDue := false }
    if hard || many then (d.segsOn die b).foldl (fun d s => d.claim s.1 s.2 .sand) d else d
  | _ => d

/-- A sample is over when each of its codewords is decoded or lost. -/
def FRead.sampleOver (r : FRead) : Bool := r.cws.all fun e => e.2.bytes.isSome || e.2.lost

/-- The acceleration factor at a temperature in eighths of a °C, in millionths (R347): linear between the points of the profile's table, whose factors
are thousandths; rounded down to a millionth (DESIGN CHOICE, log 171). -/
def afAt (t : List (Int × Nat)) (eighths : Int) : Nat :=
  match t with
  | [] => 1000000
  | (_, x) :: [] => 1000 * x
  | (a, x) :: (b, y) :: r =>
    if eighths ≤ 8 * a then 1000 * x
    else if eighths < 8 * b then (1000 * (x : Int) + 1000 * ((y : Int) - x) * (eighths - 8 * a) / (8 * (b - a))).toNat
    else afAt ((b, y) :: r) eighths

/-- A second passes for every block group: ages advance by AF(T) (R347). -/
def Dev.ageAll (d : Dev) : Dev :=
  { d with dies := tmap d.dies fun n x => match d.dieProfile n with
    | some p =>
      let af := afAt p.af (d.readEighths (diePort n))
      { x with groups := tmap x.groups fun _ g => { g with age := g.age + af * 1000 / 3600 } }
    | none => x }

/-! ### Checkpoints (R319, R323) -/

/-- The content record as its 16 bytes (Table 9-2). -/
def Crec.bytes (c : Crec) : Bytes :=
  toLE 8 (match c.loc with | some l => l.word | none => 0) ++ toLE 3 c.refs ++
    toLE 1 (b2n c.pinned + 2 * b2n c.stripPending + 4 * b2n c.indexed) ++ toLE 4 c.bucket

/-- A media-map entry as its 16 bytes (Table 7-5). -/
def Slot.bytes (s : Slot) : Bytes :=
  toLE 4 s.segment ++ toLE 2 s.unit ++ toLE 2 (s.state + 4 * b2n s.slc + 8 * s.ovl) ++ toLE 4 s.live ++ toLE 2 s.gen ++ zeros 2

/-- A dedup-index entry as its 32 bytes (Table 9-3). -/
def IdxEntry.bytes (e : IdxEntry) : Bytes :=
  padTo 24 e.fp ++ toLE 5 e.content ++ toLE 2 (e.tenant + 1024 * e.keydom) ++ toLE 1 (1 + 2 * b2n e.pending)

/-- The 16 KiB of a map page, or of a checkpoint directory page. -/
def Dev.pageBytes (d : Dev) (table page : Nat) : Bytes :=
  padTo 16384 (match table with
    | 0 => match d.vol (page / 2 ^ 34) with
      | some v => (upTo 2048).flatMap fun i => toLE 8 (v.entry (page % 2 ^ 34 * 2048 + i)).word
      | none => []
    | 1 => (upTo 1024).flatMap fun i => match tget d.crecs (page * 1024 + i) with | some c => c.bytes | none => zeros 16
    | 2 => (upTo 1024).flatMap fun i => match d.slot (page / 2 ^ 20) (page % 2 ^ 20 * 1024 + i) with | some s => s.bytes | none => zeros 16
    | 3 => match tget d.streams page with
      | some s => s.index.flatMap fun e => toLE 8 e.volume ++ toLE 8 e.lba ++ toLE 8 e.sectors ++ stampBytes e.stamp ++ toLE 4 e.quality
      | none => []
    | 4 => (upTo 32).flatMap fun i => padTo 512 ((d.bucket (page * 32 + i)).flatMap IdxEntry.bytes)
    | _ => let w := d.issued; (upTo 2048).flatMap fun i => toLE 8 (match w.pageLoc (table - 8, page * 2048 + i) with | some l => l.word | none => 0))

/-- The group in whose log a map page's copy is written; none for a page of a volume or group that is gone. -/
def Dev.pageGroup (d : Dev) (table page : Nat) : Option Nat :=
  (match table with
  | 0 => (d.vol (page / 2 ^ 34)).map fun (v : Vol) => v.group
  | 1 => some (page * 1024 / 2 ^ 32)
  | 2 => some (page / 2 ^ 20)
  | _ => d.ownGroups.head?).filter fun g => thas d.groups g

/-- Write one dirty page: its copy packed, its CKPT_PAGE logged; whether the packer could. The page is dirty no more, unless it changes again. -/
def Dev.writePage (d : Dev) (t : Nat × Nat) : Dev × Bool :=
  let d' := { d with ckpt := { d.ckpt with dirty := d.ckpt.dirty.filter (· ≠ t) } }
  match d.pageGroup t.1 t.2 with
  | none => (d', true)
  | some g => match d'.packHost g .G (.page t.1 t.2) (.system pageId (d.pageBytes t.1 t.2)) with
    | .waits e => ({ e with ckpt := { e.ckpt with dirty := d.ckpt.dirty } }, false)
    | .full => (d, false)
    | .done d loc => (d.logBatch g [.ckptPage t.1 t.2 loc] none 0 (d.rowsWith g fun c => decide (c = .page t.1 t.2)), true)

/-- The end of a cycle: CKPT_ROOT in the log of each group that takes part, with the group's start MLSEQ; the first group's log carries the root table
with it, as the CKPT_PAGE of every directory page (R319, R321). -/
def Dev.logRoots (d : Dev) (l : List (Nat × Nat)) : Dev :=
  let d := { d with ckpt := { d.ckpt with todo := none } }
  let table := d.issued.rootTable.map fun e => Rec.ckptPage e.1 e.2.1 e.2.2
  l.foldl (fun d e => d.logOwn e.1 ((if some e.1 = d.ownGroups.head? then table else []) ++ [.ckptRoot e.2])) d

/-- The pages of a running checkpoint cycle are written as far as the packer has buffers for them; the last is followed by CKPT_ROOT. -/
def Dev.ckptStep : List (Nat × Nat) → Dev → Dev
  | [], d => match d.ckpt.cycle with
    | some (_, l) => d.logRoots l
    | none => d
  | p :: r, d =>
    let e := d.writePage p
    if e.2 then Dev.ckptStep r { e.1 with ckpt := { e.1.ckpt with todo := some r } } else e.1

/-- What a checkpoint cycle in progress has still to write goes on. -/
def Dev.ckptGoOn (d : Dev) : Dev :=
  match d.ckpt.cycle, d.ckpt.todo with
  | some _, some l => Dev.ckptStep l d
  | _, _ => d

/-- The MLSEQ from which a group's records are not all in its map pages. -/
def Dev.ckptStart (d : Dev) (g : Nat) : Nat :=
  match (d.batchesOf g).head? with | some b => b.first | none => match d.group g with | some x => x.nextMlseq | none => 0

/-- A checkpoint cycle begins: every dirty page, then the directory pages that locate them. -/
def Dev.beginCheckpoint (d : Dev) : Dev :=
  let pages := (d.ckpt.dirty.filter fun p => !isDir p).reverse
  let dirs := ((d.ckpt.dirty.filter isDir) ++ pages.map dirPage).eraseDups
  let roots := (tkeys d.groups fun _ _ => true).map fun g => (g, d.ckptStart g)
  ({ d with ckpt := { d.ckpt with cycle := some (d.ckpt.tail, roots), todo := some (pages ++ dirs) } }).ckptGoOn

/-- A checkpoint cycle (R319), if none runs: started when the tail exceeds START, it writes every dirty page and logs CKPT_ROOT. -/
def Dev.checkpoint (d : Dev) : Dev :=
  if d.ckpt.cycle.isSome ∨ d.groups.isEmpty ∨ d.ckpt.tail ≤ d.rd MAP_CKPT_CFG_START * 1048576 then d else d.beginCheckpoint

/-- A full checkpoint cycle is asked for out of turn: it begins once none runs, and is over when its CKPT_ROOTs are applied; a part without groups has
nothing to write. -/
def Dev.checkpointWhole (d : Dev) : Dev :=
  if d.ckpt.whole ≠ 0 then d
  else if d.groups.isEmpty then { d with ckpt := { d.ckpt with whole := 2 } }
  else if d.ckpt.cycle.isSome then d
  else { d with ckpt := { d.ckpt with whole := 1 } }.beginCheckpoint

/-! ### Absent pages (R323, R324) -/

/-- A map page is in DRAM. -/
def Dev.pageIn (d : Dev) (p : Nat × Nat) : Dev :=
  let c := d.ckpt
  { d with ckpt := { c with held := if c.held.contains p then c.held else p :: c.held, wanted := c.wanted.filter (· ≠ p) } }

/-- Read the checkpoint copy of a page. -/
def Dev.readPage (d : Dev) (p : Nat × Nat) (l : Loc) : Dev :=
  if d.freads.any fun e => decide (e.2.use = .page p.1 p.2) then d
  else (d.startRead (.page p.1 p.2) l.group l.index l.offset (16 + 16384) .G).1

/-- The load of an absent page goes on: the read of its directory page where that is absent too, then of its own checkpoint copy; a page that has none
is made from its tail records alone. -/
def Dev.loadOn (d : Dev) (p : Nat × Nat) : Dev :=
  match d.pageLoc p with
  | none => d.pageIn p
  | some l =>
    let k := dirPage p
    if d.pageHeld k then d.readPage p l else
    match d.pageLoc k with
    | none => (d.pageIn k).readPage p l
    | some m => d.readPage k m

/-- A page is touched: an absent one is loaded, and counted (R323); whether it is in DRAM. -/
def Dev.touch (d : Dev) (p : Nat × Nat) : Dev × Bool :=
  if d.pageHeld p then (d, true)
  else if d.ckpt.wanted.contains p then (d, false)
  else
    let d := ({ d with ckpt := { d.ckpt with wanted := p :: d.ckpt.wanted } }.bump MAP_FAULTS_LOADS).loadOn p
    (d, d.pageHeld p)

/-- Some pages are touched; whether all of them are in DRAM. -/
def Dev.touchAll (d : Dev) (ps : List (Nat × Nat)) : Dev × Bool :=
  ps.eraseDups.foldl (fun a p => ((a.1.touch p).1, a.2 && (a.1.touch p).2)) (d, true)

/-- The map pages that the lookup of a grain of a volume reads: of its entry, of its content's record, and of the slot that holds the content. -/
def Dev.entryPages (d : Dev) (v : Nat) (epoch : Option Nat) (g : Nat) : List (Nat × Nat) :=
  let e := d.entryAt v epoch g
  volPage v g :: ((d.levelsOf v epoch g).tail.map fun l => volPage l.1 g) ++ if e.kind ≠ 2 then [] else
    crecPage e.content :: match (tget d.crecs e.content).bind (·.loc) with | some l => [slotPage l.group l.index] | none => []

/-- An absent map page is loaded. -/
def Dev.loadPage (d : Dev) (table page : Nat) : Dev := (d.touch (table, page)).1

/-- A checkpoint copy has been read: a directory page lets the pages it locates be read, a map page is in DRAM once its tail records are applied,
which the maps in State always hold. A copy that cannot be read counts as read (DESIGN CHOICE, log 161). -/
def Dev.pageArrived (d : Dev) (p : Nat × Nat) : Dev :=
  let d := d.pageIn p
  if !isDir p then d else
  (d.ckpt.wanted.filter fun q => decide (dirPage q = p)).foldl (fun d q => d.loadOn q) d

end Sys2Proof.Machine
end

