-- ==== Sys2Proof/Machine/Snaps.lean ====
section
/-! DEFINITION. Snapshots, clones and replication sessions: what takes and drops a snapshot, what a session sends and what it does
with what it receives (R424–R451). -/

namespace Sys2Proof.Machine

/-! ### Sides -/

/-- Whether a volume number is of the part's own side. -/
def Dev.ownVol (d : Dev) (v : Nat) : Bool := decide (v / 16384 = b2n (decide (d.side = 2)))

/-! ### Grains of a volume -/

/-- Grains of a volume that any of its maps, deltas or origins lists, rising. -/
def Dev.grainKeys : Nat → Dev → Nat → List Nat
  | 0, _, _ => []
  | fuel + 1, d, v =>
    match d.vol v with
    | none => []
    | some x =>
      let own := x.map.map (·.1) ++ x.snaps.flatMap fun s => s.2.delta.map (·.1)
      let from_ := match x.origin with | some o => Dev.grainKeys fuel d o.1 | none => []
      sortOn (fun g => g) ((own ++ from_).filter fun g => decide (g < x.grains)).eraseDups

/-- The grains of a volume, now or at an epoch, with the entries they resolve to. -/
def Dev.grainEntries (d : Dev) (v : Nat) (epoch : Option Nat) : List (Nat × Entry) :=
  (Dev.grainKeys (d.vols.length + 1) d v).map fun g => (g, d.entryAt v epoch g)

/-- The last change of a volume past its commit point whose record for grain g has not been issued; seen at an epoch, the last that it holds (R143). -/
def Dev.unissued (d : Dev) (v g : Nat) (epoch : Option Nat) : Option (Nat × Cmd) :=
  argMax (fun e => e.2.num 6) (d.cmds.filter fun e =>
    e.2.op.edits && e.2.committed && decide (e.2.volume = v) && decide (e.2.stage ≠ .done) &&
      (match epoch with | some s => decide (e.2.num 2 ≤ s + 1) | none => true) &&
      match tget e.2.grains g with | some y => !y.issued && !y.mapped && !y.dropped | none => false)

/-- Whether grain g of a clone would be filled from a committed change of its origin whose record has not been issued; w is the part as every issued batch
leaves it (R434). -/
def Dev.originHas (d w : Dev) (v g : Nat) : Bool := (w.levelsOf v none g).tail.any fun l => (d.unissued l.1 g l.2).isSome

/-- Whether a grain of a volume is mapped or zero once every committed change is in its maps. -/
def Dev.maps (d w : Dev) (v g : Nat) : Bool :=
  match (w.levelsOf v none g).findSome? fun l => d.unissued l.1 g l.2 with
  | some e => decide (e.2.op = .write) || decide (e.2.op = .writeZeroes)
  | none => decide ((w.entryAt v none g).kind ≠ 0)

/-- Mapped and zero grains of a volume, as a snapshot of it reserves them (R428): those of its committed changes included, whether their records
have been issued or not (R143). -/
def Dev.snapNeed (d : Dev) (v : Nat) : Nat :=
  let w := d.issued
  let late := d.cmds.flatMap fun e => if e.2.op.edits && e.2.committed then e.2.grains.map (·.1) else []
  let top := match d.vol v with | some x => x.grains | none => 0
  countP (Dev.grainKeys (w.vols.length + 1) w v ++ late.filter fun g => decide (g < top)).eraseDups fun g => d.maps w v g

/-! ### Taking and dropping snapshots (R143, R145, R427, R428, R437) -/

/-- Snapshots that the part holds, those of a seized side, hidden and merging ones included (R145). -/
def Dev.snapsHeld (d : Dev) : Nat := sumN (d.vols.map fun e => e.2.snaps.length)

/-- Map entries that SNAP_CREATEs of the part's own side have reserved at their parse and not yet given to their snapshots (R428; number 27 of the command). -/
def Dev.snapsDue (d : Dev) : Nat :=
  sumN (d.cmds.map fun e => if e.2.op = .snapCreate ∧ e.2.stage ≠ .done ∧ !e.2.committed ∧ d.ownVol e.2.volume then e.2.num 27 else 0)

/-- Map entries in use (R438): capacities in grains and the reservations of snapshots, of the part's own side; of a side that the part
has seized, the entries of the map pages that are loaded. -/
def Dev.entriesUsed (d : Dev) : Nat :=
  let loaded (v : Nat) : Nat := countP d.ckpt.held fun p => decide (p.1 = 0) && decide (p.2 / 2 ^ 34 = v)
  sumN (d.vols.map fun e => if d.ownVol e.1 then e.2.grains + sumN (e.2.snaps.map fun s => s.2.reserved) else Nat.min e.2.grains (loaded e.1 * 2048)) + d.snapsDue

/-- Map entries still free. -/
def Dev.entriesFree (d : Dev) : Nat := d.mapCeil - d.entriesUsed

/-- Whether n more snapshots of a volume keep the limits of R145. -/
def Dev.snapSlots (d : Dev) (v n : Nat) : Bool :=
  match d.vol v with
  | none => false
  | some x => decide (x.snaps.length + n ≤ 1024) && decide (d.snapsHeld + n ≤ 131072)

/-- Whether the free map entries hold the reservations of n more snapshots of a volume (R428). -/
def Dev.snapEntries (d : Dev) (v n : Nat) : Bool := decide (n * d.snapNeed v ≤ d.entriesFree)

/-- Whether n more snapshots of a volume keep the limits of R145 and R428. -/
def Dev.snapRoom (d : Dev) (v n : Nat) : Bool := d.snapSlots v n && d.snapEntries v n

/-- A SNAP_CREATE reserves its map entries at its parse (R428): how many (number 27), or that there were too few (number 28). -/
def Dev.snapReserve (d : Dev) (id v : Nat) : Dev :=
  let n := d.snapNeed v
  if d.entriesFree < n then d.modCmd id fun c => c.setNum 28 1 else d.modCmd id fun c => c.setNum 27 n

/-- The map entries that a snapshot taken now reserves: those of its command's parse, or more where the command has waited since for changes that it
holds (R428, log 180). -/
def Dev.snapTakes (d : Dev) (v : Nat) (cmd : Option Nat) : Nat :=
  Nat.max (d.snapNeed v) (match cmd.bind fun i => tget d.cmds i with | some c => c.num 27 | none => 0)

/-- Whether a volume's epoch may go on by one: it must not come to 0xFFFF before its epochs have been compacted (R430). -/
def Dev.epochRoom (d : Dev) (v : Nat) : Bool := match d.vol v with | some x => decide (x.epoch < 0xFFFE) | none => true

/-- Take a snapshot of a volume (R423, R143): it has epoch E, and E goes on by one; its SNAP record is issued at once, for a command or
for the device. The slot is the lowest free one. -/
def Dev.takeSnap (d : Dev) (v : Nat) (hidden : Bool) (cmd : Option Nat) : Option (Dev × Nat) :=
  match d.vol v with
  | none => none
  | some x =>
    match (upTo 1024).find? fun s => !thas x.snaps s with
    | none => none
    | some slot =>
      let n : Snap := { sgen := (tget x.sgens slot).getD firstGen, epoch := x.epoch, hidden := hidden, deleting := false, delta := []
                        reserved := d.snapTakes v cmd }
      let d := d.modVol v fun x => { x with snaps := tput x.snaps slot n, epoch := x.epoch + 1 }
      some (d.logBatch x.group [.snap v slot n.sgen x.epoch hidden] cmd 0 [], slot)

/-- Delete a snapshot (R427, R437): it is hidden at once, and merged unless a clone still reads it. -/
def Dev.dropSnap (d : Dev) (v slot : Nat) : Dev :=
  match (d.vol v).bind fun x => (tget x.snaps slot).map fun s => (x, s) with
  | none => d
  | some (x, s) =>
    if s.deleting then d else
    let wait := d.isOrigin v slot
    (d.modSnap v slot fun s => { s with hidden := true, deleting := !wait }).logOwn x.group [.snap v slot s.sgen s.epoch true]

/-- The new number of an epoch, given those of the live snapshots: that of the lowest of them at or above it (R429). -/
def newEpoch (live : List Nat) (x : Nat) : Nat :=
  match (sortOn (fun e => e) live).zipIdx.find? fun e => decide (x ≤ e.1) with
  | some e => e.2 + 1
  | none => live.length + 1

/-- The epochs of a volume numbered anew: of its map, its snapshots and their deltas (R429). -/
def Dev.compactVol (d : Dev) (v : Nat) : Dev :=
  d.modVol v fun x =>
    let f := newEpoch (x.snaps.map (·.2.epoch))
    let conv (t : Tbl Entry) : Tbl Entry := tmap t fun _ e => { e with epoch := f e.epoch }
    { x with
      map := conv x.map
      snaps := tmap x.snaps fun _ k => { k with epoch := f k.epoch, delta := conv k.delta }
      epoch := x.snaps.length + 1
      compacting := false }

/-- Whether a session of a volume uses a snapshot. -/
def Dev.sessionUses (d : Dev) (v slot : Nat) : Bool :=
  d.sessions.any fun (e : Nat × Sess) => decide (e.2.volume = v) && (decide (e.2.base = some slot) || decide (e.2.cand = some slot))

/-! ### Replication messages (Tables 9-6, R442) -/

/-- The header of a message, its COUNTER still zero. -/
def Sess.header (s : Sess) (n : Nat) (m : ReplMsg) : Bytes :=
  toLE 1 m.type ++ toLE 1 s.keyslot ++ toLE 2 n ++ toLE 4 m.cycle ++ zeros 8 ++ toLE 8 s.remote ++ toLE 4 m.records ++
    toLE 4 m.body.length ++ zeros 32

/-- The place of a session's key. -/
def Sess.key (s : Sess) : Nat := keyPlace s.tenant true s.keyslot

/-- The nonce fixed field of a session's own messages, and of those it receives (Table 11-2). PART of a received one is the remote
part's, which no message field states: both values are tried. -/
def Dev.replField (d : Dev) (s : Sess) : Nat := nonceField 0x52 (b2n s.receiver) d.part
def Sess.hisField (s : Sess) (part : Nat) : Nat := nonceField 0x52 (b2n (!s.receiver)) part

/-- Session n changed by f. -/
def Dev.modSess (d : Dev) (n : Nat) (f : Sess → Sess) : Dev := { d with sessions := tmod d.sessions n f }

/-- Put a message to a session's outbox. -/
def Dev.replPut (d : Dev) (n type records grain : Nat) (body : Bytes) : Dev :=
  d.modSess n fun s => { s with outbox := s.outbox ++ [{ type := type, cycle := s.cycle, records := records, body := body, grain := grain }] }

/-- The HELLO of a session: its grain, its capacity and, in CYCLE, its base cycle. -/
def Dev.replHello (d : Dev) (n : Nat) : Dev :=
  match tget d.sessions n with
  | none => d
  | some s => match d.vol s.volume with
    | none => d
    | some v => d.modSess n fun s => { s with outbox := s.outbox ++ [{ type := 1, cycle := s.baseCycle, records := 0
                                                                       body := toLE 8 (b2n v.grain16) ++ toLE 8 v.capacity, grain := 0 }] }

/-- An ACK of the message with a counter; a FAIL naming the last one accepted (0 for none) with a status value (0 to ask for the rest
again). -/
def Dev.replAnswer (d : Dev) (n type counter code : Nat) : Dev := d.replPut n type 0 0 (toLE 8 counter ++ toLE 8 code)

/-- A replication failure is told: a manager event and a tenant event (R448). -/
def Dev.replFailEvents (d : Dev) (n tenant : Nat) : Dev := (d.event 0x0F00 0 0 n [9]).tenantEvent tenant 9 n

/-! ### The sending end -/

/-- Drop what a session gathers and has not sealed. -/
def Dev.replDrop (d : Dev) (n : Nat) : Dev :=
  let d := { d with freads := d.freads.filter fun (e : Nat × FRead) => match e.2.use with | .repl k _ _ => decide (k ≠ n) | _ => true }
  (d.dropHands (.repl n)).modSess n fun s => { s with
    fetch := [], outbox := s.outbox.filter fun m => decide (m.type ≠ 2) && decide (m.type ≠ 3), sealing := false }

/-- The sender's cycle ends without success: C is deleted, and the next cycle starts from B (R448). -/
def Dev.senderFail (d : Dev) (n : Nat) : Dev :=
  match tget d.sessions n with
  | none => d
  | some s =>
    let d := d.replDrop n
    let d := match s.cand with | some c => d.dropSnap s.volume c | none => d
    (d.modSess n fun s => { s with state := if s.state = .stopped then .stopped else .idle, cand := none, unacked := [] }).replFailEvents n s.tenant

/-- Begin a cycle (R444): hidden snapshot C, then its grains in order. Where C cannot be taken the cycle fails before any message, with the manager event
and R448's tenant event; while the volume's epochs must be compacted first it waits (R430). -/
def Dev.startCycle (d : Dev) (n : Nat) : Dev :=
  match tget d.sessions n with
  | none => d
  | some s =>
    let due (d : Dev) : Dev := d.modSess n fun s => { s with startedAt := d.now }
    let fails (d : Dev) : Dev := ((due d).event 0x0F00 0 0 n [8]).tenantEvent s.tenant 9 n
    if !d.epochRoom s.volume then d else
    if !d.snapRoom s.volume 1 then fails d else
    match d.takeSnap s.volume true none with
    | none => fails d
    | some (d, c) => (due d).modSess n fun s => { s with
        state := .sending, cycle := (s.cycle + 1) % 2 ^ 32, cand := some c, nextGrain := 0, records := 0, sentBytes := 0, unacked := [] }

/-- Grains of the running cycle from `nextGrain` on, with their entries as C resolves them (R444): those changed after B, and those that B maps and C does
not, also where the entry that unmapped them has been replaced since. -/
def Dev.cycleGrains (d : Dev) (s : Sess) : List (Nat × Entry) :=
  match d.vol s.volume with
  | none => []
  | some v =>
    let epoch (slot : Option Nat) : Nat := match slot.bind fun k => tget v.snaps k with | some k => k.epoch | none => 0
    let gone (e : Nat × Entry) : Bool := decide (e.2.kind = 0) && decide ((d.entryAt s.volume (some (epoch s.base)) e.1).kind ≠ 0)
    (d.grainEntries s.volume (some (epoch s.cand))).filter fun e =>
      decide (s.nextGrain ≤ e.1) && (if s.full then decide (e.2.kind ≠ 0) else decide (epoch s.base < e.2.epoch) || gone e)

/-- As many leading grains as fit one body of 262,144 bytes. -/
def Dev.fitBody (d : Dev) : List (Nat × Entry) → Nat → List (Nat × Entry)
  | [], _ => []
  | e :: r, left =>
    let n := 16 + (if e.2.kind = 2 then match tget d.crecs e.2.content with | some k => k.size | none => 0 else 0)
    if n ≤ left then e :: d.fitBody r (left - n) else []

/-- Whether a volume, or an origin it is still filled from, has changes at or before an epoch that its maps do not show yet. -/
def Dev.unappliedIn : Nat → Dev → Nat → Nat → Bool
  | 0, _, _, _ => false
  | fuel + 1, d, v, epoch =>
    (d.cmds.any fun e => decide (e.2.volume = v) && e.2.committed && decide (e.2.num 2 ≤ epoch + 1) && e.2.grains.any fun g => !g.2.mapped) ||
      match ((d.vol v).bind (·.origin)).bind fun o => ((d.vol o.1).bind fun y => tget y.snaps o.2).map fun k => (o.1, k.epoch) with
      | some o => Dev.unappliedIn fuel d o.1 o.2
      | none => false
def Dev.unapplied (d : Dev) (v epoch : Nat) : Bool := Dev.unappliedIn (d.vols.length + 1) d v epoch

/-- Record of a grain in a GRAINS body (R442): its fragment is taken in clear. -/
def grainRecord (g : Nat) (kind : Nat) (frag : Bytes) : Bytes :=
  if kind ≠ 2 then toLE 8 g ++ toLE 1 kind ++ zeros 7 else
  let n := le frag 12 1
  let raw := le frag 13 1 % 2
  let pad := le frag 14 1
  let body := frag.drop (16 + 16 * n)
  let body := body.take (body.length - pad)
  toLE 8 g ++ toLE 1 2 ++ toLE 1 raw ++ zeros 2 ++ toLE 4 body.length ++ slice frag 16 (16 * n) ++ body

/-- Gather the next message of a sending session, once it has a buffer of class G for it (R212): reads of its stored grains begin; with none
left, CYCLE_END. -/
def Dev.gather (d : Dev) (n : Nat) : Dev :=
  match tget d.sessions n with
  | none => d
  | some s =>
    match d.vol s.volume with
    | none => d
    | some v =>
      let ep := match s.cand.bind fun k => tget v.snaps k with | some k => k.epoch | none => 0
      if s.receiver ∨ s.state ≠ .sending ∨ !s.fetch.isEmpty ∨ 2 ≤ s.outbox.length ∨ d.unapplied s.volume ep then d else
      let waiting := countP s.outbox fun m => decide (m.type = 2) || decide (m.type = 3)
      let d := d.ask (.repl n) 262144 (waiting + 1) .G noTenant
      if (d.handsOf (.repl n)).length ≤ waiting then d else
      match d.cycleGrains s with
      | [] => (d.replPut n 3 s.records s.nextGrain []).modSess n fun s => { s with state := .waitAck }
      | l =>
        (d.fitBody l 262144).foldl (fun d e =>
          if e.2.kind ≠ 2 then d.modSess n fun s => { s with fetch := tput s.fetch e.1 (some (grainRecord e.1 e.2.kind [])) } else
          match (tget d.crecs e.2.content).bind fun k => k.loc.map fun l => (k, l) with
          | none => d.modSess n fun s => { s with fetch := tput s.fetch e.1 (some (grainRecord e.1 0 [])) }
          | some (k, l) =>
            let d := d.modSess n fun s => { s with fetch := tput s.fetch e.1 none }
            (d.startRead (.repl n e.1 e.2.content) l.group l.index l.offset k.size .G).1) d

/-- A grain of a session's next message has been read: decrypted from XTS, and its record made; one that cannot be read fails the
cycle. -/
def Dev.replRead (d : Dev) (n g content : Nat) (b : Option Bytes) : Dev :=
  match tget d.sessions n, b with
  | some s, some f =>
    match (d.vol s.volume).bind fun v => d.keyAt (keyPlace v.tenant false v.keydom) with
    | some k =>
      let h := 16 + 16 * le f 12 1
      let f := f.take h ++ xtsBody true (keyXts k) false content 0 (f.drop h)
      d.modSess n fun s => { s with fetch := tput s.fetch g (some (grainRecord g 2 f)) }
    | none => d.senderFail n
  | some _, none => d.senderFail n
  | none, _ => d

/-- The gathered grains of a session become its next GRAINS message. -/
def Dev.replBuild (d : Dev) (n : Nat) : Dev :=
  match tget d.sessions n with
  | none => d
  | some s =>
    if s.fetch.isEmpty ∨ s.fetch.any (fun e => e.2.isNone) then d else
    let body := s.fetch.flatMap fun e => e.2.getD []
    let first := match s.fetch.head? with | some e => e.1 | none => 0
    let last := match s.fetch.getLast? with | some e => e.1 | none => 0
    (d.replPut n 2 s.fetch.length first body).modSess n fun s => { s with
      fetch := [], nextGrain := last + 1, records := s.records + s.fetch.length }

/-- The cycle has been acknowledged whole (R444 step 4). -/
def Dev.cycleDone (d : Dev) (n : Nat) : Dev :=
  match tget d.sessions n with
  | none => d
  | some s =>
    let d := match s.base with | some b => d.dropSnap s.volume b | none => d
    let keep := s.cand.map fun c => (c, s.cycle)
    let d := d.modVol s.volume fun v => { v with replBase := keep, replAt := some s.startedAt }
    let d := match d.vol s.volume, s.cand with
      | some v, some c => d.logOwn v.group [.replBase n s.volume c s.cycle]
      | _, _ => d
    d.modSess n fun s => { s with state := .idle, base := s.cand, baseCycle := s.cycle, cand := none, full := false, committedAt := s.startedAt }

/-! ### The receiving end (R445–R448) -/

/-- The queue-pair index the grains of session n are written under. -/
def sessKey (n : Nat) : Nat := internalKey + n

/-- Whether grains that a receiving session has entered have not been acknowledged (R42, R43, R445). -/
def Dev.replBusy (d : Dev) (n : Nat) : Bool := d.cmds.any fun e => decide (e.2.qkey = sessKey n) && decide (e.2.stage ≠ .done)

/-- The status that a received grain's write has failed with, until its cycle is given up (number 28 of the command). -/
def Dev.replBroken (d : Dev) (n : Nat) : Option Code :=
  (d.cmds.find? fun e => decide (e.2.qkey = sessKey n) && decide (e.2.stage = .done) && e.2.failing && decide (e.2.num 28 = 0)).map (·.2.outcome)

/-- The partner is told which grains the unfinished cycle of a receiving session has written (R451). -/
def Dev.tellReceived (d : Dev) (n : Nat) : Dev :=
  match tget d.sessions n with
  | some s => if d.linked then d.linkTell (.control (.received s.volume s.base s.landed)) else d
  | none => d

/-- A write that a receiving session has entered has passed its commit point, and its records have been issued. -/
def Dev.replLanded (d : Dev) (c : Cmd) : Dev :=
  if c.framed then d else
  let n := c.qkey - internalKey
  (d.modSess n fun s => { s with landed := (s.landed ++ (c.grains.map (·.1)).filter fun g => !s.landed.contains g) }).tellReceived n

/-- The frame of a grain that the device writes itself. -/
def Msg.device (volume lba length : Nat) : Msg :=
  { net := { qpn := 0, port := 0, mac := 0, vlan := none, pcp := 0, ce := false, ip := .v4 0 }, flags := 0, queue := 0, tag := 0, seq := 0
    volume := BitVec.ofNat 64 volume, lba := BitVec.ofNat 64 lba, length := BitVec.ofNat 32 length, dcount := 0, stream := 0xFFFF
    param := 0, descs := [], inl := [] }

/-- Enter one received grain into the write path: KIND 0 as a DISCARD of it, 1 as zeros, 2 with its data, the grain x, at step 9, or at the engine that
decodes it (step 64). -/
def Dev.enterReceived (d : Dev) (n g kind : Nat) (x : Grain) : Dev :=
  match tget d.sessions n with
  | none => d
  | some s => match d.vol s.volume with
    | none => d
    | some v =>
      let c : Cmd :=
        { op := if kind = 0 then .discard else if kind = 1 then .writeZeroes else .write
          msg := Msg.device (v.handle s.volume) (g * v.grainSectors) v.grainBytes
          qkey := sessKey n, tenant := s.tenant, inc := 0, seq := 0, tag := 0, stamp := d.stamp, arrived := d.now, claim := .G, prio := 0
          stage := .path, hold := .none, waits := [], clamped := false, committed := false, late := false, missCause := 0
          grains := [(g, x)], descs := [], payload := [], result := [], applied := 0, retval := 0, aux := [v.grainBytes, 1]
          outcome := .success, shareTaken := true, sent := true }
      let d := { d with cmds := tput d.cmds d.nextCmd c, nextCmd := d.nextCmd + 1 }
      d.modSess n fun s => { s with wrote := if s.wrote.contains g then s.wrote else s.wrote ++ [g] }

/-- The next record of a GRAINS body: grain, KIND, RAW, stamps, fragment body, and the rest. -/
def nextRecord (spg : Nat) (b : Bytes) : Option (Nat × Nat × Bool × List Nat × Bytes × Bytes) :=
  if b.length < 16 then none else
  let g := le b 0 8
  let kind := le b 8 1
  if kind ≠ 2 then some (g, kind, false, [], [], b.drop 16) else
  let n := le b 12 4
  let st := (upTo spg).map fun i => stampOf (le b (16 + 16 * i) 12)
  some (g, 2, bit (le b 9 1) 0, st, slice b (16 + 16 * spg) n, b.drop (16 + 16 * spg + n))

/-- The grain that a record of KIND 2 holds (R445): raw, its guards checked, or coded, to be decoded by an engine; the status value where its guards
fail. -/
def receivedGrain (bytes : Nat) (raw : Bool) (st : List Nat) (body : Bytes) : Except Nat Grain :=
  let guards := body.take (8 * (bytes / 4096))
  let stored := body.drop (8 * (bytes / 4096))
  if !raw then .ok { Grain.fresh [] with step := 64, stamps := st, frag := stored, digest := guards }
  else if stored.length = bytes ∧ guardsOf stored = guards then .ok { Grain.fresh stored with step := 8, stamps := st }
  else .error 0x4004

/-- Every record of a GRAINS body entered into the write path; none, with the status value, where one fails. -/
def Dev.enterAll (n bytes : Nat) : Nat → Dev → Bytes → Except Nat Dev
  | 0, d, _ => .ok d
  | fuel + 1, d, b =>
    match nextRecord (bytes / 4096) b with
    | none => .ok d
    | some (g, kind, raw, st, body, rest) =>
      if kind = 2 then
        match receivedGrain bytes raw st body with
        | .error e => .error e
        | .ok x => Dev.enterAll n bytes fuel (d.enterReceived n g 2 x) rest
      else Dev.enterAll n bytes fuel (d.enterReceived n g kind (Grain.fresh [])) rest

/-- The records that restore some grains of a receiving volume from its commit snapshot's delta, or to KIND 0 (R448), in the part w as every issued batch
leaves it. -/
def Dev.restoreRecs (w : Dev) (v : Nat) (base : Option Nat) (gs : List Nat) : List Rec :=
  gs.flatMap fun g =>
    match w.vol v with
    | none => []
    | some x =>
      let now := x.entry g
      let drop : List Rec := if now.kind = 2 then [.crecRef now.content (-1)] else []
      match base.bind fun b => (tget x.snaps b).bind fun k => (tget k.delta g).map fun e => (b, e) with
      | some (b, e) => drop ++ [.vmap v g e, .deltaDrop v b g]
      | none => drop ++ [.vmap v g Entry.none_]

/-- A receiving cycle fails (R448): what it has on its way is dropped, and each grain it wrote, its write committed, is restored. -/
def Dev.rollBack (d : Dev) (n : Nat) : Dev :=
  match tget d.sessions n with
  | none => d
  | some s =>
    match d.vol s.volume with
    | none => d
    | some v =>
      let late := d.cmds.filter fun e => decide (e.2.qkey = sessKey n) && (!e.2.committed || e.2.failing)
      let d : Dev := late.foldl (fun (d : Dev) e => (d.endCmd e.1 .aborted 0 0).modCmd e.1 fun c => c.setNum 28 1) d
      let d := d.logOwn v.group (d.issued.restoreRecs s.volume s.base s.landed)
      (d.modSess n fun (s : Sess) => { s with
        wrote := [], landed := [], state := if s.state = .stopped ∨ s.state = .mismatch then s.state else .idle, endDue := none }).tellReceived n

/-- The cycle's writes are acknowledged: the new commit snapshot is taken, the previous one deleted, and CYCLE_END acknowledged (R445); while the volume's
epochs must be compacted first it waits (R430). -/
def Dev.commitCycle (d : Dev) (n counter : Nat) : Dev :=
  match tget d.sessions n with
  | none => d
  | some s =>
    if !d.epochRoom s.volume then d else
    match d.takeSnap s.volume true none with
    | none => (d.rollBack n).replFailEvents n s.tenant
    | some (d, c) =>
      let d := match s.base with | some b => d.dropSnap s.volume b | none => d
      let d := d.modVol s.volume fun v => { v with replBase := some (c, s.cycle), replAt := some s.startedAt }
      let d := match d.vol s.volume with | some v => d.logOwn v.group [.replBase n s.volume c s.cycle] | none => d
      ((d.modSess n fun s => { s with base := some c, baseCycle := s.cycle, wrote := [], landed := [], endDue := none, state := .idle, full := false
                                      committedAt := s.startedAt }).tellReceived n).replAnswer n 4 counter 0

/-! ### SNAP_CREATE and CLONE_CREATE (R143, R145, R432, R433) -/

/-- Whether a receiving session has a cycle that has neither been committed nor failed, stopped or not. -/
def Sess.midCycle (s : Sess) : Bool :=
  s.receiver && (decide (s.state = .sending) || decide (s.state = .waitAck) || !s.wrote.isEmpty || s.endDue.isSome)

/-- Whether a new epoch of a volume may be taken now: not while it receives a cycle (R446), nor while its epochs must be compacted
first (R430). -/
def Dev.epochFree (d : Dev) (v : Nat) : Bool :=
  let cycle := d.sessions.any fun (e : Nat × Sess) => decide (e.2.volume = v) && e.2.midCycle
  !cycle && d.epochRoom v

/-- The volume number of a command's handle, and the snapshot slot it names. -/
def Cmd.volNo (c : Cmd) : Nat := c.msg.volume.toNat % 16384 + bits c.msg.volume.toNat 14 1 * 16384
def Cmd.slotNo (c : Cmd) : Option Nat := if bit c.msg.volume.toNat 15 then some (bits c.msg.volume.toNat 16 10) else none

/-- A command held at step 4 for a reason. -/
def Dev.holdFor (d : Dev) (id : Nat) (h : Hold) : Dev := d.modCmd id fun c => { c with hold := h }

/-- SNAP_CREATE passes step 4, or waits there: for a free slot, for the end of a cycle or of a compaction. The map entries it reserved at its parse are its
snapshot's from now on. -/
def Dev.runSnapCreate (d : Dev) (id : Nat) : Dev :=
  match tget d.cmds id with
  | none => d
  | some c =>
    let v := c.volNo
    match d.vol v with
    | none => d.endCmd id .handleInvalid 0 0
    | some x =>
      if !d.epochFree v then d.holdFor id .snap
      else if 131072 ≤ d.snapsHeld then d.endCmd id .limit 0 0
      else if 1024 ≤ x.snaps.length then
        if c.hold = .snapSlot then d
        else if bits x.vflags 3 1 = 0 then d.endCmd id .limit 0 0
        else match argMin (fun e => e.2.epoch) (x.snaps.filter fun e => !e.2.hidden) with
          | none => d.endCmd id .limit 0 0
          | some e => (d.dropSnap v e.1).holdFor id .snapSlot
      else if c.num 28 = 1 ∨ d.entriesFree + c.num 27 < d.snapTakes v (some id) then d.endCmd id .limit 0 0
      else match d.takeSnap v false (some id) with
        | none => d.endCmd id .limit 0 0
        | some (d, slot) =>
          let h := match d.vol v with | some x => x.snapHandle v slot | none => 0
          d.modCmd id fun c => { c with committed := true, hold := .none, retval := h }

/-- The lowest volume number of the part's own side that is not in use. -/
def Dev.freshVol (d : Dev) : Option Nat :=
  let base := if d.side = 2 then 16384 else 0
  ((upTo 16384).map (· + base)).find? fun v => !thas d.vols v

/-- CLONE_CREATE: of a snapshot, or of a hidden snapshot that it takes. -/
def Dev.runCloneCreate (d : Dev) (id : Nat) : Dev :=
  match tget d.cmds id with
  | none => d
  | some c =>
    let v := c.volNo
    match d.vol v with
    | none => d.endCmd id .handleInvalid 0 0
    | some x =>
      let ro : Bool := match d.group x.group with | some g => decide (g.state = .readOnly) | none => true
      if ro then d.endCmd id .paramInvalid 0 0
      else if c.slotNo.isNone ∧ !d.epochFree v then d.holdFor id .snap else
      match d.freshVol with
      | none => d.endCmd id .limit 0 0
      | some n =>
        if c.slotNo.isNone ∧ !d.snapSlots v 1 then d.endCmd id .limit 0 0
        else if d.mapCeil < d.entriesUsed + x.grains + (if c.slotNo.isNone then d.snapNeed v else 0) then d.endCmd id .noMapSpace 0 0 else
        let r := match c.slotNo with | some s => some (d, s) | none => d.takeSnap v true none
        match r with
        | none => d.endCmd id .limit 0 0
        | some (d, s) =>
          let y : Vol :=
            { x with vgen := (tget d.vgens n).getD firstGen, epoch := 1, map := [], snaps := [], sgens := [], origin := some (v, s), fillTo := 0
                     filledAhead := [], dying := false, compacting := false, replBase := none, replAt := none }
          (({ d with vols := tput d.vols n y }.logOwn x.group [.clone n y.vgen v s]).modCmd id fun c => { c with committed := true }).endCmd id .success 0
            (y.handle n)

/-- Commands that wait for a snapshot slot, a cycle's end or a compaction try again. -/
def Dev.snapWaiters (d : Dev) : Dev :=
  let ids := tkeys d.cmds fun _ c => decide (c.hold = .snap) || decide (c.hold = .snapSlot)
  ids.foldl (fun d i =>
    match tget d.cmds i with
    | none => d
    | some c => if c.op = .snapCreate then d.runSnapCreate i else if c.op = .cloneCreate then d.runCloneCreate i else d) d

/-! ### What sessions do by themselves -/

/-- A receiving cycle fails with a status value: rolled back, told to the sender and by events (R448). -/
def Dev.receiverFail (d : Dev) (n code : Nat) : Dev :=
  match tget d.sessions n with
  | none => d
  | some s => ((d.rollBack n).replAnswer n 5 (s.lastAccepted.getD 0) code).replFailEvents n s.tenant

/-- Close a session (R450): its snapshots are deleted. -/
def Dev.closeSession (d : Dev) (n : Nat) : Dev :=
  match tget d.sessions n with
  | none => d
  | some s =>
    let d := if s.midCycle then d.rollBack n else d
    let d := d.replDrop n
    let d := (s.base.toList ++ s.cand.toList).foldl (fun d k => d.dropSnap s.volume k) d
    let d := d.modVol s.volume fun v => { v with replBase := none, replAt := none }
    { d with sessions := tdel d.sessions n, eth := { d.eth with qps := tmod d.eth.qps s.qpn fun q => { q with use := .unbound, since := d.now } } }

/-- What a session does by itself from the present state. A received write that fails fails its cycle like the causes that R448 names (DEDUCED, log 184). -/
def Dev.sessionSettle (d : Dev) (n : Nat) : Dev :=
  let d := (d.replBuild n).gather n
  match tget d.sessions n with
  | none => d
  | some s =>
    let d := match d.replBroken n, s.endDue with
      | some code, _ => d.receiverFail n code.value
      | none, some c => if d.replBusy n then d else d.commitCycle n c
      | none, none => d
    match tget d.sessions n with
    | none => d
    | some s => match s.closer with
      | none => d
      | some id => if s.state = .sending ∨ s.state = .waitAck then d else ((d.closeSession n).succeed id 0)

/-- What every session does by itself. -/
def Dev.sessionsSettle (d : Dev) : Dev := ((tkeys d.sessions fun _ _ => true).foldl (fun d n => d.sessionSettle n) d).snapWaiters

end Sys2Proof.Machine
end

