-- ==== Sys2Proof/Machine/Xfers.lean ====
section
/-! DEFINITION. Device-initiated transfers: data fetched by RDMA READ, data and results sent by RDMA WRITE, and the bitmap of
migration logging (R48, R77, R79, R93–R98, R125, R166, R167). -/

namespace Sys2Proof.Machine

/-- Bytes a sector takes in a command's transfer (R79). -/
def Cmd.unit (c : Cmd) : Nat := if c.msg.hostTuple then 4112 else 4096

/-- Transfer size of a command (R93): LENGTH, with tuples where HOST_TUPLE is set. -/
def Cmd.transfer (c : Cmd) : Nat := if c.msg.hostTuple then c.length * 4112 / 4096 else c.length

/-- The parts of some descriptors that bytes [skip, skip + n) of their concatenation take: address, length and offset from the
first of those bytes (R95). -/
def spans : List Desc → Nat → Nat → Nat → List (Nat × Nat × Nat)
  | [], _, _, _ => []
  | x :: r, skip, n, off =>
    if n = 0 then [] else
    let l := x.len.toNat
    if l ≤ skip then spans r (skip - l) n off else
    let k := Nat.min n (l - skip)
    ((x.addr.toNat + skip) % 2 ^ 64, k, off) :: spans r 0 (n - k) (off + k)

/-- Sum of some descriptors' lengths. -/
def descSum (l : List Desc) : Nat := sumN (l.map fun x => x.len.toNat)

/-- Whether queue pair n carries transfers: it exists and has not failed. -/
def Dev.qpLive (d : Dev) (n : Nat) : Bool := match tget d.eth.qps n with | some p => !p.failed | none => false

/-- Start one transfer of a command on a queue pair: it goes out at once, or once fewer than 16 RDMA READs are before it. -/
def Dev.post (d : Dev) (id qpn : Nat) (load : Load) (read : Bool) (addr n : Nat) (data : Bytes) : Dev :=
  let x := d.nextXfer
  let t : Xfer := { cmd := id, qpn := qpn, load := load, read := read, addr := addr, length := n, data := data }
  let d := { d with xfers := tput d.xfers x t, nextXfer := x + 1 }
  if d.posted x t then d.emit (if read then .rdmaRead x qpn addr n else .rdmaWrite x qpn addr data) else d

/-- Whether a command has transfers in flight. -/
def Dev.moving (d : Dev) (id : Nat) : Bool := d.xfers.any fun e => e.2.cmd = id

/-- The queue pair that carried a command. -/
def Cmd.qpn (c : Cmd) : Nat := c.msg.net.qpn.toNat

/-- A transfer of a command is begun on the queue pair that carried it; where that has failed in the meantime, the transfer fails at once,
and the command is finished inside the device (R97, R107). -/
def Dev.onQp (d : Dev) (id : Nat) (c : Cmd) (f : Dev → Dev) : Dev := if d.qpLive c.qpn then f d else d.transferFailed id

/-- Fetch bytes [from, from + n) of a command's transfer by RDMA READ. -/
def Dev.fetch (d : Dev) (id start n : Nat) : Dev :=
  match tget d.cmds id with
  | none => d
  | some c => d.onQp id c fun d => (spans c.descs start n 0).foldl (fun d s => d.post id c.qpn (.data (start + s.2.2)) true s.1 s.2.1 []) d

/-- Fetch the indirect list of a command (R76, R77). -/
def Dev.fetchList (d : Dev) (id : Nat) : Dev :=
  match tget d.cmds id with
  | none => d
  | some c => match c.msg.descs with
    | x :: _ => d.onQp id c fun d => d.post id c.qpn .list true x.addr.toNat (c.msg.dcount.toNat * 16) []
    | [] => d

/-- The descriptors of an indirect list (R74, R76). -/
def descsOf (b : Bytes) : List Desc := (chunks 16 (b.length / 16) b).map descAt

/-! ### Migration logging (R166, R167) -/

/-- The 64-bit word w of a migration bitmap. -/
def Migr.word (m : Migr) (w : Nat) : Bytes := toLE 8 (sumN ((upTo 64).map fun i => if m.bits.contains (w * 64 + i) then 2 ^ i else 0))

/-- Whether word w of a tenant's bitmap is on its way. -/
def Dev.wordMoving (d : Dev) (m : Migr) (w : Nat) : Bool :=
  d.xfers.any fun e => decide (e.2.load = Load.bitmap) && decide (e.2.qpn = m.issuer) && decide (e.2.addr = m.desc.addr.toNat + 8 * w)

/-- Note the host pages that an RDMA WRITE for a tenant covers: bits set and their words written, pages outside the bitmap
counted. A word that another command has set and that is still on its way is written for this one too, which waits for it (R167). No word
can be written once the issuer's queue pair has failed. -/
def Dev.markPages (d : Dev) (id t addr n : Nat) : Dev :=
  match (tget d.tenants t).bind (·.migr) with
  | none => d
  | some m =>
    if n = 0 then d else
    let pages := (upTo ((addr + n - 1) / 4096 - addr / 4096 + 1)).map (· + addr / 4096)
    let inside := pages.filter fun p => decide (m.base / 4096 ≤ p) && decide (p - m.base / 4096 < m.length * 8)
    let all := inside.map (· - m.base / 4096)
    let new := all.filter fun i => !m.bits.contains i
    let m := { m with bits := m.bits ++ new }
    let words := (all.filter fun i => new.contains i || d.wordMoving m (i / 64)).map (· / 64) |>.eraseDups
    let d := d.modTenant t fun x => { x with migr := some m, migrOut := sat32 (x.migrOut + (pages.length - inside.length)) }
    if !d.qpLive m.issuer then d else
    words.foldl (fun d w => d.post id m.issuer .bitmap false (m.desc.addr.toNat + 8 * w) 8 (m.word w)) d

/-- Send bytes at position `start` of a command's result or read data by RDMA WRITE (read step 12). -/
def Dev.send (d : Dev) (id start : Nat) (b : Bytes) : Dev :=
  match tget d.cmds id with
  | none => d
  | some c => d.onQp id c fun d => (spans c.descs start b.length 0).foldl (fun d s =>
      (d.post id c.qpn (.result (start + s.2.2)) false s.1 s.2.1 (slice b s.2.2 s.2.1)).markPages id c.tenant s.1 s.2.1) d

/-- Send a whole result (R125): its command completes SUCCESS once the writes are acknowledged. -/
def Dev.sendResult (d : Dev) (id : Nat) (b : Bytes) (retval : Nat) : Dev :=
  let d := d.modCmd id fun c => { c with stage := .result, hold := .none, committed := true, result := b, retval := retval }
  if b.isEmpty then d.endCmd id .success 0 retval else d.send id 0 b

end Sys2Proof.Machine
end

