-- ==== Sys2Proof/Machine/Path.lean ====
section
/-! DEFINITION. The write path and the read path (Tables 1-4 and 1-5): what the part does of itself between the events that
the table of commands names.  `Grain.step` is the last step completed; further values stand between two steps: 70 to 72 the
merge of a partial grain (stored grain being read, read, decrypted), 75 the ingest filter running, 60 to 62 the byte compare
of a fingerprint match, 63 a match that cannot be read, 64 a received grain at the engine that decodes it (R445), 95 a read grain decrypted but not yet expanded, 19 the commit hook running, 20 nothing left to do. -/

namespace Sys2Proof.Machine

/-! ### Ranges and handles -/

/-- First sector and sectors of a command's range, in its volume. -/
def Cmd.lba (c : Cmd) : Nat := c.msg.lba.toNat
def Cmd.sectors (c : Cmd) : Nat := c.length / 4096

/-- Sectors of a grain. -/
def Cmd.spg (c : Cmd) : Nat := c.num 0 / 4096

/-- The grains a range touches (R99). -/
def Cmd.grainRange (c : Cmd) : List Nat :=
  if c.sectors = 0 ∨ c.spg = 0 then [] else
  let a := c.lba / c.spg
  (upTo ((c.lba + c.sectors - 1) / c.spg - a + 1)).map (· + a)

/-- The sectors of grain g that a command covers, relative to the start of its range: first, and one past the last. -/
def Cmd.cover (c : Cmd) (g : Nat) : Nat × Nat :=
  (g * c.spg - c.lba, Nat.min c.sectors ((g + 1) * c.spg - c.lba))

/-- Whether a command covers grain g only in part. -/
def Cmd.partial_ (c : Cmd) (g : Nat) : Bool :=
  decide (g * c.spg < c.lba) || decide (c.lba + c.sectors < (g + 1) * c.spg)

/-- Whether two commands overlap (R99): a grain of the same volume, or of the same snapshot, in common. -/
def Cmd.overlaps (a b : Cmd) : Bool :=
  decide (a.msg.volume = b.msg.volume) && (a.op.edits || decide (a.op = .read)) && (b.op.edits || decide (b.op = .read)) &&
    (a.grainRange.any fun g => b.grainRange.contains g)

/-! ### What a grain holds (R49, R101, R102, R426) -/

/-- Sectors that lie over a grain: the first of them in the grain, their bytes, their stamps. -/
abbrev Patch := Nat × Bytes × List Nat

/-- Some sectors of a grain laid over it. -/
def layOver (b : Bytes) (stamps : List Nat) (p : Patch) : Bytes × List Nat :=
  (patch b (p.1 * 4096) p.2.1, stamps.take p.1 ++ p.2.2 ++ stamps.drop (p.1 + p.2.2.length))

/-- Whether some sectors are a grain of `whole` bytes entire. -/
def isWhole (whole : Nat) (p : Patch) : Bool := decide (p.1 = 0) && decide (p.2.1.length = whole)

/-- Writes laid over a grain, each with its number, from the last on that covers it entire: those that its bytes come from. -/
def serving (whole : Nat) (l : List (Nat × Patch)) : List (Nat × Patch) :=
  let after := (l.reverse.takeWhile fun e => !isWhole whole e.2).reverse
  l.drop (l.length - after.length - 1)

/-- Sectors as they came with their tuples, less the tuples (R80). -/
def offTuples (b : Bytes) : Bytes := (chunks 4112 (b.length / 4112) b).flatMap fun s => s.take 4096

/-- First sector in grain g, and sectors of it, that a command covers. -/
def Cmd.within (c : Cmd) (g : Nat) : Nat × Nat := (c.lba + (c.cover g).1 - g * c.spg, (c.cover g).2 - (c.cover g).1)

/-- What command k holds in the write buffer for grain g, from write step 5 until its buffers are released (R49): the sectors it
covers of a grain that has not been merged, and the whole grain from then on; zeros of a WRITE_ZEROES, DISCARD or STRIP that has passed
its hazards, and of a grain that a VOL_RESIZE has removed, until the map says so (R142). -/
def Cmd.holds (k : Cmd) (g : Nat) : Option Patch :=
  match tget k.grains g with
  | none => none
  | some y =>
    let dead := decide (k.stage = .done) && k.failing && !y.issued
    let n := (k.within g).2
    let raw := if k.msg.hostTuple then offTuples y.data else y.data
    if y.dropped ∨ y.stale ∨ dead then none
    else if k.op = .volResize then (if y.mapped then none else some (0, zeros (k.num 0), List.replicate k.spg 0))
    else if 7 ≤ y.step ∧ y.step ≠ 70 ∧ y.step ≠ 71 ∧ y.step ≠ 72 ∧ y.data.length = k.num 0 then some (0, y.data, y.stamps)
    else if k.op = .write then
      if y.step = 5 ∨ y.step = 6 then some ((k.within g).1, raw, List.replicate n k.stamp)
      else if y.step = 70 ∨ y.step = 71 ∨ y.step = 72 then some ((k.within g).1, y.data, List.replicate n k.stamp) else none
    else if k.op.edits ∧ k.num 1 = 1 ∧ (k.stage = .path ∨ k.committed) then some ((k.within g).1, zeros (n * 4096), List.replicate n 0)
    else none

/-- How late command k's data comes in the order in which a reader sees it: a committed change by its place in the order of
commits, one that has not committed after all of those. -/
def Cmd.weight (k : Cmd) (id : Nat) : Nat := if k.committed then k.num 6 else 2 ^ 64 + id

/-- Whether a command that reads may be served by the write k with number i: earlier on its own queue, any other queue's that is
committed or a WRITE with its data in tile memory; of a snapshot, only those its epoch holds (R101, R102, R426). -/
def Cmd.sees (c : Cmd) (id : Nat) (epoch : Option Nat) (k : Cmd) (i : Nat) : Bool :=
  match epoch with
  | some e => k.committed && decide (k.num 2 ≤ e + 1)
  | none => if k.qkey = c.qkey then decide (i < id) else k.committed || decide (k.op = .write)

/-- Whether a command that reads grain g may be served by the write k with number i: of its own volume, or of an origin while the grain is unfilled, where only
what the origin's snapshot holds is seen (R434). -/
def Dev.inView (d : Dev) (c : Cmd) (id : Nat) (epoch : Option Nat) (g : Nat) (k : Cmd) (i : Nat) : Bool :=
  if k.volume = c.volume then c.sees id epoch k i
  else (d.levelsOf c.volume epoch g).tail.any fun l => decide (l.1 = k.volume) && k.committed && l.2.any fun s => decide (k.num 2 ≤ s + 1)

/-- What a reader finds at grain g: the content that the map names, zeros where it names none, and over it what the write buffer holds that it may see, in
the order of commits, each with its command. -/
def Dev.look (d : Dev) (c : Cmd) (id : Nat) (epoch : Option Nat) (committedOnly : Bool) (g : Nat) : Option Nat × List (Nat × Patch) :=
  let ks := d.cmds.filterMap fun e =>
    if decide (e.1 ≠ id) && e.2.snap.isNone && (!committedOnly || e.2.committed) && d.inView c id epoch g e.2 e.1
    then (e.2.holds g).map fun b => (e.2.weight e.1, e.1, b) else none
  let n := d.entryAt c.volume epoch g
  (if n.kind = 2 then some n.content else none, (sortOn (·.1) ks).map (·.2))

/-- The locator of a content, with where its log stripe lies now. -/
def Dev.baseOf (d : Dev) (content : Nat) : Option ReadBase :=
  (tget d.crecs content).bind fun k => k.loc.bind fun l => (d.slot l.group l.index).map fun s =>
    { loc := l, size := k.size, segment := s.segment, unit := s.unit, slc := s.slc }

/-- A grain of a read once some writes are laid over its base. -/
def Cmd.shown (c : Cmd) (x : Grain) : Bytes × List Nat := x.laid.foldl (fun m p => layOver m.1 m.2 p) (x.data, x.stamps)

/-- Whether grain g of a change waits for another that goes before it: one of its queue that has passed its commit point, or of any other
that has its data placed, and whose record for the grain has not been issued. A merge takes that one's data only once it is whole, and its
record goes first (R100; the model's own rule for writes of different queues). -/
def Dev.behind (d : Dev) (id : Nat) (c : Cmd) (g : Nat) (whole : Bool) : Bool :=
  d.cmds.any fun (e : Nat × Cmd) =>
    decide (e.1 ≠ id) && e.2.op.edits && e.2.committed && decide (e.2.stage ≠ .done) && decide (e.2.msg.volume = c.msg.volume) && (!c.committed || decide (e.2.num 6 < c.num 6)) &&
      match tget e.2.grains g with
      | some y => !y.issued && !y.mapped && (decide (e.2.qkey = c.qkey) || decide (5 ≤ y.step)) &&
          !(whole && (y.dropped || (match e.2.holds g with | some p => decide (p.2.1.length = c.num 0) | none => false)))
      | none => false

/-- The session that receives into a volume. -/
def Dev.receiverOf (d : Dev) (v : Nat) : Option Sess :=
  (d.sessions.find? fun (e : Nat × Sess) => e.2.receiver && decide (e.2.volume = v)).map (·.2)

/-- The epoch a command reads at: that of the snapshot it names; of a receiving volume that of its commit snapshot (R446), before
whose first one nothing is held. -/
def Dev.readEpoch (d : Dev) (c : Cmd) : Option Nat :=
  let epoch (s : Nat) : Option Nat := (d.vol c.volume).bind fun v => (tget v.snaps s).map (·.epoch)
  match c.snap, d.receiverOf c.volume with
  | some s, _ => epoch s
  | none, some r => some ((r.base.bind epoch).getD 0)
  | none, none => none

/-- A hold on content (R419). -/
def Dev.holdContent (d : Dev) (c : Nat) : Dev := { d with crecs := tmod d.crecs c fun k => { k with holds := k.holds + 1 } }

/-! ### Bindings (R153, R154) -/

/-- The binding of a point that applies to a write: one of its stream first, then one of every write of its volume, of either first the one that a BIND_PROGRAM
has still to make; none for a write parsed before the BIND_PROGRAM, and one that has been unbound for the writes that had begun step 8 by then (R154). -/
def Dev.bindingFor (d : Dev) (c : Cmd) (id point : Nat) : Option Binding :=
  let live (b : Binding) : Bool := match b.binder with
    | none => true
    | some i => (match tget d.cmds i with | some k => decide (k.stage ≠ .done) | none => false)
  let ok (s : Option Nat) (b : Binding) : Bool :=
    live b && decide (b.volume = c.volume) && decide (b.point = point) && decide (b.stream = s) && decide (b.since < id) && b.ended.all (·.contains id)
  let find (s : Option Nat) : Option Binding := (d.bindings.find? fun b => ok s b && b.binder.isSome).orElse fun _ => d.bindings.find? (ok s)
  (match c.streamId with | some s => find (some s) | none => none).orElse fun _ => find none

/-- Whether a write was parsed after a BIND_PROGRAM of either point that has not completed: it is held at step 8 (R154). -/
def Dev.bindAwaits (d : Dev) (c : Cmd) (id : Nat) : Bool :=
  decide (c.op = .write) && [1, 2].any fun p => (d.bindingFor c id p).any fun b => b.binder.isSome

/-! ### Stored fragments -/

/-- SECTORS, RAW, PAD and the stamps of a fragment's header (Table 7-2). -/
def fragSectors (f : Bytes) : Nat := le f 12 1
def fragRaw (f : Bytes) : Bool := bit (le f 13 1) 0
def fragPad (f : Bytes) : Nat := le f 14 1
def fragStamps (f : Bytes) : List Nat := (upTo (fragSectors f)).map fun i => stampOf (le f (16 + 16 * i) 12)

/-- The body of a fragment, and the fragment with its body replaced. -/
def fragBody (f : Bytes) : Bytes := f.drop (16 + 16 * fragSectors f)
def fragWith (f b : Bytes) : Bytes := f.take (16 + 16 * fragSectors f) ++ b

/-- The guards and the stored grain, coded or raw, of a fragment whose body is in clear (R309). -/
def fragGuards (f : Bytes) : Bytes := (fragBody f).take (8 * fragSectors f)
def fragGrain (f : Bytes) : Bytes :=
  let b := (fragBody f).drop (8 * fragSectors f)
  b.take (b.length - fragPad f)

/-! ### Ends of reads from flash -/

/-- A decode of stored content failed: the DECODE_FAIL event with the content's locator (R464). -/
def Dev.decodeFail (d : Dev) (content result : Nat) : Dev :=
  let l := match (tget d.crecs content).bind (·.loc) with | some l => l.word | none => 0
  d.event 0x0408 0 0 (contentGroup content) [l, result - 2]

/-- A grain of a command has its stored bytes from flash, or cannot have them: the next state between steps, or the command
fails MEDIA_UNREADABLE. -/
def Dev.grainRead (d : Dev) (id g : Nat) (b : Option Bytes) : Dev :=
  match d.grain id g, b with
  | some x, some b =>
    if x.step = 70 then d.modGrain id g fun x => { x with step := 71, frag := b }
    else if x.step = 60 then d.modGrain id g fun x => { x with step := 61, frag := b }
    else if x.step = 7 then d.modGrain id g fun x => { x with step := 9, frag := b }
    else d
  | some x, none => if x.step = 60 then d else d.failAt id g .mediaUnreadable
  | none, _ => d

/-- A finished flash read goes to what it is for. Reads of rebuild units are left to the rebuild. A VERIFY read that
delivers nothing counts as bytes that differ (DESIGN CHOICE, log 176). -/
def Dev.readDone (d : Dev) (r : FRead) (b : Option Bytes) : Dev :=
  match r.use with
  | .grain id g => d.grainRead id g b
  | .verify id g _ => match b with
    | some _ => d.grainRead id g b
    | none => d.modGrain id g fun x => { x with step := 63 }
  | .fragment _ _ | .stripe _ | .system _ _ => d.moveArrived r b
  | .repl n g content => d.replRead n g content b
  | .page t p => d.pageArrived (t, p)
  | .refresh _ _ => if b.isSome then d.refreshArrived r else d
  | .unit _ _ _ | .sample _ _ => d

/-- Every finished read taken to what it is for; a copy for the log once the packer has the buffers it takes. -/
def Dev.takeReads : Nat → Dev → Dev
  | 0, d => d
  | fuel + 1, d =>
    match d.freads.findSome? fun e => match e.2.use with
      | .unit _ _ _ | .sample _ _ => none
      | _ => e.2.finished.bind fun b => if b.isNone || (d.moveRoom e.2).2 then some (e.1, e.2, b) else none with
    | none => (d.freads.filter fun e => e.2.finished.isSome).foldl (fun d e => (d.moveRoom e.2).1) d
    | some (k, r, b) => Dev.takeReads fuel ({ d with freads := tdel d.freads k }.readDone r b)

/-- Begin the flash read of a grain at the locator its lookup took (read step 7); none where it has none or its group is offline. -/
def Dev.readBase (d : Dev) (use : ReadUse) (b : Option ReadBase) (c : Claim) : Option Dev :=
  b.bind fun b =>
    let off : Bool := match d.group b.loc.group with | some x => decide (x.state = .offline) | none => true
    if off then none else some (d.startReadAt use b.loc.group b.loc.index b.segment b.unit b.slc b.loc.offset b.size c).1

/-- Begin the flash read of a content for a use (read step 7); none where the content has no place or its group is offline. -/
def Dev.readContent (d : Dev) (use : ReadUse) (content : Nat) (c : Claim) : Option Dev :=
  match tget d.crecs content with
  | none => none
  | some k => match k.loc with
    | none => none
    | some l =>
      let off : Bool := match d.group l.group with | some x => decide (x.state = .offline) | none => true
      if off then none
      else some (d.startRead use l.group l.index l.offset k.size c).1

/-! ### Dedup (R415–R422) -/

/-- Count one dedup outcome (MAP_DEDUP_CNT). -/
def Dev.countDedup (d : Dev) (i : Nat) : Dev := d.bump (MAP_DEDUP_CNT_COUNT i)

/-- Insert an index entry with PENDING set (R421): a full bucket gives up its oldest entry whose content has one reference; none
such, and the new one is not inserted; content whose CREC_NEW is not applied has no reference yet and is not given up (DEDUCED, log 177). -/
def Dev.insertIndex (d : Dev) (fp : Bytes) (content tenant keydom b : Nat) : Dev :=
  let l := d.bucket b
  let e : IdxEntry := { fp := fp, content := content, tenant := tenant, keydom := keydom, pending := true }
  let mark (d : Dev) : Dev := { d with crecs := tmod d.crecs content fun k => { k with indexed := true, bucket := b } }
  if l.length < 16 then mark (d.setBucket b (l ++ [e]))
  else
    match l.find? fun e => match tget d.crecs e.content with | some k => decide (k.refs = 1) | none => false with
    | some o => mark (((d.dropIndex o.content).countDedup 2).setBucket b (((d.dropIndex o.content).bucket b) ++ [e]))
    | none => d.countDedup 3

/-- A content record for a new content that is not placed yet. -/
def Crec.fresh (sectors : Nat) : Crec :=
  { loc := none, size := 0, sectors := sectors, raw := false, refs := 0, pinned := false, stripPending := false, indexed := false
    bucket := 0, holds := 0 }

/-- Give a grain of a write its content ID (R408, R413). -/
def Dev.nameContent (d : Dev) (id g group sectors : Nat) : Dev :=
  match d.takeSerial group with
  | none => d.failAt id g .limit
  | some (d, cid) =>
    { d with crecs := tput d.crecs cid (Crec.fresh sectors) }.modGrain id g fun x => { x with content := some cid }

/-- A grain goes on as new content: named, and put into the index if it is to be. -/
def Dev.newContent (d : Dev) (id g : Nat) (v : Vol) (insert : Bool) : Dev :=
  let d := d.nameContent id g v.group v.grainSectors
  match d.grain id g with
  | none => d
  | some x =>
    let d := match x.content, insert with
      | some c, true => d.insertIndex x.digest c v.tenant v.keydom (d.bucketOf x.digest v.group v.keydom)
      | _, _ => d
    d.modGrain id g fun x => { x with step := 10, match? := none }

/-- The fingerprint of a grain has been computed: Table 9-4, first row that applies. -/
def Dev.dedup (d : Dev) (id g : Nat) (fp : Bytes) : Dev :=
  match tget d.cmds id with
  | none => d
  | some c =>
    match d.vol c.volume with
    | none => d
    | some v =>
      let d := d.modGrain id g fun x => { x with digest := fp }
      let b := d.bucketOf fp v.group v.keydom
      let mine (e : IdxEntry) : Bool :=
        decide (e.fp = fp) && decide (e.tenant = v.tenant) && decide (e.keydom = v.keydom) && decide (contentGroup e.content = v.group)
      if !d.pageHeld (indexPage b) then ((d.countDedup 6).loadPage (indexPage b).1 (indexPage b).2).newContent id g v false
      else
        let d := (d.hotLookup fp v.tenant v.keydom v.group).1
        match (d.bucket b).find? mine with
        | none => (d.countDedup 1).newContent id g v true
        | some e =>
          if e.pending then (d.countDedup 1).newContent id g v false else
          match tget d.crecs e.content with
          | none => (d.countDedup 1).newContent id g v false
          | some k =>
            if k.pinned then
              let d := ((d.countDedup 4).hotDrop fp v.tenant v.keydom v.group).newContent id g v false
              match (d.grain id g).bind (·.content) with
              | none => d
              | some n =>
                let d := d.setBucket b ((d.bucket b).map fun o => if mine o then { o with content := n, pending := true } else o)
                { d with crecs := tmod (tmod d.crecs e.content fun k => { k with indexed := false }) n fun k => { k with indexed := true, bucket := b } }
            else if v.verify then
              let d := d.holdContent e.content
              match d.readContent (.verify id g e.content) e.content c.claim with
              | some d => d.modGrain id g fun x => { x with step := 60, match? := some e.content }
              | none => d.modGrain id g fun x => { x with step := 63, match? := some e.content }
            else
              let i := (((d.bucket b).zipIdx.find? fun o => mine o.1).map (·.2)).getD 0
              let d := ((d.holdContent e.content).countDedup 0).hotPut fp v.tenant v.keydom v.group b i
              d.modGrain id g fun x => { x with step := 13, match? := some e.content, replaced := true }

/-- The byte compare of a match has its answer (R418): a hit, or new content with the entry left as it is. -/
def Dev.verified (d : Dev) (id g : Nat) (same : Bool) : Dev :=
  match tget d.cmds id, d.grain id g with
  | some c, some x =>
    match d.vol c.volume, x.match? with
    | some v, some m =>
      if same then (d.countDedup 0).modGrain id g fun x => { x with step := 13, replaced := true }
      else ((d.unhold m).countDedup 5).newContent id g v false
    | _, _ => d
  | _, _ => d

/-! ### Steps 5 to 12 of a write -/

/-- Whether a write may take grains for a merge, or be packed: no other command that has done so and has not committed has a
grain in common that either covers in part (R99; the model's own rule for writes of different queues). -/
def Dev.mergeFree (d : Dev) (id : Nat) (c : Cmd) : Bool :=
  !d.cmds.any fun e =>
    decide (e.1 ≠ id) && decide (e.2.msg.volume = c.msg.volume) && e.2.op.edits && decide (e.2.num 8 = 1) && !e.2.committed && decide (e.2.stage ≠ .done) &&
      c.grainRange.any fun g => e.2.grainRange.contains g && (c.partial_ g || e.2.partial_ g)

/-- A protection tuple as a host sends it: guard in bytes 0–7, tenant in 8–9, reference LBA in 10–15. -/
def tupleOk (sector tuple : Bytes) (tenant lba : Nat) : Bool :=
  decide (le tuple 0 8 = (Config.guard sector).toNat) && decide (le tuple 8 2 = tenant) && decide (le tuple 10 6 = lba % 2 ^ 48)

/-- Tuples checked and taken off the sectors of a grain (write step 7): none where one fails. -/
def Cmd.tuples (c : Cmd) (g : Nat) (b : Bytes) : Option Bytes :=
  if !c.msg.hostTuple ∨ c.op ≠ .write then some b else
  let n := b.length / 4112
  let first := c.lba + (c.cover g).1
  let ss := (chunks 4112 n b).zipIdx
  if ss.all fun s => tupleOk (s.1.take 4096) (s.1.drop 4096) c.tenant (first + s.2) then some (ss.flatMap fun s => s.1.take 4096) else none

/-- Old bytes of a partial grain with the command's sectors laid over them, and the stamps likewise. -/
def Cmd.merge (c : Cmd) (g : Nat) (old : Bytes) (oldStamps : List Nat) (new : Bytes) : Bytes × List Nat :=
  layOver old oldStamps ((c.within g).1, new, List.replicate (c.within g).2 c.stamp)

/-- The grain of a write with its data whole (step 7 done). -/
def Dev.wholeGrain (d : Dev) (id g : Nat) (b : Bytes) (stamps : List Nat) : Dev :=
  d.modGrain id g fun x => { x with step := 7, data := b, stamps := stamps, quality := d.quality, match? := none, base := none }

/-- Begin the merge of a partial grain, once the map pages it touches are in DRAM (R323): the rest from the write buffer or the map, or from flash. -/
def Dev.beginMerge (d : Dev) (id g : Nat) (c : Cmd) (new : Bytes) : Dev :=
  let t := d.touchAll (d.entryPages c.volume none g)
  let d := t.1
  if !t.2 then d else
  let h := d.look c id none true g
  let laid := (serving (c.num 0) h.2).map (·.2)
  let lay (b : Bytes × List Nat) : Bytes × List Nat := laid.foldl (fun m p => layOver m.1 m.2 p) b
  match if laid.any (isWhole (c.num 0)) then none else h.1 with
  | none => let o := lay (zeros (c.num 0), List.replicate c.spg 0); let m := c.merge g o.1 o.2 new; d.wholeGrain id g m.1 m.2
  | some k =>
    let b := d.baseOf k
    match d.readBase (.grain id g) b c.claim with
    | some d => d.modGrain id g fun x => { x with step := 70, data := new, laid := laid, match? := some k, base := b }
    | none => d.failAt id g .groupOffline

/-- The automatic steps of one grain of a write, as far as they go now (steps 6 to 9, 11 of an uncompressed grain). -/
def Dev.writeStep (d : Dev) (id g : Nat) : Nat → Dev
  | 0 => d
  | fuel + 1 =>
    match tget d.cmds id with
    | none => d
    | some c =>
      if c.stage = .done then d else
      match tget c.grains g, d.vol c.volume with
      | some x, some v =>
        if x.step = 5 ∧ c.num 1 = 1 then (d.modGrain id g fun x => { x with step := 6 }).writeStep id g fuel
        else if x.step = 3 ∧ c.op ≠ .write ∧ c.num 1 = 1 then
          if c.op = .writeZeroes ∧ c.partial_ g then
            let n := ((c.cover g).2 - (c.cover g).1) * 4096
            (d.modGrain id g fun x => { x with step := 6, data := zeros n }).writeStep id g fuel
          else d.modGrain id g fun x => { x with step := 13, zero := true }
        else if x.step = 6 then
          match c.tuples g x.data with
          | none => d.failAt id g .tupleMismatch
          | some b =>
            if c.op = .write ∧ !c.partial_ g then
              (d.wholeGrain id g b (List.replicate c.spg c.stamp)).writeStep id g fuel
            else if (c.num 8 = 1 ∨ d.mergeFree id c) ∧ !d.behind id c g true then
              ((d.modCmd id fun c => c.setNum 8 1).beginMerge id g c b).writeStep id g fuel
            else d.noteHazard id
        else if x.step = 7 then
          if d.bindAwaits c id then d else
          match d.bindingFor c id 1 with
          | some _ => if c.op = .write then d else (d.modGrain id g fun x => { x with step := 8 }).writeStep id g fuel
          | none => (d.modGrain id g fun x => { x with step := 8 }).writeStep id g fuel
        else if x.step = 8 then
          if x.dropped then d.modGrain id g fun x => { x with step := 13 }
          else if x.data.all fun b => decide (b = 0) then d.modGrain id g fun x => { x with step := 13, zero := true }
          else if v.dedup then d.modGrain id g fun x => { x with step := 9 }
          else d.newContent id g v false |>.writeStep id g fuel
        else if x.step = 63 then (d.verified id g false).writeStep id g fuel
        else if x.step = 10 ∧ !v.compress then
          d.modGrain id g fun x => { x with step := 11, frag := x.data, raw := true }
        else if x.step = 10 then d.ask (.coded id g) 4096 c.spg c.claim c.tenant
        else d
      | _, _ => d

/-- The place a write goes to: that of its first grain packed (number 19), so that a long write's rows keep its order (R45). -/
def Dev.writePlace (d : Dev) (c : Cmd) : Nat := if c.num 19 = 0 then d.hostPlace c.claim else c.num 19 - 1

/-- Vermilion data finds no room in the primer: the headroom reserved under HORIZON is used up, with one manager event, and that is the
cause of the write's delay (R191, R196). -/
def Dev.horizonOut (d : Dev) (id : Nat) : Dev :=
  if d.adm.headroom = 0 then d else
  let d := if d.adm.horizonUsed then d
    else { d with adm := { d.adm with horizonUsed := true } }.event 0x0203 0 0 0 [satAt (2 ^ 64 - 1) d.adm.headroom]
  d.noteCause 2 fun i _ => decide (i = id)

/-- Pack some grains of a write one after another, as far as the packer has buffers; the buffers of their compression output go. -/
def Dev.packGrains (id g : Nat) (c : Claim) : List (Nat × Grain) → Dev → Dev
  | [], d => d
  | e :: r, d =>
    match e.2.content, tget d.cmds id with
    | some k, some x =>
      let p := d.writePlace x
      match d.packAt g p c (.grain id e.1 k) (.data e.2.frag) with
      | .done d' l =>
        let d' := (d'.modGrain id e.1 fun x => { x with step := 13, row := some l, fragLen := e.2.frag.length }).modCmd id fun x =>
          x.setNum 19 (p + 1)
        let d' := if c = .V then { d' with adm := { d'.adm with horizonUsed := false } } else d'
        Dev.packGrains id g c r (d'.dropHands (.coded id e.1))
      | .waits d' => d'
      | .full => if c = .V then d.horizonOut id else d
    | _, _ => Dev.packGrains id g c r d

/-- Pack the grains of a write that are encrypted (step 13): a write of at most 1 MiB when all its grains are past step 12 or
have left the path, a longer one in ascending order (R45). -/
def Dev.packWrite (d : Dev) (id : Nat) : Dev :=
  match tget d.cmds id with
  | none => d
  | some c =>
    let past (x : Grain) : Bool := decide (x.step = 12) || decide (x.step = 13) || decide (x.step = 14) || x.mapped
    let ready := if c.length ≤ oneMiB then (if c.grains.all fun e => past e.2 then c.grains else []) else c.grains.takeWhile fun e => past e.2
    let ready := ready.filter fun e => e.2.step = 12
    if c.stage = .done ∨ ready.isEmpty then d else
    if c.num 8 ≠ 1 ∧ !d.mergeFree id c then d.noteHazard id else
    let d := d.modCmd id fun c => c.setNum 8 1
    match d.vol c.volume with
    | none => d
    | some v => Dev.packGrains id v.group c.claim ready d

/-! ### Step 15: commit and the map-log batch -/

/-- Rows that hold data of a command, not yet retired. -/
def Dev.cmdRows (d : Dev) (id : Nat) : List (Nat × Row) :=
  d.rows.filter fun e => e.2.items.any fun i => match i.cargo with | .grain k _ _ => decide (k = id) | _ => false

/-- Rows that hold one grain of a command. -/
def Dev.grainRows (d : Dev) (id g : Nat) : List (Nat × Row) :=
  d.rows.filter fun e => e.2.items.any fun i => match i.cargo with | .grain k n _ => decide (k = id) && decide (n = g) | _ => false

/-- A write is dropped whole before its commit point (R137, R197). -/
def Dev.dropLate (d : Dev) (id : Nat) : Dev :=
  match tget d.cmds id with
  | none => d
  | some c =>
    let d := match c.streamId with
      | some s => d.modStream s fun x => { x with dropped := x.dropped + c.length }
      | none => d
    let d := d.modTenant c.tenant fun t => { t with droppedBytes := t.droppedBytes + c.length }
    (d.settleLate id true).1.endCmd id .droppedLate 0 c.length

/-- Whether a write is to be dropped at its commit point: a write of a vermilion DROP_LATE stream that is late (R197).  DEDUCED, and log
entry 122: a write that the device carries as ochre (R181) is dropped too, but no miss record says so, since R199 gives an ochre write
none. -/
def Dev.dropsNow (d : Dev) (c : Cmd) : Bool :=
  match c.streamId.bind fun s => tget d.streams s with
  | some s => decide (c.op = .write) && decide (s.cls = 2) && s.dropLate && decide (0 < d.lateness c)
  | none => false

/-- The commit point of a change (R44): the volume's epoch is taken (R423), and its place in the order of commits; a late write
under DROP_LATE is dropped instead. -/
def Dev.commit (d : Dev) (id : Nat) : Dev :=
  match tget d.cmds id with
  | none => d
  | some c =>
    if c.committed ∨ c.stage = .done then d
    else if d.dropsNow c then d.dropLate id
    else
      let e := match d.vol c.volume with | some v => v.epoch | none => 0
      let n := d.nextOrder
      { d with nextOrder := n + 1 }.modCmd id fun c => { (c.setNum 2 (e + 1)).setNum 6 n with committed := true }

/-- The runs of sectors, as (volume, first, sectors), that the grains of a list cover in a command's range. -/
def Cmd.runs (c : Cmd) (gs : List Nat) : List (Nat × Nat × Nat) :=
  gs.foldl (fun l g =>
    let a := c.lba + (c.cover g).1
    let n := (c.cover g).2 - (c.cover g).1
    match l with
    | (v, b, m) :: r => if b + m = a then (v, b, m + n) :: r else (c.volume, a, n) :: l
    | [] => [(c.volume, a, n)]) [] |>.reverse

/-- The records that put one grain of a command in place. A grain that its filter dropped has none of its own: it rejoins with its batch's BATCH_END,
the model's choice (DESIGN CHOICE, log 125; R41). -/
def Dev.grainRecs (d w : Dev) (c : Cmd) (g : Nat) (x : Grain) : List Rec :=
  let e := c.num 2 - 1
  if x.dropped then []
  else if c.op = .discard ∨ c.op = .strip then
    let old := match w.vol c.volume with | some v => if v.filled g then v.entry g else Entry.none_ | none => Entry.none_
    let filled : Bool := match w.vol c.volume with | some v => v.filled g | none => true
    if old.kind = 0 ∧ filled then []
    else w.replace c.volume g e { kind := 0, content := 0, epoch := e }
  else if x.zero then w.replace c.volume g e { kind := 1, content := 0, epoch := e }
  else match x.replaced, x.match?, x.content, x.row with
    | true, some m, _, _ => .crecRef m 1 :: w.replace c.volume g e { kind := 2, content := m, epoch := e }
    | _, _, some k, some l =>
      let gen := match d.slot l.group l.index with | some s => s.gen % 256 | none => l.gen
      .crecNew k { l with gen := gen } x.fragLen c.spg x.raw (w.crecAt k) :: w.replace c.volume g e { kind := 2, content := k, epoch := e }
    | _, _, _, _ => []

/-- The time index has n of its entries in use: one event each time it becomes full (R204). -/
def Dev.noteIndex (d : Dev) (n limit : Nat) : Dev :=
  let full := decide (limit ≤ n)
  let d := if full && !d.adm.indexFull then d.event 0x0204 0 0 0 [] else d
  { d with adm := { d.adm with indexFull := full } }

/-- The time-index entry of a stream write for the runs of one of its pieces (R203): one entry for the write, one more for each gap that a
filter's dropped grain leaves in it.  What the piece overwrites leaves the index first, which may fill it too, as it cuts entries in two.  Where the index,
as every issued batch and that leave it in part w, has no room, the write goes without (R204), counted once for the write (number 20); the entry that takes the
last place raises the event that the index has become full. -/
def Dev.timeEntries (d w : Dev) (id : Nat) (c : Cmd) (runs : List (Nat × Nat × Nat)) : Dev × List Rec :=
  let w := runs.foldl (fun (w : Dev) r => w.trimIndex r.1 r.2.1 r.2.2) w
  let d := if runs.isEmpty then d else d.noteIndex w.indexUsed w.indexLimit
  match c.streamId with
  | none => (d, [])
  | some s =>
    if c.op ≠ .write ∨ runs.isEmpty then (d, []) else
    let es : List TIdx := runs.map fun r => { volume := r.1, lba := r.2.1, sectors := r.2.2, stamp := c.stamp, quality := c.num 10, write := c.num 6 }
    let have_ := match tget w.streams s with | some x => x.index | none => []
    let need := countP es fun e => !have_.any (·.joins e)
    if w.indexUsed + need ≤ w.indexLimit then (d.noteIndex (w.indexUsed + need) w.indexLimit, es.map fun e => .tidx s e)
    else
      (if c.num 20 = 1 then d else (d.modStream s fun x => { x with unindexed := x.unindexed + 1 }).modCmd id fun c => c.setNum 20 1, [])

/-- What a STRIP marks at its commit point (R135, R354, R422): segments that hold a current copy of content that nothing else
references are claimed for evacuation, they, the stale copies' segments and those being erased are waited for, and content that
other references hold is marked and leaves the index.  Other references are those of grains outside the range, of snapshots, which keep
what the range held before them, and of an origin that a clone has not been filled from. -/
def Dev.stripMarks (d w : Dev) (id : Nat) (gs : List Nat) : Dev :=
  match tget d.cmds id with
  | none => d
  | some c =>
    match w.vol c.volume with
    | none => d
    | some v =>
      let entry (g : Nat) : Entry := w.entryAt c.volume none g
      let kept (g : Nat) : Bool := match v.newestBelow (c.num 2 - 1) with | some (_, n) => decide ((entry g).epoch ≤ n.epoch) | none => false
      let falls := c.grainRange.filterMap fun g => if v.filled g ∧ (entry g).kind = 2 ∧ !kept g then some (entry g).content else none
      let others (k : Nat) : Nat := (match tget w.crecs k with | some r => r.refs | none => 0) - countP falls fun x => decide (x = k)
      let mine := gs.filterMap fun g => if (entry g).kind = 2 then some (entry g).content else none
      let alone := mine.eraseDups.filter fun k => others k = 0
      let shared := mine.filter fun k => others k ≠ 0
      let d := shared.eraseDups.foldl (fun d k => { d.dropIndex k with crecs := tmod (d.dropIndex k).crecs k fun r => { r with stripPending := true, indexed := false } }) d
      let segs := (alone.filterMap fun k => ((tget w.crecs k).bind (·.loc)).bind fun l => (w.slot l.group l.index).map (·.segment)).eraseDups
      let stale := match d.group v.group with
        | some x => x.segs.filterMap fun e => if e.2.state = .erasing ∨ e.2.stale ∨ e.2.claim.isSome then some e.1 else none
        | none => []
      let wait := (segs ++ stale).eraseDups
      let d := segs.foldl (fun d s => d.claim v.group s .strip) d
      let d := wait.foldl (fun d s => d.modSeg v.group s fun x => { x with strip := true }) d
      let top := shared.foldl (fun m k => Nat.max m (others k)) (c.num 12)
      d.modCmd id fun c => { ((c.setNum 11 (c.num 11 + shared.length)).setNum 12 top) with waits := (c.waits ++ wait).eraseDups }

/-- Issue the batch of one piece of a command whose grains have all entered the journal or left the path (R41, R317). -/
def Dev.issuePiece (d : Dev) (id k : Nat) (gs : List (Nat × Grain)) : Dev :=
  match tget d.cmds id with
  | none => d
  | some c =>
    match d.vol c.volume with
    | none => d
    | some v =>
      let w := d.issued
      let recs := gs.flatMap fun e => d.grainRecs w c e.1 e.2
      let runs := c.runs ((gs.filter fun e => !e.2.dropped).map (·.1))
      let t := d.timeEntries w id c runs
      let trims : List Rec := runs.map fun r => .tidxTrim r.1 r.2.1 r.2.2
      let needs := (gs.flatMap fun e => (t.1.grainRows id e.1).map fun r => r.1 % 2 ^ 40).eraseDups
      let d := t.1.logBatch v.group (trims ++ recs ++ t.2) (some id) k needs
      let d := if c.op = .strip then d.stripMarks w id (gs.map (·.1)) else d
      let d := d.replLanded c
      d.modCmd id fun c => { (c.setNum 3 (k + 1)) with
        grains := gs.foldl (fun t e => tmod t e.1 fun x => { x with step := 14, entered := true }) c.grains }

/-- Grains of a command whose rows' STRIPE entries have been issued have entered the journal. -/
def Dev.enterGrains (d : Dev) (id : Nat) : Dev :=
  match tget d.cmds id with
  | none => d
  | some c => c.grains.foldl (fun d e =>
      if e.2.step = 13 ∧ e.2.row.isSome ∧ !e.2.entered ∧
          (d.grainRows id e.1).all (fun r => decide (r.2.state ≠ .filling) && decide (r.2.state ≠ .closed))
      then d.modGrain id e.1 fun x => { x with entered := true } else d) d

/-- Whether a change of a clone waits for its origin: a grain of it that is still to be filled is named by a committed change of the origin whose record has
not been issued, so that its fill would miss it (R436). -/
def Dev.originWait (d : Dev) (c : Cmd) (gs : List Nat) : Bool :=
  match d.vol c.volume with
  | some x => x.origin.isSome && (let w := d.issued; gs.any fun g => d.originHas w c.volume g)
  | none => false

/-- Issue the batches of a command's pieces, in order, as far as they are complete and the map pages they change are in DRAM (R323); none once the
power-loss dump has been fixed (R51). -/
def Dev.issuePieces (id : Nat) : Nat → Dev → Dev
  | 0, d => d
  | fuel + 1, d =>
    match tget d.cmds id with
    | none => d
    | some c =>
      if c.stage = .done ∧ !c.committed ∨ d.dumping then d else
      let k := c.num 3
      let whole := decide (c.length ≤ oneMiB)
      let gs := if whole then c.grains else c.grains.filter fun e => c.pieceOf e.1 = k
      let done (x : Grain) : Bool := decide (x.step = 13) && (x.entered || x.dropped || x.zero || x.replaced)
      if gs.isEmpty ∨ (whole ∧ k ≠ 0) ∨ !(gs.all fun e => done e.2) then d else
      if !c.committed ∧ c.num 8 ≠ 1 ∧ !d.mergeFree id c ∨ gs.any (fun e => d.behind id c e.1 false) then d.noteHazard id else
      if d.snapHolds id c ∨ d.originWait c (gs.map (·.1)) then d else
      let t := d.touchAll (gs.map fun e => volPage c.volume e.1)
      let d := t.1
      if !t.2 then d else
      let d := d.commit id
      match tget d.cmds id with
      | none => d
      | some c => if c.committed then Dev.issuePieces id fuel (d.issuePiece id k gs) else d

/-! ### Deferred records (R110–R113) -/

/-- Whether a change has been acknowledged, wholly or for its applied prefix, and has grains whose data is not in the maps. -/
def Cmd.owes (c : Cmd) : Bool :=
  c.op.edits && c.framed && decide (c.stage = .done) && (!c.failing || decide (c.applied ≠ 0)) && c.grains.any fun y => y.2.issued && !y.2.mapped

/-- The deferred record of a change with a cause: the first sector that has not been made durable, and how many have not (Table 2-9). -/
def Cmd.deferredOf (c : Cmd) (gs : List Nat) (cause : Code) : Deferred :=
  let left := gs.map c.cover
  { queue := c.qkey % 16, tag := c.tag, seq := c.seq, volume := c.msg.volume.toNat, lba := c.lba + (left.headD (0, 0)).1
    sectors := sumN (left.map fun x => x.2 - x.1), cause := cause }

/-- The deferred record of a change none of whose grains that are not in the maps is left. -/
def Cmd.deferredAs (c : Cmd) (cause : Code) : Deferred :=
  c.deferredOf ((c.grains.filter fun y => y.2.issued && !y.2.mapped).map (·.1)) cause

/-- The grains of an acknowledged change that are not programmed yet (R401): a row that holds their data does not count as programmed, or, where they have
no data, the batch of their records is not durable. -/
def Dev.undone (d : Dev) (id : Nat) (c : Cmd) : List Nat :=
  let left (g : Nat) : Bool :=
    let rows := d.grainRows id g
    if rows.isEmpty then d.batches.any fun b => decide (b.cmd = some id) && decide (b.piece = c.pieceOf g) && !b.durable
    else rows.any fun r => !d.rowCounts r.2
  (c.grains.filter fun y => y.2.issued && !y.2.mapped && left y.1).map (·.1)

/-- Add a deferred record to a tenant's table. -/
def Dev.deferRecord (d : Dev) (tenant qkey : Nat) (r : Deferred) : Dev :=
  match tget d.tenants tenant with
  | none => d
  | some t =>
    if t.deferred.length < 256 then
      ((d.modTenant tenant fun t => { t with deferred := t.deferred ++ [r] }).modQueue qkey fun q => { q with deferredNew := q.deferredNew + 1 }).tenantEvent
        tenant 0 0
    else
      ((d.modTenant tenant fun t => { t with deferOvf := sat32 (t.deferOvf + 1) }).modQueue qkey fun q => { q with overflowNew := true }).tenantEvent
        tenant 0 0

/-- Add a deferred record for the grains of an acknowledged change that cannot be made durable. -/
def Dev.deferWrite (d : Dev) (c : Cmd) (gs : List Nat) (cause : Code) : Dev := d.deferRecord c.tenant c.qkey (c.deferredOf gs cause)

/-- A write became a deferred record: every FLUSH that covers it counts it (R138). -/
def Dev.flushDeferred (d : Dev) (id : Nat) : Dev :=
  { d with cmds := tmap d.cmds fun _ c => if c.op = .flush ∧ c.hold = .flush ∧ c.waits.contains id then c.setNum 22 (c.num 22 + 1) else c }

/-- An acknowledged change of which some grains cannot be made durable becomes a deferred record for a cause, and leaves the path (R110, R401); one with
all its data programmed only leaves it. -/
def Dev.deferLost (d : Dev) (id : Nat) (gs : List Nat) (cause : Code) : Dev :=
  match tget d.cmds id with
  | none => d
  | some c =>
    if !c.owes then d else
    (if gs.isEmpty then d else (d.deferWrite c gs cause).flushDeferred id).modCmd id fun c => { c with grains := tmap c.grains fun _ y => { y with step := 20, mapped := true } }

/-! ### Acknowledgement (write step 16) and the end of the path -/

/-- Whether a command's writes are acknowledged by the medium: FORCE_MEDIUM, isolated mode or SOLO (R43). -/
def Dev.byMedium (d : Dev) (c : Cmd) : Bool := c.msg.forceMedium || !d.linked

/-- Whether everything of a command has reached its acknowledgement point (R42, R43). -/
def Dev.acked (d : Dev) (id : Nat) (c : Cmd) : Bool :=
  let rows := d.cmdRows id
  let batches := d.batches.filter fun b => b.cmd = some id
  if d.byMedium c then
    rows.all (fun e => d.rowCounts e.2) && batches.all (fun b => !b.needs.isEmpty || b.durable)
  else
    rows.all (fun e => e.2.mirrored && d.journal.all fun j => !(decide (j.type = 1) && decide (j.jseq = e.2.jseq)) || j.mirrored) &&
      batches.all (·.mirrored)

/-- The content ID of a grain that is never stored is given back (R413): its serial is free at once where none of its fragment was packed, and else waits for
the erase of the segment that the fragment went to. -/
def Dev.returnSerial (d : Dev) (content : Nat) (at_ : Option Loc) : Dev :=
  let d := (d.dropIndex content)
  let d := { d with crecs := tdel d.crecs content }
  match at_.bind fun l => (d.slot l.group l.index).map fun s => (s.segment, l.index, content % 2 ^ 32) with
  | some k => d.modGroup (content / 2 ^ 32) fun x => { x with deadSerials := k :: x.deadSerials }
  | none => d.modGroup (content / 2 ^ 32) fun x => { x with freed := x.freed ++ [content % 2 ^ 32] }

/-- Content references that a dead write still holds are let go, and its unplaced contents forgotten (R98, R413, R419, R420). -/
def Dev.dropGrains (d : Dev) (id : Nat) : Dev :=
  match tget d.cmds id with
  | none => d
  | some c =>
    let d := c.grains.foldl (fun d e =>
      if e.2.step = 14 ∨ 18 ≤ e.2.step ∧ e.2.step ≤ 20 ∨ e.2.mapped then d else
      let d := match e.2.match?, e.2.base with | some m, none => d.unhold m | _, _ => d
      if c.op = .write then
        match e.2.content with
        | some k => d.returnSerial k e.2.row
        | none => d
      else d) d
    d.modCmd id fun c => { c with grains := c.grains.filter fun e => decide (e.2.step = 14) || decide (e.2.step = 18) || decide (e.2.step = 19) || decide (e.2.step = 20) || e.2.mapped }

/-- Whether every remaining grain of a command has its batch issued. -/
def Cmd.allIssued (c : Cmd) : Bool := c.grains.all fun e => decide (14 ≤ e.2.step) && decide (e.2.step ≤ 20)

/-- Whether the group of a command's volume is OFFLINE. -/
def Dev.groupOff (d : Dev) (c : Cmd) : Bool :=
  match (d.vol c.volume).bind fun v => d.group v.group with
  | some x => decide (x.state = .offline)
  | none => false

/-- Bytes of a failed command's range whose stripes have all been programmed. -/
def Dev.programmedPrefix (d : Dev) (id : Nat) (c : Cmd) : Nat :=
  let there (e : Nat × Grain) : Bool := e.2.issued && (d.grainRows id e.1).all fun (r : Nat × Row) => d.rowCounts r.2
  if c.length ≤ oneMiB then 0 else
  match (c.grains.takeWhile there).getLast? with
  | none => 0
  | some e => satAt c.length ((e.1 + 1) * c.num 0 - c.startByte)

/-- A change of a group that is OFFLINE ends GROUP_OFFLINE: nothing more of it is applied. Of a write longer than 1 MiB the prefix that its
status reports is what the partner has accepted, or where the medium acknowledges what has been programmed (R43, R106); what of it is not
in the maps becomes a deferred record (R110, R401). -/
def Dev.endOffline (d : Dev) (id : Nat) (c : Cmd) : Dev :=
  let n := if c.op ≠ .write then 0 else if d.byMedium c then d.programmedPrefix id c else c.appliedPrefix
  let left := (d.undone id c).filter fun g => decide (g * c.num 0 - c.startByte < n)
  let d := { d with batches := d.batches.filter fun b => decide (b.cmd ≠ some id) }.endCmd id .groupOffline n 0
  let d := d.modCmd id fun c => { c with
    grains := tmap c.grains fun g y => if y.mapped ∨ g * c.num 0 - c.startByte < n then y else { y with step := 13 } }
  (d.dropGrains id).deferLost id left .groupOffline

/-- A change whose group has gone OFFLINE: one whose records have all been issued is acknowledged by the partner as R42 says; any other
ends. -/
def Dev.goOffline (d : Dev) (id : Nat) : Dev :=
  match tget d.cmds id with
  | none => d
  | some c => if c.committed ∧ c.allIssued ∧ !d.byMedium c then d else d.endOffline id c

/-- A change acknowledged while its group is OFFLINE cannot be programmed any more: what of it is not programmed becomes a deferred record
(R401). -/
def Dev.ackedOff (d : Dev) (id : Nat) (c : Cmd) : Dev := if d.groupOff c then d.deferLost id (d.undone id c) .groupOffline else d

/-- Acknowledge a WRITE, WRITE_ZEROES or DISCARD that has reached its acknowledgement point, a STRIP once every segment it
waits for has been erased (R135). -/
def Dev.ackCmd (d : Dev) (id : Nat) : Dev :=
  match tget d.cmds id with
  | none => d
  | some c =>
    let erased := match d.vol c.volume with
      | some v => c.waits.all fun s => match d.seg v.group s with | some x => !x.strip | none => true
      | none => true
    if !c.op.edits ∨ c.stage ≠ .path ∨ !c.committed ∨ !c.allIssued then d
    else if !d.acked id c then (if d.groupOff c ∧ d.byMedium c then d.endOffline id c else d)
    else if c.op = .strip ∧ (!erased ∨ !(c.grains.all fun e => e.2.mapped)) then d
    else if c.op ≠ .write then
      let n := if c.outcome = .success then c.length else c.appliedPrefix
      (d.completeAs id c.outcome n (if c.op = .strip then c.num 11 % 2 ^ 32 + c.num 12 % 2 ^ 32 * 2 ^ 32 else 0) false).ackedOff id c
    else
      let medium := !d.linked
      let r := if c.failing then (d.unmiss id, false) else d.settleLate id false
      let code := if c.outcome ≠ .success then c.outcome else if r.2 then .successLate else .success
      let n := if c.outcome = .success then c.length else c.appliedPrefix
      let d := r.1.modTenant c.tenant fun t => { t with writtenBytes := t.writtenBytes + n }
      let d := match c.streamId with | some s => d.modStream s fun x => { x with bytes := x.bytes + n } | none => d
      (d.completeAs id code n 0 medium).ackedOff id c

/-- SNAP_CREATE completes when its record has reached its acknowledgement point (R143). -/
def Dev.ackSnap (d : Dev) (id : Nat) : Dev :=
  match tget d.cmds id with
  | none => d
  | some c =>
    if c.op = .snapCreate ∧ c.stage = .exec ∧ c.committed ∧
        (d.batches.filter fun (b : Batch) => decide (b.cmd = some id)).all (fun b => if d.linked then b.mirrored else b.durable)
    then d.succeed id c.retval else d

/-- Whether everything of a completed write has been programmed, or has become a deferred record. -/
def Dev.onMedium (d : Dev) (id : Nat) : Bool :=
  match tget d.cmds id with
  | none => true
  | some c =>
    (c.grains.all fun e => e.2.mapped || decide (18 ≤ e.2.step) && decide (e.2.step ≤ 20)) ||
      (d.cmdRows id).all (fun e => d.rowCounts e.2) &&
        (d.batches.filter fun (b : Batch) => decide (b.cmd = some id)).all fun b => !b.needs.isEmpty || b.durable

/-- FLUSH completes once every write it covers (its `waits`) is on the medium (R138); number 22 counts those that became deferred
records. -/
def Dev.flushStep (d : Dev) (id : Nat) : Dev :=
  match tget d.cmds id with
  | none => d
  | some c => if c.op = .flush ∧ c.hold = .flush ∧ c.waits.all (fun w => d.onMedium w) then d.endCmd id .success 0 (c.num 22) else d

/-- Grains of a command whose map update has been applied: the commit hook is due, or nothing is left to do (step 18; a
hook that is no longer bound is not run). -/
def Dev.hookDue (d : Dev) (id : Nat) : Dev :=
  match tget d.cmds id with
  | none => d
  | some c =>
    let hook := decide (c.op = .write) && (d.bindingFor c id 2).isSome
    if c.grains.any fun e => (e.2.mapped && decide (e.2.step = 14)) || (decide (e.2.step = 18) && !hook) then
      d.modCmd id fun c => { c with grains := tmap c.grains fun _ x =>
        if x.mapped ∧ x.step = 14 then { x with step := if hook ∧ !x.dropped then 18 else 20 }
        else if x.step = 18 ∧ !hook then { x with step := 20 } else x }
    else d

/-- Space that a command reserved at step 4 is given back (R357). -/
def Dev.unreserve (d : Dev) (id : Nat) : Dev :=
  match tget d.cmds id with
  | none => d
  | some c =>
    if c.num 4 = 0 then d else
    let d := match d.vol c.volume with
      | some v => d.modGroup v.group fun x => { x with reserved := x.reserved - c.num 4 }
      | none => d
    d.modCmd id fun c => c.setNum 4 0

/-- Step 19: a command that has completed and has nothing left on the path lets its buffers go, and its record once its status
frame has been sent; a received grain's write that has failed stays until its session's cycle fails (R448). -/
def Dev.reapCmd (d : Dev) (id : Nat) : Dev :=
  match tget d.cmds id with
  | none => d
  | some c =>
    if c.stage ≠ .done then d else
    let d := d.dropGrains id
    match tget d.cmds id with
    | none => d
    | some c =>
      if !(c.grains.all fun e => decide (e.2.step = 20)) then d else
      let d := ((d.unreserve id).releaseAll id).modCmd id fun c => { c with grains := [] }
      if c.sent ∧ (c.framed ∨ !c.failing ∨ c.num 28 = 1) then { d with cmds := tdel d.cmds id } else d

/-! ### Indirect lists (R76, R77, R209) -/

/-- Bytes fetched at a time for an opcode that carries data but writes no sectors: one buffer of the largest pool. -/
def chunkBytes : Nat := 262144

/-- Whether a command's descriptors stand in an indirect list (R76), and whether that has not arrived. -/
def Cmd.listed (c : Cmd) : Bool := decide (16 < c.msg.dcount.toNat)
def Cmd.listOut (c : Cmd) : Bool := c.listed && c.descs.isEmpty

/-- Bytes of a command's indirect list. -/
def Cmd.listBytes (c : Cmd) : Nat := c.msg.dcount.toNat * 16

/-- Bytes of each buffer that a command's data takes. -/
def Cmd.bufBytes (c : Cmd) : Option Nat :=
  if c.op = .read ∨ c.op = .write then some (c.num 0) else if c.op.carries then some (Nat.min chunkBytes c.length) else none

/-- Whether the buffer of an indirect list comes from a higher pool than those of the data, which are asked for first then (R209). -/
def Cmd.listLast (c : Cmd) : Bool :=
  c.listed && match c.bufBytes.bind poolFor, poolFor c.listBytes with
    | some p, some q => decide (p < q)
    | _, _ => false

/-- Ask for the buffer of a command's indirect list (number 26: asked; number 21: its handle, plus one, while it is held). -/
def Dev.askList (d : Dev) (id : Nat) : Dev :=
  match tget d.cmds id with
  | none => d
  | some c => (d.modCmd id fun c => { (c.setNum 26 1) with stage := if c.op = .read ∧ c.stage = .path then .path else .buffers }).request c.listBytes 1
      c.claim c.tenant (.payload id)

/-- The buffer of a command's indirect list let go. -/
def Dev.freeList (d : Dev) (id : Nat) : Dev :=
  match tget d.cmds id with
  | none => d
  | some c => if c.num 21 = 0 then d else (d.release (c.num 21 - 1)).modCmd id fun c => c.setNum 21 0

/-! ### Reads -/

/-- The buffers in which some writes hold grain g. -/
def Dev.bufsOf (d : Dev) (ws : List Nat) (g : Nat) : List Nat :=
  ws.filterMap fun w => ((tget d.cmds w).bind fun k => tget k.grains g).bind (·.buf)

/-- References taken for a grain of a read on the buffers that serve it (R50, R228); one that is not allocated is a breach (R231). -/
def Dev.takeRefs (d : Dev) (id g : Nat) (ws : List Nat) : Dev :=
  let hs := d.bufsOf ws g
  (hs.foldl (fun d h => d.takeRef h) d).modGrain id g fun x => { x with refs := hs }

/-- The references of a grain of a read let go (read step 14). -/
def Dev.dropRefs (d : Dev) (id g : Nat) : Dev :=
  match d.grain id g with
  | none => d
  | some x => (x.refs.foldl (fun d h => d.release h) d).modGrain id g fun x => { x with refs := [] }

/-- Whether every buffer that serves grain g of a read can take one more reference: one whose count is 255 lets it wait (R230). -/
def Dev.refsFree (d : Dev) (ws : List Nat) (g : Nat) : Bool :=
  (d.bufsOf ws g).all fun h => match d.buf h with | some b => decide (b.refs < 255) | none => true

/-- A lookup of a read finds its reference waiting (R230): counted, the first time it does. -/
def Dev.refWait (d : Dev) (id g : Nat) : Dev :=
  match d.grain id g with
  | none => d
  | some x => if x.quality = 1 then d else (d.bump BPM_REFWAIT_REFWAIT).modGrain id g fun x => { x with quality := 1 }

/-- Read step 5 for every grain of a read that has passed its hazards: zeros and buffered data go to step 11, of stored content the locator is taken
(R334); the buffers of the writes that serve a grain are referred to (R50), and a count of 255 makes the lookup wait. A grain whose map pages are absent
waits for their loads (R323). -/
def Dev.lookups (d : Dev) (id : Nat) : Dev :=
  match tget d.cmds id with
  | none => d
  | some c => c.grains.foldl (fun d e =>
      if e.2.step ≠ 3 then d else
      let t := d.touchAll (d.entryPages c.volume (d.readEpoch c) e.1)
      let d := t.1
      if !t.2 then d else
      let h := d.look c id (d.readEpoch c) false e.1
      let ws := (serving (c.num 0) h.2).map (·.1)
      if !d.refsFree ws e.1 then d.refWait id e.1 else
      let flash := h.1.isSome && !h.2.any fun p => isWhole (c.num 0) p.2
      (d.modGrain id e.1 fun x => { x with
        step := if flash then 5 else 11, match? := h.1, base := h.1.bind d.baseOf, writers := h.2.map (·.1), laid := h.2.map (·.2)
        data := if h.1.isSome then [] else zeros (c.num 0), stamps := if h.1.isSome then [] else List.replicate c.spg 0 }).takeRefs id e.1 ws) d

/-- Whether write w, whose buffer serves grain g of a read, will not put it in place (R101). -/
def Dev.failedAt (d : Dev) (g w : Nat) : Bool :=
  match tget d.cmds w with
  | some k => (match tget k.grains g with
    | some y => y.dropped || k.failing && decide (k.stage = .done) && !y.issued
    | none => k.failing)
  | none => false

/-- Whether write w of another queue, which serves a read, takes effect behind a change of the read's own queue that follows the read: the read shows
neither (R101). -/
def Dev.overtaken (d : Dev) (id : Nat) (c : Cmd) (g w : Nat) : Bool :=
  match tget d.cmds w with
  | some k => decide (k.qkey ≠ c.qkey) && d.cmds.any fun e =>
      decide (id < e.1) && decide (e.2.qkey = c.qkey) && decide (e.2.volume = c.volume) && e.2.op.edits && e.2.committed && thas e.2.grains g &&
        (!k.committed || decide (e.2.num 6 < k.num 6))
  | none => false

/-- Whether grain g of a read rests on a write that may still fail: the read does not complete before that one's record has been
issued (R101). -/
def Dev.unsettled (d : Dev) (c : Cmd) (g : Nat) (x : Grain) : Bool :=
  (serving (c.num 0) (x.writers.zip x.laid)).any fun w => match (tget d.cmds w.1).bind fun k => tget k.grains g with
    | some y => !y.issued && !y.mapped
    | none => false

/-- The writes that serve a grain of a read as they stand now (R101, R102): without those that have failed since, that their filter has dropped or that
another has overtaken, with what they hold now, a merged grain or what a filter has put in its place, and in the order of their commits. -/
def Dev.laidNow (d : Dev) (id : Nat) (c : Cmd) (g : Nat) (x : Grain) : List (Nat × Patch) :=
  let l := (x.writers.zip x.laid).filter fun e => !d.failedAt g e.1 && !d.overtaken id c g e.1
  let l := l.map fun e => (e.1, ((tget d.cmds e.1).bind fun k => k.holds g).getD e.2)
  sortOn (fun e => (tget d.cmds e.1).elim 0 fun k => k.weight e.1) l

/-- The grains of a read or a scan that some write serves, until those have been settled: what they hold is taken again, and a grain that has been sent is
sent once more. One that needs its stored content after all goes back for it. -/
def Dev.lookAgain (d : Dev) (id : Nat) : Dev :=
  match tget d.cmds id with
  | none => d
  | some c => c.grains.foldl (fun d e =>
      let x := e.2
      let l := d.laidNow id c e.1 x
      let set (d : Dev) (step : Nat) : Dev := d.modGrain id e.1 fun x => { x with step := step, writers := l.map (·.1), laid := l.map (·.2) }
      if x.writers.isEmpty ∨ l = x.writers.zip x.laid then d
      else if x.step = 5 ∨ x.step = 7 ∨ x.step = 9 ∨ x.step = 95 then set d x.step
      else if x.step = 11 ∨ x.step = 12 ∧ c.op = .read then
        if x.base.isSome ∧ x.data.isEmpty ∧ !l.any (fun p => isWhole (c.num 0) p.2) then set (d.dropRefs id e.1) 5
        else set d (if c.shown { x with laid := l.map (·.2) } = c.shown x then x.step else 11)
      else d) d

/-- Read step 6: ask for buffers of the next grains of stored content, at most 1 MiB of them at a time. -/
def Dev.askReads (d : Dev) (id : Nat) : Dev :=
  match tget d.cmds id with
  | none => d
  | some c =>
    let busy := c.num 7 = 1 ∨ c.grains.any fun e => 6 ≤ e.2.step ∧ e.2.buf.isSome ∧ e.2.step ≠ 12 ∧ e.2.step ≠ 20
    let next := (c.grains.filter fun e => e.2.step = 5).take (Nat.max 1 (oneMiB / Nat.max 1 (c.num 0)))
    if busy ∨ next.isEmpty ∨ d.moving id then d else
    let d := if c.grains.any fun e => e.2.buf.isSome ∧ e.2.step = 12 then d.releaseAll id else d
    (d.modCmd id fun c => c.setNum 7 1).request (c.num 0) next.length c.claim c.tenant (.reads id)

/-- Buffers for n grains of a read have been granted: their flash reads begin (read step 7). -/
def Dev.readsGranted (d : Dev) (id n : Nat) (hs : List Nat) : Dev :=
  match tget d.cmds id with
  | none => d
  | some c =>
    let d := (if c.listOut then d else d.freeList id).modCmd id fun c => c.setNum 7 0
    (((c.grains.filter fun e => e.2.step = 5).take n).zip hs).foldl (fun d e =>
      match d.readBase (.grain id e.1.1) e.1.2.base c.claim with
      | some d => d.modGrain id e.1.1 fun x => { x with step := 7, buf := some e.2 }
      | none => d.failCmd id .groupOffline) d

/-- The grain of a read, a merge or a byte compare has been expanded (or failed with a code): what follows (read step 11, R464,
R418). -/
def Dev.expanded (d : Dev) (id g : Nat) (b : Bytes) (result : Nat) : Dev :=
  match tget d.cmds id, d.grain id g with
  | some c, some x =>
    let content := x.match?.getD 0
    let d := if result = 0 then d else d.decodeFail content result
    let code := if result = 2 then Code.decompLimit else .integrityFail
    if x.step = 62 ∨ x.step = 61 then d.verified id g (decide (result = 0) && decide (b = x.data))
    else if result ≠ 0 then d.failAt id g code
    else if x.step = 72 ∨ x.step = 71 then
      let o := x.laid.foldl (fun m p => layOver m.1 m.2 p) (b, fragStamps x.frag)
      let m := c.merge g o.1 o.2 x.data
      d.wholeGrain id g m.1 m.2
    else if guardsOf b ≠ fragGuards x.frag then d.failCmd id .integrityFail
    else d.modGrain id g fun x => { x with step := 11, data := b, stamps := fragStamps x.frag }
  | _, _ => d

/-- A stored fragment has been decrypted: a raw grain is whole, a coded one waits for its engine. -/
def Dev.decrypted (d : Dev) (id g : Nat) (body : Bytes) : Dev :=
  match d.grain id g with
  | none => d
  | some x =>
    let f := fragWith x.frag body
    let d := d.modGrain id g fun x => { x with frag := f, step := if x.step = 71 then 72 else if x.step = 61 then 62 else 95 }
    if fragRaw f then d.expanded id g (fragGrain f) 0 else d

/-- The 16-byte tuple that a read with HOST_TUPLE set writes after a sector, in the layout of R79 (R80): the stored guard, which the check of
read step 11 has found to be the sector's own (R310), and the read's own tenant and LBA, since of a tuple only the guard is stored. -/
def tupleOf (sector : Bytes) (tenant lba : Nat) : Bytes := toLE 8 (Config.guard sector).toNat ++ toLE 2 tenant ++ toLE 6 (lba % 2 ^ 48)

/-- The bytes of a grain that a read sends: its sectors, each followed by its tuple where HOST_TUPLE is set (R80). -/
def Cmd.readBytes (c : Cmd) (g : Nat) (b : Bytes) : Bytes :=
  let a := c.lba + (c.cover g).1 - g * c.spg
  let n := (c.cover g).2 - (c.cover g).1
  let ss := chunks 4096 n (slice b (a * 4096) (n * 4096))
  if c.msg.hostTuple then
    ss.zipIdx.flatMap fun s => s.1 ++ tupleOf s.1 c.tenant (g * c.spg + a + s.2)
  else ss.flatten

/-- Post the RDMA WRITEs of a read's grains, in order, as far as they are ready (read step 12); the first is its commit point. -/
def Dev.postReads (d : Dev) (id : Nat) : Dev :=
  match tget d.cmds id with
  | none => d
  | some c =>
    if c.listOut then d else
    let go := (c.grains.takeWhile fun e => decide (e.2.step = 11) || decide (e.2.step = 12)).filter fun e => e.2.step = 11
    go.foldl (fun d e =>
      let d := d.modCmd id fun c => { c with committed := true, grains := tmod c.grains e.1 fun x => { x with step := 12 } }
      d.send id ((c.cover e.1).1 * c.unit) (c.readBytes e.1 (c.shown e.2).1)) d

/-- A read whose indirect list takes a buffer of a higher pool than its grains asks for it once its first grains have theirs, or need none
(R209). -/
def Dev.listTurn (d : Dev) (id : Nat) : Dev :=
  match tget d.cmds id with
  | none => d
  | some c =>
    let wait := c.num 26 = 1 ∨ c.num 7 = 1 ∨ c.grains.any fun e => e.2.step = 3
    if c.listOut ∧ !wait then d.askList id else d

/-- The automatic steps of a read. -/
def Dev.readStep (d : Dev) (id : Nat) : Dev :=
  match tget d.cmds id with
  | none => d
  | some c =>
    if c.op ≠ .read ∨ c.stage ≠ .path ∨ c.num 1 ≠ 1 then d else
    let d := ((((d.lookAgain id).lookups id).askReads id).listTurn id).postReads id
    match tget d.cmds id with
    | none => d
    | some c =>
      if c.failing then (if d.moving id then d else d.endCmd id c.outcome 0 0)
      else if (c.grains.all fun e => decide (e.2.step = 12) && !d.unsettled c e.1 e.2) ∧ !d.moving id ∧ c.stage = .path then
        let d := d.modTenant c.tenant fun t => { t with readBytes := t.readBytes + c.length }
        d.endCmd id .success c.length 0
      else d

/-! ### Scans (R155, R546) -/

/-- Numbers of a SCAN command: 13 the program's index, 14 its deadline, 15 set once no further grain is processed, 16 how far FINISH
has come (0 not due, 1 running, 2 ended); its core set stands in `waits`, its output so far in `applied`. Its grains pass the steps
of a read as far as 11; 15 stands for a SCAN task created, 16 for one that has ended with its output in `frag`, 12 for output
placed. -/
def Cmd.scanProg (c : Cmd) : Nat := c.num 13

/-- Place the outputs of a scan that are next in LBA order; the first that would pass LENGTH ends the grains. -/
def Dev.placeOutputs (id : Nat) : Nat → Dev → Dev
  | 0, d => d
  | fuel + 1, d =>
    match tget d.cmds id with
    | none => d
    | some c =>
      match (c.grains.filter fun (e : Nat × Grain) => decide (e.2.step ≠ 12)).head? with
      | none => d
      | some (g, x) =>
        if c.num 15 = 1 ∨ x.step ≠ 16 then d
        else if c.length < c.applied + x.frag.length then
          let d := d.dropTasks id
          d.modCmd id fun c => { (c.setNum 15 1) with grains := c.grains.filter fun e => decide (e.2.step = 12) }
        else
          let d := d.send id c.applied x.frag
          let d := d.modCmd id fun c => { (c.setNum 9 (c.num 9 + 1)) with
            applied := c.applied + x.frag.length, grains := tmod c.grains g fun x => { x with step := 12, data := [], frag := [] } }
          Dev.placeOutputs id fuel d

/-- Whether a grain of a scan may go to its program: no write that it was served from can still fail (R155). -/
def Dev.scanSettled (d : Dev) (id g : Nat) : Bool := match tget d.cmds id, d.grain id g with | some c, some x => !d.unsettled c g x | _, _ => true

/-- The automatic steps of a scan. -/
def Dev.scanStep (d : Dev) (id : Nat) : Dev :=
  match tget d.cmds id with
  | none => d
  | some c =>
    if c.op ≠ .scan ∨ c.stage ≠ .path then d else
    let d := Dev.placeOutputs id (c.grains.length + 1) (((d.lookAgain id).lookups id).askReads id)
    match tget d.cmds id with
    | none => d
    | some c =>
      if !(c.grains.all fun e => decide (e.2.step = 12)) then d else
      let finish : Bool := match tget d.progs c.scanProg with | some p => (p.entries.getD 3 none).isSome | none => false
      if finish ∧ c.num 16 ≠ 2 then d
      else if d.moving id then d
      else if c.failing then d.endCmd id c.outcome c.applied 0
      else d.endCmd id .success c.applied (if finish then c.retval else c.num 9)

/-! ### Fetching a write's data (write steps 4 and 5) -/

/-- Ask for the buffers of piece k of a write (R210). -/
def Dev.askPiece (d : Dev) (id k : Nat) : Dev :=
  match tget d.cmds id with
  | none => d
  | some c =>
    let gs := (c.grains.filter fun e => c.pieceOf e.1 = k).map (·.1)
    if gs.isEmpty then d else
    ((d.modCmd id fun c => { (c.setNum 7 k) with stage := .buffers })).request (c.num 0) gs.length c.claim c.tenant (.piece id gs)

/-- Bytes of the transfer that grains of a command take: first, and how many. -/
def Cmd.pieceBytes (c : Cmd) (gs : List Nat) : Nat × Nat :=
  match gs.head?, gs.getLast? with
  | some a, some b => ((c.cover a).1 * c.unit, ((c.cover b).2 - (c.cover a).1) * c.unit)
  | _, _ => (0, 0)

/-- The grains of the piece that is being fetched. -/
def Cmd.pieceGrains (c : Cmd) : List Nat := (c.grains.filter fun e => e.2.step = 4).map (·.1)

/-- The data of a write's piece is whole in tile memory (step 5): cut into grains, and the next piece asked for. -/
def Dev.pieceArrived (d : Dev) (id : Nat) : Dev :=
  match tget d.cmds id with
  | none => d
  | some c =>
    let gs := c.pieceGrains
    let start := (c.pieceBytes gs).1
    let cut (g : Nat) : Bytes := slice c.payload ((c.cover g).1 * c.unit - start) (((c.cover g).2 - (c.cover g).1) * c.unit)
    let d := d.modCmd id fun c => { c with
      payload := []
      stage := .path
      grains := gs.foldl (fun t g => tmod t g fun x => { x with step := 5, data := cut g, stamps := List.replicate c.spg c.stamp }) c.grains }
    if c.grains.any fun e => e.2.step = 3 then d.askPiece id (c.num 7 + 1) else d

/-- Buffers of a write's piece have been granted: inline data moves into them, other data is fetched by RDMA READ (R237), once the indirect list
is known.  The buffer of a list that came before them goes now (R209). -/
def Dev.pieceGranted (d : Dev) (id : Nat) (gs hs : List Nat) : Dev :=
  let start (t : Tbl Grain) (g : Nat × Nat) : Tbl Grain := tmod t g.1 fun x => { x with step := 4, buf := some g.2 }
  let d := (d.freeList id).modCmd id fun c => { c with stage := .fetch, grains := (gs.zip hs).foldl start c.grains }
  match tget d.cmds id with
  | none => d
  | some c =>
    let b := c.pieceBytes gs
    if c.listOut then d.askList id
    else if c.msg.inline then (d.modCmd id fun c => { c with payload := slice c.msg.inl b.1 b.2 }).pieceArrived id
    else (d.modCmd id fun c => { c with payload := zeros b.2 }).fetch id b.1 b.2

/-! ### Everything that follows by itself -/

/-- The automatic steps of one command. -/
def Dev.advanceCmd (d : Dev) (id : Nat) : Dev :=
  match tget d.cmds id with
  | none => d
  | some c =>
    if c.op = .read then d.readStep id
    else if c.op = .scan then d.scanStep id
    else if c.op.edits ∧ (c.stage = .path ∨ c.stage = .buffers ∨ c.stage = .fetch) then
      let d := c.grains.foldl (fun d e => d.writeStep id e.1 16) d
      let d := (d.packWrite id).enterGrains id
      Dev.issuePieces id (c.length / oneMiB + 2) d
    else if c.op.edits then Dev.issuePieces id (c.length / oneMiB + 2) ((d.packWrite id).enterGrains id)
    else d

/-- Every command's automatic steps, the log's, and the acknowledgements, once. -/
def Dev.settleOnce (d : Dev) : Dev :=
  let d := (Dev.takeReads (d.freads.length + 1) d).serveDecoders
  let ids := tkeys d.cmds fun _ _ => true
  let d := ids.foldl (fun d i => d.advanceCmd i) d
  let d := d.settleLog.ckptGoOn
  let d := ids.foldl (fun d i => ((((d.ackCmd i).ackSnap i).hookDue i).flushStep i).reapCmd i) d
  d.sessionsSettle

/-- What follows by itself from the present state; credits last (R239). -/
def Dev.settle (d : Dev) : Dev := d.settleOnce.settleOnce.advertise

end Sys2Proof.Machine
end

