-- ==== Sys2Proof/Machine/Rebuild.lean ====
section
/-! DEFINITION. Member faults, group states, journal re-homing, rebuild, group creation and dissolution, die retirement and
deferred records (R110–R113, R345, R346, R361–R366, R381, R382, R387–R404). -/

namespace Sys2Proof.Machine

/-! ### Group states (Table 8-5, R403) -/

/-- Put a group into a state: a manager event, and at READ_ONLY and OFFLINE a tenant event for every tenant with a volume in it;
at OFFLINE its acknowledged writes that are not programmed become deferred records, and its other commands fail, those apart that the
partner is still to acknowledge (R401, R42). -/
def Dev.setGroupState (d : Dev) (g : Nat) (s : GrpState) : Dev :=
  match d.group g with
  | none => d
  | some x =>
    if x.state = s then d else
    let d := (d.modGroup g fun x => { x with state := s }).event 0x0501 0 0 g [x.state.num, s.num]
    let d := if s = .readOnly ∨ s = .offline then (d.groupTenants g).foldl (fun d t => d.tenantEvent t 5 g) d else d
    let d := d.tellGroup g
    if s ≠ .offline then d else
    let mine := d.cmds.filter fun e => e.2.op.edits && (match d.vol e.2.volume with | some v => decide (v.group = g) | none => false)
    mine.foldl (fun d e => if e.2.stage = .done then d.deferLost e.1 (d.undone e.1 e.2) .groupOffline else d.goOffline e.1) d

/-- Bring a group to the state its member faults give; READ_ONLY stays until RESUME, OFFLINE for good (Table 8-5). -/
def Dev.settleState (d : Dev) (g : Nat) : Dev :=
  match d.group g with
  | none => d
  | some x =>
    if x.state = .offline ∨ x.state = .verifying ∧ x.faultState ≠ .offline then d
    else if x.state = .readOnly ∧ x.faultState ≠ .offline then d
    else d.setGroupState g x.faultState

/-- The faults of a row that send a group to READ_ONLY (Table 8-4). -/
def Group.faultLimit (x : Group) : Nat := if x.cover ∧ geoK x.geometry = 2 then 3 else 2

/-- The policy of Table 8-4 with f faults in a row: a group that has a member fault goes from DEGRADED or REBUILDING to READ_ONLY. -/
def Dev.policy (d : Dev) (g f : Nat) : Dev :=
  match d.group g with
  | none => d
  | some x => if x.faults ≠ 0 ∧ x.faultLimit ≤ f ∧ (x.state = .degraded ∨ x.state = .rebuilding) then d.setGroupState g .readOnly else d

/-- A further member fault, or another policy: every row of the group has the member faults for faults (R395, R400). -/
def Dev.policyNow (d : Dev) (g : Nat) : Dev := match d.group g with | some x => d.policy g x.faults | none => d

/-- A row of a group was found with some slots that cannot be decoded, those of failed members apart (R395–R398): past the policy of Table 8-4 with a
member fault present, or with more than k of them and none, when its data units among them are lost. -/
def Dev.rowFaults (d : Dev) (g segment row : Nat) (lost : List Nat) : Dev :=
  match d.group g with
  | none => d
  | some x =>
    if x.faults = 0 then
      (if geoK x.geometry < lost.length then d.unitsLost g segment row (lost.filter fun m => decide (slotRole x.geometry row m < x.n)) else d)
    else d.policy g (x.faults + lost.length)

/-! ### Journal pair (R377, R381, R382) -/

/-- The journal pair among the members of a group that have not failed: the lowest two slots in different quadrants, else the lowest
two. -/
def Group.choosePair (x : Group) : Nat × Nat :=
  let ok := (upTo x.m).filterMap fun m => match x.member m with | some k => if k.failed then none else some (m, portQuadrant (diePort k.die)) | none => none
  let pairs := ok.flatMap fun a => (ok.filter fun b => decide (a.1 < b.1) && decide (a.2 ≠ b.2)).map fun b => (a.1, b.1)
  match pairs.head?, ok with
  | some p, _ => p
  | none, a :: b :: _ => (a.1, b.1)
  | none, [a] => (a.1, a.1)
  | none, [] => (x.jrnA, x.jrnB)

/-- Re-home a group's journal (R381): a new pair; REHOME and every live entry are to be programmed there, in fresh blocks. Until that is over the old
blocks stay, and what a surviving member of the old pair holds counts with the mirror (R382). -/
def Dev.rehome (d : Dev) (g : Nat) : Dev :=
  match d.group g with
  | none => d
  | some x =>
    let p := x.choosePair
    let die (m : Nat) : List Nat := match x.member m with | some k => if k.failed then [] else [k.die] | none => []
    let keep (e : JEntry) : JEntry :=
      if e.group ≠ g then e else
      { e with onA := false, onB := false
               held := (e.held ++ (if e.onA then die x.jrnA else []) ++ if e.onB then die x.jrnB else []).eraseDups }
    let old := x.members.flatMap fun k => if k.failed then [] else k.jblocks.map fun b => (k.die, b.1)
    let d := { d with journal := d.journal.map keep }
    ((d.modGroup g fun x => { x with
      jrnA := p.1, jrnB := p.2, rehoming := true, oldJournal := x.oldJournal ++ old, members := x.members.map fun k => { k with jblocks := [] } }).jentry
        3 g 0 0 0 p.1 p.2).journalKick g

/-! ### Sealing early (R344, R390) -/

/-- Seal a segment at its write point: its rows close, nothing more is put into it, and it is sealed once its rows are programmed. -/
def Dev.sealEarly (d : Dev) (g s : Nat) : Dev :=
  match d.seg g s with
  | none => d
  | some x =>
    if x.state ≠ .open_ then d else
    let rows := (d.groupRows g).filter fun e => e.2.segment = s
    let d := (rows.filter fun e => e.2.state = .filling).foldl (fun d e => d.closeRow g e.1) d
    let d := d.modSeg g s fun x => { x with place := 9 }
    if rows.all fun e => decide (e.2.state = .programmed) then d.sealSegment g s else d

/-- A segment that was sealed early and whose rows are all programmed is SEALED. -/
def Dev.sealIfDone (d : Dev) (g s : Nat) : Dev :=
  match d.seg g s with
  | none => d
  | some x =>
    if x.state = .open_ ∧ x.place = 9 ∧ (d.groupRows g).all (fun e => decide (e.2.segment ≠ s) || decide (e.2.state = .programmed))
    then d.sealSegment g s else d

/-! ### Spare dies and rebuild (R388–R394) -/

/-- The spare die R389 chooses for a slot of a group. -/
def Dev.spareFor (d : Dev) (g slot : Nat) : Option Nat :=
  match d.group g with
  | none => none
  | some x =>
    let ports := (upTo x.m).filterMap fun m => match x.member m with | some k => if k.failed ∨ m = slot then none else some (diePort k.die) | none => none
    let ok := d.pool?.filter fun n => !ports.contains (diePort n)
    let mine := match x.member slot with | some k => diePort k.die | none => 0
    let failed := d.isSet (FLP_STAT_FAILED mine)
    let count (n : Nat) : Nat := countP d.pool? fun k => decide (diePort k = diePort n)
    match ok.find? fun n => decide (diePort n = mine) && !failed with
    | some n => some n
    | none => argMax count ok

/-- The standby segment of a group gives its name up where it has a block on a die, and another is named (R635). -/
def Dev.dropStandby (d : Dev) (g die : Nat) : Dev :=
  match d.group g with
  | none => d
  | some x =>
    let on (s : Seg) : Bool := decide (s.state = .free) && s.blocks.any fun b => b.any fun k => decide (k.1 = die)
    if x.segs.any fun e => on e.2 then (d.modGroup g fun x => { x with segs := x.segs.filter fun e => !on e.2 }).nameStandby g else d

/-- The segments of a group that hold a block of the die that member `slot` of a rebuild replaces; a standby segment, whose blocks are FREE, is none. -/
def Group.onMember (x : Group) (slot : Nat) : List (Nat × Seg) :=
  let die := match x.member slot with | some k => k.die | none => 0
  x.segs.filter fun e => decide (e.2.state ≠ .free) && match e.2.blocks.getD slot none with | some b => decide (b.1 = die) | none => false

/-- Start the rebuild of a slot onto a spare die: from a failed member, or from one that can still be read (copy rebuild). The partner learns of it, so
that a survivor can resume it (R394). -/
def Dev.startRebuild (d : Dev) (g slot : Nat) (copy : Bool) : Dev :=
  match d.group g with
  | none => d
  | some x =>
    if x.rebuild.isSome ∨ x.state = .offline then d else
    match d.spareFor g slot, x.member slot with
    | some n, some k =>
      let held := x.onMember slot
      let d := (d.modGroup g fun x => { x with rebuild := some (n, slot, 0, held.length) }).modMember g slot fun k => { k with target := true, copy := copy }
      let d := (d.modDie n fun z => { z with group := some g }).spareRegs
      let d := (held.filter fun e => e.2.state = .open_).foldl (fun d e => d.sealEarly g e.1) d
      ((d.dropStandby g k.die).settleState g).tellGroup g
    | _, _ => d

/-- The lowest failed slot of a group that is not being rebuilt. -/
def Group.nextFailed (x : Group) : Option Nat :=
  (upTo x.m).find? fun m => match x.member m with | some k => k.failed && !k.target | none => false

/-- The lowest slot of a group whose die is retired and can still be read, and that is not being rebuilt (R388). -/
def Dev.nextRetired (d : Dev) (g : Nat) : Option Nat :=
  (d.group g).bind fun x => (upTo x.m).find? fun m => match x.member m with
    | some k => !k.failed && !k.target && (tget d.dies k.die).any fun z => z.retired
    | none => false

/-- The next rebuild of a group is taken up: of a failed member under AUTO (R389), else of a member whose die has been retired (R388). -/
def Dev.nextRebuild (d : Dev) (g : Nat) : Dev :=
  match (d.group g).bind (·.nextFailed), d.nextRetired g with
  | some m, r => if d.isSet ARR_CFG_AUTO then d.startRebuild g m false else match r with | some k => d.startRebuild g k true | none => d
  | none, some m => d.startRebuild g m true
  | none, none => d

/-- The operations that a row's programs come to: of its members, and of the overlay pages that take a failed member's place. -/
def Dev.rowPrograms (d : Dev) (g l : Nat) : List FlashOp :=
  d.flash.filter fun (o : FlashOp) => match o.op with
    | .program a b _ | .overlay a b _ _ _ _ => decide (a = g) && decide (b = l)
    | _ => false

/-- A row none of whose programs is left, waiting or issued, is programmed (R296, R318). -/
def Dev.rowEnd (d : Dev) (g l : Nat) : Dev :=
  match d.row g l with
  | none => d
  | some w => if w.state = .programming ∧ w.found.isEmpty ∧ (d.rowPrograms g l).isEmpty then (d.rowProgrammed g l).sealIfDone g w.segment else d

/-- The erases on a slot whose member has failed are given up: a segment with no other erase to come is gone. -/
def Dev.erasesLeft (d : Dev) (g slot : Nat) : Dev :=
  match d.group g with
  | none => d
  | some x =>
    (tkeys x.segs fun _ s => s.erasing.contains slot).foldl (fun d s =>
      let d := d.modSeg g s fun y => { y with erasing := y.erasing.filter (· ≠ slot) }
      if (d.seg g s).any fun y => y.erasing.isEmpty then d.segmentGone g s else d) d

/-- A member fault (R387): counted, the journal re-homed if the member held it, a rebuild started under AUTO; a copy rebuild of it goes on from the
others. What was to be programmed on it is left unprogrammed (R393). -/
def Dev.faultMember (d : Dev) (g slot : Nat) : Dev :=
  match d.group g with
  | none => d
  | some x =>
    match x.member slot with
    | none => d
    | some k =>
      if k.failed then d else
      let d := (d.noteFlash fun n => decide (n = k.die)).modMember g slot fun k => { k with failed := true, copy := false, jblocks := [] }
      let lose (r : FRead) : FRead := { r with cws := tmap r.cws fun _ w => if w.die = k.die ∧ w.bytes.isNone then { w with stage := 6, lost := true } else w }
      let d := { d with freads := tmap d.freads fun _ r => if r.group = g then lose r else r }
      let d := ({ d with flash := d.flash.filter fun o => o.die ≠ k.die }).erasesLeft g slot
      let d := (d.groupRows g).foldl (fun d e => d.rowEnd g e.1) d
      let d := if x.jrnA = slot ∨ x.jrnB = slot then d.rehome g else d
      let d := if d.isSet ARR_CFG_AUTO then d.startRebuild g slot false else d
      (((d.settleState g).policyNow g).tellGroup g).reRisk

/-- Codeword i of the unit of slot m in a row of a segment, before it is sensed: where its die's block has it, or the fine overlay (R313). -/
def Dev.unitCw (d : Dev) (g s row : Nat) (x : Group) (y : Seg) (m i : Nat) (b : Nat × Nat) : CwRead :=
  let per := match d.groupProfile g with | some p => Nat.max 1 p.cwPerPage | none => 1
  let u := row * x.n + slotRole x.geometry row m
  let ov := if x.n ≤ slotRole x.geometry row m then none else
    (x.slotAt s (u / 16 * 16)).bind fun k => d.overlayAt g k (u % 16 * 16 + i)
  match ov with
  | some (die, block, page) => CwRead.fresh die block page true (d.readable g die)
  | none => CwRead.fresh b.1 b.2 (row * (16 / per) + i / per) y.slc (d.readable g b.1)

/-- Row units of a segment under rebuild: the codewords to be read, keyed by slot × 16 + codeword of the unit, beside those that have been read of the
row already; each page counts as read (R343). -/
def Dev.unitReads (d : Dev) (g s slot row : Nat) (copy : Bool) (had : Tbl CwRead) : Dev :=
  match d.seg g s, d.group g with
  | some y, some x =>
    let from_ := y.blocks.zipIdx.filter fun b => if copy then decide (b.2 = slot) else decide (b.2 ≠ slot)
    let cws := from_.flatMap fun b => match b.1 with | some k => (upTo 16).map fun i => (b.2 * 16 + i, d.unitCw g s row x y b.2 i k) | none => []
    let id := d.nextRead
    let r : FRead := { use := .unit s row slot, group := g, slot := 0, offset := 0, size := 0, claim := .O, segment := s, cws := had ++ cws }
    let sensed := cws.filter fun (e : Nat × CwRead) => !e.2.lost
    let d := ((sensed.map fun e => (e.2.die, e.2.block, e.2.page)).eraseDups).foldl (fun d e => d.countRead e.1 e.2.1)
      { d with freads := tput d.freads id r, nextRead := id + 1 }
    d.flashPut (sensed.map fun (e : Nat × CwRead) => d.senseOp id e.1 e.2 .O)
  | _, _ => d

/-- The reads of units that a group's rebuild has in flight. -/
def Dev.unitsOf (d : Dev) (g : Nat) : List (Nat × FRead) :=
  d.freads.filter fun e => decide (e.2.group = g) && (match e.2.use with | .unit _ _ _ => true | _ => false)

/-- Whether a unit read has an answer for every codeword. -/
def FRead.decided (r : FRead) : Bool := r.cws.all fun e => e.2.bytes.isSome || e.2.lost

/-- Slots of a unit read with a codeword that could not be decoded. -/
def FRead.lostSlots (r : FRead) : List Nat := ((r.cws.filter fun e => e.2.lost && e.2.bytes.isNone).map fun e => e.1 / 16).eraseDups

/-- Codeword i of the unit of a slot from what has been read of its row (R388, R390): as its die gave it, or reconstructed from the others; bytes
0x0000–0x1047 under a header of its own, PROG_TEMP and CW_CRC made new (R368). -/
def Dev.unitFrom (d : Dev) (geo row slot spare : Nat) (slc : Bool) (r : FRead) (i : Nat) : Option Bytes :=
  let at_ (m : Nat) : Option Bytes := (tget r.cws (m * 16 + i)).bind (·.bytes)
  let others := (upTo (geoM geo)).map at_
  let role := slotRole geo row slot
  let par := decide (geoN geo ≤ role)
  match at_ slot with
  | some b =>
    let body := slice b 8 4156
    let fill := !par && body.all fun x => decide (x = 0)
    some (if fill then sealed (cwHeader slc true false false (le b 4 4)) body else codeword (cwHeader slc false false par (le b 4 4)) body (d.packageTemp spare))
  | none => (rebuildUnit (geoN geo) (geoK geo) role (byRole geo row others)).map fun body =>
      let l := match others.findSome? id with | some b => le b 4 4 | none => 0
      let fill := !par && body.all fun x => decide (x = 0)
      if fill then sealed (cwHeader slc true false false l) body else codeword (cwHeader slc false false par l) body (d.packageTemp spare)

/-- A unit that has been read or reconstructed is programmed into the block of the spare die (R390). -/
def Dev.putUnit (d : Dev) (g s row slot : Nat) (r : FRead) : Dev :=
  match d.group g, d.seg g s with
  | some x, some y => match x.rebuild, x.rebuildBlock with
    | some (spare, _, _, _), some b2 =>
      let cws := (upTo 16).filterMap fun i => d.unitFrom x.geometry row slot spare y.slc r i
      if cws.length < 16 then d else
      let c := match d.dieProfile spare with | some p => Nat.max 1 p.cwPerPage | none => 1
      let l := match r.cws.findSome? fun e => if slotRole x.geometry row (e.1 / 16) < x.n then e.2.bytes else none with | some b => cwLogseq b | none => 0
      let page (q : Nat) : FAddr :=
        { row := d.rowAddress spare b2 (row * (16 / c) + q), column := 0
          data := ((cws.drop (q * c)).take c).flatMap encoded, length := 0 }
      d.flashPut [.new spare .O (.rebuild g l slot) (seqProgram y.slc) ((upTo (16 / c)).map page)]
    | _, _ => d
  | _, _ => d

/-- Whether a unit read has its own unit whole from its die. -/
def FRead.copied (r : FRead) (slot : Nat) : Bool := (upTo 16).all fun i => (tget r.cws (slot * 16 + i)).any fun w => w.bytes.isSome

/-- Whether a unit read covers the others of its row. -/
def FRead.wide (r : FRead) (slot : Nat) : Bool := r.cws.any fun e => decide (e.1 / 16 ≠ slot)

/-- A unit of a rebuild is reconstructed, as the parity engine has done it, and programmed; a row past the policy is noted (R395–R397). -/
def Dev.unitRebuilt (d : Dev) (id : Nat) : Dev :=
  match tget d.freads id with
  | none => d
  | some r => match r.use, d.group r.group with
    | .unit s row slot, some x =>
      let d := { (d.parityDone (.unit id)) with freads := tdel d.freads id }
      let lost := r.lostSlots.filter fun m => (x.member m).any fun k => !k.failed
      (if lost.isEmpty then d else d.rowFaults r.group s row lost).putUnit r.group s row slot r
    | _, _ => d

/-- The units of a segment that have been read: one that its die gave is programmed; of one that a copy rebuild could not read the others of the row are
read too; one that is to be reconstructed goes to a parity engine (R373). -/
def Dev.unitsRead (d : Dev) (g : Nat) : Dev :=
  (d.unitsOf g).foldl (fun d e =>
    match e.2.use with
    | .unit s row slot =>
      if !e.2.decided then d
      else if e.2.copied slot then { d with freads := tdel d.freads e.1 }.putUnit g s row slot e.2
      else if !e.2.wide slot ∧ !e.2.cws.isEmpty then { d with freads := tdel d.freads e.1 }.unitReads g s slot row false e.2.cws
      else if d.parityWork.any fun w => decide (w.2 = .unit e.1) then d
      else d.sendParity (d.rowQuadrant g) (.unit e.1)
    | _ => d) d

/-- The rebuild takes up a segment: claimed at order 1, a block of the spare die taken for its units (R341), and the units read. -/
def Dev.takeSegment (d : Dev) (g s slot spare : Nat) (copy : Bool) : Dev :=
  match d.seg g s with
  | none => d
  | some y => match d.freeBlock spare y.slc false with
    | none => d
    | some b2 =>
      let d := (((d.claim g s .rebuild).openBlock spare b2 y.slc).modGroup g fun x => { x with rebuildBlock := some b2 }).tellGroup g
      ((upTo y.rows).filter fun r => !y.holes.any fun h => decide (h.1 = r)).foldl (fun d r => d.unitReads g s slot r copy []) d

/-- The block of the spare die is to take the place of a segment's block on the slot (R390): SEG_FORM is logged. The segment stays claimed until its
batch is applied. -/
def Dev.moveBlock (d : Dev) (g s slot spare : Nat) : Dev :=
  match d.seg g s, (d.group g).bind (·.rebuildBlock) with
  | some x, some b2 => (d.logOwn g [.segForm s (x.blocks.set slot (some (spare, b2))) x.slc x.place] .O).dropHands (.rebuild g)
  | _, _ => d

/-- The SEG_FORM of a rebuilt segment has been applied: its new block is SEALED, the claim is released, the segment counts as done (R390). -/
def Dev.blockMoved (d : Dev) (g s spare b2 : Nat) : Dev :=
  ((d.sealBlock spare b2).modSeg g s fun x => { x with claim := if x.claim = some .rebuild then none else x.claim }).modGroup g fun x =>
    { x with rebuild := x.rebuild.map fun r => (r.1, r.2.1, r.2.2.1 + 1, r.2.2.2), rebuildBlock := none }

/-- A program on the spare die has failed: its block is marked and erased, and the segment is rebuilt into another (R344, R345). -/
def Dev.rebuildFailed (d : Dev) (g die : Nat) : Dev :=
  match d.group g with
  | none => d
  | some x => match x.rebuildBlock with
    | none => d
    | some b2 =>
      let d := (d.event 0x0406 0 0 (die % 65536) [die, b2, 0]).modBlk die b2 fun k => { k with retire := true }
      let d := { d with
        flash := d.flash.filter fun o => match o.op with | .rebuild k _ _ => decide (k ≠ g) | _ => true
        freads := d.freads.filter fun e => !(decide (e.2.group = g) && (match e.2.use with | .unit _ _ _ => true | _ => false)) }
      let d := (d.setBlock die b2 .erasing).modGroup g fun x => { x with
        rebuildBlock := none, segs := tmap x.segs fun _ s => if s.claim = some .rebuild then { s with claim := none } else s }
      d.eraseLoose g die

/-- A rebuild is over: the slot is the spare die's, the fault is cleared, and the next is taken up; with a manager event, also where the group keeps its
state (R390). -/
def Dev.rebuildDone (d : Dev) (g : Nat) : Dev :=
  match d.group g with
  | none => d
  | some x => match x.rebuild with
    | none => d
    | some (spare, slot, _, _) =>
      let old := x.member slot
      let d := match old with | some k => d.modDie k.die fun z => { z with group := none } | none => d
      let d := d.modMember g slot fun k => { k with die := spare, failed := false, target := false, copy := false, jblocks := [] }
      let d := (d.modGroup g fun x => { x with rebuild := none }).spareRegs
      let d := (d.nextRebuild g).settleState g
      let d := if (d.group g).any fun y => decide (y.state = x.state) then d.event 0x0501 0 0 g [x.state.num, x.state.num] else d
      d.tellGroup g

/-- Whether a batch of the group still has to form a segment. -/
def Dev.forming (d : Dev) (g : Nat) : Bool := (d.batchesOf g).any fun b => b.recs.any fun r => match r with | .segForm _ _ _ _ => true | _ => false

/-- Whether a unit of a group's rebuild is still to be programmed. -/
def Dev.unitsDue (d : Dev) (g : Nat) : Bool := d.flash.any fun o => match o.op with | .rebuild k _ _ => decide (k = g) | _ => false

/-- Blocks of a group's member that are still to be erased are (R336). -/
def Dev.eraseMember (d : Dev) (g : Nat) (x : Group) (slot : Nat) : Dev :=
  match x.member slot with | some k => d.eraseLoose g k.die | none => d

/-- One step of a group's rebuild (R390): take up the next segment that no other pass has claimed (R335), oldest seal first, in the buffer it reads
into; or, once its units have been read, program them on the spare die; or, once those are programmed, put the new block in place; or end the rebuild. -/
def Dev.rebuildStep (d : Dev) (g : Nat) : Dev :=
  match d.group g with
  | none => d
  | some x =>
    match x.rebuild with
    | none => d
    | some (spare, slot, _, _) =>
      if x.state = .verifying ∨ x.state = .offline then d else
      let d := d.eraseMember g x slot
      let copy := match x.member slot with | some k => k.copy | none => false
      let on := x.onMember slot
      match x.rebuildBlock.bind fun b => (x.segs.find? fun e => e.2.blocks.contains (some (spare, b))).map fun e => (e.1, b) with
      | some (s, b) => d.blockMoved g s spare b
      | none =>
      if x.rebuildBlock.any fun b => formsWith d.batches g spare b then d else
      match x.segs.find? fun e => e.2.claim = some .rebuild with
      | some (s, _) =>
        let d := d.unitsRead g
        if (d.unitsOf g).isEmpty && !d.unitsDue g then d.moveBlock g s slot spare else d
      | none =>
        match argMin (fun e => e.2.sealedAt) (on.filter fun e => decide (e.2.state = .sealed) && e.2.claim.isNone) with
        | some (s, _) =>
          let d := d.ask (.rebuild g) 262144 1 .O noTenant
          if (d.handsOf (.rebuild g)).isEmpty then d else d.takeSegment g s slot spare copy
        | none =>
          if on.isEmpty ∧ !d.forming g then d.rebuildDone g else d

/-! ### Retirement of dies (R345, R346, R388) -/

/-- The port of boot area k at its default place (R758). -/
def bootPort (side k : Nat) : Nat := 16 * k + (if side = 2 then 2 else 0)

/-- Boot areas whose die or port has failed rewritten on the lowest-numbered healthy die of a healthy home port of their quadrant (R759). -/
def Dev.moveAreas (d : Dev) : Dev :=
  let well (n : Nat) : Bool := match tget d.dies n with
    | some x => x.used && !x.retired && !d.isSet (FLP_STAT_FAILED (diePort n)) && homePort d.side (diePort n)
    | none => false
  let one (d : Dev) (k : Nat) : Dev :=
    let now := (d.boot.record.areas.getD k (bootPort d.side k * 32, 0)).1
    if well now ∨ !thas d.dies now then d else
    match (tkeys d.dies fun n _ => well n && decide (portQuadrant (diePort n) = k)).head? with
    | none => d
    | some die =>
      let all := (upTo 4).map fun j => d.boot.record.areas.getD j (bootPort d.side j * 32, 0)
      let areas := modAt all k fun _ => (die, Config.freeNat d.draws % 65536)
      let r := { d.boot.record with areas := areas, gen := (d.boot.record.gen + 1) % 2 ^ 32 }
      { d.drawn with boot := { d.boot with record := r } }.event 0x0903 0 0 0 [1]
  if d.side = 0 then d else (upTo 4).foldl one d

/-- Every block of a die that is retired is RETIRED (Table 7-1). -/
def Dev.retireBlocks (d : Dev) (die : Nat) : Dev :=
  match d.dieProfile die with
  | some p => (upTo p.blocks).foldl (fun d b => d.setBlock die b .retired) d
  | none => d

/-- A die that must retire a block and has no spare left is retired, its blocks with it: a spare die is copied onto if the pool has one, else the die
counts as a permanently failed member. -/
def Dev.retireDie (d : Dev) (die : Nat) : Dev :=
  match tget d.dies die with
  | none => d
  | some x =>
    if x.retired then d else
    let d := ((((d.noteFlash fun n => decide (n = die)).modDie die fun x => { x with retired := true }).retireBlocks die).spareRegs).reRisk
    let d := ((d.bump MAP_SPARE_DIES_RETIRED).event 0x0407 0 0 (die % 65536) [die, d.pool?.length]).moveAreas
    match x.group with
    | none => d
    | some g =>
      match (d.group g).bind fun y => (upTo y.m).find? fun m => match y.member m with | some k => decide (k.die = die) | none => false with
      | none => d
      | some slot =>
        if (d.spareFor g slot).isSome then d.startRebuild g slot true else d.faultMember g slot

/-- Retire a block (R345): a spare of its die is drawn, and with none left the die is retired; the retirement is logged. -/
def Dev.retire (d : Dev) (g die b : Nat) : Dev :=
  let r := d.retireBlock die b
  let d := r.1.logOwn g [.segRetire die b]
  let d := d.event 0x0603 0 0 (die % 65536) [8, match tget d.dies die with | some x => x.spares | none => 0]
  if r.2 then d else d.retireDie die

/-- A retired port, or one of a die gone, faults every member on it (R266, R387). -/
def Dev.faultPort (d : Dev) (n : Nat) : Dev :=
  let hit := d.groups.flatMap fun e => ((upTo e.2.m).filter fun m => match e.2.member m with
    | some k => decide (diePort k.die = n) && !k.failed | none => false).map fun m => (e.1, m)
  (hit.foldl (fun d e => d.faultMember e.1 e.2) d).moveAreas

/-! ### Group commands (R363–R366, R389, R402) -/

/-- The ports from which members of a new group may come (R363). -/
def Dev.eligiblePorts (d : Dev) (chosen : List Nat) : List Nat :=
  (upTo 64).filter fun n => homePort d.side n && !d.isSet (FLP_STAT_FAILED n) && !(chosen.map diePort).contains n &&
    d.pool?.any fun k => decide (diePort k = n)

/-- The next member of a new group (R363). -/
def Dev.nextMember (d : Dev) (chosen : List Nat) : Option Nat :=
  let ports := d.eligiblePorts chosen
  let qs := (upTo 4).filter fun q => ports.any fun n => decide (portQuadrant n = q)
  let held (q : Nat) : Nat := countP chosen fun k => decide (portQuadrant (diePort k) = q)
  match argMin held qs with
  | none => none
  | some q =>
    let freeOn (n : Nat) : Nat := countP d.pool? fun k => decide (diePort k = n)
    match argMax freeOn (ports.filter fun n => portQuadrant n = q) with
    | none => none
    | some n => argMin id (d.pool?.filter fun k => diePort k = n)

/-- Choose `m` members (R363). -/
def Dev.chooseMembers (d : Dev) : Nat → List Nat → Option (List Nat)
  | 0, l => some l
  | m + 1, l => match d.nextMember l with
    | none => none
    | some k => Dev.chooseMembers d m (l ++ [k])

/-- Whether a group number is in the range of the part's side (R362). -/
def Dev.groupInRange (d : Dev) (g : Nat) : Bool :=
  match d.side with
  | 1 => decide (g < 128)
  | 2 => decide (128 ≤ g) && decide (g < 256)
  | _ => decide (g < 256)

/-- CREATE (R363, R364). -/
def Dev.createGroup (d : Dev) : Dev :=
  let g := d.rd ARR_GSEL_GROUP
  let geo := d.rd ARR_GRP_CFG_GEOMETRY
  match (if geoM geo = 0 ∨ thas d.groups g ∨ !d.groupInRange g then none else d.chooseMembers (geoM geo) []) with
  | none => d.wr ARR_GRP_STAT_CREATE_ERR 1
  | some dies =>
    let ms : List Member := dies.map fun k => { die := k, failed := false, target := false, copy := false, jblocks := [] }
    let x : Group :=
      { geometry := geo, cover := d.isSet ARR_GRP_CFG_SECOND_FAULT && decide (geoK geo = 2), state := .normal, members := ms, jrnA := 0, jrnB := 1,
        rehoming := false, rebuild := none, lost := 0, committed := 0, nextLogseq := 1, nextMlseq := 0, segs := [], slots := [], slotGens := [],
        freed := [], deadSerials := [], nextSerial := 1, reserved := 0, amber := false, scrapeOn := false }
    let p := x.choosePair
    let d := { d with groups := tput d.groups g { x with jrnA := p.1, jrnB := p.2 } }
    let d := (dies.foldl (fun d k => d.modDie k fun z => { z with group := some g }) d).spareRegs
    ((d.reserves).nameStandby g).event 0x0501 0 0 g [0, GrpState.normal.num]

/-- DISSOLVE (R366): accepted only when no volume names the group. Every block of the group, of its journal, its overlay and its rebuild too, goes to
ERASING; its members that have not failed, and the spare die of a rebuild, are in the pool again. -/
def Dev.dissolveGroup (d : Dev) : Dev :=
  let g := d.rd ARR_GSEL_GROUP
  match d.group g with
  | none => d
  | some x =>
    if d.vols.any fun e => decide (e.2.group = g) then d else
    let d := d.event 0x0501 0 0 g [x.state.num, 0]
    let spare : List (Nat × Nat) := match x.rebuild, x.rebuildBlock with | some (n, _, _, _), some b => [(n, b)] | _, _ => []
    let ovls := x.members.flatMap fun m => match tget d.dies m.die with | some k => k.ovl.map fun b => (m.die, b.1) | none => []
    let used := (x.segs.flatMap fun e => e.2.blocks.filterMap id) ++ (x.members.flatMap fun m => m.jblocks.map fun b => (m.die, b.1)) ++ ovls ++ spare ++ x.oldJournal
    let live := used.filter fun b => d.readable g b.1
    let d := live.foldl (fun d b => d.setBlock b.1 b.2 .erasing) d
    let d := { d with flash := d.flash.filter fun o => !(match o.op with
      | .program k _ _ | .erase k _ _ | .journal k _ | .overlay k _ _ _ _ _ | .rebuild k _ _ => decide (k = g)
      | .dump k _ => decide (k / 2 ^ 40 = g)
      | .read _ _ => false) }
    let d := d.flashPut (live.map fun b => d.eraseOp b.1 (.erase g (2 ^ 30 + b.2) b.2) b.2)
    let d := x.members.foldl (fun d m => d.modDie m.die fun z => { z with group := none, used := z.used && !m.failed, ovl := [] }) d
    let d := match x.rebuild with | some (n, _, _, _) => d.modDie n fun z => { z with group := none } | none => d
    ({ d with
      groups := tdel d.groups g
      rows := d.rows.filter fun e => e.1 / 2 ^ 40 ≠ g
      journal := d.journal.filter fun e => e.group ≠ g
      batches := d.batches.filter fun b => b.group ≠ g
      overlay := d.overlay.filter fun e => e.1 / 2 ^ 36 ≠ g
      sysFrags := d.sysFrags.filter fun f => f.loc.group ≠ g
      ckpt := { d.ckpt with cycle := d.ckpt.cycle.bind fun c => (match c.2.filter (fun (e : Nat × Nat) => decide (e.1 ≠ g)) with | [] => none | l => some (c.1, l)) } }).spareRegs

/-- RESUME (R402). -/
def Dev.resumeGroup (d : Dev) : Dev :=
  let g := d.rd ARR_GSEL_GROUP
  match d.group g with
  | none => d
  | some x => if x.state = .readOnly then d.setGroupState g x.faultState else d

/-- ARR_GRP_CTL.REBUILD: start a rebuild of the lowest failed slot (R389). -/
def Dev.rebuildGroup (d : Dev) : Dev :=
  let g := d.rd ARR_GSEL_GROUP
  match (d.group g).bind (·.nextFailed) with
  | some m => (d.startRebuild g m false).settleState g
  | none => match d.nextRetired g with
    | some m => d.startRebuild g m true
    | none => d

/-- The meaning of MEMBER_FAULT (R387). -/
def execMemberFault (g slot : Nat) (s : State) : Host.Outcome State Fault Refusal :=
  onDev (fun d => (d.faultMember g slot).settle) s

/-- The meaning of REBUILD (R390). -/
def execRebuild (g : Nat) (s : State) : Host.Outcome State Fault Refusal :=
  onDev (fun d => if d.passesOn then (d.rebuildStep g).settle else d) s

end Sys2Proof.Machine
end

