-- ==== Sys2Proof/Machine/Guard.lean ====
section
/-! DEFINITION. The write guard of a flash port (R290–R297): its conditions, and the hold they place. -/

namespace Sys2Proof.Machine

/-- Whether a port's sensor lies outside its window or has failed, and whether it lies 2 °C inside. -/
def Dev.tempOut (d : Dev) (n : Nat) : Bool :=
  let k := d.portSensor n
  d.sensorFailed k || decide (d.sensor k < 8 * signed 8 (d.rd (FLP_GUARD_T_LOW n))) || decide (8 * signed 8 (d.rd (FLP_GUARD_T_HIGH n)) < d.sensor k)

def Dev.tempGood (d : Dev) (n : Nat) : Bool :=
  let k := d.portSensor n
  d.dumping || !d.sensorFailed k && decide (8 * (signed 8 (d.rd (FLP_GUARD_T_LOW n)) + 2) ≤ d.sensor k)
    && decide (d.sensor k ≤ 8 * (signed 8 (d.rd (FLP_GUARD_T_HIGH n)) - 2))

/-- Whether a port's temperature holds its writes: not during the dump (R297). -/
def Dev.heatHolds (d : Dev) (n : Nat) : Bool := !d.dumping && d.tempOut n

/-- Place a hold on a port (R290, R294): WP_N low. -/
def Dev.holdWrites (d : Dev) (n : Nat) : Dev :=
  (((d.noteFlash fun k => decide (diePort k = n)).wr (FLP_GUARD_STAT_HELD n) 1).emit (.portWp n false)).modPort n fun p =>
    { p with heldAt := d.now, reported := false, goodSince := none, supplyHold := d.isSet (FLP_GUARD_STAT_SUPPLY_OUT n) }

/-- The write guard of a port judged again when its sensor's reading or its settings have changed (R290): a hold is placed at once, and one
that stands is released only after the temperature has again been good for 1 ms (R291). -/
def Dev.guardCheck (d : Dev) (n : Nat) : Dev :=
  if !thas d.ports n then d else
  let hot := d.tempOut n
  let d := d.wr (FLP_GUARD_STAT_TEMP_OUT n) (b2n hot)
  if d.isSet (FLP_GUARD_STAT_HELD n) then
    if d.tempGood n then d else d.modPort n fun p => { p with goodSince := none }
  else if d.heatHolds n || d.isSet (FLP_GUARD_STAT_SUPPLY_OUT n) then (d.holdWrites n).issueFlash
  else d

/-- The write guard of every port whose sensor is k judged again. -/
def Dev.guardSensor (d : Dev) (k : Nat) : Dev :=
  (tkeys d.ports fun n _ => decide (d.portSensor n = k)).foldl (fun d n => d.guardCheck n) d

/-- Whether the supply still holds the writes of a port: it has been out since the hold began, and not yet within 4% again for 1 ms (R291). -/
def Dev.supplyHolds (d : Dev) (p : Port) : Bool :=
  p.supplyHold && !(match p.supplyGood with | some t => decide (t + msNs 1 ≤ d.now) | none => false)

/-- The dump begins (R294, R297): a hold that stands for a port's temperature alone ends; of one that the supply still causes, only the supply's limits
count from now on. -/
def Dev.liftHeat (d : Dev) : Dev :=
  (tkeys d.ports fun n p => decide (p.own = .owned) && d.isSet (FLP_GUARD_STAT_HELD n)).foldl
    (fun (d : Dev) n => match tget d.ports n with
      | none => d
      | some p =>
        if d.supplyHolds p then d.modPort n fun p => { p with goodSince := p.supplyGood }
        else ((d.wr (FLP_GUARD_STAT_HELD n) 0).modPort n fun p => { p with goodSince := none, supplyHold := false }).emit (.portWp n true)) d

end Sys2Proof.Machine
end

