-- ==== Sys2Proof/Machine/Dump.lean ====
section
/-! DEFINITION. The power-loss dump and parking (R337, R338, R740, R806, Table 7-11). -/

namespace Sys2Proof.Machine

/-- Write the parked levels of every owned port: idle, with WP_N low, PORTOWN held. DESIGN CHOICE (log 156): Table 6-4 has parking drop PORTOWN and go
to LEAVING, Table 7-11 has PORTOWN held until power is lost; no ruling settles it, and the port stays OWNED with PORTOWN high. -/
def Dev.parkPorts (d : Dev) : Dev :=
  (tkeys d.ports fun _ p => decide (p.own = .owned)).foldl (fun d n => (d.emit (.portIdle n idleLevels)).emit (.portWp n false)) d

/-- The dump record of the anchor store (Table 7-12): STATE, STRIPES, and the low 64 bits of the stamps START and END. -/
def dumpRecord (state stripes start end_ : Nat) : Bytes :=
  toLE 1 state ++ zeros 1 ++ toLE 2 stripes ++ zeros 4 ++ toLE 8 start ++ toLE 8 end_ ++ zeros 8

/-- STATE, STRIPES and START of the dump record as it stands: STATE 0 where there is none. -/
def Boot.dumpState (b : Boot) : Nat := le b.dumpRec 0 1
def Boot.dumpStripes (b : Boot) : Nat := le b.dumpRec 2 2
def Boot.dumpStart (b : Boot) : Nat := le b.dumpRec 8 8

/-- Whether a dump of an earlier power loss stands that no boot has applied or discarded yet (R339). -/
def Dev.dumpStands (d : Dev) : Bool := !d.dumping && decide (d.boot.dumpState ≠ 0)

/-- Whether the part holds write-buffer data that is not programmed (R740, R806); what a standing dump holds is on flash. -/
def Dev.unprogrammed (d : Dev) : Bool := !d.dumpStands && ((d.rows.any fun e => e.2.found.isEmpty) || !d.batches.isEmpty)

/-- The next row of a group's dump reserve that holds nothing: segment, row in it, the segment. -/
def Dev.reserveRow (d : Dev) (g : Nat) : Option (Nat × Nat × Seg) :=
  match d.group g, d.groupProfile g with
  | some x, some p =>
    let size := x.n * unitBytes
    (x.segs.find? fun e => decide (e.2.place = 3) && decide (e.2.state = .open_) && decide (e.2.pos / size < rowsIn p true)).map fun e =>
      (e.1, e.2.pos / size, e.2)
  | _, _ => none

/-- Take a row of a segment of dump reserve. -/
def Dev.takeReserve (d : Dev) (g s : Nat) : Dev :=
  match d.group g with
  | some x => d.modSeg g s fun y => { y with pos := y.pos + x.n * unitBytes }
  | none => d

/-- The blocks of a segment of dump reserve that can be programmed, with their slots: those of members that have not failed. -/
def Dev.reserveBlocks (d : Dev) (g : Nat) (y : Seg) : List (Nat × (Nat × Nat)) :=
  y.blocks.zipIdx.filterMap fun b => b.1.bind fun k => if d.readable g k.1 then some (b.2, k) else none

/-- Where a row of group g is dumped (R337): in the reserve of its own group, or, where that is spent, in that of another group with a block for each
of its units; none where no group has room (DESIGN CHOICE, log 131). -/
def Dev.dumpPlace (d : Dev) (g m : Nat) : Option (Nat × Nat × Nat × List (Nat × (Nat × Nat))) :=
  match d.reserveRow g with
  | some (s, r, y) => some (g, s, r, d.reserveBlocks g y)
  | none => (tkeys d.groups fun h _ => decide (h ≠ g)).findSome? fun h => (d.reserveRow h).bind fun e =>
      let bs := d.reserveBlocks h e.2.2
      if bs.length < m then none else some (h, e.1, e.2.1, (upTo m).zip (bs.map (·.2)))

/-- Dump a row into a dump reserve, as a primer stripe (R337). A row that no reserve has room for is not dumped: the dump stays incomplete. -/
def Dev.dumpRow (d : Dev) (g l : Nat) (w : Row) : Dev :=
  match d.group g with
  | none => d
  | some x => match d.dumpPlace g x.m with
    | none => d
    | some (h, s, r, bs) => (d.takeReserve h s).flashPut (bs.map fun b =>
        .new b.2.1 .V (.dump (rowKey g l) b.1) (seqProgram true) (d.unitPages l { w with slc := true } x.n (slotRole x.geometry r b.1) b.2.1 b.2.2 r))

/-- The stripes that hold a group's records not yet durable, as map-log blocks, each with the LOGSEQ after the group's rows (R337). -/
def Dev.recordStripes (d : Dev) (g : Nat) : List (Nat × Row) :=
  match d.group g with
  | none => []
  | some x =>
    let slot := x.freshSlot
    let late := d.batches.filter fun b => decide (b.group = g) && !d.batchDurable b
    let bytes := late.foldl (fun (a : Bytes) b =>
      (chunks 1048560 ((d.batchBytes b).length / 1048560 + 1) (d.batchBytes b)).foldl (fun a c => a ++ d.fragBytesAt g slot (a.length % stripeBytes) (.system logBlockId c)) a) []
    let size := Nat.max 1 (x.n * unitBytes)
    (chunks size (bytes.length / size + 1) bytes).zipIdx.filterMap fun c =>
      if c.1.isEmpty then none else
      let item : Item := { cargo := .records g (late.head?.elim 0 (·.first)), offset := 0, bytes := c.1, start := decide (c.2 = 0) }
      let w : Row := { group := g, segment := 0, row := 0, slotA := slot, slotB := slot, slc := true, move := false, items := [item]
                       units := ceilDiv c.1.length unitBytes, since := d.now, claim := .V, urgent := true, state := .journalled, p := [], q := []
                       jseq := 0, linkSeq := none, mirrored := false, failed := [], bufs := [], badUnits := [] }
      let l := x.nextLogseq + c.2
      let us := (upTo x.n).map fun j => d.unitBody l w x.n (w.payload x.n) j
      some (l, { w with p := parityP us, q := if geoK x.geometry = 2 then parityQ us else [] })

/-- Whether an operation is a dump program. -/
def FOp.isDump : FOp → Bool
  | .dump _ _ => true
  | _ => false

/-- Whether every row of the dump has been programmed. -/
def Boot.dumpWhole (b : Boot) : Bool := b.dumped.all b.dumpedDone.contains

/-- Once the last dump program has ended the anchor store receives the root table and, where every row has been programmed, the stamp at STATE 2 (Table
7-11, Table 7-12); then the ports are parked. -/
def Dev.parkIfDone (d : Dev) : Dev :=
  if !d.dumping || d.flash.any (fun o => o.op.isDump) then d else
  let b := { d.boot with root := d.rootTable }
  let b := if b.dumpWhole && b.dumpEnd.isNone
    then { b with dumpEnd := some d.stamp, dumpRec := dumpRecord 2 b.dumpStripes b.dumpStart (stampLow d.stamp) } else b
  { d with boot := b }.parkPorts

/-- What the flash holds of the unit of slot m of a row, `cut` telling the operations that are cut short; none where a program of it is, and it is
open what it leaves. -/
def Dev.unitLeft (d : Dev) (g l m : Nat) (w : Row) (cut : FlashOp → Bool) : Option UnitFound :=
  match d.flash.find? fun o => decide (o.op = .program g l m) && cut o with
  | some o => if o.issued then none else some .unwritten
  | none => match w.found[m]? with
    | some u => some u
    | none => match (d.seg g w.segment).bind fun y => y.blocks.getD m none with
      | none => some .unwritten
      | some b => some (if !d.readable g b.1 then .unwritten else if w.failed.contains m then .bad else if w.state = .journalled then .unwritten else .good)

/-- A unit of a programmed row under a program that may disturb it (R318): whether that is cut short. -/
def Dev.disturbed (d : Dev) (g s r m : Nat) (cut : FlashOp → Bool) : Bool :=
  (d.disturbers g s r).any fun k => (d.rowIn g s k).any fun e => d.flash.any fun o => decide (o.op = .program g (e.1 % 2 ^ 40) m) && o.issued && cut o

/-- What a program cut short leaves of a unit is a free value (Table 8-3). -/
def UnitFound.free (n : Nat) : UnitFound := match Config.freeNat n % 4 with | 0 => .good | 1 => .unwritten | 2 => .bad | _ => .wrong

/-- The units of a row as the flash holds them. -/
def Dev.unitsLeft (d : Dev) (g l : Nat) (w : Row) (m : Nat) (cut : FlashOp → Bool) : Dev × List UnitFound :=
  (upTo m).foldl (fun (t : Dev × List UnitFound) i =>
    if w.state = .programmed then
      if d.disturbed g w.segment w.row i cut then (t.1.drawn, t.2 ++ [if Config.freeBool t.1.draws then .good else .bad]) else (t.1, t.2 ++ [.good])
    else match d.unitLeft g l i w cut with
      | some u => (t.1, t.2 ++ [u])
      | none => (t.1.drawn, t.2 ++ [.free t.1.draws])) (d, [])

/-- Whether power loss leaves it open what the flash holds of a row: a program of it, or one that disturbs it, is cut short, or only its STRIPE entry is
durable. -/
def Dev.torn (d : Dev) (g l : Nat) (w : Row) (m : Nat) (cut : FlashOp → Bool) : Bool :=
  let mine := d.flash.any fun o => cut o && (match o.op with
    | .program a b _ | .overlay a b _ _ _ _ => decide (a = g) && decide (b = l)
    | _ => false)
  match w.state with
  | .journalled => d.entryDurable g l
  | .programming => mine
  | .programmed => (upTo m).any fun i => d.disturbed g w.segment w.row i cut
  | _ => false

/-- Rows whose programs are cut short, with what their units hold, to be verified at the next boot (R384): of the operations that `cut` tells, each
that has been issued leaves its unit open, and each other has not begun. -/
def Dev.cutShort (d : Dev) (cut : FlashOp → Bool) : Dev :=
  d.rows.foldl (fun (e : Dev) k =>
    let g := k.1 / 2 ^ 40
    let l := k.1 % 2 ^ 40
    let m := match d.group g with | some x => x.m | none => 0
    if !d.torn g l k.2 m cut then e else
    let t := { d with draws := e.draws }.unitsLeft g l k.2 m cut
    if k.2.state = .programmed ∧ t.2.all (fun u => decide (u = .good)) then { e with draws := t.1.draws } else
    { e with draws := t.1.draws, rows := tput e.rows k.1 { k.2 with state := .programming, found := t.2 } }) d

/-- The dump and parking: rows assembled at write step 14 that do not count as programmed yet (R318) are dumped in LOGSEQ order, with every record that is not
durable; QLC programs and erases are ended by RESET, and what they leave is to be verified at the next boot (R384); temperature holds nothing from now on (R297), and the part is parked. It takes no frame from now
on. While an earlier dump stands there is nothing new to dump, and the part only parks (R339). -/
def Dev.dump (d : Dev) : Dev :=
  if d.dumping then d else
  if d.dumpStands then { d with boot := { d.boot with phase := .parked } }.liftHeat.parkPorts else
  let slc (o : FlashOp) : Bool := match o.op with
    | .read _ _ => true
    | .erase _ _ _ => false
    | _ => decide (o.seq = seqProgram true)
  let late := d.rows.filter fun e => decide (e.2.state ≠ .filling) && decide (e.2.state ≠ .closed) && e.2.found.isEmpty && !d.rowCounts e.2
  let more := (tkeys d.groups fun _ _ => true).flatMap fun g => (d.recordStripes g).map fun e => (rowKey g e.1, e.2)
  let all : List (Nat × Row) := late ++ more
  let ended := d.flash.filter fun o => o.issued && !slc o
  let d := d.cutShort fun o => !(o.issued && slc o)
  let d := { d with
    dumping := true
    flash := d.flash.filter fun o => o.issued && slc o
    boot := { d.boot with
      phase := .parked, dumped := all.map Prod.fst, dumpedDone := [], dumpAt := some d.now, dumpEnd := none
      dumpRec := dumpRecord 1 (satAt 65535 all.length) (stampLow d.stamp) 0, dumpStamp := some d.stamp } }.liftHeat
  let d := (ended.map fun (o : FlashOp) => (diePort o.die, o.die % 32 / 4)).eraseDups.foldl (fun (d : Dev) k => d.emit (.flashReset k.1 k.2)) d
  let d := all.foldl (fun d e => d.dumpRow (e.1 / 2 ^ 40) (e.1 % 2 ^ 40) e.2) d
  (d.wr MAP_DUMP_STAT_STRIPES (satAt 65535 all.length)).parkIfDone

/-- Dump programs of a row. -/
def Dev.dumpOps (d : Dev) (g l : Nat) : List FlashOp :=
  d.flash.filter fun o => match o.op with | .dump k _ => decide (k = rowKey g l) | _ => false

/-- The dump programs of a row that have been issued have ended; the row is dumped once none is left. -/
def Dev.rowDumped (d : Dev) (g l : Nat) : Dev :=
  let ops := (d.dumpOps g l).filter fun o => o.issued && !d.busPaused o.die
  if ops.isEmpty then d else
  let d := ops.foldl (fun d o => (d.flashDone o.die o.op).noteTemps o.die o.pages) d
  let d := if (d.dumpOps g l).isEmpty then { d with boot := { d.boot with dumpedDone := rowKey g l :: d.boot.dumpedDone } } else d
  d.issueFlash.parkIfDone

/-- A dump program that fails is placed again in the dump reserve of another group, on the first die that has a block there, and counted (R338); where
none has room its row stays without it, and is not whole. -/
def Dev.dumpFailed (d : Dev) (o : FlashOp) : Dev :=
  let d := (d.emit (.flashReset (diePort o.die) (o.die % 32 / 4))).flashTake o.die o.op
  let d := { d with boot := { d.boot with dumpFails := d.boot.dumpFails + 1 } }
  let here (x : Group) : Bool := x.members.any fun k => decide (k.die = o.die)
  let key := match o.op with | .dump k _ => k | _ => 0
  match (d.groups.filter fun e => !here e.2).findSome? fun e => (d.reserveRow e.1).bind fun r =>
      ((d.reserveBlocks e.1 r.2.2).head?).map fun k => (e.1, r.1, r.2.1, k.2) with
  | none => { d with flash := d.flash.filter fun q => match q.op with | .dump k _ => decide (k ≠ key) | _ => true }.issueFlash.parkIfDone
  | some (h, s, r, k) =>
    let pages := o.pages.zipIdx.map fun q => { q.1 with row := d.rowAddress k.1 k.2 (r * o.pages.length + q.2) }
    (d.takeReserve h s).flashPut [.new k.1 .V o.op (seqProgram true) pages]

/-- Whether a dump that began has had its time, and all of it is on flash (Table 7-11). -/
def Dev.dumpDone (d : Dev) : Bool :=
  match d.boot.dumpAt with | some t => decide (t + usNs 3000 ≤ d.now) && d.boot.dumpEnd.isSome | none => false

/-- Whether a dump that began has had its time, and nothing of it runs any more: parking is complete. -/
def Dev.dumpOver (d : Dev) : Bool :=
  match d.boot.dumpAt with | some t => decide (t + usNs 3000 ≤ d.now) && !d.flash.any (fun o => o.op.isDump) | none => false

/-- What is left of a dump is run to its end: a reset waits for it (R806). A training that runs ends first (R268); a program on a port that has failed or
is not owned (R266), or that the supply holds (R297), never comes, and its row is not whole. -/
def Dev.endDump (d : Dev) : Dev :=
  let left := d.flash.filter fun o => o.op.isDump
  let may (o : FlashOp) : Bool := o.issued || !d.guarded (diePort o.die) && !d.isSet (FLP_STAT_FAILED (diePort o.die)) &&
    (tget d.ports (diePort o.die)).any fun p => decide (p.own = .owned)
  let keys (l : List FlashOp) : List Nat := l.filterMap fun o => match o.op with | .dump k _ => some k | _ => none
  let stuck := keys (left.filter fun o => !may o)
  let d := (left.filter may).foldl (fun d o => if o.issued then d.emit (.cycles o.die (o.finish statusPass).1) else
    let s := o.start ((tget d.ports (diePort o.die)).bind (·.profile))
    ((d.emit (.flash o.die o.op)).emit (.cycles o.die s.2)).emit (.cycles o.die (s.1.finish statusPass).1)) d
  let done := ((keys left).filter fun k => !stuck.contains k).eraseDups
  { d with flash := d.flash.filter fun o => !o.op.isDump, boot := { d.boot with dumpedDone := done ++ d.boot.dumpedDone } }.parkIfDone

end Sys2Proof.Machine
end

