-- ==== Sys2Proof/Machine/Tasks.lean ====
section
/-! DEFINITION. Tasks of tint programs: their creation, their tokens, their ends and deadlines (chapters 12 and 13), and the issue of
one instruction on a core. -/

namespace Sys2Proof.Machine

/-! ### Programs in memory (R539, R540) -/

/-- Load a program into program memory for a task: its state is rebuilt from INIT, with STATE_RESET and its tenant event. -/
def Dev.loadProg (d : Dev) (n : Nat) : Dev :=
  match tget d.progs n with
  | none => d
  | some p =>
    if p.resident ∨ !p.loaded then d else
    let q := { p with resident := true, state := padTo p.stateLen p.init, stateReset := true }
    { d with progs := tput d.progs n q }.tenantEvent p.tenant 7 n

/-- The handle of program n. -/
def Dev.progHandle (d : Dev) (n : Nat) : Nat := n + (match tget d.progs n with | some p => p.gen * 65536 | none => 0)

/-! ### Creation (R542–R553) -/

/-- What a task of an entry for a command's grain is made from: program index, parameters r1–r8, input, output size, core set, claimant
class, and deadline. -/
structure TaskPlan where
  prog : Nat
  params : List Nat
  input : Bytes
  output : Nat
  cores : List Nat
  claim : Claim
  deadline : Option Nat

/-- The deadline of a FILTER task (Table 13-2): the clock at which the timebase comes to the write's deadline, which counts from its capture
stamp. -/
def Dev.filterDeadline (d : Dev) (c : Cmd) : Option Nat := (d.deadlineOf c).map fun t => d.now + ceilDiv (t - d.stamp) 65536

/-- The first LBA of a grain, and the stream number a program sees. -/
def Cmd.grainLba (c : Cmd) (g : Nat) : Nat := g * c.spg
def Cmd.streamNo (c : Cmd) : Nat := match c.streamId with | some s => s | none => 0xFFFF

/-- The plan of a task, where one of that entry is due for the command and grain (R542–R546). -/
def Dev.plan (d : Dev) (id g entry : Nat) : Option TaskPlan :=
  match tget d.cmds id with
  | none => none
  | some c =>
    if d.sched.tasks.any fun e => decide (e.2.cmd = id) && decide (e.2.grain = g) && decide (e.2.entry = entry) then none else
    let h := c.msg.volume.toNat % 2 ^ 64
    match entry, tget c.grains g with
    | 0, some x =>
      match d.bindingFor c id 1 with
      | none => none
      | some b =>
        if c.op ≠ .write ∨ x.step ≠ 7 ∨ b.binder.isSome then none else
        some { prog := b.prog, params := [h, c.grainLba g, c.num 0, c.streamNo, stampLow c.stamp, c.tenant, 0, 0], input := x.data
               output := c.num 0, cores := b.cores, claim := c.claim, deadline := d.filterDeadline c }
    | 1, some x =>
      match d.bindingFor c id 2 with
      | none => none
      | some b =>
        let earlier := d.cmds.any fun e => decide (e.1 ≠ id) && decide (e.2.volume = c.volume) && e.2.committed && decide (e.2.num 6 < c.num 6) &&
          match tget e.2.grains g with | some y => decide (y.step = 14) || decide (y.step = 18) | none => false
        if x.step ≠ 18 ∨ earlier ∨ b.binder.isSome then none else
        let nodata := c.claim = .V
        some { prog := b.prog, params := [h, c.grainLba g, c.num 0, c.streamNo, stampLow c.stamp, c.tenant, x.annot, b2n x.zero + 2 * b2n nodata]
               input := if x.zero ∨ nodata then [] else x.data, output := 0, cores := b.cores
               claim := if c.claim = .V then .O else c.claim, deadline := none }
    | 2, some x =>
      if c.op ≠ .scan ∨ x.step ≠ 11 ∨ c.num 15 = 1 ∨ !d.scanSettled id g then none else
      match tget d.progs c.scanProg with
      | none => none
      | some p =>
        let now := c.shown x
        let zero := decide (x.match? = none) && x.writers.isEmpty && now.1.all fun b => decide (b = 0)
        let index := countP c.grains fun e => decide (e.1 < g)
        some { prog := c.scanProg, params := [h, c.grainLba g, c.num 0, index, stampLow (now.2.headD 0), c.tenant, 0, b2n zero]
               input := if zero then [] else now.1, output := p.outMax * 256, cores := c.waits, claim := .G, deadline := some (c.num 14) }
    | 3, _ =>
      let ended := c.grains.all fun e => decide (e.2.step = 12)
      if c.op ≠ .scan ∨ c.stage ≠ .path ∨ !ended ∨ c.num 16 ≠ 0 then none else
      match tget d.progs c.scanProg with
      | none => none
      | some p =>
        if (p.entries.getD 3 none).isNone then none else
        let last := match c.grains.getLast? with | some e => c.grainLba (e.1 + 1) | none => c.msg.par 0x30 8
        some { prog := c.scanProg, params := [c.num 9, last, 0, 0, 0, c.tenant, 0, 0], input := [], output := p.outMax * 256
               cores := c.waits, claim := .G, deadline := some (c.num 14) }
    | _, _ => none

/-- The lowest task index not in use. -/
def Sched.freshTask (s : Sched) : Nat := ((upTo (s.tasks.length + 1)).find? fun i => !thas s.tasks i).getD 0

/-- A task's creation finds its reference waiting (R230): counted, the first time it does. -/
def Dev.taskRefWait (d : Dev) (me : Nat × Nat × Nat) : Dev :=
  if d.sched.refWaits.contains me then d
  else { d with sched := { d.sched with refWaits := me :: d.sched.refWaits } }.bump BPM_REFWAIT_REFWAIT

/-- The meaning of TASK_CREATE (R548–R553): a task that is due reserves its slots, or waits for them in order of arrival. It takes a reference
on the buffer of its grain (R228), and waits for one at a full count (R230). A creation with a start time, in ns, is a firmware post: it waits while
an earlier one waits for room on a delay list (R565). -/
def execTaskCreate (cmd grain : Nat) (ask : TaskAsk) (s : State) : Host.Outcome State Fault Refusal :=
  let entry := ask.entry
  let start := ask.start
  onDev (fun d =>
    match d.plan cmd grain entry, tget d.cmds cmd with
    | some q, some c =>
      match tget d.progs q.prog with
      | none => d
      | some p =>
        if !p.loaded ∨ (p.entries.getD entry none).isNone then d else
        let me := (cmd, grain, entry)
        let wait : Dev := if d.sched.waiting.contains me then d else { d with sched := { d.sched with waiting := d.sched.waiting ++ [me] } }
        let before := d.sched.waiting.takeWhile (· ≠ me)
        let blocked := before.any fun w => match d.plan w.1 w.2.1 w.2.2 with | some r => decide (r.claim = q.claim) | none => false
        if blocked ∨ (start.isSome ∧ !d.sched.posts.isEmpty) then wait else
        match d.maySlots (1 + declaredSlots entry) q.claim with
        | none => wait
        | some fromFloor =>
          let grainRefs := if entry = 3 then none else (tget c.grains grain).bind (·.buf)
          if grainRefs.any d.refFull then wait.taskRefWait me else
          let d := d.loadProg q.prog
          let ti := d.sched.freshTask
          let t : Task :=
            { prog := q.prog, entry := entry, cmd := cmd, grain := grain, tenant := c.tenant, claim := q.claim
              level := if q.claim = .V then 3 else c.prio, cores := q.cores, core := none, gen := (tget d.sched.gens ti).getD 0
              slots := List.replicate (declaredSlots entry) none, ret := none, call := none, state := .filling, started := false
              readyAt := d.now, wake := start.getD 0, deadline := q.deadline, missed := false, pc := 0, regs := [], preds := 1, segs := []
              rstack := [], budget := 0, stack := [], input := q.input, output := zeros q.output
              params := q.params.map fun n => BitVec.ofNat 64 n, fromFloor := fromFloor
              refs := grainRefs.toList }
          let d := grainRefs.elim d d.takeRef
          let d := { d with sched := { d.sched with
            tasks := tput d.sched.tasks ti t
            waiting := d.sched.waiting.filter (· ≠ me)
            refWaits := d.sched.refWaits.filter (· ≠ me) } }
          let d := match entry with
            | 0 => d.modGrain cmd grain fun x => { x with step := 75 }
            | 1 => d.modGrain cmd grain fun x => { x with step := 19 }
            | 2 => d.modGrain cmd grain fun x => { x with step := 15 }
            | _ => d.modCmd cmd fun c => c.setNum 16 1
          d.schedRegs
    | _, _ => d) s

/-- The meaning of OPERAND_TOKEN (R550–R552): a token fills its slot, its buffer reference becoming the task's; with every declared slot filled the task is ready. A stale token
is discarded, its buffer reference released; one for a slot that is filled or not held is a breach of ledger 2. -/
def execOperandToken (task gen slot : Nat) (t : Token) (s : State) : Host.Outcome State Fault Refusal :=
  onDev (fun d =>
    let stale (d : Dev) : Dev :=
      let d := d.bump SCH_PENDING_STALE
      match t.handle with | some h => d.release h.toNat | none => d
    match d.task task with
    | none => stale d
    | some x =>
      if x.gen ≠ gen then stale d
      else if x.started then (if slot = declaredSlots x.entry ∧ x.ret.isNone then d else d.breach 2 1 0 (d.slotsFilled + 1) d.slotsFilled)
      else match x.slots[slot]? with
        | none => d.breach 2 1 0 (d.slotsFilled + 1) d.slotsFilled
        | some (some _) => d.breach 2 1 0 (d.slotsFilled + 1) d.slotsFilled
        | some none =>
          let y := { x with slots := x.slots.set slot (some t), refs := x.refs ++ t.handle.toList.map (·.toNat) }
          let d := (d.modTask task fun _ => y).delivers 1
          if y.slots.all (·.isSome) then (d.makeReady task).schedRegs else d.schedRegs) s

/-! ### How a task ends (R542, R543, R546) -/

/-- A task ends with END: its result is its r1 and r2. -/
def Dev.endTask (d : Dev) (ti : Nat) (t : Task) : Dev :=
  let r1 := t.num 1
  let r2 := t.num 2
  let free (d : Dev) : Dev :=
    let d := d.dropTask ti
    match t.core with | some c => d.coreIdle c | none => d
  match t.entry with
  | 0 =>
    if 2 < r1 then d.trap ti 0xA 0 0 0 else
    (free d).modGrain t.cmd t.grain fun x => { x with
      step := 8, annot := r2, dropped := decide (r1 = 2), data := if r1 = 1 then t.output else x.data }
  | 1 => (free d).modGrain t.cmd t.grain fun x => { x with step := 20 }
  | 2 =>
    if t.output.length < r1 then d.trap ti 0xA 0 0 0 else
    (free d).modGrain t.cmd t.grain fun x => { x with step := 16, frag := t.output.take r1 }
  | _ =>
    match tget d.cmds t.cmd with
    | none => free d
    | some c =>
      let out := t.output.take (Nat.min t.output.length (c.length - c.applied))
      let d := (free d).send t.cmd c.applied out
      d.modCmd t.cmd fun c => { (c.setNum 16 2) with applied := c.applied + out.length, retval := r1 }

/-- A trap of a hook leaves its grain with nothing to do; any trap is followed by what it releases. -/
def Dev.trapTask (d : Dev) (ti : Nat) (t : Task) (cause seg off code : Nat) : Dev :=
  let d := d.trap ti cause seg off code
  if t.entry = 1 then d.modGrain t.cmd t.grain fun x => { x with step := 20 } else d

/-- The meaning of TASK_DEADLINE (R568, R569). -/
def execTaskDeadline (task : Nat) (s : State) : Host.Outcome State Fault Refusal :=
  onDev (fun d =>
    match d.task task with
    | none => d
    | some t =>
      match t.deadline with
      | none => d
      | some e =>
        if t.missed ∨ d.now < e then d else
        let d := d.modTask task fun t => { t with missed := true }
        let d := match t.core with | some c => d.setCore c { (d.core c) with misses := sat32 ((d.core c).misses + 1) } | none => d
        let d := { d with progs := tmod d.progs t.prog fun p => { p with misses := sat32 (p.misses + 1) } }
        match t.entry with
        | 0 => d.modCmd t.cmd fun c => if c.missCause = 0xF then { c with missCause := 5 } else c
        | 1 => d
        | _ => match tget d.cmds t.cmd with
          | some c => (d.endCmd t.cmd .scanTimeout c.applied 0).settle
          | none => d) s

/-- The meaning of CORE_STALL (R570, R571): a core that has held a running task for 100 µs without issuing leaves service, its task
with trap PARITY. -/
def execCoreStall (c : Nat) (s : State) : Host.Outcome State Fault Refusal :=
  onDev (fun d =>
    let x := d.core c
    match x.running with
    | none => d
    | some ti => match d.task ti with
      | none => d
      | some t =>
        if d.now < x.issuedAt + usNs 100 then d
        else ((d.trapTask ti t 0xB 0 0 0).failCore c).settle) s

/-! ### Issue of one instruction -/

/-- What follows from what an instruction did: task ti, which was t of program p and runs on core c, goes on, traps, ends, is parked or waits
for an engine (R515, R527, R530). -/
def Dev.tintDone (d : Dev) (c ti : Nat) (t : Task) (p : Prog) (r : TRes) : Dev :=
  let d := d.setCore c { (d.core c) with issuedAt := d.now }
  let spent := { t with budget := t.budget - 1 }
  let next (t : Task) : Task := { t with pc := (t.pc + 4) % 2 ^ 32 }
  match r with
  | .go t' p' pc =>
    let d := { d with progs := tput d.progs t.prog p' }
    d.modTask ti fun _ => { t' with pc := pc.getD ((t'.pc + 4) % 2 ^ 32) }
  | .trap cause seg off code => (d.trapTask ti t cause seg off code).settle
  | .ended => (d.endTask ti spent).settle
  | .delay us =>
    let d := d.modTask ti fun _ => { next spent with state := .delayed, wake := d.now + usNs us }
    if us = 0 then ((d.coreIdle c).putReady c ti true).schedRegs
    else
      let d := d.setCore c { (d.core c) with delay := delayPut (d.core c).delay (d.now + usNs us, ti) }
      (d.coreIdle c).schedRegs
  | .call 5 => d.modTask ti fun _ => (next spent).setReg 1 (BitVec.ofNat 64 (stampLow d.stamp))
  | .call 4 =>
    let k := BitVec.ofNat 256 (fromLE (segRead t p (t.segReg 3) (t.num 4) 32))
    let e := d.stencilCall t.tenant k
    d.modTask ti fun _ => ((next spent).setReg 1 (BitVec.ofNat 64 e.1)).setReg 2 (BitVec.ofNat 64 e.2)
  | .call fn => ((d.modTask ti fun _ => { next spent with state := .ecall, call := some fn, ret := none }).coreIdle c).schedRegs

/-- A core issues the instruction whose word is `word` and whose effect is `body`: nothing where it runs no task or another
instruction stands at the task's pc. -/
def Dev.issueTint (d : Dev) (c word : Nat) (body : Task → Prog → TRes) : Dev :=
  match (d.core c).running with
  | none => d
  | some ti =>
    match d.task ti with
    | none => d
    | some t =>
      match tget d.progs t.prog with
      | none => d
      | some p =>
        match tintIssue word body t p with
        | none => d
        | some r => d.tintDone c ti t p r

/-- The meaning of one instruction on core c. -/
def onCore (c word : Nat) (body : Task → Prog → TRes) (s : State) : Host.Outcome State Fault Refusal :=
  onDev (fun d => d.issueTint c word body) s

/-! ### Engine calls (R527, R528) -/

/-- The lane message of a task's SHA256 or HMAC call. -/
def Dev.callLane (d : Dev) (ti : Nat) : Option LaneJob :=
  match d.task ti with
  | none => none
  | some t =>
    match tget d.progs t.prog, t.call, t.ret with
    | some p, some fn, none =>
      if (fn ≠ 1 ∧ fn ≠ 2) ∨ t.state ≠ .ecall then none else
      some { src := .task ti, claim := t.claim, prio := t.level, tenant := t.tenant, op := if fn = 1 then .sha else .hmacCaller, key := none
             system := false, id := 0, off := 0, aad := [], input := segRead t p (t.segReg 3) (t.num 4) (t.num 5)
             callerKey := if fn = 2 then segRead t p (t.segReg 8) (t.num 9) (t.num 10) else []
             fixedField := 0, counter := 0, tag := [], compare := none, save := false, restore := none, done := 0, order := 0, bad := 0
             keyGone := false }
    | _, _, _ => none

/-- The engine message of a task's DECOMP call. -/
def Dev.callCmp (d : Dev) (ti : Nat) : Option CmpJob :=
  match d.task ti with
  | none => none
  | some t =>
    match tget d.progs t.prog, t.call, t.ret with
    | some p, some 3, none =>
      if t.state ≠ .ecall then none else
      some { src := .task ti, claim := t.claim, prio := t.level, tenant := t.tenant, decode := true
             input := segRead t p (t.segReg 3) (t.num 4) (t.num 5), limit := t.num 8, expect := 0, order := 0 }
    | _, _, _ => none

/-- An engine has reported on a task's call: what it wrote goes to the output operand, RESULT and the bytes written to the return
slot. -/
def Dev.callDone (d : Dev) (ti result : Nat) (out : Bytes) : Dev :=
  match d.task ti with
  | none => d
  | some t =>
    match tget d.progs t.prog with
    | none => d
    | some p =>
      let x := segWrite t p (t.segReg 6) (t.num 7) out
      let d := { d with progs := tput d.progs t.prog x.2 }
      ((d.modTask ti fun _ => { x.1 with ret := some (result, out.length) }).delivers (if t.ret.isSome then 0 else 1)).schedRegs

end Sys2Proof.Machine
end

