-- ==== Sys2Proof/Machine/Volumes.lean ====
section
/-! DEFINITION. Volumes: the opcodes of the volume family (chapter 03), and the work that goes on behind them: clone fill, snapshot
merge, epoch compaction and replication (chapter 09). -/

namespace Sys2Proof.Machine

/-! ### Volume opcodes -/

/-- A clamped parameter of a command is noted, once for the command (R13, R90). -/
def Dev.noteClamp (d : Dev) (id : Nat) : Dev :=
  match tget d.cmds id with
  | none => d
  | some c => if c.clamped then d else (d.modCmd id fun c => { c with clamped := true }).countClamp c.tenant

/-- VOL_CREATE (R141, R407). Tenant 0 has no key domains (R669). -/
def Dev.runVolCreate (d : Dev) (id : Nat) : Dev :=
  match tget d.cmds id with
  | none => d
  | some c =>
    let cap := c.msg.par 0x28 8
    let g := c.msg.par 0x30 2
    let k := c.msg.par 0x32 2
    let grain := c.msg.par 0x34 1
    let flags := c.msg.par 0x36 2 % 16
    let mine : Bool := match tget d.tenants c.tenant with | some t => t.groups.contains g | none => false
    let ready : Bool := match d.group g with
      | some x => decide (x.state = .normal) || decide (x.state = .degraded) || decide (x.state = .rebuilding)
      | none => false
    let n := if grain = 0 then 1 else 4
    if !mine ∨ !d.groupInRange g ∨ !ready ∨ 15 < k ∨ c.tenant = 0 ∨ (d.recordAt (keyPlace c.tenant false k)).isNone ∨ 1 < grain then d.endCmd id .paramInvalid 0 0
    else if cap = 0 ∨ cap % n ≠ 0 then d.endCmd id .alignmentInvalid 0 0
    else match d.freshVol with
      | none => d.endCmd id .limit 0 0
      | some v =>
        if d.mapCeil < d.entriesUsed + cap / n then d.endCmd id .noMapSpace 0 0 else
        let x : Vol :=
          { vgen := (tget d.vgens v).getD firstGen, tenant := c.tenant, group := g, keydom := k, grain16 := decide (grain = 1), vflags := flags
            capacity := cap, epoch := 1, map := [], snaps := [], sgens := [], origin := none, fillTo := 0, filledAhead := []
            dying := false, compacting := false, replBase := none }
        ({ d with vols := tput d.vols v x }.logOwn g [.volCreate v x.vgen cap x.settings c.tenant]).endCmd id .success 0 (x.handle v)

/-- Remove a volume with everything it references, in one batch. -/
def Dev.removeVol (d : Dev) (v : Nat) : Dev :=
  match d.issued.vol v with
  | none => d
  | some x =>
    let named := (x.map.map (·.2)) ++ x.snaps.flatMap fun s => s.2.delta.map (·.2)
    let recs := named.filterMap fun e => if e.kind = 2 then some (Rec.crecRef e.content (-1)) else none
    (d.modVol v fun x => { x with dying := true }).logOwn x.group (recs ++ [.volDelete v])

/-- VOL_DELETE (R142, R437). -/
def Dev.runVolDelete (d : Dev) (id : Nat) : Dev :=
  match tget d.cmds id with
  | none => d
  | some c =>
    let v := c.volume
    match d.vol v with
    | none => d.endCmd id .handleInvalid 0 0
    | some x =>
      let busy := d.streams.any (fun (e : Nat × Strm) => e.2.isOpen && decide (e.2.volume = v)) || d.sessions.any fun (e : Nat × Sess) => decide (e.2.volume = v)
      if busy then d.endCmd id .inUse 0 0 else
      let n := countP x.snaps fun s => !s.2.hidden
      let d := { d with bindings := d.bindings.filter fun (b : Binding) => decide (b.volume ≠ v) }
      let d := if d.originOf v then (d.modVol v fun x => { x with dying := true }).logOwn x.group [.volDelete v] else d.removeVol v
      d.endCmd id .success 0 n

/-- VOL_RESIZE (R141, R142): a removed range is discarded. -/
def Dev.runVolResize (d : Dev) (id : Nat) : Dev :=
  match tget d.cmds id with
  | none => d
  | some c =>
    let v := c.volume
    match d.vol v with
    | none => d.endCmd id .handleInvalid 0 0
    | some x =>
      let cap := c.msg.par 0x28 8
      let n := cap / x.grainSectors
      if cap = 0 ∨ cap % x.grainSectors ≠ 0 then d.endCmd id .alignmentInvalid 0 0
      else if x.capacity < cap ∧ d.mapCeil < d.entriesUsed + (n - x.grains) then d.endCmd id .noMapSpace 0 0 else
      let w := d.issued
      let gone := (w.grainEntries v none).filter fun e => decide (n ≤ e.1) && decide (e.2.kind ≠ 0)
      let recs := gone.flatMap fun e => w.replace v e.1 x.epoch { kind := 0, content := 0, epoch := x.epoch }
      let trim : List Rec := if cap < x.capacity then [.tidxTrim v cap (x.capacity - cap)] else []
      let d := d.logBatch x.group (trim ++ recs ++ [.volResize v cap]) (some id) 0 []
      let removed : Tbl Grain := gone.map fun e => (e.1, { Grain.fresh [] with step := 14, zero := true })
      let d := { d with nextOrder := d.nextOrder + 1 }.modCmd id fun c => { (c.setNum 2 (x.epoch + 1)).setNum 6 d.nextOrder with grains := removed }
      (d.modVol v fun x => { x with capacity := cap }).endCmd id .success 0 x.capacity

/-- VOL_QUERY (Table 3-9). DESIGN CHOICE (log 151): items 1 to 3 count the entries of the applied maps, so a write whose map update is still pending is
left out, and for a receiving volume the commit snapshot's; item 4 counts the visible snapshots, neither hidden nor merging ones. R151 says
nothing of either. -/
def Dev.runVolQuery (d : Dev) (id : Nat) : Dev :=
  match tget d.cmds id with
  | none => d
  | some c =>
    match d.vol c.volume with
    | none => d.endCmd id .handleInvalid 0 0
    | some x =>
      let es : List (Nat × Entry) := d.grainEntries c.volume (d.readEpoch c)
      let stored := ((es.filter fun e => e.2.kind = 2).map (·.2.content)).eraseDups
      let value : Option Nat := match c.msg.par 0x28 1 with
        | 0 => some x.capacity
        | 1 => some (countP es fun e => decide (e.2.kind = 2))
        | 2 => some (countP es fun e => decide (e.2.kind = 1))
        | 3 => some (sumN (stored.map fun k => match tget d.crecs k with | some r => r.size | none => 0))
        | 4 => some (countP x.snaps fun s => !s.2.hidden)
        | 5 => some x.settings
        | _ => none
      match value with
      | some n => d.endCmd id .success 0 n
      | none => d.endCmd id .paramInvalid 0 0

/-- SNAP_DELETE (R427): of a snapshot handle. -/
def Dev.runSnapDelete (d : Dev) (id : Nat) : Dev :=
  match tget d.cmds id with
  | none => d
  | some c => match c.snap with
    | none => d.endCmd id .paramInvalid 0 0
    | some s => (d.dropSnap c.volume s).endCmd id .success 0 0

/-! ### Replication opcodes (R439, R440, R449, R450) -/

/-- The host port group of a port. -/
def hostGroup (port : Nat) : Nat := port / 4

/-- REPL_OPEN. MAP_RLAG counts from here until a cycle is committed, where the start of the cycle of the volume's base is not known (DESIGN CHOICE, log
178). -/
def Dev.runReplOpen (d : Dev) (id : Nat) : Dev :=
  match tget d.cmds id with
  | none => d
  | some c =>
    let v := c.volume
    match d.vol v with
    | none => d.endCmd id .handleInvalid 0 0
    | some x =>
      let qpn := c.msg.par 0x28 3
      let slot := c.msg.par 0x2C 2
      let remote := c.msg.par 0x30 8
      let rate := c.msg.par 0x38 4
      let ivl := c.msg.par 0x3C 4
      let ro : Bool := match d.group x.group with | some g => decide (g.state = .readOnly) | none => true
      let qpOk : Bool := match tget d.eth.qps qpn with
        | some q => q.up && !q.failed && decide (q.port < 16) && decide (q.use = .unbound)
        | none => false
      let place := keyPlace c.tenant true slot
      if c.snap.isSome ∨ d.sessions.any (fun (e : Nat × Sess) => decide (e.2.volume = v)) ∨ ro ∨ !qpOk ∨ 7 < slot then d.endCmd id .paramInvalid 0 0
      else if (d.keyAt place).isNone then d.endCmd id .keyInvalid 0 0
      else if 2 ^ 48 - 1 ≤ (d.gcmAt place).counter then d.endCmd id .counterExhausted 0 0
      else if 64 ≤ d.sessions.length ∨ (remote ≠ 0 ∧ !d.snapSlots v 2) ∨ !d.snapEntries v 2 then d.endCmd id .limit 0 0
      else match (upTo 64).find? fun n => !thas d.sessions n with
        | none => d.endCmd id .limit 0 0
        | some n =>
          let r := clampN 1 190000 rate
          let t := clampN 100 86400000 ivl
          let d := if remote ≠ 0 ∧ (r ≠ rate ∨ t ≠ ivl) then d.noteClamp id else d
          let s : Sess :=
            { receiver := decide (remote = 0), tenant := c.tenant, volume := v, qpn := qpn, keyslot := slot
              remote := if remote = 0 then x.handle v else remote, rate := r
              interval := t, state := .opening, peer := 0, full := false, cycle := (x.replBase.map (·.2)).getD 0
              base := x.replBase.map (·.1), baseCycle := (x.replBase.map (·.2)).getD 0, cand := none, nextGrain := 0, records := 0
              unacked := [], lastAccepted := none, startedAt := d.now - msNs t, committedAt := x.replAt.getD d.now, rekeyDue := false, wrote := []
              closer := none, fetch := [], outbox := [], sealing := false, sentBytes := 0, endDue := none }
          let port := match tget d.eth.qps qpn with | some q => q.port | none => 0
          let d := { d with sessions := tput d.sessions n s }
          let d := (d.modQp qpn fun q => { q with use := .session n }).addClass qpn (hostGroup port) (classResult true c.tenant n)
          let d := if remote ≠ 0 then d.replHello n else d
          d.endCmd id .success 0 n

/-- The session of a tenant that a PARAM field names. -/
def Dev.ownSession (d : Dev) (c : Cmd) : Option (Nat × Sess) :=
  let n := c.msg.par 0x28 2
  (tget d.sessions n).bind fun s => if s.tenant = c.tenant then some (n, s) else none

/-- REPL_CLOSE: at once, or when the sending end's cycle ends. -/
def Dev.runReplClose (d : Dev) (id : Nat) : Dev :=
  match (tget d.cmds id).bind d.ownSession with
  | none => d.endCmd id .paramInvalid 0 0
  | some (n, s) =>
    if !s.receiver ∧ (s.state = .sending ∨ s.state = .waitAck) then (d.modSess n fun s => { s with closer := some id }).holdFor id .session
    else ((d.delClass s.qpn).closeSession n).endCmd id .success 0 0

/-- A sending session goes back to the message after the one with a counter; its records count from there again, once each. -/
def Dev.resendAfter (d : Dev) (n : Nat) (last : Option Nat) : Dev :=
  match tget d.sessions n with
  | none => d
  | some s =>
    let left := s.unacked.filter fun e => match last with | some c => decide (c < e.1) | none => true
    let built := s.outbox.filterMap fun m => if m.type = 2 ∨ m.type = 3 then some m.grain else none
    let next := match left, built with | e :: _, _ => e.2 | [], g :: _ => g | [], [] => s.nextGrain
    let sent := countP (d.cycleGrains { s with nextGrain := 0 }) fun e => decide (e.1 < next)
    (d.replDrop n).modSess n fun s => { s with state := .sending, unacked := [], nextGrain := next, records := sent }

/-- REPL_REKEY. -/
def Dev.runReplRekey (d : Dev) (id : Nat) : Dev :=
  match tget d.cmds id with
  | none => d
  | some c =>
    let slot := c.msg.par 0x2A 2
    match d.ownSession c with
    | none => d.endCmd id .paramInvalid 0 0
    | some (n, s) =>
      let place := keyPlace c.tenant true slot
      if 7 < slot then d.endCmd id .paramInvalid 0 0
      else if (d.keyAt place).isNone then d.endCmd id .keyInvalid 0 0
      else if 2 ^ 48 - 1 ≤ (d.gcmAt place).counter then d.endCmd id .counterExhausted 0 0 else
      let d := d.modSess n fun s => { s with keyslot := slot, rekeyDue := false, sealing := false, lastAccepted := none }
      let d := if s.state ≠ .stopped then d
        else if s.receiver then d.modSess n fun s => { s with state := .idle }
        else if s.cand.isNone then d.modSess n fun s => { s with state := if s.peer = 0 ∧ !s.outbox.isEmpty then .opening else .idle }
        else d.resendAfter n none
      d.endCmd id .success 0 0

/-! ### Clone fill, merge and compaction -/

/-- The meaning of CLONE_FILL (R435, R437): the next 1 MiB of grains of a clone take their origin's entries, up to the first grain that a committed change
of the origin holds whose record has not been issued; a clone that has been filled is independent, with its tenant event, and an origin that was kept for it goes. DESIGN CHOICE (log 152): an origin that was kept for a
clone which is itself deleted before its fill is complete stays; R142 does not say when it goes. -/
def execCloneFill (v : Nat) (s : State) : Host.Outcome State Fault Refusal :=
  onDev (fun d =>
    let w := d.issued
    match d.vol v, w.vol v with
    | some x, some y =>
      match x.origin with
      | none => d
      | some (ov, os) =>
        if y.fillTo < x.grains then
          let n := Nat.min (oneMiB / x.grainBytes) (x.grains - y.fillTo)
          let n := ((upTo n).find? fun i => !y.filled (y.fillTo + i) && d.originHas w v (y.fillTo + i)).getD n
          if n = 0 then d else
          let keys := (Dev.grainKeys (d.vols.length + 1) w v).filter fun g => decide (y.fillTo ≤ g) && decide (g < y.fillTo + n) && !y.filled g
          let recs := keys.flatMap fun g =>
            let e := { w.entryAt v none g with epoch := 0 }
            if e.kind = 0 then [] else [Rec.vmap v g e] ++ (if e.kind = 2 then [Rec.crecRef e.content 1] else [])
          (d.logOwn x.group (recs ++ [.cloneFill v y.fillTo n])).settle
        else if x.fillTo < x.grains then d
        else
          let d := (d.modVol v fun x => { x with origin := none, filledAhead := [] }).tenantEvent x.tenant 10 (v % 16384)
          let d := match (d.vol ov).bind fun o => tget o.snaps os with
            | some k => if k.hidden ∧ !d.isOrigin ov os ∧ !d.sessionUses ov os then d.modSnap ov os fun k => { k with deleting := true } else d
            | none => d
          let gone : Bool := match d.vol ov with | some o => o.dying && !d.originOf ov | none => false
          (if gone then d.removeVol ov else d).settle
    | _, _ => d) s

/-- The meaning of SNAP_MERGE (R427): a deleted snapshot's entries move to the newest live snapshot below it, or are dropped; its slot
is free when none is left. -/
def execSnapMerge (v slot : Nat) (s : State) : Host.Outcome State Fault Refusal :=
  onDev (fun d =>
    let w := d.issued
    match w.vol v with
    | none => d
    | some x =>
      match tget x.snaps slot with
      | none => d
      | some k =>
        if !k.deleting then d else
        let below := argMax (fun e => e.2.epoch) (x.snaps.filter fun e => !e.2.deleting && decide (e.2.epoch < k.epoch))
        let recs := k.delta.flatMap fun e =>
          let drop : List Rec := [Rec.deltaDrop v slot e.1] ++ (if e.2.kind = 2 then [Rec.crecRef e.2.content (-1)] else [])
          match below with
          | some b => if e.2.epoch ≤ b.2.epoch then [Rec.deltaMove v slot b.1 e.1] else drop
          | none => drop
        (d.logOwn x.group (recs ++ [.snapDelete v slot])).settle) s

/-- A record of volume v's maps with its epoch renumbered. -/
def Rec.renumber (f : Nat → Nat) (v : Nat) (r : Rec) : Rec :=
  match r with
  | .vmap w g e => if w = v then .vmap w g { e with epoch := f e.epoch } else r
  | .deltaPut w s g e => if w = v then .deltaPut w s g { e with epoch := f e.epoch } else r
  | _ => r

/-- The meaning of EPOCH_COMPACTION (R429, R430): at E 0xF000 the volume's epochs are numbered anew, once every pending merge is
over. The COMPACT record of a page covers the entries of its grains in the volume map and in the deltas (DESIGN CHOICE, log 182). -/
def execEpochCompaction (v : Nat) (s : State) : Host.Outcome State Fault Refusal :=
  onDev (fun d =>
    match d.vol v with
    | none => d
    | some x =>
      if x.epoch < 0xF000 then d
      else if x.snaps.any (fun e => e.2.deleting) then d.modVol v fun x => { x with compacting := true }
      else
        let f := newEpoch (x.snaps.map (·.2.epoch))
        let d := d.compactVol v
        let d := { d with batches := d.batches.map fun (b : Batch) => { b with recs := b.recs.map fun (r : Sys2Proof.Rec) => Rec.renumber f v r } }
        let d := { d with cmds := tmap d.cmds fun _ c => if c.op.edits ∧ c.volume = v ∧ c.num 2 ≠ 0 then c.setNum 2 (f (c.num 2 - 1) + 1) else c }
        let grains := x.map.map (·.1) ++ x.snaps.flatMap fun s => s.2.delta.map (·.1)
        let pages := (grains.map fun g => (volPage v g).2).eraseDups
        (d.logOwn x.group (pages.map fun p => .compact v p (x.snaps.length + 1))).settle) s

/-! ### Replication -/

/-- The meaning of REPL_CYCLE (R444): INTERVAL after the start of the previous cycle, or at its end if that is later, an idle sending
session begins a cycle. -/
def execReplCycle (n : Nat) (s : State) : Host.Outcome State Fault Refusal :=
  onDev (fun d =>
    match tget d.sessions n with
    | none => d
    | some x =>
      if x.receiver ∨ x.state ≠ .idle ∨ x.closer.isSome ∨ d.now < x.startedAt + msNs x.interval then d
      else (d.startCycle n).settle) s

/-- The meaning of CYCLE_FAIL (R448): the loss of a session's queue pair fails its cycle, also one in STOPPED. -/
def execCycleFail (n : Nat) (s : State) : Host.Outcome State Fault Refusal :=
  onDev (fun d =>
    match tget d.sessions n with
    | none => d
    | some x =>
      let up : Bool := match tget d.eth.qps x.qpn with | some q => q.up && !q.failed | none => false
      let running := x.midCycle || x.cand.isSome
      if up ∨ !running then d
      else if x.receiver then ((d.rollBack n).replFailEvents n x.tenant).settle
      else (d.senderFail n).settle) s

/-! ### Sealing a session's messages (R441, R449, R480, R481) -/

/-- The lane message that seals the first message of a session's outbox: at no more than RATE, and one at a time. -/
def Dev.replJob (d : Dev) (n : Nat) : Option LaneJob :=
  match tget d.sessions n with
  | none => none
  | some s =>
    if s.sealing ∨ s.state = .stopped ∨ (!s.receiver ∧ (s.state = .sending ∨ s.state = .waitAck) ∧ s.rate * (d.now - s.startedAt) < s.sentBytes * 1000) then none else
    s.outbox.head?.map fun m =>
      { src := .session n, claim := .G, prio := 0, tenant := s.tenant, op := .seal, key := some s.key, system := false, id := 0, off := 0
        aad := s.header n m, input := m.body, callerKey := [], fixedField := d.replField s, counter := 0, tag := [], compare := none
        save := false, restore := none, done := 0, order := 0, bad := 0, keyGone := false }

/-- A session's message has been sealed: it goes out on its queue pair. An exhausted counter stops the session. -/
def Dev.replSealed (d : Dev) (n : Nat) (j : LaneJob) (r : LaneOut) : Dev :=
  match tget d.sessions n with
  | none => d
  | some s =>
    match s.outbox with
    | [] => d
    | m :: rest =>
      if !s.sealing ∨ m.body ≠ j.input then d
      else if r.result ≠ 0 then d.modSess n fun s => { s with sealing := false, state := if r.result = 3 then .stopped else s.state }
      else
        let d := d.modQp s.qpn fun q => { q with queued := q.queued ++ [.repl n (j.aad ++ r.out ++ r.tag)] }
        let d := d.modSess n fun s => { s with
          outbox := rest
          sealing := false
          sentBytes := s.sentBytes + 80 + m.body.length
          unacked := if m.type = 2 ∨ m.type = 3 then s.unacked ++ [(j.counter, m.grain)] else s.unacked }
        if m.type = 2 ∨ m.type = 3 then let t := d.takeHands (.repl n) 1; t.2.foldl (fun d h => d.release h) t.1 else d

end Sys2Proof.Machine
end

