-- ==== Sys2Proof/Machine/Tenants.lean ====
section
/-! DEFINITION. Tenants: shares, bindings, queues, lifecycle and removal (chapter 15), with the tenant-admin opcodes, and waits for
the partner's copy of a definition (R595). -/

namespace Sys2Proof.Machine

/-! ### Tenants and shares -/

/-- A tenant as TENANT_CREATE makes it (R599, Table 15-1): OFF, shares and key limits at their reset values, buckets full. -/
def Tenant.fresh (t now : Nat) : Tenant :=
  { life := .off, inc := 0, enableHeld := none, quiesceHeld := [], bindings := [], bandwidth := 190000, kiops := 100000, quota := 192
    reserve := 0, cores := 4, prioCeil := 3, byteTokens := 190000 * 1000000, opTokens := 100000 * 1000000, filledAt := now
    maxDomains := 4, maxSlots := 2, events := 0, eventCount := 0, clampCount := 0, deferred := [], deferOvf := 0, spoofDrops := 0
    spoofSince := 0, spoofAt := none, misses := 0, droppedBytes := 0, commands := 0, readBytes := 0, writtenBytes := 0, waitShare := 0
    waitBuf := 0, migr := none, migrOut := 0, notesM := List.replicate 4 0, notesT := List.replicate 2 0, groups := Config.groupsOf t }

/-- Depths of a tenant's buckets: thousandths of a byte, and millionths of a command (Table 15-1). -/
def Tenant.byteDepth (t : Tenant) : Int := (t.bandwidth * 1000000 : Nat)
def Tenant.opDepth (t : Tenant) : Nat := t.kiops * 1000000

/-- A tenant's buckets filled up to now at a percentage of its shares (R600; less than 100 under stage 1 of R748). -/
def Tenant.fill (t : Tenant) (now pct : Nat) : Tenant :=
  let dt := now - t.filledAt
  let b := t.byteTokens + ((t.bandwidth * dt * pct / 100 : Nat) : Int)
  { t with
    byteTokens := if t.byteDepth < b then t.byteDepth else b
    opTokens := satAt t.opDepth (t.opTokens + t.kiops * dt * pct / 100)
    filledAt := now }

/-- The percentage of their shares at which tenants are admitted now (R748). -/
def Dev.admitPct (d : Dev) : Nat := if d.rd PWR_STAT_THROTTLE = 0 then 100 else d.rd THM_CFG_ADMIT_PCT

/-- A tenant's buckets set full (R599). -/
def Tenant.fullBuckets (t : Tenant) (now : Nat) : Tenant := { t with byteTokens := t.byteDepth, opTokens := t.opDepth, filledAt := now }

/-- Whether a tenant's share lets a command pass now (R600): KIOPS for every command but ABORT, NOP and ECHO, BANDWIDTH for READ and
WRITE of class other than V. -/
def Tenant.shareOk (t : Tenant) (op : Op) (c : Claim) : Bool :=
  let ops := decide (op = .abort) || decide (op = .nop) || decide (op = .echo) || decide (1000000 ≤ t.opTokens)
  let bytes := !(decide (op = .read) || decide (op = .write) && decide (c ≠ .V)) || decide (0 ≤ t.byteTokens)
  ops && bytes

/-- What a command takes from the buckets. -/
def Tenant.shareTake (t : Tenant) (op : Op) (c : Claim) (length : Nat) : Tenant :=
  let t := if op = .abort ∨ op = .nop ∨ op = .echo then t else { t with opTokens := t.opTokens - 1000000 }
  if op = .read ∨ (op = .write ∧ c ≠ .V) then { t with byteTokens := t.byteTokens - ((length * 1000 : Nat) : Int) } else t

/-! ### Bindings (R602) -/

/-- The number of an address held in network byte order in the low bytes of a binding. -/
def bindingNum (v : BitVec 128) (k : Nat) : Nat := fromBE (toLE k v.toNat)

/-- The bindings of an item of a tenant. -/
def Tenant.bound (t : Tenant) (item : Nat) : List (BitVec 128) := (upTo 4).filterMap fun i => tget t.bindings (item * 4 + i)

/-- Whether a frame's source passes a tenant's bindings (R602, R603). -/
def Dev.passes (d : Dev) (t : Nat) (n : Net) : Bool :=
  match tget d.tenants t with
  | none => false
  | some x =>
    let free (item : Nat) : Bool := decide (t = 0) && (x.bound item).isEmpty
    let mac := free 0 || (x.bound 0).any fun v => decide (bindingNum v 6 = n.mac.toNat)
    let vlan := match n.vlan with
      | some i => free 1 || (x.bound 1).any fun v => decide (v.toNat % 4096 = i.toNat)
      | none => (x.bound 1).isEmpty
    let ip := match n.ip with
      | .v4 a => free 2 || (x.bound 2).any fun v => decide (bindingNum v 4 = a.toNat)
      | .v6 a => free 3 || (x.bound 3).any fun v => decide (bindingNum v 16 = a.toNat)
    mac && vlan && ip

/-- A binding set, or removed by an all-zero value (R161). -/
def Dev.bindTenant (d : Dev) (t key : Nat) (v : BitVec 128) : Dev :=
  d.modTenant t fun x => { x with bindings := if v = 0 then tdel x.bindings key else tput x.bindings key v }

/-! ### Waiting for the partner (R595, R672) -/

/-- A command waits until the partner has a link frame; it then completes SUCCESS with RETVAL (number 17 holds the frame's SEQ). -/
def Dev.waitPartner (d : Dev) (id : Nat) (seq : Option Nat) (retval : Nat) : Dev :=
  match seq with
  | none => d.endCmd id .success 0 retval
  | some q => d.modCmd id fun c => { (c.setNum 17 (q + 1)) with hold := .partner, retval := retval }

/-- A tenant's definition sent to the partner of a linked pair. -/
def Dev.tellTenant (d : Dev) (t : Nat) : Dev × Option Nat :=
  if !d.linked then (d, none) else
  match tget d.tenants t with
  | some x => d.linkSend (.control (.tenant t x.bindings))
  | none => d.linkSend (.control (.noTenant t))

/-- Whether the device is in isolated mode. -/
def Dev.isolated (d : Dev) : Bool := decide (d.rd PEER_STAT_STATE = 2)

/-! ### Queues -/

/-- Delete queue k (R108, R610): its held status frames are discarded and counted, with those of commands that still run, so that their records are free once
they have ended (R63); its queue pair keeps a tombstone, on which frames that it holds unparsed complete TENANT_RESET (R109), or is unbound. -/
def Dev.deleteQueue (d : Dev) (k : Nat) (tomb : Bool) : Dev :=
  match tget d.queues k with
  | none => d
  | some q =>
    let d := { d with
      queues := tdel d.queues k
      eth := { d.eth with discarded := if q.held.isEmpty then d.eth.discarded else tput d.eth.discarded k q.held.length } }
    let d := d.statusOver fun i c => decide (c.qkey = k) && (decide (c.stage ≠ .done) || q.held.any fun s => decide (s.cmd = i))
    match q.qpn with
    | none => d
    | some n =>
      let d := (d.modQp n fun p => { p with use := if tomb then .tomb (k / 16) else .unbound, since := d.now }).delClass n
      d.endRx n .tenantReset (some (k / 16)) k

/-- Delete every queue of a tenant. -/
def Dev.deleteQueues (d : Dev) (t : Nat) : Dev := (upTo 16).foldl (fun d k => d.deleteQueue (t * 16 + k) true) d

/-- Commands of queue k that have not completed. -/
def Dev.busyOn (d : Dev) (k : Nat) : Nat := countP d.cmds fun e => decide (e.2.qkey = k) && decide (e.2.stage ≠ .done)

/-- Command records in use by the queues, and in all (R63). -/
def Dev.recordsUsed (d : Dev) : Nat := sumN (d.queues.map fun e => e.2.depth)
def Dev.recordsAll (d : Dev) : Nat := 32768 * d.dGiB

/-- Command records that queue k may take (R63). -/
def Dev.recordsLeft (d : Dev) (k : Nat) : Nat := d.recordsAll - (d.recordsUsed - (match tget d.queues k with | some q => q.depth | none => 0))

/-- Bind queue k to a queue pair with a depth (R63, R107, R120): sequences and counts start anew, held status frames go out first. -/
def Dev.bindQueue (d : Dev) (k n depth : Nat) : Dev :=
  let old := tget d.queues k
  let held := match old with | some q => q.held | none => []
  let d := match old.bind (·.qpn) with | some o => d.delClass o | none => d
  let q : Queue :=
    { depth := depth, qpn := some n, failed := false, nextSeq := 0, hcrcErr := 0, seqErr := 0, tags := [], held := held
      oldSeq := match old with | some q => q.oldSeq | none => 0
      deferredNew := match old with | some q => q.deferredNew | none => 0
      overflowNew := match old with | some q => q.overflowNew | none => false }
  let d := { d with queues := tput d.queues k q, eth := { d.eth with discarded := tdel d.eth.discarded k } }
  let group := match tget d.eth.qps n with | some p => if p.port = 16 then 0 else p.port / 4 | none => 0
  let d := (d.modQp n fun p => { p with use := .queue k }).relayHeld k
  d.addClass n group (classResult false (k / 16) (k % 16))

/-! ### Keys, programs and volumes of a domain (R158, R675) -/

/-- Destroy the key at a place of this part (R675 steps 2, 3 and 6). -/
def Dev.eraseKey (d : Dev) (place : Nat) : Dev :=
  match tget d.sec.keys place with
  | none => d
  | some k =>
    let d := d.dropKey place
    let sec := { d.sec with keys := tdel d.sec.keys place, gens := tput d.sec.gens place k.gen, gcm := tdel d.sec.gcm place, lost := d.sec.lost.filter (· ≠ place) }
    { d with sec := sec }.keyRegs

/-- Destroy the key at a place, here and at the partner (R675 step 4, R676). -/
def Dev.destroyKey (d : Dev) (place : Nat) : Dev :=
  if !thas d.sec.keys place then d else
  let d := d.eraseKey place
  let d := if d.linked then d.linkTell (.control (.erase place))
    else if d.isolated then { d with peer := { d.peer with owed := d.peer.owed ++ [.erase place] } } else d
  d.keyRegs

/-- Close every session that satisfies p; a REPL_CLOSE that waits for one completes. -/
def Dev.closeSessions (d : Dev) (p : Sess → Bool) : Dev :=
  (tkeys d.sessions fun _ x => p x).foldl (fun d n =>
    match (tget d.sessions n).bind (·.closer) with
    | some id => (d.closeSession n).succeed id 0
    | none => d.closeSession n) d

/-- How many origins a volume is cloned through. -/
def Dev.cloneDepth : Nat → Dev → Nat → Nat
  | 0, _, _ => 0
  | fuel + 1, d, v => match (d.vol v).bind (·.origin) with
    | some o => Dev.cloneDepth fuel d o.1 + 1
    | none => 0

/-- Volumes, clones before what they are filled from, so that no deletion meets a clone that still needs its origin. -/
def Dev.clonesFirst (d : Dev) (vs : List Nat) : List Nat := sortOn (fun v => d.vols.length + 1 - Dev.cloneDepth (d.vols.length + 1) d v) vs

/-- Delete every volume that satisfies p, with its streams, sessions and bindings: how many volumes, and how many visible
snapshots. A volume deleted before and kept as the origin of a clone that fills goes too, uncounted (R142, R158). -/
def Dev.deleteVols (d : Dev) (p : Vol → Bool) : Dev × Nat × Nat :=
  let vs := tkeys d.vols fun _ v => p v && !v.dying
  let kept := tkeys d.vols fun _ v => p v && v.dying
  let snaps := sumN (vs.map fun v => match d.vol v with | some x => countP x.snaps fun s => !s.2.hidden | none => 0)
  let d := d.closeStreams fun s => vs.contains s.volume
  let d := d.closeSessions fun s => vs.contains s.volume
  let d := { d with bindings := d.bindings.filter fun (b : Binding) => !vs.contains b.volume }
  ((d.clonesFirst (vs ++ kept)).foldl (fun d v => d.removeVol v) d, vs.length, snaps)

/-- Unload program n: its index's generation moves on (R541). -/
def Dev.dropProg (d : Dev) (n : Nat) : Dev :=
  match tget d.progs n with
  | none => d
  | some p => { d with progs := tdel d.progs n, progGens := tput d.progGens n (nextGen p.gen) }

/-! ### Lifecycle (R163, R607–R613) -/

/-- End migration logging of a tenant without an ENABLE 0 (R619). -/
def Dev.endMigration (d : Dev) (t : Nat) : Dev :=
  match (tget d.tenants t).bind (·.migr) with
  | none => d
  | some _ => (d.modTenant t fun x => { x with migr := none }).event 0x0F00 0 t 0 [2]

/-- A tenant enters ON with an incarnation, its buckets full (R599). -/
def Dev.tenantOn (d : Dev) (t inc : Nat) : Dev := d.modTenant t fun x => { (x.fullBuckets d.now) with life := .on, inc := inc % 65536 }

/-- A tenant goes OFF: queues deleted with tombstones, streams closed. -/
def Dev.tenantOff (d : Dev) (t : Nat) : Dev :=
  ((d.deleteQueues t).closeStreams fun s => decide (s.tenant = t)).modTenant t fun x => { x with life := .off, enableHeld := none }

/-- Whether a tenant's drain has come to its end (R607). -/
def Dev.drained (d : Dev) (t : Nat) : Bool :=
  !(d.cmds.any fun e => decide (e.2.tenant = t) && decide (e.2.qkey < internalKey) &&
    (decide (e.2.stage ≠ .done) || e.2.grains.any fun g => decide (g.2.step = 18) || decide (g.2.step = 19))) &&
    !(d.sched.tasks.any fun e => decide (e.2.tenant = t) && decide (e.2.entry = 1))

/-- The lifecycle commands of an opcode that a tenant's drain holds. -/
def Dev.drainHeld (d : Dev) (t : Nat) (op : Op) : List Nat :=
  tkeys d.cmds fun _ c => decide (c.op = op) && decide (c.hold = .drain) && decide (c.msg.par 0x28 2 = t)

/-- The end of a drain (R607, R609): with an ENABLE_TENANT held the tenant passes through OFF to ON with the next incarnation, else it
is QUIESCED. The ENABLE_TENANT keeps the QUIESCE_TENANTs that end with it, whose status frames go out before its own (R164). -/
def Dev.drainEnd (d : Dev) (t : Nat) : Dev :=
  match tget d.tenants t with
  | none => d
  | some x =>
    if x.life ≠ .draining ∨ !d.drained t then d else
    let q := d.drainHeld t .quiesceTenant
    let e := d.drainHeld t .enableTenant
    if e.isEmpty then
      let d := d.modTenant t fun x => { x with life := .quiesced, quiesceHeld := [] }
      q.foldl (fun d id => d.endCmd id .success 0 0) d
    else
      let d := q.foldl (fun d id => d.endCmd id .success 0 0) d
      let d := d.tenantOff t
      let d := (d.tenantOn t (x.inc + 1)).modTenant t fun x => { x with quiesceHeld := [] }
      e.foldl (fun d id => (d.modCmd id fun c => { c with waits := q }).endCmd id .success 0 ((x.inc + 1) % 65536)) d

/-- The meaning of DRAIN_END (R607). -/
def execDrainEnd (t : Nat) (s : State) : Host.Outcome State Fault Refusal := onDev (fun d => d.drainEnd t) s

/-! ### Tenant-admin opcodes -/

/-- Whether a REMOVE_TENANT of a tenant has been told to the partner: the tenant is as good as gone (DEDUCED, log entry 121). -/
def Dev.removing (d : Dev) (t : Nat) : Bool :=
  d.cmds.any fun e => decide (e.2.op = .removeTenant) && decide (e.2.stage ≠ .done) && decide (e.2.num 17 ≠ 0) && decide (e.2.msg.par 0x28 2 = t)

/-- Run f on a command and on the tenant its TENANT field names, which must be 1–1,023 and exist (R128). -/
def Dev.onTenant (d : Dev) (id : Nat) (f : Cmd → Nat → Tenant → Dev) : Dev :=
  match tget d.cmds id with
  | none => d
  | some c =>
    let t := c.msg.par 0x28 2
    if t = 0 ∨ 1023 < t then d.endCmd id .paramInvalid 0 0 else
    match tget d.tenants t with
    | none => d.endCmd id .paramInvalid 0 0
    | some x => if d.removing t then d.endCmd id .paramInvalid 0 0 else f c t x

/-- TENANT_CREATE (R161, R597, R599). -/
def Dev.runTenantCreate (d : Dev) (id : Nat) : Dev :=
  match tget d.cmds id with
  | none => d
  | some c =>
    let t := c.msg.par 0x28 2
    if t = 0 ∨ 1023 < t then d.endCmd id .paramInvalid 0 0
    else if thas d.tenants t ∨ d.isolated then d.endCmd id .stateConflict 0 0
    else
      let r := { d with tenants := tput d.tenants t (Tenant.fresh t d.now) }.tellTenant t
      r.1.waitPartner id r.2 0

/-- TENANT_BIND (R161, R597). -/
def Dev.runTenantBind (d : Dev) (id : Nat) : Dev :=
  d.onTenant id fun c t x =>
    let item := c.msg.par 0x2A 1
    let index := c.msg.par 0x2B 1
    if 3 < item ∨ 3 < index then d.endCmd id .paramInvalid 0 0
    else if x.life = .on ∨ x.life = .draining ∨ d.isolated then d.endCmd id .stateConflict 0 0
    else
      let r := (d.bindTenant t (item * 4 + index) (BitVec.ofNat 128 (c.msg.par 0x30 16))).tellTenant t
      r.1.waitPartner id r.2 0

/-- TENANT_SHARES (R600, R601, Table 3-9). -/
def Dev.runTenantShares (d : Dev) (id : Nat) : Dev :=
  d.onTenant id fun c t _ =>
    let v := c.msg.par 0x30 8
    let set (e : Nat) (f : Tenant → Tenant) : Dev :=
      let d := if e = v then d else d.noteClamp id
      (d.modTenant t fun x =>
        let y := f (x.fill d.now d.admitPct)
        { y with byteTokens := if y.byteDepth < y.byteTokens then y.byteDepth else y.byteTokens, opTokens := satAt y.opDepth y.opTokens }).endCmd
          id .success 0 e
    match c.msg.par 0x2A 1 with
    | 0 => let e := clampN 1 190000 v; set e fun x => { x with bandwidth := e }
    | 1 => let e := clampN 1 100000 v; set e fun x => { x with kiops := e }
    | 2 => let e := clampN 1 192 v; set e fun x => { x with quota := e }
    | 3 => let e := clampN 0 190000 v; set e fun x => { x with reserve := e }
    | 4 => let e := clampN 0 128 v; set e fun x => { x with cores := e }
    | 5 => let e := clampN 0 3 v; set e fun x => { x with prioCeil := e }
    | _ => d.endCmd id .paramInvalid 0 0

/-- KEY_POLICY_SET (Table 3-9). -/
def Dev.runKeyPolicySet (d : Dev) (id : Nat) : Dev :=
  d.onTenant id fun c t _ =>
    let v := c.msg.par 0x2C 4
    let set (e : Nat) (f : Tenant → Tenant) : Dev :=
      let d := if e = v then d else d.noteClamp id
      (d.modTenant t f).endCmd id .success 0 e
    match c.msg.par 0x2A 1 with
    | 0 => let e := clampN 0 16 v; set e fun x => { x with maxDomains := e }
    | 1 => let e := clampN 0 8 v; set e fun x => { x with maxSlots := e }
    | _ => d.endCmd id .paramInvalid 0 0

/-- The queue that QUEUE_BIND and QUEUE_DELETE name: an existing tenant's queue 0–15, or 0–14 of tenant 0 (R128, R162). -/
def Dev.queueNamed (d : Dev) (c : Cmd) : Option Nat :=
  let t := c.msg.par 0x28 2
  let q := c.msg.par 0x2A 1
  if 1023 < t ∨ !thas d.tenants t ∨ 15 < q ∨ (t = 0 ∧ q = 15) then none else some (t * 16 + q)

/-- QUEUE_BIND (R162). -/
def Dev.runQueueBind (d : Dev) (id : Nat) : Dev :=
  match tget d.cmds id with
  | none => d
  | some c =>
    let n := c.msg.par 0x2C 3
    let depth := c.msg.par 0x30 2
    let qp := tget d.eth.qps n
    match d.queueNamed c with
    | none => d.endCmd id .paramInvalid 0 0
    | some k =>
      let qpOk : Bool := match qp with
        | some p => p.up && !p.failed && decide (p.port < 16) &&
            (match p.use with | .unbound => true | .tomb _ => true | .queue j => decide (j = k) | .session _ => false)
        | none => false
      if !qpOk then d.endCmd id .paramInvalid 0 0 else
      let old := tget d.queues k
      let bound : Bool := match old with | some q => q.qpn.isSome && !q.failed | none => false
      if bound then d.endCmd id .stateConflict 0 0 else
      let left := d.recordsLeft k
      if left = 0 then d.endCmd id .limit 0 0 else
      let e := satAt left (clampN 1 4096 depth)
      let d := if e = depth then d else d.noteClamp id
      (d.bindQueue k n e).endCmd id .success 0 e

/-- QUEUE_DELETE (R108, R162). -/
def Dev.runQueueDelete (d : Dev) (id : Nat) : Dev :=
  match tget d.cmds id with
  | none => d
  | some c =>
    match d.queueNamed c with
    | none => d.endCmd id .paramInvalid 0 0
    | some k => match tget d.queues k with
      | none => d.endCmd id .paramInvalid 0 0
      | some q =>
        if d.outstanding k ≠ 0 ∧ !q.failed then d.endCmd id .stateConflict 0 0
        else (d.deleteQueue k false).endCmd id .success 0 q.held.length

/-- ENABLE_TENANT (Table 3-16, R603, R609). -/
def Dev.runEnableTenant (d : Dev) (id : Nat) : Dev :=
  d.onTenant id fun _ t x =>
    match x.life with
    | .off =>
      if (x.bound 0).isEmpty ∨ ((x.bound 2).isEmpty ∧ (x.bound 3).isEmpty) then d.endCmd id .stateConflict 0 0
      else (d.tenantOn t (x.inc + 1)).endCmd id .success 0 ((x.inc + 1) % 65536)
    | .on => d.endCmd id .success 0 x.inc
    | .draining => (d.modTenant t fun x => { x with enableHeld := some id }).modCmd id fun c => { c with hold := .drain }
    | .quiesced => (d.tenantOn t x.inc).endCmd id .success 0 x.inc

/-- QUIESCE_TENANT (Table 3-16). -/
def Dev.runQuiesceTenant (d : Dev) (id : Nat) : Dev :=
  d.onTenant id fun _ t x =>
    let hold (d : Dev) : Dev :=
      (d.modTenant t fun x => { x with life := .draining, quiesceHeld := x.quiesceHeld ++ [id] }).modCmd id fun c => { c with hold := .drain }
    match x.life with
    | .off => d.endCmd id .stateConflict 0 0
    | .on => (hold d).drainEnd t
    | .draining => hold d
    | .quiesced => d.endCmd id .success 0 0

/-- RESET_TENANT (Table 3-16, R613). -/
def Dev.runResetTenant (d : Dev) (id : Nat) : Dev :=
  d.onTenant id fun _ t x =>
    match x.life with
    | .off => d.endCmd id .success 0 0
    | .quiesced => ((d.tenantOff t).endMigration t).endCmd id .success 0 0
    | _ => d.endCmd id .notQuiesced 0 0

/-- Remove a tenant (R165): every key domain erased, programs unloaded, banks freed, queues deleted; how many volumes went. -/
def Dev.removeTenant (d : Dev) (t : Nat) (tell : Bool) : Dev × Nat :=
  let d := (d.tenantOff t).endMigration t
  let r := d.deleteVols fun v => decide (v.tenant = t)
  let d := r.1.closeSessions fun s => decide (s.tenant = t)
  let d := (upTo 32).foldl (fun (d : Dev) i => if tell then d.destroyKey (t * 32 + i) else d.eraseKey (t * 32 + i)) d
  let d := (tkeys d.progs fun _ p => decide (p.tenant = t)).foldl (fun d n => d.dropProg n) d
  let d := (upTo 16).foldl (fun d b =>
    let x := d.stencil.bank b
    if x.next.getD (x.kind, x.tenant) = (3, t) then d.changeBank b 0 0 else d) d
  ({ d with tenants := tdel d.tenants t }, r.2.1)

/-- A tenant is removed for a command, whose streams are closed and reservations released with its completion (R193).  Its RETVAL counts
the volumes and clones deleted on this part: DESIGN CHOICE (log entry 121), R165 does not say whether it counts the partner's too. -/
def Dev.removeDone (d : Dev) (id t : Nat) : Dev :=
  let r := d.removeTenant t (!d.linked)
  let d := if r.1.isolated then { r.1 with peer := { r.1.peer with owed := r.1.peer.owed ++ [.noTenant t] } } else r.1
  d.endCmd id .success 0 r.2

/-- A tenant is removed at the partner of a linked pair first, and here with the command's completion (R193, R598). RETVAL counts what this part
deletes, not what its partner does: a choice (DESIGN CHOICE, log 121; R165). -/
def Dev.finishRemove (d : Dev) (id t : Nat) : Dev :=
  if !d.linked then d.removeDone id t else
  let s := d.linkSend (.control (.noTenant t))
  match s.2 with
  | none => s.1.removeDone id t
  | some q => s.1.modCmd id fun c => { (c.setNum 17 (q + 1)) with hold := .partner }

/-- KEYDOM of a CRYPTO_ERASE. -/
def Cmd.keydom (c : Cmd) : Nat := c.msg.par 0x28 2

/-- Whether the record of a key of a tenant is being erased (RKIND 4): its CRYPTO_ERASE waits for the partner. -/
def Dev.erasePending (d : Dev) (tenant : Nat) (slot : Bool) (i : Nat) : Bool :=
  d.cmds.any fun e => decide (e.2.op = .cryptoErase) && decide (e.2.hold = .partner) && decide (e.2.stage ≠ .done) && decide (e.2.tenant = tenant) &&
    decide (e.2.keydom = if slot then 0x8000 + i else i)

/-- Steps 5 to 7 of a CRYPTO_ERASE (R158, R675): the domain's volumes go, or the sessions of a GCM slot. RETVAL counts the volumes and snapshots
deleted on this part: R158 does not say whether it counts the partner's (DESIGN CHOICE, log 121). -/
def Dev.finishErase (d : Dev) (id : Nat) : Dev :=
  match tget d.cmds id with
  | none => d
  | some c =>
    let k := c.keydom
    let r := d.deleteVols fun v => decide (k < 16) && decide (v.tenant = c.tenant) && decide (v.keydom = k)
    let d := r.1.closeSessions fun s => decide (0x8000 ≤ k) && decide (s.tenant = c.tenant) && decide (s.keyslot = k - 0x8000)
    d.endCmd id .success 0 (r.2.1 + r.2.2)

/-- Commands whose link frame the partner has acknowledged complete; so do all that wait once the pair is no longer linked. -/
def Dev.partnerDone (d : Dev) : Dev :=
  let waiting := tkeys d.cmds fun _ c => decide (c.hold = .partner) && decide (c.stage ≠ .done) && decide (c.num 17 ≠ 0)
  waiting.foldl (fun d id => match tget d.cmds id with
    | none => d
    | some c =>
      if d.linked ∧ d.peer.unacked.any (fun x => decide (x.seq + 1 = c.num 17)) then d
      else if c.op = .removeTenant then d.removeDone id (c.msg.par 0x28 2)
      else if c.op = .cryptoErase then d.finishErase id
      else d.endCmd id .success 0 c.retval) d

/-- Whether a tenant is QUIESCED or OFF here. -/
def Dev.quiet (d : Dev) (t : Nat) : Bool :=
  match tget d.tenants t with | some x => decide (x.life = .off) || decide (x.life = .quiesced) | none => true

/-- REMOVE_TENANT (R165, R597, R598): in a linked pair the partner is asked for the tenant's state first. -/
def Dev.runRemoveTenant (d : Dev) (id : Nat) : Dev :=
  d.onTenant id fun _ t _ =>
    if d.isolated then d.endCmd id .stateConflict 0 0
    else if !d.quiet t then d.endCmd id .notQuiesced 0 0
    else if d.linked then (d.linkTell (.control (.askTenant t))).modCmd id fun c => { c with hold := .partner }
    else d.finishRemove id t

/-- The partner's answer on a tenant's state (R598). -/
def Dev.tenantAnswer (d : Dev) (t : Nat) (quiet : Bool) : Dev :=
  let ids := tkeys d.cmds fun _ c => decide (c.op = .removeTenant) && decide (c.hold = .partner) && decide (c.num 17 = 0) && decide (c.msg.par 0x28 2 = t)
  ids.foldl (fun d id => if quiet ∧ d.quiet t ∧ thas d.tenants t then d.finishRemove id t else d.endCmd id .notQuiesced 0 0) d

/-- MIGRATION_LOG (R166, R618).  The old bits of R167 are those the device has set since logging was turned on: DESIGN CHOICE (log entry
21), what the issuer's memory held before is not read. -/
def Dev.runMigrationLog (d : Dev) (id : Nat) : Dev :=
  d.onTenant id fun c t x =>
    let base := c.msg.par 0x30 8
    match c.msg.par 0x2A 1, x.migr with
    | 1, none =>
      match c.descs with
      | y :: _ =>
        if base % 4096 ≠ 0 then d.endCmd id .paramInvalid 0 0 else
        (d.modTenant t fun x => { x with
          migr := some { base := base, length := c.length, desc := y, bits := [], issuer := c.qpn }
          migrOut := 0 }).endCmd id .success 0 0
      | [] => d.endCmd id .descriptorInvalid 0 0
    | 1, some _ => d.endCmd id .stateConflict 0 0
    | 0, m =>
      let busy := match m with | some m => d.xfers.any fun e => decide (e.2.load = Load.bitmap) && decide (e.2.qpn = m.issuer) | none => false
      if busy then d.modCmd id fun c => { c with hold := .flush }
      else (d.modTenant t fun x => { x with migr := none }).endCmd id .success 0 (if m.isSome then x.migrOut else 0)
    | _, _ => d.endCmd id .paramInvalid 0 0

/-! ### Bindings through registers (R621, R622) -/

/-- The staging words loaded from the binding that TEN_BSEL selects. -/
def Dev.loadBinding (d : Dev) : Dev :=
  let v := ((tget d.tenants (d.rd TEN_BSEL_TENANT)).bind fun x => tget x.bindings (d.rd TEN_BSEL_ITEM * 4 + d.rd TEN_BSEL_INDEX)).getD 0
  (upTo 4).foldl (fun d j => d.wr (TEN_BDATA_VALUE j) (v.toNat / 2 ^ (32 * j))) d

/-- TEN_BCTL.WRITE, with the SEQ of the link frame that tells the partner (R595). -/
def Dev.writeBinding (d : Dev) : Dev × Option Nat :=
  let t := d.rd TEN_BSEL_TENANT
  match tget d.tenants t with
  | none => (d.wr TEN_BCTL_ERR 1, none)
  | some x =>
    if t ≠ 0 ∧ (x.life = .on ∨ x.life = .draining) then (d.wr TEN_BCTL_ERR 1, none) else
    let v := sumN ((upTo 4).map fun j => d.rd (TEN_BDATA_VALUE j) * 2 ^ (32 * j))
    ((d.bindTenant t (d.rd TEN_BSEL_ITEM * 4 + d.rd TEN_BSEL_INDEX) (BitVec.ofNat 128 v)).tellTenant t)

end Sys2Proof.Machine
end

