-- ==== Sys2Proof/Machine/Eth.lean ====
section
/-! DEFINITION. Ethernet ports, queue pairs and connections (chapter 18, R59–R62, R97, R107, R684–R694, R815). -/

namespace Sys2Proof.Machine

/-! ### Ports and groups (R684, R687) -/

def PortGroup.fresh : PortGroup := { mode := 0, going := none, enableHeld := false, inc := 0 }

/-- Port group g. -/
def Dev.portGroup (d : Dev) (g : Nat) : PortGroup := (tget d.eth.groups g).getD PortGroup.fresh

def Dev.modPortGroup (d : Dev) (g : Nat) (f : PortGroup → PortGroup) : Dev :=
  { d with eth := { d.eth with groups := tput d.eth.groups g (f (d.portGroup g)) } }

/-- Lanes of a port in a group's mode (Table 18-1); none where the mode has no such port. -/
def modeLanes (mode port : Nat) : Nat :=
  match mode with
  | 0 => if port % 4 = 0 then 4 else 0
  | 1 => if port % 2 = 0 then 2 else 0
  | 2 => 1
  | _ => 0

/-- Lanes of a port now; the management port has one. -/
def Dev.portLanes (d : Dev) (port : Nat) : Nat := if port = 16 then 1 else modeLanes (d.portGroup (port / 4)).mode port

/-- Line rate of a port in Mb/s: 100 Gb/s per host lane, 25 Gb/s on the management port. -/
def Dev.lineRate (d : Dev) (port : Nat) : Nat := if port = 16 then 25000 else 100000 * d.portLanes port

/-- The LINK bits of a port: one for each of its lanes. -/
def linkMask (port lanes : Nat) : Nat := (2 ^ lanes - 1) * 2 ^ (port % 4)

/-- Whether a port takes packets: its link is up and its group is not going down. The management port stays up (R247). -/
def Dev.portUp (d : Dev) (port : Nat) : Bool :=
  if port = 16 then true
  else bit (d.rd (ETH_GSTAT_LINK (port / 4))) (port % 4) && (d.portGroup (port / 4)).going.isNone

/-! ### Failing transfers and queue pairs (R97, R107) -/

/-- A queue pair has failed: what it carried for its queue ends, frames that it holds unparsed and its transfers among it, and its status
frames are held for relay (R107). -/
def Dev.failQp (d : Dev) (n : Nat) : Dev :=
  match tget d.eth.qps n with
  | none => d
  | some p =>
    let d := d.modQp n fun p => { p with failed := true, queued := [], sent := [], rnrUntil := none }
    match p.use with
    | .queue k =>
      let unsent := (p.sent ++ p.queued).filterMap fun (x : Send) => match x with | .status s => some { s with relayed := true } | _ => none
      let d := d.modQueue k fun q => { q with failed := true, oldSeq := q.nextSeq, held := inSeqOrder q.nextSeq (q.held ++ unsent) }
      let ids := tkeys d.cmds fun _ c => decide (c.qkey = k) && decide (c.stage ≠ .done)
      let d := ids.foldl (fun d id => d.modCmd id fun c => c.setNum 18 1) d
      let d := ids.foldl (fun d id => match tget d.cmds id with
        | none => d
        | some c =>
          if !c.committed then d.endCmd id .transferFail 0 0
          else if d.xfers.any (fun (e : Nat × Xfer) => decide (e.2.cmd = id) && decide (e.2.load ≠ Load.bitmap)) then d.transferFailed id
          else d) d
      let d := d.endXfers fun _ t => decide (t.qpn = n)
      ((d.endRx n .transferFail none k).modQueue k fun q => { q with oldSeq := q.nextSeq, held := inSeqOrder q.nextSeq q.held }).settle
    | .tomb _ | .unbound | .session _ =>
      let lost := (p.sent ++ p.queued).filterMap fun (x : Send) => match x with | .status s => some s.cmd | _ => none
      let d := d.statusOver fun i _ => lost.contains i
      { d with eth := { d.eth with rx := d.eth.rx.filter fun x => decide (x.net.qpn.toNat ≠ n) } }

/-- Every queue pair of some ports fails. -/
def Dev.failPorts (d : Dev) (p : Nat → Bool) : Dev :=
  (tkeys d.eth.qps fun _ q => p q.port && !q.failed).foldl (fun d n => d.failQp n) d

/-- The meaning of QUEUE_PAIR_FAILURE (R107). -/
def execQueuePairFailure (qpn : Nat) (s : State) : Host.Outcome State Fault Refusal :=
  onDev (fun d => match tget d.eth.qps qpn with
    | some p => if p.failed then d else d.failQp qpn
    | none => d) s


/-! ### Sends and retries (R61, R62, R97) -/

/-- Put what a queue pair has sent and transferred, unacknowledged, out again; nothing of one that is in the error state (R247). -/
def Dev.resendAll (d : Dev) (n : Nat) : Dev :=
  match tget d.eth.qps n with
  | none => d
  | some p =>
    if p.failed then d else
    let d := p.sent.foldl (fun d (x : Send) => match x with
      | .status s => d.emit (.status n s)
      | .repl k m => d.emit (.repl n k m)) d
    d.xfers.foldl (fun d e =>
      if e.2.qpn ≠ n ∨ !d.posted e.1 e.2 then d
      else d.emit (if e.2.read then .rdmaRead e.1 n e.2.addr e.2.length else .rdmaWrite e.1 n e.2.addr e.2.data)) d

/-- Whether the status frame of a command waits to be sent on a queue pair other than n that has not failed. -/
def Dev.waitsElsewhere (d : Dev) (n cmd : Nat) : Bool :=
  d.eth.qps.any fun (e : Nat × Qp) => decide (e.1 ≠ n) && !e.2.failed && e.2.queued.any fun (x : Send) => match x with
    | .status s => decide (s.cmd = cmd)
    | _ => false

/-- Whether a status frame may not be sent on queue pair n yet: a word of a migration bitmap for a page that its command wrote is still on its way (R167),
or it is that of an ENABLE_TENANT and the status frame of a QUIESCE_TENANT whose drain it ended with (its `waits`) waits on another queue pair (R164). A
frame that is held for relay, or that R107's sequence order puts behind it on the same queue pair, is not waited for (DEDUCED, log 186). -/
def Dev.statusWaits (d : Dev) (n : Nat) (st : Status) : Bool :=
  (d.xfers.any fun e => decide (e.2.cmd = st.cmd) && decide (e.2.load = Load.bitmap)) ||
    match tget d.cmds st.cmd with
    | some c => decide (c.op = .enableTenant) && c.waits.any fun w => d.waitsElsewhere n w
    | none => false

/-- Whether the oldest frame that waits on a queue pair must wait further. -/
def Dev.sendWaits (d : Dev) (n : Nat) (p : Qp) : Bool :=
  match p.queued with
  | .status st :: _ => d.statusWaits n st
  | _ => false

/-- The meaning of CARD_STATUS_SEND (R61): the oldest frame that waits on a queue pair is sent. -/
def execCardStatusSend (qpn : Nat) (s : State) : Host.Outcome State Fault Refusal :=
  onDev (fun d => match tget d.eth.qps qpn with
    | none => d
    | some p =>
      if p.failed ∨ !p.up ∨ p.rnrUntil.isSome ∨ d.sendWaits qpn p then d else
      match p.queued with
      | [] => d
      | x :: r =>
        let d := d.modQp qpn fun p => { p with queued := r, sent := p.sent ++ [x] }
        let d := { d with power := { d.power with idleSince := d.now } }
        match x with
        | .status st => (((d.emit (.status qpn st)).modCmd st.cmd fun c => { c with sent := true }).reapCmd st.cmd).advertise
        | .repl k m => d.emit (.repl qpn k m)) s

/-- The meaning of SEND_ACKNOWLEDGED (R107): the oldest unacknowledged SEND is no longer held. DESIGN CHOICE (log 149): the count of
transport retries of Table 18-3 starts again from zero here, and at no RDMA response or acknowledgement; R97 does not say when it does. -/
def execSendAcknowledged (qpn : Nat) (s : State) : Host.Outcome State Fault Refusal :=
  onDev (fun d => d.modQp qpn fun p => { p with sent := p.sent.drop 1, retries := 0 }) s

/-- The RNR timer codes of the transport in units of 0.01 ms (PRESUMED: IBTA; the specification gives code 1). -/
def rnrTimers : List Nat :=
  [65536, 1, 2, 3, 4, 6, 8, 12, 16, 24, 32, 48, 64, 96, 128, 192, 256, 384, 512, 768, 1024, 1536, 2048, 3072, 4096, 6144, 8192, 12288,
   16384, 24576, 32768, 49152]

/-- The meaning of RNR_NAK (R62): the device sends nothing more on the queue pair until the timer that the NAK gives. -/
def execRnrNak (qpn timer : Nat) (s : State) : Host.Outcome State Fault Refusal :=
  onDev (fun d => d.modQp qpn fun p => if p.failed then p else { p with rnrUntil := some (d.now + rnrTimers.getD timer 1 * 10000) }) s

/-- The meaning of RNR_RETRY (R62): at the timer's end the device sends again, as often as it takes. -/
def execRnrRetry (qpn : Nat) (s : State) : Host.Outcome State Fault Refusal :=
  onDev (fun d => match (tget d.eth.qps qpn).bind (·.rnrUntil) with
    | some t => if d.now < t then d else (d.modQp qpn fun p => { p with rnrUntil := none }).resendAll qpn
    | none => d) s

/-- One transport retry: everything unacknowledged goes out again; with the retries of Table 18-3 used up, the transfers fail. While the
timer of an RNR NAK runs nothing is sent again (R62). -/
def Dev.retry (d : Dev) (n : Nat) : Dev :=
  match tget d.eth.qps n with
  | none => d
  | some p =>
    if p.failed ∨ p.rnrUntil.isSome ∨ (p.sent.isEmpty ∧ !(d.xfers.any fun (e : Nat × Xfer) => e.2.qpn = n)) then d
    else if 7 ≤ p.retries then d.failQp n
    else (d.modQp n fun p => { p with retries := p.retries + 1 }).resendAll n

/-- The meaning of ACK_TIMEOUT (R97, Table 18-3). -/
def execAckTimeout (qpn : Nat) (s : State) : Host.Outcome State Fault Refusal := onDev (fun d => d.retry qpn) s

/-- The meaning of SEQUENCE_ERROR_NAK (R97). -/
def execSequenceErrorNak (qpn : Nat) (s : State) : Host.Outcome State Fault Refusal := onDev (fun d => d.retry qpn) s

/-! ### Rates and pauses (R689, R690) -/

/-- The meaning of CONGESTION_NOTIFICATION (R690): the queue pair's rate is halved, to no less than 1 Gb/s. -/
def execCongestionNotification (qpn : Nat) (s : State) : Host.Outcome State Fault Refusal :=
  onDev (fun d => d.modQp qpn fun p => { p with rate := Nat.max 1000 (p.rate / 2), slowedAt := some d.now }) s

/-- The meaning of RATE_INCREASE (R690): after each 55 µs without a notification the rate rises by 1/64 of the line rate. -/
def execRateIncrease (qpn : Nat) (s : State) : Host.Outcome State Fault Refusal :=
  onDev (fun d => d.modQp qpn fun p => match p.slowedAt with
    | some t =>
      if d.now < t + usNs 55 then p else
      let r := p.rate + d.lineRate p.port / 64
      if d.lineRate p.port ≤ r then { p with rate := d.lineRate p.port, slowedAt := none } else { p with rate := r, slowedAt := some d.now }
    | none => p) s

/-- Bytes that a port's receive queue holds at a priority: frames held unparsed, inline data that has not moved to its buffers (R238), and
what is there of frames that the part has not received whole. -/
def Dev.prioUsed (d : Dev) (port prio : Nat) : Nat :=
  let here (n : Net) : Bool := decide (n.port.val = port) && decide (n.pcp.toNat = prio)
  (tget d.eth.occupancy (port * 8 + prio)).getD 0 +
    sumN (d.eth.rx.map fun x => if here x.net then x.raw.length + (match x.frame with | some m => m.size | none => 0) else 0) +
    sumN (d.cmds.map fun e => if here e.2.msg.net ∧ (e.2.stage = .gate ∨ e.2.stage = .buffers) then e.2.msg.inl.length else 0)

/-- A priority of a port is paused or released as its occupancy says (R241, R689): XOFF above XOFF × lanes KiB, XON below XON × lanes
KiB. -/
def Dev.pauseCheck (d : Dev) (port prio : Nat) : Dev :=
  let k := port * 8 + prio
  let g := port / 4
  let n := d.prioUsed port prio
  let lanes := d.portLanes port
  let paused := d.eth.paused.contains k
  if 16 ≤ port ∨ 8 ≤ prio ∨ !bit (d.rd (ETH_GCFG_PFC_EN g)) prio then d
  else if !paused ∧ d.rd (ETH_PFC_XOFF g) * lanes * 1024 < n then
    { d with eth := { d.eth with paused := d.eth.paused ++ [k] } }.emit (.pfc port prio true)
  else if paused ∧ n < d.rd (ETH_PFC_XON g) * lanes * 1024 then
    { d with eth := { d.eth with paused := d.eth.paused.filter (· ≠ k) } }.emit (.pfc port prio false)
  else d

/-- Every paused priority looked at again. -/
def Dev.unpause (d : Dev) : Dev := d.eth.paused.foldl (fun d k => d.pauseCheck (k / 8) (k % 8)) d

/-- What of frames not received whole stands in the receive queue of a port at a priority. -/
def Dev.setOccupancy (d : Dev) (port prio bytes : Nat) : Dev :=
  let k := port * 8 + prio
  { d with eth := { d.eth with occupancy := if bytes = 0 then tdel d.eth.occupancy k else tput d.eth.occupancy k bytes } }

/-- The meaning of PRIORITY_PAUSE (R241, R689): so many bytes of frames that the part has not received whole stand in a port's receive
queue at a priority, which is paused or released with what it holds. -/
def execPriorityPause (port prio bytes : Nat) (s : State) : Host.Outcome State Fault Refusal :=
  onDev (fun d => (d.setOccupancy port prio bytes).pauseCheck port prio) s

/-! ### Frames that are not Henmen frames (R688, R691) -/

/-- A packet marked CE draws a congestion notification packet to its sender, at most one per queue pair per 50 µs (R690). -/
def Dev.ceSeen (d : Dev) (n : Net) : Dev :=
  match tget d.eth.qps n.qpn.toNat with
  | some p =>
    if !n.ce ∨ p.failed ∨ !p.up ∨ p.cnpAt.any (fun t => decide (d.now < t + usNs 50)) then d
    else (d.modQp n.qpn.toNat fun p => { p with cnpAt := some d.now }).emit (.cnp n.qpn.toNat)
  | none => d

/-- The meaning of INCOMING_RDMA (R691): answered with a remote-access-error NAK, and counted. -/
def execIncomingRdma (n : Net) (s : State) : Host.Outcome State Fault Refusal :=
  onDev (fun d =>
    let e := d.ceSeen n
    { e with eth := { e.eth with remoteNaks := e.eth.remoteNaks + 1 } }.emit (.accessNak n.qpn.toNat)) s

/-- The meaning of BAD_FRAME (R688): dropped, and counted for its port group. -/
def execBadFrame (port : Nat) (s : State) : Host.Outcome State Fault Refusal :=
  onDev (fun d => if port < 16 then d.bump (ETH_GSTAT_BAD_FRAMES (port / 4)) else d) s

/-- Whether an address is the one set for a port. -/
def Dev.portHas (d : Dev) (port : Nat) (ip : Ip) : Bool :=
  match ip with
  | .v4 a => match tget d.eth.addrs (port * 2) with | some v => decide (bindingNum v 4 = a.toNat) | none => false
  | .v6 a => match tget d.eth.addrs (port * 2 + 1) with | some v => decide (bindingNum v 16 = a.toNat) | none => false

/-- The meaning of ARP_REQUEST (R688). -/
def execArpRequest (port : Nat) (ip : Ip) (s : State) : Host.Outcome State Fault Refusal :=
  onDev (fun d => match ip with
    | .v4 _ => if d.portHas port ip then d.emit (.answer port 0) else d
    | .v6 _ => d) s

/-- The meaning of ICMP_ECHO (R688): of either family. -/
def execIcmpEcho (port : Nat) (ip : Ip) (s : State) : Host.Outcome State Fault Refusal :=
  onDev (fun d => if d.portHas port ip then d.emit (.answer port 1) else d) s

/-- The meaning of NEIGHBOUR_DISCOVERY (R688). -/
def execNeighbourDiscovery (port : Nat) (ip : Ip) (s : State) : Host.Outcome State Fault Refusal :=
  onDev (fun d => match ip with
    | .v6 _ => if d.portHas port ip then d.emit (.answer port 2) else d
    | .v4 _ => d) s

/-! ### Connections (R691–R693, R815) -/

/-- A new queue pair. -/
def Qp.fresh (port rate now : Nat) (n : Net) (started : Bool) : Qp :=
  { port := port, mac := n.mac, vlan := n.vlan, ip := n.ip, up := false, failed := false, started := started, use := .unbound, since := now
    rate := rate, cnpAt := none, slowedAt := none, retries := 0, queued := [], sent := [], rnrUntil := none, classes := [], credits := 0, heldBack := 0 }

/-- The number of a new queue pair: the next of 24 bits that is free; none at 16,448 queue pairs. -/
def Dev.freshQpn (d : Dev) : Option Nat :=
  if 16448 ≤ d.eth.qps.length then none
  else ((upTo (d.eth.qps.length + 3)).map fun i => (d.eth.nextQpn + i) % 2 ^ 24).find? fun n => decide (1 < n) && !thas d.eth.qps n

/-- Make a queue pair. -/
def Dev.addQp (d : Dev) (n : Nat) (p : Qp) : Dev := { d with eth := { d.eth with qps := tput d.eth.qps n p, nextQpn := (n + 1) % 2 ^ 24 } }

/-- A queue pair is destroyed: it fails first, and its tombstone goes (R610). -/
def Dev.dropQp (d : Dev) (n : Nat) : Dev :=
  match tget d.eth.qps n with
  | none => d
  | some p =>
    let d := if p.failed then d else d.failQp n
    let d := d.delClass n
    { d with eth := { d.eth with qps := tdel d.eth.qps n } }

/-- Whether the management port carries a live queue pair. -/
def Dev.mgmtLive (d : Dev) : Bool := d.eth.qps.any fun (e : Nat × Qp) => decide (e.2.port = 16) && e.2.up && !e.2.failed

/-- The meaning of REQ (R692, R815): accepted from a source that passes some tenant's bindings, or on the management port while no
queue pair lives there; else rejected. -/
def execCmReq (m : CmMsg) (s : State) : Host.Outcome State Fault Refusal :=
  onDev (fun d =>
    let port := m.net.port.val
    let ok := if port = 16 then !d.mgmtLive else !d.fenced && d.tenants.any fun (e : Nat × Tenant) => d.passes e.1 m.net
    if d.boot.phase ≠ .running ∨ !d.portUp port then d else
    match ok, d.freshQpn with
    | true, some n => (d.addQp n (Qp.fresh port (d.lineRate port) d.now m.net false)).emit (.cm port n 1)
    | _, _ => d.emit (.cm port m.remote 3)) s

/-- A connection is established: on the management port its queue pair is bound to tenant 0's queue 15 (R815). -/
def Dev.established (d : Dev) (n : Nat) : Dev :=
  match tget d.eth.qps n with
  | none => d
  | some p =>
    if p.up then d else
    let d := d.modQp n fun p => { p with up := true, since := d.now }
    if p.port = 16 then d.bindQueue 15 n 256 else d

/-- The meaning of RTU (R691). -/
def execCmRtu (m : CmMsg) (s : State) : Host.Outcome State Fault Refusal :=
  onDev (fun d => match tget d.eth.qps m.qpn with
    | some p => if p.started ∨ p.failed then d else d.established m.qpn
    | none => d) s

/-- Whether a message concerns the connection that the device has started. -/
def Dev.connectingTo (d : Dev) (n : Nat) : Bool := match d.eth.connecting with | some (q, _) => decide (q = n) | none => false

/-- The meaning of REP (R693): the connection that the device started is established. -/
def execCmRep (m : CmMsg) (s : State) : Host.Outcome State Fault Refusal :=
  onDev (fun d =>
    if !d.connectingTo m.qpn then d else
    let d := { d with eth := { d.eth with connecting := none } }
    let d := (d.modQp m.qpn fun p => { p with mac := m.net.mac }).established m.qpn
    (d.wr ETH_CM_QPN_DONE 1).emit (.cm m.net.port.val m.qpn 2)) s

/-- A connection that the device started has failed (R693). -/
def Dev.connectFail (d : Dev) (n : Nat) : Dev :=
  if !d.connectingTo n then d else
  { d with eth := { d.eth with connecting := none, qps := tdel d.eth.qps n } }.wr ETH_CM_QPN_FAIL 1

/-- The meaning of REJ (R693). -/
def execCmRej (m : CmMsg) (s : State) : Host.Outcome State Fault Refusal := onDev (fun d => d.connectFail m.qpn) s

/-- The meaning of CONNECT_TIMEOUT (R693). -/
def execConnectTimeout (qpn : Nat) (s : State) : Host.Outcome State Fault Refusal := onDev (fun d => d.connectFail qpn) s

/-- The meaning of DREQ (R691): the queue pair is disconnected, and DREP answered. -/
def execCmDreq (m : CmMsg) (s : State) : Host.Outcome State Fault Refusal :=
  onDev (fun d => if thas d.eth.qps m.qpn then (d.dropQp m.qpn).emit (.cm m.net.port.val m.qpn 5) else d) s

/-- The meaning of DREP (R691): a disconnection that the device began is complete. -/
def execCmDrep (m : CmMsg) (s : State) : Host.Outcome State Fault Refusal :=
  onDev (fun d => match tget d.eth.qps m.qpn with
    | some p => if p.failed then d.dropQp m.qpn else d
    | none => d) s

/-- The meaning of UNBOUND_TIMEOUT (R692): a queue pair left unbound for 10 s is disconnected. -/
def execUnboundTimeout (qpn : Nat) (s : State) : Host.Outcome State Fault Refusal :=
  onDev (fun d => match tget d.eth.qps qpn with
    | some p =>
      if p.up ∧ !p.failed ∧ p.use = .unbound ∧ p.since + sNs 10 ≤ d.now then (d.failQp qpn).emit (.cm p.port qpn 4) else d
    | none => d) s

/-- ETH_ADDR_SEL.WRITE: the selected port's address of a family is set (R688). -/
def Dev.setAddress (d : Dev) : Dev :=
  let v := sumN ((upTo 4).map fun j => d.rd (ETH_ADDR_DATA_VALUE j) * 2 ^ (32 * j))
  let f := d.rd ETH_ADDR_SEL_FAMILY
  let port := d.rd ETH_ADDR_SEL_PORT
  if 16 < port then d else
  { d with eth := { d.eth with addrs := tput d.eth.addrs (port * 2 + f) (BitVec.ofNat 128 (if f = 0 then v % 2 ^ 32 else v)) } }

/-- ETH_ADDR_SEL.CONNECT: a connection is opened from the selected port to the address in ETH_ADDR_DATA (R693). -/
def Dev.connect (d : Dev) : Dev :=
  let v := BitVec.ofNat 128 (sumN ((upTo 4).map fun j => d.rd (ETH_ADDR_DATA_VALUE j) * 2 ^ (32 * j)))
  let port := d.rd ETH_ADDR_SEL_PORT
  let ip : Ip := if d.rd ETH_ADDR_SEL_FAMILY = 0 then .v4 (BitVec.ofNat 32 (bindingNum v 4)) else .v6 (BitVec.ofNat 128 (bindingNum v 16))
  let net : Net := { qpn := 0, port := 0, mac := 0, vlan := none, pcp := 0, ce := false, ip := ip }
  if 16 < port then d else
  match d.freshQpn with
  | none => (d.wr ETH_CM_QPN_DONE 0).wr ETH_CM_QPN_FAIL 1
  | some n =>
    let d := d.addQp n (Qp.fresh port (d.lineRate port) d.now net true)
    let d := { d with eth := { d.eth with connecting := some (n, d.now) } }
    ((d.wr ETH_CM_QPN_QPN n).wr ETH_CM_QPN_DONE 0).emit (.cm port n 0)

/-! ### Groups going down and coming up (R611, R687) -/

/-- Transfers in flight on a group's queue pairs. -/
def Dev.groupMoving (d : Dev) (g : Nat) : Bool :=
  d.xfers.any fun (e : Nat × Xfer) => match tget d.eth.qps e.2.qpn with | some p => decide (p.port < 16) && decide (p.port / 4 = g) | none => false

/-- What a write of ETH_GCFG[g] starts (R687): ENABLE 0 takes the group down; ENABLE 1 while it goes down is held. -/
def Dev.groupWritten (d : Dev) (g : Nat) : Dev :=
  let x := d.portGroup g
  if d.rd (ETH_GCFG_ENABLE g) = 0 then
    if x.going.isNone ∧ d.rd (ETH_GSTAT_DOWN g) = 0 then d.modPortGroup g fun x => { x with going := some d.now, enableHeld := false }
    else d.modPortGroup g fun x => { x with enableHeld := false }
  else if x.going.isSome then d.modPortGroup g fun x => { x with enableHeld := true } else d

/-- Whether the reply of a write that enabled group g waits for the group to be up again (R611). -/
def Dev.groupHeld (d : Dev) (g : Nat) : Bool := (d.portGroup g).enableHeld

/-- The meaning of GROUP_DOWN (R687): once its transfers have ended, or after 100 ms, the group drops its links and its queue pairs
fail. -/
def execGroupDown (g : Nat) (s : State) : Host.Outcome State Fault Refusal :=
  onDev (fun d => match (d.portGroup g).going with
    | none => d
    | some t =>
      if d.groupMoving g ∧ d.now < t + msNs 100 then d else
      let d := d.modPortGroup g fun x => { x with going := none }
      let d := (d.wr (ETH_GSTAT_LINK g) 0).wr (ETH_GSTAT_DOWN g) 1
      d.failPorts fun p => decide (p < 16) && decide (p / 4 = g)) s

/-- A REG_WRITE whose reply waited for group g to be up completes (R611). -/
def Dev.groupReplies (d : Dev) (g : Nat) : Dev :=
  let ids := tkeys d.cmds fun _ c => decide (c.op = .regWrite) && decide (c.hold = .drain) && decide (c.num 19 = g + 1)
  ids.foldl (fun d id => match tget d.cmds id with
    | some c => d.endCmd id .success 0 c.retval
    | none => d) d

/-- The meaning of HOST_LINK_CHANGE (R687): the first link up brings the group up in the MODE now set; a lost link fails the group's
queue pairs. -/
def execHostLinkChange (port : Nat) (up : Bool) (s : State) : Host.Outcome State Fault Refusal :=
  onDev (fun d =>
    let g := port / 4
    if port = 16 then (if up then d else d.failPorts fun p => decide (p = 16))
    else if 16 < port then d
    else if up then
      let x := d.portGroup g
      if x.going.isSome ∨ d.rd (ETH_GCFG_ENABLE g) = 0 ∨ d.boot.phase ≠ .running then d else
      let down := d.rd (ETH_GSTAT_DOWN g) = 1
      let mode := if down then d.rd (ETH_GCFG_MODE g) else x.mode
      let lanes := modeLanes mode port
      if lanes = 0 then d else
      let d := if down then (d.modPortGroup g fun x => { x with mode := mode, enableHeld := false, inc := x.inc + b2n x.enableHeld }).wr (ETH_GSTAT_DOWN g) 0 else d
      let d := d.wr (ETH_GSTAT_LINK g) (d.rd (ETH_GSTAT_LINK g) ||| linkMask port lanes)
      d.groupReplies g
    else
      let lanes := d.portLanes port
      let d := d.wr (ETH_GSTAT_LINK g) (d.rd (ETH_GSTAT_LINK g) &&& (15 - linkMask port lanes % 16))
      d.failPorts fun p => decide (p < 16) && decide (p / 4 = g)) s

end Sys2Proof.Machine
end

