-- ==== Sys2Proof/Machine/Takeover.lean ====
section
/-! DEFINITION. What a part knows of its partner's side, and the takeover of that side (R322, R326, R383, R632–R636, R642–R650):
adoption of the mirrored map log, seizure of ports, reopening of rows, acceptance. What the checkpoint pages in the failed part's flash
hold (R322, R323) is told beside the root tables, in the form of records. -/

namespace Sys2Proof.Machine

/-! ### The partner's side -/

/-- The partner's side: 1 side A, 2 side B. -/
def Dev.partnerSide (d : Dev) : Nat := if d.side = 1 then 2 else 1

/-- Ports of the partner's home side; none for a part strapped SOLO. -/
def Dev.partnerPorts (d : Dev) : List Nat := if d.solo then [] else (upTo 64).filter (homePort d.partnerSide)

/-- Ports of the part's own home side. -/
def Dev.homePorts (d : Dev) : List Nat := (upTo 64).filter (homePort d.side)

/-- The geometry code with m members (Table 8-1). -/
def geoOf (m : Nat) : Nat := match m with | 9 => 0 | 17 => 1 | 10 => 2 | 18 => 3 | 26 => 4 | _ => 5

/-- A group known from its geometry and members. -/
def Group.adopted (geometry : Nat) (cover : Bool) (members : List (Nat × Bool)) : Group :=
  { geometry := geometry, cover := cover, state := .normal
    members := members.map fun b => { die := b.1, failed := b.2, target := false, copy := false, jblocks := [] }
    jrnA := 0, jrnB := 1, rehoming := false, rebuild := none, lost := 0, committed := 0, nextLogseq := 1, nextMlseq := 0, segs := [], slots := []
    slotGens := [], freed := [], deadSerials := [], nextSerial := 1, reserved := 0, amber := false, scrapeOn := false }

/-- A segment known from its SEG_FORM record. -/
def Seg.adopted (blocks : List (Option (Nat × Nat))) (slc : Bool) (place : Nat) : Seg :=
  { blocks := blocks, slc := slc, place := place, state := .sealed, sealedAt := 0, claim := none, strip := false, stale := false, pos := 0
    rows := 0, evacuated := false, erasable := false, erasing := [], issued := false, moves := [] }

/-- A volume known from its CREATE record. -/
def Vol.adopted (gen capacity settings tenant : Nat) : Vol :=
  { vgen := gen, tenant := tenant, group := bits settings 32 16, keydom := bits settings 48 16, grain16 := bit settings 16
    vflags := bits settings 0 16, capacity := capacity, epoch := 1, map := [], snaps := [], sgens := [], origin := none, fillTo := 0
    filledAhead := [], dying := false, compacting := false, replBase := none }

/-- A closed stream that holds only its time index (R192). -/
def Strm.adopted (tenant volume : Nat) : Strm :=
  { tenant := tenant, volume := volume, cls := 0, dropLate := false, rate := 0, deadline := 0, isOpen := false, tokens := 0, filledAt := 0
    overBytes := 0, bytes := 0, misses := 0, maxLate := 0, dropped := 0, atRisk := false, clearSince := none, pLat := 0, unindexed := 0
    index := [] }

/-- One mirrored record of group g taken over: what it makes that the part does not hold yet is made, and it is applied. A SNAP record of a snapshot that
exists hides and deletes it (R427); the first COMPACT record of a compaction numbers the volume's epochs anew, and the others find it done (R429). The pages of the partner's time
and dedup indexes are not taken over: they bear the numbers of the part's own. -/
def Dev.adoptRec (d : Dev) (g : Nat) (r : Rec) : Dev :=
  let d : Dev := match r with
    | .segForm s blocks slc place =>
      let known := blocks.map fun b => match b with | some k => (k.1, false) | none => (0, true)
      let d := if thas d.groups g then d else { d with groups := tput d.groups g (Group.adopted (geoOf blocks.length) false known) }
      if (d.seg g s).isSome then d else
      let d := d.modGroup g fun x => { x with segs := tput x.segs s (Seg.adopted blocks slc place) }
      (blocks.filterMap id).foldl (fun d b => (d.openBlock b.1 b.2 slc).sealBlock b.1 b.2) d
    | .mmapSet s segment u slc _ _ _ gen =>
      let d := d.modGroup g fun x => { x with slotGens := tput x.slotGens s gen }
      if (d.slot g s).isSome then d else
      let k : Slot := { segment := segment, unit := u, state := 2, slc := slc, ovl := 0, live := 0, gen := gen, logseq := 0, since := 0 }
      d.modGroup g fun x => { x with slots := tput x.slots s k }
    | .crecNew c _ _ _ _ _ => d.modGroup g fun x => { x with nextSerial := Nat.max x.nextSerial (c % 2 ^ 32 + 1) }
    | .vmap v _ e => d.modVol v fun x => { x with epoch := Nat.max x.epoch e.epoch }
    | .replBase _ v s c => d.modVol v fun x => { x with replBase := some (s, c) }
    | .volCreate v gen cap set t => if (d.vol v).isSome then d else { d with vols := tput d.vols v (Vol.adopted gen cap set t) }
    | .clone v gen ov os =>
      if (d.vol v).isSome then d else
      match d.vol ov with
      | some x =>
        let y : Vol := { x with vgen := gen, epoch := 1, map := [], snaps := [], sgens := [], origin := some (ov, os), fillTo := 0, filledAhead := []
                                dying := false, compacting := false, replBase := none, replAt := none }
        { d with vols := tput d.vols v y }
      | none => d
    | .snap v s gen e hidden =>
      if (d.vol v).any fun x => thas x.snaps s then
        let wait := d.isOrigin v s
        d.modSnap v s fun k => { k with hidden := true, deleting := !wait }
      else
        let n := d.snapNeed v
        d.modVol v fun x =>
          let k : Snap := { sgen := gen, epoch := e, hidden := hidden, deleting := false, delta := [], reserved := n }
          { x with snaps := tput x.snaps s k, epoch := Nat.max x.epoch (e + 1) }
    | .compact v _ n => if (d.vol v).any fun x => decide (n < x.epoch) then d.compactVol v else d
    | .tidx i e =>
      if thas d.streams i then d else
      { d with streams := tput d.streams i (Strm.adopted (match d.vol e.volume with | some v => v.tenant | none => 0) e.volume) }
    | _ => d
  match r with
  | .ckptPage t p l => if t % 8 < 3 then d.applyRec g (.ckptPage t p l) else d
  | _ => d.applyRec g r

/-- The rebuild that a group was in is gone on with: the same spare die and slot (R394). -/
def Group.resumes (x : Group) (r : Nat × Nat × Bool) : Group :=
  { x with
    rebuild := some (r.1, r.2.1, 0, countP x.segs fun e => decide (e.2.state ≠ .free) && decide ((e.2.blocks.getD r.2.1 none).map (·.1) = (x.member r.2.1).map (·.die)))
    members := modAt x.members r.2.1 fun k => { k with target := true, copy := r.2.2 } }

/-- What else the part that takes a group over knows of it: its state, where that is more than its member faults give (R402), its rebuild (R394), its serials
(R413), the generations of its volumes (R405) and the reservations of their snapshots (R428). -/
def Dev.adoptGroup (d : Dev) (g : Nat) (p : Pages) : Dev :=
  let d := d.modGroup g fun x =>
    let x := match p.rebuild with | some r => x.resumes r | none => x
    let x := { x with
      nextLogseq := Nat.max x.nextLogseq p.logseq, nextMlseq := Nat.max x.nextMlseq p.first
      slotGens := p.gens.foldl (fun (t : Tbl Nat) (e : Nat × Nat) => if thas t e.1 then t else tput t e.1 e.2) x.slotGens
      freed := p.freed, deadSerials := x.deadSerials ++ p.dead, nextSerial := Nat.max x.nextSerial p.nextSerial }
    let s : GrpState := GrpState.ofNum p.state
    { x with state := if s = .readOnly ∨ s = .offline then s else x.faultState }
  let d := { d with vgens := p.vgens.foldl (fun t e => if thas t e.1 then t else tput t e.1 e.2) d.vgens }
  let d := p.sgens.foldl (fun d e => d.modVol e.1 fun x => { x with sgens := tput x.sgens e.2.1 e.2.2 }) d
  p.reserved.foldl (fun d e => d.modSnap e.1 e.2.1 fun s => { s with reserved := e.2.2 }) d

/-- The overlay blocks of a group's dies taken over: SEALED, but for the newest of a die where it has a free page (Table 7-1). -/
def Dev.adoptOverlay (d : Dev) (p : Pages) : Dev :=
  p.ovls.foldl (fun d e =>
    let full := match d.dieProfile e.1 with | some q => decide (pagesIn q true ≤ e.2.2) | none => false
    let d := (d.openBlock e.1 e.2.1 true).modDie e.1 fun x => { x with ovl := x.ovl ++ [e.2] }
    if full then d.sealBlock e.1 e.2.1 else d) d

/-- The blocks of a group's dies that neither hold anything live nor are FREE go to ERASING. -/
def Dev.adoptSpent (d : Dev) (g : Nat) (p : Pages) : Dev :=
  let named := p.recs.flatMap fun r => match r with | .segForm _ bs _ _ => bs.filterMap id | _ => []
  let loose := p.spent ++ (match p.orphan with | some b => if named.contains b then [] else [b] | none => [])
  loose.foldl (fun d b => d.eraseBlocks g b.1 [b.2]) d

/-- The pages of a group's root taken over. -/
def Dev.adoptPages (d : Dev) (g : Nat) (p : Pages) : Dev :=
  let d := if thas d.groups g then d else { d with groups := tput d.groups g (Group.adopted p.geometry p.cover p.members) }
  let d := p.recs.foldl (fun d r => d.adoptRec g r) d
  (d.adoptOverlay p).adoptGroup g p

/-- Records of a group taken over, but for those that the pages of its root already hold; ledger 4 is compared after a whole batch (R243). -/
def Dev.adoptTail (d : Dev) (b : Nat × Nat × List Rec) : Dev :=
  let first := match tget d.peer.mirror.pages b.1 with | some p => p.first | none => 0
  let e := (b.2.2.drop (first - b.2.1)).foldl (fun d r => d.adoptRec b.1 r) d
  if first ≤ b.2.1 then e.checkRefs d b.2.2 else e

/-- The part with the partner's side as the mirrored root tables and map log give it (R647). -/
def Dev.partnerView (d : Dev) : Dev :=
  let m := d.peer.mirror
  let d := m.pages.foldl (fun (d : Dev) (e : Nat × Pages) => d.adoptPages e.1 e.2) d
  (m.past ++ m.tail).foldl (fun (d : Dev) b => d.adoptTail b) d

/-! ### The part's side back -/

/-- The part's own side as the partner that hands it back has left it (handback step 4, R650): the root tables it sent replace what the part
held, and each block has the state that they give it; a block that was in use before and that they do not name is erased, so that none is FREE without an
erase (Table 7-1); dump reserve that holds nothing is formed anew. A group whose state has changed is told (R403). -/
def Dev.takeBack (d : Dev) : Dev :=
  let m := d.peer.mirror
  let mine := m.pages.filter fun e => d.side = 3 || decide (d.side = 1) == decide (e.1 < 128)
  let gs := d.ownGroups ++ mine.map (·.1)
  let home := d.homePorts
  let mineDies := tkeys d.dies fun n _ => home.contains (diePort n)
  let named := mine.flatMap fun (e : Nat × Pages) => (e.2.recs.flatMap fun r => match r with | .segForm _ bs _ _ => bs.filterMap id | _ => []) ++
    e.2.ovls.map fun o => (o.1, o.2.1)
  let spent (k : BlkState) : Bool := decide (k = .open_) || decide (k = .sealed)
  let d := mineDies.foldl (fun d n => match tget d.dies n with
    | some x => x.blocks.foldl (fun d b =>
        if named.contains (n, b.1) then d.setBlock n b.1 .free else if spent b.2.state then d.setBlock n b.1 .erasing else d) d
    | none => d) d
  let was := d.groups
  let d := { d with
    groups := d.groups.filter fun e => !gs.contains e.1
    vols := d.vols.filter fun e => !gs.contains e.2.group
    crecs := d.crecs.filter fun e => !gs.contains (contentGroup e.1)
    overlay := d.overlay.filter fun e => !gs.contains (e.1 / 2 ^ 36)
    rows := [], batches := [], journal := [], jpages := d.jpages.filter fun e => !mineDies.contains (e.1 / 2 ^ 20)
    sysFrags := d.sysFrags.filter fun f => !gs.contains f.loc.group
    streams := d.streams.filter fun e => !d.ownVol e.2.volume
    dies := tmap d.dies fun n x => if home.contains (diePort n) then { x with ovl := [] } else x }
  let keep (r : Rec) : Bool := match r with | .segForm _ _ _ place => decide (place ≠ 3) | _ => true
  let d := mine.foldl (fun (d : Dev) (e : Nat × Pages) => d.adoptPages e.1 { e.2 with recs := e.2.recs.filter keep }) d
  let d := mine.foldl (fun (d : Dev) (e : Nat × Pages) => e.2.members.foldl (fun (d : Dev) k => d.modDie k.1 fun z => { z with group := some e.1 }) d) d
  let d := mine.foldl (fun (d : Dev) (e : Nat × Pages) =>
    let d := e.2.members.foldl (fun (d : Dev) k => d.eraseLoose e.1 k.1) (d.adoptSpent e.1 e.2)
    match tget was e.1, d.group e.1 with
    | some x, some y => if x.state = y.state then d else d.event 0x0501 0 0 e.1 [x.state.num, y.state.num]
    | _, _ => d) d
  { d with peer := { d.peer with mirror := Mirror.reset } }

/-! ### Seizure and acceptance (Table 16-6) -/

/-- Every port of the partner's home side is asked for. -/
def Dev.seize (d : Dev) (isolated : Bool) : Dev :=
  let free (n : Nat) : Bool := match tget d.ports n with | some p => decide (p.own = .free) && p.enabled | none => false
  let ps := d.partnerPorts.filter free
  let d := ps.foldl (fun d n => d.askPort n) (d.noteCause 3 fun _ _ => true)
  { d with peer := { d.peer with takeover := some { from_ := d.peer.aliveAt, waiting := ps, seized := [], isolated := isolated } } }

/-- Journal entries that name rows of some groups to be reopened: STRIPE entries whose data is held beside the ring. -/
def Dev.reopenable (d : Dev) (mine : Nat → Bool) : List Jrn :=
  d.peer.mirror.journal.filter fun e => mine e.group && decide (e.type = 1) && thas d.peer.mirror.data (rowKey e.group e.logseq)

/-- Bytes of a log stripe up to the last codeword that the mirror holds. -/
def Dev.reopenSize (d : Dev) (g slot : Nat) : Nat :=
  (upTo 256).foldl (fun n cw => if (d.mirrorCw g slot cw).isSome then (cw + 1) * 4096 else n) 0

/-- The rows of the mirrored ring after their group's COMMIT reopened (R383, R643), and at boot those that were dumped or whose verification asks for it
(R384): each of their log stripes is programmed whole into a fresh segment, and their old segments are claimed. -/
def Dev.reopen (d : Dev) (mine : Nat → Bool) : Dev :=
  let es := d.reopenable mine
  let slots := (es.flatMap fun e => [(e.group, e.slotA), (e.group, e.slotB)]).eraseDups
  let d := slots.foldl (fun d k =>
    let n := d.reopenSize k.1 k.2
    if n = 0 then d else (d.startRead (.stripe k.2) k.1 k.2 0 n .J).1) d
  es.foldl (fun d e => d.claim e.group e.segment .media) d

/-- The groups of the partner's side installed: counters past what its log used, its dump reserve on the way to ERASING (R326), its
dies and journal pair. -/
def Dev.install (d : Dev) : Dev :=
  let jr := d.peer.mirror.journal
  let tail := d.peer.mirror.tail
  let past := d.peer.mirror.past
  let d := d.partnerView
  let gs := tkeys d.groups fun g _ => !(d.ownGroups.contains g)
  let one (d : Dev) (g : Nat) : Dev :=
    let seqs := (jr.filter fun e => decide (e.group = g)).map (·.logseq)
    let done := ((jr.filter fun e => decide (e.group = g) && decide (e.type = 2)).map (·.logseq)).foldl Nat.max 0
    let ml := ((past ++ tail).filter fun b => decide (b.1 = g)).map fun b => b.2.1 + b.2.2.length
    let d := d.modGroup g fun x => { x with
      nextLogseq := Nat.max x.nextLogseq (seqs.foldl Nat.max 0 + 1), committed := Nat.max done (seqs.foldl Nat.max 0)
      nextMlseq := Nat.max x.nextMlseq (ml.foldl Nat.max 0), jrnA := x.choosePair.1, jrnB := x.choosePair.2 }
    let d := match d.group g with
      | some x => x.members.foldl (fun (d : Dev) (k : Member) => d.modDie k.die fun z => { z with group := some g }) d
      | none => d
    let d := match tget d.peer.mirror.pages g with | some p => d.adoptSpent g p | none => d
    let spare := match d.group g with | some x => tkeys x.segs fun _ k => decide (k.place = 3) | none => []
    spare.foldl (fun d k => (d.applyRec g (.segErase k)).eraseSegment g k) d
  gs.foldl one d

/-- The unfinished receiving cycles of the failed part are rolled back; base and commit snapshots stay (R451). -/
def Dev.endReceived (d : Dev) : Dev :=
  d.peer.mirror.received.foldl (fun (d : Dev) e => match d.vol e.1 with
    | some x => d.logOwn x.group (d.issued.restoreRecs e.1 e.2.1 e.2.2)
    | none => d) d
/-- Every port of a takeover has been granted: root tables installed, rows reopened, the partner's volumes accepted; the part now holds
both sides. -/
def Dev.takeOver (d : Dev) (t : Takeover) : Dev :=
  let us := (d.now - t.from_) / 1000
  let seized := satAt 65535 us
  let acc := if us ≤ 65534 then us else 65535
  let d := ((d.wr PEER_TKO_SEIZED_US seized).wr PEER_TKO_ACCEPT_US acc).bump PEER_HB_TAKEOVERS
  let d := d.install.endReceived.reopen fun g => !d.ownGroups.contains g
  let d := { d with peer := { d.peer with takeover := none, sole := true } }
  let d := (d.wr PEER_STAT_STATE 3).event 0x0801 0 0 0 [seized, acc]
  d.admRegs.reRisk.settle

/-- A port of a takeover has been granted. -/
def Dev.seized (d : Dev) (n : Nat) : Dev :=
  match d.peer.takeover with
  | none => d
  | some t =>
    if !t.waiting.contains n then d else
    let t := { t with waiting := t.waiting.filter (· ≠ n), seized := n :: t.seized }
    let d := { d with peer := { d.peer with takeover := some t } }
    if t.waiting.isEmpty then d.takeOver t else d

/-- A takeover is abandoned (R646): every port seized for it is released, and the part is in isolated mode. -/
def Dev.abandonTakeover (d : Dev) : Dev :=
  match d.peer.takeover with
  | none => d
  | some t =>
    let d := d.leavePorts (t.seized ++ t.waiting)
    let d := { d with peer := { d.peer with takeover := none } }
    (d.wr PEER_STAT_STATE 2).event 0x0F00 2 0 0 [0x0646]

/-! ### Isolated mode (R648–R650) -/

/-- Enter isolated mode: writes that wait for the mirror are acknowledged by the medium from now on (R43, R649), and commands that wait
for the partner go on. -/
def Dev.isolate (d : Dev) : Dev :=
  if d.rd PEER_STAT_STATE = 2 then d else
  let d := { d with peer := { d.peer with resyncSeq := none, hisResynced := false } }
  ((d.wr PEER_STAT_STATE 2).wr PEER_STAT_RESYNC 0).event 0x0802 0 0 0 [1] |>.partnerDone.settle

/-! ### Which volumes a part serves (R647) -/

/-- Whether a part serves the volumes of a side: its own unless that side is held by the partner, and the other side's after a takeover. -/
def Dev.serves (d : Dev) (v : Nat) : Bool :=
  if d.ownVol v then !(decide (d.rd PEER_STAT_STATE = 4)) else d.peer.sole

/-- Whether a handle names, with its current generations, a volume or visible snapshot of a tenant. -/
def Dev.handleOk (d : Dev) (tenant h : Nat) : Bool :=
  match d.vol (volNum h) with
  | none => false
  | some x =>
    !x.dying && decide (bits h 26 6 = 0) && decide (x.vgen % 65536 = bits h 32 16) && decide (x.tenant = tenant) &&
      match handleSnap h with
      | none => decide (bits h 16 10 = 0) && decide (bits h 48 16 = 0)
      | some s => match tget x.snaps s with
        | some k => !k.hidden && !k.deleting && decide (k.sgen % 65536 = bits h 48 16)
        | none => false

/-- Whether a command that names a volume completes WRONG_PART, and with which serving side (R647). -/
def Dev.wrongPart (d : Dev) (tenant h : Nat) : Option Nat :=
  let v := volNum h
  if d.serves v ∨ d.solo then none
  else
    let other := if d.ownVol v then b2n (decide (d.partnerSide = 2)) else v / 16384
    if d.linked then (if d.partnerView.handleOk tenant h then some other else none) else some other

/-! ### Handback and handover (R651, R769) -/

/-- Whether a command that names a volume waits at step 4 because its side is being handed back, seized or handed over. -/
def Dev.sideMoving (d : Dev) (v : Nat) : Bool :=
  if d.ownVol v then d.boot.activating.isSome
  else d.peer.takeover.isSome || (d.peer.sole && decide (d.peer.handback ≠ 0))

/-- Groups that one of the two sides owns: the partner's, or the part's own. -/
def Dev.sideGroups (d : Dev) (own : Bool) : List Nat := tkeys d.groups fun g _ => d.ownGroups.contains g == own

/-- Whether a command names a volume of a side. -/
def Dev.onSide (d : Dev) (own : Bool) (c : Cmd) : Bool := decide (c.msg.volume.toNat ≠ 0) && (d.ownVol c.volNo == own)

/-- Whether every outstanding command of a side's volumes has completed and every row of its groups is programmed. -/
def Dev.sideQuiet (d : Dev) (own : Bool) : Bool :=
  let gs := d.sideGroups own
  !(d.cmds.any fun e => decide (e.2.stage ≠ .done) && d.onSide own e.2 && decide (e.2.hold ≠ .drain))
    && d.rows.all (fun e => !gs.contains e.2.group || d.rowCounts e.2)
    && d.batches.all (fun b => !gs.contains b.group)

/-- Commands that waited at step 4 for a side that the partner now serves complete WRONG_PART (R647). -/
def Dev.turnAway (d : Dev) (own : Bool) : Dev :=
  let held := tkeys d.cmds fun _ c => decide (c.stage = .gate) && decide (c.hold = .drain) && d.onSide own c
  held.foldl (fun d id => d.endCmd id .wrongPart 0 (b2n (decide (d.partnerSide = 2)))) d

/-- The groups, volumes and streams of the partner's side leave the part, and what it knew of the blocks of that side's dies, those RETIRED apart. -/
def Dev.forgetSide (d : Dev) : Dev :=
  let gs := d.sideGroups false
  let d := d.closeStreams fun s => !d.ownVol s.volume
  let d := d.closeSessions fun s => !d.ownVol s.volume
  let theirs := d.partnerPorts
  let left (x : Die) : Die := { x with blocks := x.blocks.filter (fun b => decide (b.2.state = .retired)), groups := [], current := 0, group := none, ovl := [] }
  { d with
    dies := tmap d.dies fun n x => if theirs.contains (diePort n) then left x else x
    overlay := d.overlay.filter fun e => !gs.contains (e.1 / 2 ^ 36)
    sysFrags := d.sysFrags.filter fun f => !gs.contains f.loc.group
    groups := d.groups.filter fun e => !gs.contains e.1
    vols := d.vols.filter fun e => d.ownVol e.1
    crecs := d.crecs.filter fun e => !gs.contains (contentGroup e.1)
    rows := d.rows.filter fun e => !gs.contains e.2.group
    journal := d.journal.filter fun e => !gs.contains e.group
    streams := d.streams.filter fun e => d.ownVol e.2.volume
    peer := { d.peer with sole := false, handback := 0, mirror := Mirror.reset } }

/-- Root table, 8 bytes for each directory page (R321), and standby segment of every group of a side sent, the last frame's SEQ (none where there is nothing to send). -/
def Dev.sendRoots (d : Dev) (own : Bool) : Dev × Option Nat :=
  (d.sideGroups own).foldl (fun (r : Dev × Option Nat) g =>
    let s := match r.1.group g with | some x => x.standby.getD 0 | none => 0
    match r.1.group g with
    | some x => r.1.linkSend (.control (.root g s (r.1.rootTable.flatMap fun e => toLE 8 e.2.2.word) (r.1.pagesOf g x)))
    | none => r) (d, none)

end Sys2Proof.Machine
end

