-- ==== Sys2Proof/Machine/Reset.lean ====
section
/-! DEFINITION. What power loss leaves (R337, R380, Table 8-3), and what a reset keeps (R18, R493, R612, R669, R681 and the
registers that survive RESET_N). -/

namespace Sys2Proof.Machine

/-! ### What power loss leaves -/

/-- The journal head of each group as the anchor store receives it (R380). -/
def Dev.journalHeads (d : Dev) : Tbl (List (Nat × Nat) × Nat × Nat) :=
  d.groups.map fun e =>
    let blocks := e.2.pair.filterMap fun m => ((e.2.member m.1).bind fun k => k.jblocks.head?).map fun b => (m.2.1, b.1)
    (e.1, blocks, ((d.journal.filter fun j => decide (j.group = e.1)).head?).elim d.nextJseq (·.jseq), e.2.committed)

/-- The acknowledged changes whose data is not in the maps. -/
def Dev.lostWrites (d : Dev) : List (Nat × Cmd) := d.cmds.filter fun e => e.2.owes

/-- Whether the stripe journal names every row that holds data of a command. -/
def Dev.journalNames (d : Dev) (id : Nat) : Bool :=
  d.rows.all fun e => !e.2.cmds.contains id || d.entryDurable e.2.group (e.1 % 2 ^ 40)

/-- The deferred records of acknowledged writes whose data the part loses, `was` being the part before the loss: the next boot adds them. Of an
incomplete dump HOLDUP_SHORT for those that the stripe journal names (R340), else JOURNAL_LOST (R386). -/
def Dev.lostRecords (d was : Dev) : List (Nat × Deferred) :=
  d.lostWrites.map fun e => (e.2.tenant, e.2.deferredAs (if d.dumping && was.journalNames e.1 then .holdupShort else .journalLost))

/-- The place that a record gives a fragment. -/
def recLoc : Rec → Option Loc
  | .crecNew _ l _ _ _ _ => some l
  | .crecMove _ _ l => some l
  | .ckptPage _ _ l => some l
  | _ => none

/-- Whether anything that stands lies in a slot of a group: a content, a system fragment, or what a batch that is still to be applied names. -/
def Dev.slotNamed (d : Dev) (g i : Nat) : Bool :=
  let here (l : Loc) : Bool := decide (l.group = g) && decide (l.index = i)
  (d.crecs.any fun e => e.2.loc.any here) || (d.sysFrags.any fun f => here f.loc) || d.batches.any fun b => b.recs.any fun r => (recLoc r).any here

/-- What the log loses with some batches (R336, Table 7-10): the slots and segments that they formed and that nothing which stands lies in are orphans. The
slots go, the segments to ERASING. -/
def Dev.reclaim (d : Dev) (gone : List Batch) : Dev :=
  let each (f : Nat → Dev → Rec → Dev) (d : Dev) : Dev := gone.foldl (fun d b => b.recs.foldl (fun d r => f b.group d r) d) d
  let slot (g : Nat) (d : Dev) (r : Rec) : Dev := match r with
    | .mmapSet i s _ _ _ _ _ _ =>
      if (d.slot g i).any (fun k => decide (k.segment = s)) && !d.slotNamed g i then d.modGroup g fun x => { x with slots := tdel x.slots i } else d
    | _ => d
  let seg (g : Nat) (d : Dev) (r : Rec) : Dev := match r with
    | .segForm s blocks _ _ =>
      if (d.seg g s).any (fun x => decide (x.blocks = blocks) && (decide (x.state = .open_) || decide (x.state = .sealed))) && (d.slotsIn g s).isEmpty
      then d.applyRec g (.segErase s) else d
    | _ => d
  each seg (each slot d)

/-- The rows that power loss has cut short, by LOGSEQ, that are gone: their segments hold no whole stripe there. -/
def Dev.dropRows (d : Dev) (f : Nat × Row → Bool) : Dev :=
  let d := (d.rows.filter f).foldl (fun (d : Dev) e => d.modSeg e.2.group e.2.segment fun y => { y with holes := y.holes ++ [(e.2.row, e.2.found.any fun u => decide (u ≠ .unwritten))] }) d
  { d with rows := d.rows.filter fun e => !f e }

/-- The batches of some groups that stand: those up to the first whose records are lost, and of these not the ones that need a lost row (Table 8-3: its
batches are not applied). What the others formed is reclaimed, but for the slots and segments that those which stand name. -/
def Dev.keepBatches (d : Dev) (mine : Nat → Bool) (logged needed : Batch → Bool) : Dev × List Batch :=
  let kept := d.groups.flatMap fun e => if mine e.1 then ((d.batchesOf e.1).takeWhile logged).filter needed else d.batchesOf e.1
  let stands (b : Batch) : Bool := kept.any fun k => decide (k.group = b.group) && decide (k.first = b.first)
  let gone := d.batches.filter fun b => !stands b
  ({ d with batches := d.batches.filter stands }.reclaim gone, gone)

/-- What flash holds of the log, `held` being the rows that stand in the dump besides those programmed, and `logs` the groups whose records are dumped
whole; a row that is cut short counts until a boot has verified it. -/
def Dev.keepWhole (d : Dev) (held logs : Nat → Bool) : Dev :=
  let there (w : Row) (l : Nat) : Bool := decide (w.state = .programmed) || !w.found.isEmpty || held (rowKey w.group l)
  let row (g l : Nat) : Bool := match d.row g l with | some w => there w l | none => true
  let d := { d with batches := d.batches.map fun (b : Batch) => if logs b.group then { b with placed := true, durable := true } else b }
  let t := d.keepBatches (fun _ => true) (fun b => b.durable || b.placed && (d.recordRows b).all fun e => there e.2 e.1) fun b => b.needs.all (row b.group)
  let d : Dev := t.1.batches.foldl (fun (d : Dev) (b : Batch) => d.markMapped b) t.1
  d.dropRows fun e => !there e.2 (e.1 % 2 ^ 40)

/-! ### What a reset keeps -/

/-- Fields that keep their value over power-on too: the anchor store's, the fuses', and counts since manufacture. -/
def lastingFields : List Fld :=
  [MAP_SPARE_DIES_RETIRED, SCH_SPARES_FAILED, DRC_PPR_REPAIRS, THM_REC_STAT_UNACKED, THM_REC_STAT_OVERFLOW, THM_REC_STAT_TRIPS
   , TOP_ROLLBACK_FLOOR]
    ++ (upTo 17).map ETH_PORT_PTP_ASYM ++ (upTo 32).flatMap fun i => [TIME_TC_TEMP i, TIME_TC_PPB i]

/-- Fields that keep their value over RESET_N. -/
def keptFields : List Fld :=
  lastingFields ++ (upTo 64).map FLP_CTL_ENABLE ++ (upTo 16).map CMP_ENG_KAT_FAIL ++ (upTo 32).map CIP_LANE_KAT_FAIL
    ++ (upTo 64).map DIG_LANE_KAT_FAIL ++ (upTo 136).map TINT_CORE_FAILED
    ++ [SCH_SPARES_LEFT, PEER_LINK_SPARE_USED, PEER_HB_TAKEOVERS, DRC_PPR_MAPPED, TOP_LDPC_SPARE_HARD, TOP_LDPC_SPARE_SOFT, SEC_STAT_ES_FAILED
        , SEC_STAT_KEYS_SEALED]
    ++ (upTo 16).map STN_SPARE_LEFT ++ (upTo 4).flatMap (fun q => [TMEM_SPARE_TILES q, TMEM_SPARE_ROWS_USED q, TMEM_SPARE_WITHDRAWN q])
    ++ (upTo 32).map THM_SENS_PEAK ++ [SEC_ES_CNT_RCT_FAIL, SEC_ES_CNT_APT_FAIL]

/-- A tenant over a reset: counters, events, notes, shares and key limits at their reset values, lifecycle and definition kept, logging
ended (R18, R595, R612, R619, Table 15-1). TW_SHARE_BW and TW_SHARE_KIOPS go to the Reset column of Table 15-1, not to the 0 of the sentence under
Table 15-4 (DEDUCED, log 47). -/
def Tenant.rebooted (t : Tenant) : Tenant :=
  { t with
    bandwidth := 190000, kiops := 100000, quota := 192, reserve := 0, cores := 4, prioCeil := 3, maxDomains := 4, maxSlots := 2
    enableHeld := none, quiesceHeld := [], events := 0, eventCount := 0, clampCount := 0, deferOvf := 0, spoofDrops := 0, spoofSince := 0
    spoofAt := none, misses := 0, droppedBytes := 0, commands := 0, readBytes := 0, writtenBytes := 0, waitShare := 0, waitBuf := 0
    migr := none, migrOut := 0, notesM := List.replicate 4 0, notesT := List.replicate 2 0 }

/-- A stream over a reset: closed, what STRM_STAT, STRM_COUNT and STRM_OVER show at its reset value (R18); its time index is kept, and with it the
other figures of STREAM_QUERY (log 47). -/
def Strm.rebooted (s : Strm) : Strm :=
  { s with isOpen := false, atRisk := false, clearSince := none, pLat := 0, misses := 0, unindexed := 0, overBytes := 0 }

/-- A GCM key's counter over a reset (R482). -/
def Gcm.rebooted (g : Gcm) : Gcm := { counter := g.reserved, reserved := g.reserved, seen := g.seen }

/-- A program over a reset (R539, R540): its counts, its last trap and STATE_RESET at their reset values (R18). -/
def Prog.rebooted (p : Prog) : Prog := { p with resident := false, state := [], stateReset := false, traps := 0, last := .none_, misses := 0 }

/-- A segment over a reset (R336): what an evacuation had read is read again, unless its SEG_ERASE is on flash; an erase runs again. -/
def Seg.rebooted (x : Seg) (erased : Bool) : Seg :=
  { x with evacuated := false, moves := [], erasing := [], issued := erased, erasable := decide (x.state = .erasing)
           claim := if x.claim = some .rebuild then none else x.claim }

/-- A group over a reset: no space reserved, the block that a rebuild was writing given up unless a durable SEG_FORM names it (R394), the COMMIT before the first row that is not retired. -/
def Group.rebooted (g : Group) (n : Nat) (rows : Tbl Row) (batches : List Batch) : Group :=
  let erased (s : Nat) : Bool := batches.any fun b => decide (b.group = n) && b.recs.contains (.segErase s)
  { g with
    reserved := 0, verify := []
    state := if g.state = .verifying then g.faultState else g.state
    rebuildBlock := g.rebuildBlock.filter fun b => (g.rebuild.any fun r => formsWith batches n r.1 b)
    segs := tmap g.segs fun s x => x.rebooted (erased s)
    committed := ((rows.filter fun e => decide (e.1 / 2 ^ 40 = n)).map fun e => e.1 % 2 ^ 40 - 1).foldl Nat.min (g.nextLogseq - 1) }

/-- A die over a reset: it is not yet found again; the age of its block groups on the part's own side is still to grow by the time the part is off (R348);
the block that a rebuild was writing is an orphan (R394). -/
def Die.rebooted (x : Die) (home : Bool) (orphan : Option Nat) : Die :=
  let x := match orphan with | some b => x.modBlk b fun k => { k with state := .erasing } | none => x
  { x with used := false, retried := none, groups := tmap x.groups fun _ g => { g with due := g.due || home } }

/-- The part in reset: what flash, the anchor store and the fuses hold is kept, with the dumped rows; every register is at its reset
value but for those that survive, and nothing that was running goes on. -/
def Dev.resetNow (d : Dev) (powerOn : Bool) : Dev :=
  let kept := if powerOn then lastingFields else keptFields
  let regs := kept.foldl (fun (r : RegFile) f => r.setFld f (d.rd f)) Dev.reset.regs
  let out (r : RegFile) (fail service : Fld) : RegFile := if r.fld fail = 1 then r.setFld service 0 else r
  let regs := (upTo 16).foldl (fun (r : RegFile) e => out r (CMP_ENG_KAT_FAIL e) (CMP_ENG_IN_SERVICE e)) regs
  let regs := (upTo 32).foldl (fun (r : RegFile) l => out r (CIP_LANE_KAT_FAIL l) (CIP_LANE_IN_SERVICE l)) regs
  let regs := (upTo 64).foldl (fun (r : RegFile) l => out r (DIG_LANE_KAT_FAIL l) (DIG_LANE_IN_SERVICE l)) regs
  let tenants := tmap d.tenants fun _ t => t.rebooted
  let ends := tkeys d.sessions fun _ _ => true
  let rows := d.rows.filter fun e => d.boot.dumped.contains e.1 || decide (e.2.state = .programmed) || !e.2.found.isEmpty
  let rows := tmap rows fun _ w => { w with bufs := [], linkSeq := none, mirrored := false }
  let b := d.boot
  let boot0 := Boot.reset
  { Dev.reset with
    now := d.now
    draws := d.draws
    out := d.out
    regs := regs
    tenants := tenants
    nextCmd := d.nextCmd
    nextXfer := d.nextXfer
    eth := { Dev.reset.eth with nextQpn := d.eth.nextQpn }
    time := { TimeBase.reset with residual := d.time.residual }
    evt := { recs := [], next := d.evt.next, readTo := none, suppressed := [], limited := [], ibi := none }
    streams := tmap d.streams fun _ s => s.rebooted
    vols := d.vols
    vgens := d.vgens
    crecs := tmap d.crecs fun _ c => { c with holds := 0 }
    index := d.index
    sessions := d.sessions.filter fun e => ends.contains e.1 && e.2.receiver && !e.2.wrote.isEmpty
    batches := d.batches
    groups := tmap d.groups fun n g => g.rebooted n rows d.batches
    rows := rows
    overlay := d.overlay
    jpages := d.jpages
    nextJseq := d.nextJseq
    ckpt := { tail := d.ckpt.tail, cycle := none, dirty := d.ckpt.dirty, held := [], todo := none, past := d.ckpt.past }
    sysFrags := d.sysFrags
    dies := tmap d.dies fun n x => x.rebooted (homePort d.side (diePort n)) (d.groups.findSome? fun e =>
      e.2.rebuild.bind fun r => if r.1 = n then e.2.rebuildBlock.filter fun b => !formsWith d.batches e.1 r.1 b else none)
    nextRead := d.nextRead
    nextOrder := d.nextOrder
    outOfService := if powerOn then [] else d.outOfService
    progs := tmap d.progs fun _ p => p.rebooted
    progGens := d.progGens
    bindings := d.bindings.filter fun k => k.binder.isNone && k.ended.isNone
    peer := { Peer.reset with owed := d.peer.owed, partner := d.peer.partner }
    sec := { d.sec with
      gcm := tmap d.sec.gcm fun _ g => g.rebooted
      cache := []
      wanted := []
      entropy := if powerOn then Entropy.reset else d.sec.entropy }
    stencil := if powerOn then Stencil.reset else { Stencil.reset with failed := d.stencil.failed, out := d.stencil.out }
    tmem := { Tmem.reset with rowsUsed := d.tmem.rowsUsed, withdrawn := d.tmem.withdrawn }
    dram := { Dram.reset with soft := d.dram.soft, resources := d.dram.resources, pageSpares := d.dram.pageSpares }
    thermal := { Thermal.reset with records := d.thermal.records }
    boot := { boot0 with
      record := b.record, images := b.images, fuses := b.fuses, dumped := b.dumped, dumpedDone := b.dumpedDone, dumpAt := b.dumpAt, dumpEnd := b.dumpEnd, dumpRec := b.dumpRec, root := b.root, dumpFails := b.dumpFails, heads := d.journalHeads, dumpStamp := b.dumpStamp, lostData := b.lostData
      lost := b.lost
      unapplied := b.unapplied
      owed := b.owed, mirrorJrn := if d.linked then d.journal.filter fun e => decide (e.type = 1) && e.mirrored else b.mirrorJrn
      offTemps := b.offTemps, offTop := b.offTop, breaches := b.breaches, meas := if powerOn then [] else b.meas
      measCount := if powerOn then [] else b.measCount }
    life := d.life
    pins := { ir := 0, i3c := if powerOn then none else d.pins.i3c, thermtrip := d.pins.thermtrip && !powerOn, pwrfail := d.pins.pwrfail } }

/-- The deferred records of acknowledged changes whose batches wait for the verification of a row (R386), with the group and the first MLSEQ of each. -/
def Dev.owedNow (d was : Dev) : List (Nat × Nat × Nat × Deferred) :=
  let unsure (b : Batch) : Bool := (d.rows.any fun e => decide (e.2.group = b.group) && !e.2.found.isEmpty &&
    (b.needs.contains (e.1 % 2 ^ 40) || e.2.items.any fun i => decide (i.cargo = .records b.group b.first)))
  (d.batches.filter unsure).filterMap fun b => b.cmd.bind fun id => (tget was.cmds id).bind fun c =>
    let gs := (c.grains.filter fun y => y.2.issued && !y.2.mapped && decide (c.pieceOf y.1 = b.piece)).map (·.1)
    if !c.owes ∨ gs.isEmpty then none else
      some (b.group, b.first, c.tenant, c.deferredOf gs (if was.dumping && was.journalNames id then .holdupShort else .journalLost))

/-- The deferred records that stand for the data which a whole dump alone holds, should it be discarded (R339, R386). -/
def Dev.noteDump (d : Dev) : Dev :=
  { d with boot := { d.boot with unapplied := d.lostWrites.map fun e => (e.2.tenant, e.2.deferredAs .journalLost) } }

/-- What a whole dump and the flash hold: data that had not passed write step 14 is discarded, with the batches that name it (Table 1-6). -/
def Dev.keepDumped (d : Dev) : Dev := d.keepWhole (fun k => d.boot.dumped.contains k) fun _ => true

/-- A part loses what is not on flash: a dump that has not reached STATE 2 leaves the rows it has programmed, and acknowledged writes of the others are
deferred (R340, R386), those apart that the next boot has to verify rows for (R384); what an earlier dump holds that no boot has applied stands (R339). -/
def Dev.loseRest (d : Dev) : Dev :=
  let was := d
  let done := if d.dumping then d.boot.dumpedDone else d.boot.dumped
  let logs (g : Nat) : Bool := (d.dumping || d.dumpStands) &&
    let l := d.boot.dumped.filter fun k => decide (k / 2 ^ 40 = g) && !thas d.rows k
    !l.isEmpty && l.all done.contains
  let d := { d with boot := { d.boot with dumpedDone := done } }.cutShort fun _ => true
  let d := d.keepWhole (fun k => done.contains k) logs
  let lost := d.boot.lost ++ d.lostRecords was
  let owed := d.boot.owed ++ d.owedNow was
  let off := match d.boot.dumpStamp with | some t => some t | none => some d.stamp
  { d with boot := { d.boot with dumped := done, dumpStamp := off, lostData := !lost.isEmpty || d.dumping || d.boot.lostData, lost := lost, owed := owed } }

/-- Power is lost (R337, R340): whole where the dump has had its time and reached STATE 2. -/
def Dev.losePower (d : Dev) : Dev :=
  let d := d.lastReadings
  if d.dumping ∧ d.dumpDone then d.noteDump.keepDumped.resetNow true else d.loseRest.resetNow true

/-- A reset after a dump: what the dump could not take is lost. -/
def Dev.resetDumped (d : Dev) : Dev := if d.dumping ∧ d.boot.dumpEnd.isNone then d.loseRest.resetNow false
  else if d.dumping then d.noteDump.keepDumped.resetNow false else d.resetNow false

/-- A reset that runs the dump first where there is anything to dump (R806, R808). -/
def Dev.resetClean (d : Dev) : Dev :=
  let d := d.lastReadings
  let d := if d.unprogrammed then d.dump.endDump else d
  let d := if d.rd PWR_STAT_STATE = 4 then d else { d with boot := { d.boot with dumpStamp := some d.stamp } }
  d.resetDumped

/-- The meaning of PWRFAIL_N_FALL (R337, R740, R807): the dump where there is unprogrammed data, then parking. -/
def execPwrfailNFall (s : State) : Host.Outcome State Fault Refusal :=
  onDev (fun d =>
    let d := { d with pins := { d.pins with pwrfail := true } }
    if d.boot.phase = .reset ∨ d.boot.phase = .parked ∨ d.boot.phase = .test then d
    else d.dump.lastReadings) s

/-- The meaning of PWRFAIL_N_RISE (R808): high for 10 ms after parking, the part resets itself. -/
def execPwrfailNRise (s : State) : Host.Outcome State Fault Refusal :=
  onDev (fun d =>
    let d := { d with pins := { d.pins with pwrfail := false } }
    if d.boot.phase ≠ .parked ∨ !d.dumpOver then d else (d.emit .restart).resetDumped) s

/-- The meaning of RESET_N_FALL (R806): dump and parking where data is not yet programmed, then reset. -/
def execResetNFall (s : State) : Host.Outcome State Fault Refusal :=
  onDev (fun d => if d.boot.phase = .reset then d else d.resetClean) s

/-- The meaning of SUPPLY_DROP (R809): the part resets as at power-on. -/
def execSupplyDrop (s : State) : Host.Outcome State Fault Refusal := onDev (fun d => d.losePower) s

/-- The meaning of WATCHDOG (R763): 30 s after boot without command acceptance the part resets itself as RESET_N does. -/
def execWatchdog (s : State) : Host.Outcome State Fault Refusal :=
  onDev (fun d => match d.boot.watchdog with
    | some t => if d.now < t + sNs 30 then d else (d.emit .restart).resetNow false
    | none => d) s

end Sys2Proof.Machine
end

