-- ==== Sys2Proof/Machine/Verify.lean ====
section
/-! DEFINITION. What a boot finds of rows that power loss has cut short (R279, R384–R386, Table 8-3): the write points of open segments, the
verification of rows, the VERIFYING state of groups whose stripe journal cannot be read. The reads take no time of their own (DESIGN CHOICE, log 133). -/

namespace Sys2Proof.Machine

/-- Outcomes of the verification of a row (Table 8-3): programmed; programmed, and reopened; unprogrammed. -/
inductive Verdict where
  | sound | reopen | lost
  deriving DecidableEq, Repr

/-- Table 8-3 for a row whose units hold `us`, with k of them P and Q. With k units missing no parity is left to check. A row with fewer missing in
which what is left does not check is unprogrammed: Table 8-3 does not name it (DEDUCED, log 133). -/
def verdict (k : Nat) (us : List UnitFound) : Verdict :=
  let missing := countP us fun u => decide (u = .unwritten) || decide (u = .bad)
  let wrong := countP us fun u => decide (u = .wrong)
  if k < missing then .lost
  else if missing = 0 then (if wrong = 0 then .sound else if k = 2 ∧ wrong = 1 then .reopen else .lost)
  else if wrong = 0 ∨ missing = k then .reopen else .lost

/-- The units of a row as they are read: one on a member that has failed cannot be. -/
def Dev.unitsNow (d : Dev) (g : Nat) (w : Row) : List UnitFound :=
  let block (m : Nat) : Option (Nat × Nat) := (d.seg g w.segment).bind fun y => y.blocks.getD m none
  w.found.zipIdx.map fun u => match block u.2 with | some b => if d.readable g b.1 then u.1 else .bad | none => .bad

/-- The units of row r of a segment are read for verification, `us` being what each of them holds, or nothing where all are written: each page counts as
read (R343), and each codeword by its outcome (LDPC_CNT). -/
def Dev.readRow (d : Dev) (g s r : Nat) (us : List UnitFound) : Dev :=
  match d.seg g s, d.groupProfile g with
  | some y, some p =>
    let pages := 16 / Nat.max 1 p.cwPerPage
    (y.blocks.zipIdx.filterMap fun b => b.1.map fun k => (b.2, k)).foldl (fun (d : Dev) b =>
      if !d.readable g b.2.1 ∨ rowsIn p y.slc ≤ r then d else
      let d := (upTo pages).foldl (fun (d : Dev) _ => d.countRead b.2.1 b.2.2) d
      d.addSat (LDPC_CNT_COUNT (match us.getD b.1 .good with | .good => 0 | .wrong => 0 | .unwritten => 4 | .bad => 3)) 16) d
  | _, _ => d

/-- A row kept beside the journal, so that its log stripes are read from it until they have been programmed anew (R383, R384). -/
def Dev.holdRow (d : Dev) (g l : Nat) : Dev :=
  match d.row g l, d.group g with
  | some w, some x =>
    let j : Jrn := { type := 1, group := g, segment := w.segment, logseq := l, jseq := w.jseq, row := w.row, slotA := w.slotA, slotB := w.slotB }
    let m := d.peer.mirror
    { d with peer := { d.peer with mirror := { m with data := tput m.data (rowKey g l) (w.payload x.n), journal := m.journal ++ [j] } } }
  | _, _ => d

/-- A row of a segment holds no whole stripe, `begun` telling whether its programs had begun. -/
def Dev.noteHole (d : Dev) (w : Row) (begun : Bool) : Dev := d.modSeg w.group w.segment fun y => { y with holes := y.holes ++ [(w.row, begun)] }

/-- Verification of a row that power loss has cut short (R384, Table 8-3): read, and found programmed, programmed with units to be made good, or
unprogrammed. -/
def Dev.verifyRow (d : Dev) (g l : Nat) : Dev :=
  match d.row g l, d.group g with
  | some w, some x =>
    let us := d.unitsNow g w
    let d := d.readRow g w.segment w.row us
    match verdict (geoK x.geometry) us with
    | .sound => (d.modRow g l fun w => { w with found := [] }).rowProgrammed g l
    | .reopen => (((d.holdRow g l).noteHole w true).modRow g l fun w => { w with found := [] }).rowProgrammed g l
    | .lost => d.modRow g l fun w => { w with state := .closed }
  | _, _ => d

/-- The deferred records of the batches of a group that are gone, one for each write: the first of its sectors, and all of them (R110, R386). -/
def Dev.tellLost (d : Dev) (g : Nat) (gone : List Batch) : Dev :=
  let mine := d.boot.owed.filter fun e => decide (e.1 = g) && gone.any fun b => decide (b.group = g) && decide (b.first = e.2.1)
  let one (l : List (Nat × Deferred)) (e : Nat × Nat × Nat × Deferred) : List (Nat × Deferred) :=
    let r := e.2.2.2
    let same (x : Nat × Deferred) : Bool := decide (x.1 = e.2.2.1) && decide (x.2.queue = r.queue) && decide (x.2.seq = r.seq)
    if l.any same then l.map fun x => if same x then (x.1, { x.2 with lba := Nat.min x.2.lba r.lba, sectors := x.2.sectors + r.sectors }) else x
    else l ++ [(e.2.2.1, r)]
  let lost := mine.foldl one []
  let d := { d with boot := { d.boot with owed := d.boot.owed.filter fun e => decide (e.1 ≠ g) } }
  if lost.isEmpty then d
  else lost.foldl (fun (d : Dev) e => d.deferRecord e.1 (e.1 * 16 + e.2.queue) e.2) (d.event 0x0F00 2 0 0 [0x0386])

/-- The rows of a group that power loss has cut short are verified: the batches of those found unprogrammed are not applied, and the acknowledged writes with
data in them are told (Table 8-3, R386). -/
def Dev.verifyRows (d : Dev) (g : Nat) : Dev :=
  let torn := (d.groupRows g).filter fun e => !e.2.found.isEmpty && !d.boot.dumped.contains (rowKey g e.1)
  if torn.isEmpty then d else
  let d := torn.foldl (fun d e => d.verifyRow g e.1) d
  let lost := ((d.groupRows g).filter fun e => !e.2.found.isEmpty && decide (e.2.state = .closed)).map (·.1)
  let records (b : Batch) : Bool := (d.recordRows b).any fun e => lost.contains e.1
  let t := d.keepBatches (fun k => decide (k = g)) (fun b => b.durable || !records b) fun b => !b.needs.any lost.contains
  let d := t.1.dropRows fun e => decide (e.1 / 2 ^ 40 = g) && lost.contains (e.1 % 2 ^ 40)
  let d := { d with journal := d.journal.filter fun e => !(decide (e.group = g) && decide (e.type = 1) && lost.contains e.logseq) }
  d.tellLost g t.2

/-! ### Write points (R279) -/

/-- Rows of a segment that something has been put into. -/
def Dev.rowsBegun (d : Dev) (g : Nat) (y : Seg) : Nat := match d.group g with | some x => ceilDiv y.pos (x.n * unitBytes) | none => 0

/-- The write point of an open segment found: past the last of its rows whose pages are written, where each block that can be read has a page that reports
UNWRITTEN, unless it is written to its end (R279). -/
def Dev.findWritePoint (d : Dev) (g s : Nat) : Dev :=
  match d.seg g s, d.group g, d.groupProfile g with
  | some y, some x, some p =>
    let written (r : Nat) : Bool := match y.holes.find? fun h => decide (h.1 = r) with | some h => h.2 | none => true
    let top := (upTo (d.rowsBegun g y)).foldl (fun n r => cond (written r) (r + 1) n) 0
    let d := if rowsIn p y.slc ≤ top then d else
      ((y.blocks.filterMap id).filter fun b => d.readable g b.1).foldl (fun d b => (d.countRead b.1 b.2).bump (LDPC_CNT_COUNT 4)) d
    d.modSeg g s fun y => { y with rows := top, pos := Nat.min y.pos (top * (x.n * unitBytes)), holes := y.holes.filter fun h => decide (h.1 < top) }
  | _, _, _ => d

/-- OPEN segments in which anything is written, or whose rows the dump holds, are sealed at their write point and claimed at order 2. -/
def Dev.sealOpen (d : Dev) : Dev :=
  d.groups.foldl (fun d e =>
    (tkeys e.2.segs fun _ s => decide (s.state = .open_) && decide (s.place ≠ 3) && decide (0 < s.pos)).foldl (fun d s =>
      let d := d.findWritePoint e.1 s
      if (d.seg e.1 s).any (fun y => decide (y.rows = 0)) && !(d.groupRows e.1).any (fun r => decide (r.2.segment = s)) then d
      else (d.sealEarly e.1 s).claim e.1 s .media) d) d

/-! ### VERIFYING (R385) -/

/-- Rows from the write point of a segment backwards until 2,048 log stripes are covered. -/
def Dev.rowsBack (d : Dev) (g s : Nat) : List Nat :=
  match d.seg g s, d.group g with
  | some y, some x => (upTo y.rows).filter fun r => decide (y.rows ≤ r + 2048 * 16 / Nat.max 1 x.n)
  | _, _ => []

/-- The rows of a group's open segments are verified: those that no power loss has cut short are read whole (R385). -/
def Dev.verifySegments (d : Dev) (g : Nat) (segs : List Nat) : Dev :=
  let one (d : Dev) (s : Nat) : Dev :=
    let torn := (d.groupRows g).filter fun e => decide (e.2.segment = s) && !e.2.found.isEmpty
    ((d.rowsBack g s).filter fun r => !torn.any fun e => decide (e.2.row = r)).foldl (fun d r => d.readRow g s r []) d
  ((segs.foldl one d).verifyRows g).reopen fun k => decide (k = g)

/-- A group whose journal no copy of can be read enters VERIFYING; in READ_ONLY, from which Table 8-5 has no way there, its rows are verified at once, and in
OFFLINE nothing is. -/
def Dev.enterVerifying (d : Dev) (g : Nat) : Dev :=
  match d.group g with
  | none => d
  | some x =>
    let open_ := tkeys x.segs fun _ s => decide (s.state = .open_) && decide (s.place ≠ 3)
    if x.state = .offline then d
    else if x.state = .readOnly then d.verifySegments g open_
    else (d.setGroupState g .verifying).modGroup g fun x => { x with verify := open_ }

/-- VERIFYING ends once the rows have been verified: the group goes to the state that its member faults give (Table 8-5), and what waits for it goes on. It
takes one tick of the block's clock (DESIGN CHOICE, log 133). -/
def Dev.endVerifying (d : Dev) : Dev :=
  let gs := tkeys d.groups fun _ x => decide (x.state = .verifying)
  if gs.isEmpty ∨ d.dumping then d else
  (gs.foldl (fun (d : Dev) g => match d.group g with
    | some x =>
      let d := d.verifySegments g x.verify
      let d := x.verify.foldl (fun d s => d.sealIfDone g s) d
      (d.modGroup g fun y => { y with verify := [] }).setGroupState g x.faultState
    | none => d) d).settle

end Sys2Proof.Machine
end

