-- ==== Sys2Proof/Machine/Boot.lean ====
section
/-! DEFINITION. Boot, recovery boot, firmware update and the life estimate (R39, R53, R58, R236, R339, R340, R384, R612, R619, R660, R671,
R676, R708, R709, R754, R756–R776, R782, R786, R794, R795). -/

namespace Sys2Proof.Machine

/-! ### Images (R756, R757) -/

/-- Bytes of an image. -/
def imageTotal (x : Image) : Nat := x.header.length + x.core.length + x.ext.length + x.vsig.length + x.osig.length

/-- BODY_DIGEST of an image's sections. -/
def bodyDigest (core ext : Bytes) : Bytes :=
  let b := core ++ ext
  sha256 ((chunks 65536 (ceilDiv b.length 65536) b).flatMap sha256)

/-- Fields of an image header (Table 21-1). -/
def imageCompat (x : Image) : Nat := le x.header 6 2
def imageVersion (x : Image) : Nat := le x.header 8 4
def imageSvn (x : Image) : Nat := le x.header 12 1

/-- MAGIC, FORMAT, PART and the lengths of a header. -/
def headerFits (h : Bytes) : Bool :=
  decide (h.length = 128) && decide (slice h 0 4 = [0x51, 0x5A, 0x46, 0x57]) && decide (le h 4 2 = 1) && decide (le h 16 2 = 0x7180)
    && bit (le h 16 4) 16 && decide (65536 ≤ le h 20 4) && decide (le h 20 4 ≤ 2097152) && decide (le h 20 4 % 65536 = 0)
    && decide (le h 24 4 % 65536 = 0)

/-- An image cut out of its bytes; none when its parts do not sum to its length or the length is out of range (R756). -/
def imageOf (b : Bytes) : Option Image :=
  let core := le b 20 4
  let ext := le b 24 4
  let v := le b 32 4
  let o := le b 36 4
  if b.length < 4096 ∨ 64 * oneMiB < b.length ∨ 128 + core + ext + v + o ≠ b.length then none
  else some { header := slice b 0 128, core := slice b 128 core, ext := slice b (128 + core) ext, vsig := slice b (128 + core + ext) v
              osig := slice b (128 + core + ext + v) o }

/-- What R757 finds of an image, but for SVN: everything verifies. -/
def Dev.imageSound (d : Dev) (x : Image) : Bool :=
  headerFits x.header && decide (x.core.length = le x.header 20 4) && decide (x.ext.length = le x.header 24 4)
    && decide (slice x.header 0x28 32 = bodyDigest x.core x.ext) && hssOk Config.vendorRoot x.header x.vsig && d.ownerOk x.header x.osig

/-- Whether the device accepts an image (R757). -/
def Dev.imageOk (d : Dev) (x : Image) : Bool := d.imageSound x && decide (d.boot.fuses ≤ (imageSvn x))

/-- The image a slot holds, if it is verified. -/
def Dev.slotImage (d : Dev) (s : Nat) : Option Image := (d.boot.images.getD s none).bind fun x => if d.imageOk x then some x else none

/-- A fetched header and core (R764): the frames carry neither extension nor signatures, so BODY_DIGEST is left to them and the verdict on
the signature is one that the specification does not fix (DEDUCED). -/
def Dev.fetchedImage (d : Dev) (b : Bytes) : Option Image :=
  let x : Image := { header := slice b 0 128, core := b.drop 128, ext := [], vsig := [], osig := [] }
  if headerFits x.header && decide (x.core.length = le x.header 20 4) && hssOk Config.vendorRoot x.header [] && d.ownerOk x.header []
    && decide (d.boot.fuses ≤ (imageSvn x)) then some x else none

/-- The boot record as its 64 bytes (Table 21-2). -/
def BootRec.bytes (r : BootRec) : Bytes :=
  let areas := (upTo 4).flatMap fun k => let a := r.areas.getD k (0, 0); toLE 4 (a.1 % 2048 + a.2 % 65536 * 65536)
  let b := toLE 1 r.active ++ toLE 1 (r.pending.getD 0xFF) ++ toLE 1 r.tries ++ toLE 1 (b2n r.update + 2 * b2n r.warm) ++ toLE 4 r.gen
    ++ areas ++ zeros 36
  b ++ toLE 4 (crc32c b)

/-- The boot record written (R761): its write count rises. -/
def Dev.writeRecord (d : Dev) (f : BootRec → BootRec) : Dev :=
  { d with boot := { d.boot with record := { (f d.boot.record) with gen := (d.boot.record.gen + 1) % 2 ^ 32 } } }

/-- Places of the boot areas (R758): die 0 of one home port per quadrant. -/
def bootPorts (side : Nat) : List Nat := (upTo 4).map (bootPort side)

/-- TOP_FW_VER and TOP_ROLLBACK as the slots stand. -/
def Dev.firmwareRegs (d : Dev) : Dev :=
  let ver (s : Nat) : Nat := match d.slotImage s with | some x => (imageVersion x) | none => 0
  let svn (s : Nat) : Nat := match d.slotImage s with | some x => (imageSvn x) | none => 0
  let a := d.boot.record.active
  ((((d.wr (TOP_FW_VER_VERSION 0) (ver 0)).wr (TOP_FW_VER_VERSION 1) (ver 1)).wr TOP_ROLLBACK_FLOOR d.boot.fuses).wr
    TOP_ROLLBACK_ACTIVE_SVN (svn a)).wr TOP_ROLLBACK_OTHER_SVN (svn (1 - a)) |>.wr TOP_BOOT_UPDATE (b2n d.boot.record.update)

/-! ### Command acceptance -/

/-- Whether the firmware accepts commands. -/
def Dev.accepting (d : Dev) : Bool := decide (d.boot.phase = .running) && d.boot.watchdog.isNone

/-- Segments of dump reserve that hold a dump go to ERASING (R326). -/
def Dev.clearReserve (d : Dev) : Dev :=
  d.groups.foldl (fun d e =>
    (tkeys e.2.segs fun _ s => decide (s.place = 3) && decide (s.state = .open_) && decide (0 < s.pos)).foldl (fun d s =>
      (d.applyRec e.1 (.segErase s)).eraseSegment e.1 s) d) d

/-- A journal entry as flash holds it; none where its ECRC does not match (Table 8-2, R380). Its log stripes are those of the row it names. -/
def Dev.entryRead (d : Dev) (b : Bytes) : Option JEntry :=
  if le b 0x38 4 ≠ crc32c (b.take 0x38) then none else
  let w := d.row (le b 1 1) (le b 8 8)
  some { type := le b 0 1, group := le b 1 1, segment := le b 4 4, logseq := le b 8 8, jseq := le b 0x30 8, row := le b 0x18 2
         slotA := w.elim 0 (·.slotA), slotB := w.elim 0 (·.slotB), onA := false, onB := false, linkSeq := none, mirrored := false }

/-- The entries in the journal blocks of a member from the head of the anchor store on: its block in use then, and the others that still hold live
entries. -/
def Dev.memberEntries (d : Dev) (head : List (Nat × Nat)) (k : Member) : List JEntry :=
  let blocks := (((head.filter fun b => decide (b.1 = k.die)).map Prod.snd) ++ k.jblocks.map Prod.fst).eraseDups
  blocks.flatMap fun b => ((tget d.jpages (blockKey k.die b)).getD []).filterMap d.entryRead

/-- The live STRIPE entries of a group as the boot finds them on both members of the journal pair: the union of what each holds, from the oldest live
JSEQ on and past the last COMMIT, in JSEQ order (R380). -/
def Dev.journalFound (d : Dev) (g : Nat) (x : Group) (h : List (Nat × Nat) × Nat × Nat) : List JEntry :=
  let live (e : JEntry) : Bool := decide (e.type = 1) && decide (e.group = g) && decide (h.2.1 ≤ e.jseq) && decide (h.2.2 < e.logseq)
  let on (a : Bool) : List JEntry := (x.pair.filter fun m => m.2.2 == a).flatMap fun m => match x.member m.1 with
    | some k => (d.memberEntries h.1 k).filter live
    | none => []
  let a := on true
  let b := on false
  let all := (a ++ b.filter fun e => !a.any fun f => decide (f.jseq = e.jseq)).mergeSort fun e f => decide (e.jseq ≤ f.jseq)
  all.map fun e => { e with onA := a.any fun f => decide (f.jseq = e.jseq), onB := b.any fun f => decide (f.jseq = e.jseq) }

/-- The stripe journal read at boot (R380). An entry of a dumped row, or of a row that flash does not hold, has nothing left to stand for (R384, Table
8-3). The rows that the power loss has cut short are verified. Of a group neither of whose members can be read the copy in the partner's mirror serves, where the
pair is linked; with no copy at all the group enters VERIFYING (R385). -/
def Dev.readJournal (d : Dev) : Dev :=
  let live (e : JEntry) : Bool := (d.row e.group e.logseq).isSome && !d.boot.dumped.contains (rowKey e.group e.logseq)
  let unread := tkeys d.groups fun g x => thas d.boot.heads g && x.pair.isEmpty
  let found := d.groups.flatMap fun e => match tget d.boot.heads e.1 with
    | some h => if unread.contains e.1 then d.boot.mirrorJrn.filter fun j => decide (j.group = e.1) && d.linked && live j else (d.journalFound e.1 e.2 h).filter live
    | none => []
  let blind := unread.filter fun g => !d.linked || !d.boot.mirrorJrn.any fun j => decide (j.group = g)
  let d := (tkeys d.groups fun g _ => !blind.contains g).foldl (fun d g => d.verifyRows g) { d with journal := found }
  let d := blind.foldl (fun d g => d.enterVerifying g) d
  { d with boot := { d.boot with mirrorJrn := [] } }.wr ARR_JRN_STAT_FREE (32768 - d.journal.length)

/-- The dump record holds nothing any more. -/
def Dev.endDumpRecord (d : Dev) : Dev :=
  { d with boot := { d.boot with dumped := [], dumpedDone := [], dumpAt := none, dumpEnd := none, dumpRec := [], unapplied := [] } }

/-- The dump applied (R384): each dumped row counts as programmed, its records as durable; its log stripes are programmed anew from what was
dumped, and read from it until then. -/
def Dev.applyDump (d : Dev) : Dev :=
  let keys := (d.rows.map (·.1)).filter d.boot.dumped.contains
  let d := { d with batches := d.batches.map fun b => { b with placed := true, mirrored := false, linkSeq := none } }
  let entry (d : Dev) (k : Nat) : Dev :=
    let g := k / 2 ^ 40
    let l := k % 2 ^ 40
    match d.row g l with
    | some w =>
      let begun := decide (w.state = .programmed) || w.found.any fun u => decide (u ≠ .unwritten)
      (((d.holdRow g l).noteHole w begun).modRow g l fun w => { w with found := [] }).rowProgrammed g l
    | none => d
  let d := keys.foldl entry d
  d.endDumpRecord.clearReserve.settleLog

/-- The dump is discarded: told, its segments on the way to ERASING. -/
def Dev.dropDump (d : Dev) : Dev :=
  let n := d.boot.dumpStripes
  let had := decide (d.boot.dumpState ≠ 0)
  let d := d.endDumpRecord.clearReserve
  if had then ((d.wr MAP_DUMP_STAT_LAST 3).wr MAP_DUMP_STAT_STRIPES n).event 0x0504 0 0 0 [n] else d

/-- The dump discarded because the partner has served the home side since (R339): nothing of what it held is lost. -/
def Dev.discardDump (d : Dev) : Dev :=
  { d.dropDump with rows := [], batches := [], boot := { d.dropDump.boot with lostData := false, lost := [], owed := [], mirrorJrn := [] } }

/-- The dump discarded because no pairing shows whether the partner has served the home side since (R339). The part serves its side from what its flash
holds, with deferred records of the acknowledged writes whose data the dump alone held (R386; DEDUCED, log 166). -/
def Dev.discardUnpaired (d : Dev) : Dev :=
  if d.boot.dumpState = 0 then d else
  let late := d.boot.unapplied
  let d := d.dropDump.keepWhole (fun _ => false) (fun _ => false)
  { d with boot := { d.boot with lostData := d.boot.lostData || !late.isEmpty, lost := d.boot.lost ++ late } }

/-- What boot finds of the dump (R339, R340, R386): applied whole; incomplete, with a device-fault event, the rows it holds applied; or lost data without
a dump. The deferred
records that it adds are in no queue's DEFERRED or DCOUNT: no queue exists yet, and one bound later under the number starts anew, a choice
(DESIGN CHOICE, log 126; R110, R612). -/
def Dev.findDump (d : Dev) : Dev :=
  let told (d : Dev) : Dev :=
    d.boot.lost.foldl (fun (d : Dev) (e : Nat × Deferred) => d.deferRecord e.1 (e.1 * 16 + e.2.queue) e.2) (d.event 0x0F00 2 0 0 [0x0340])
  if d.boot.lostData then
    let d := told d
    let d := { d with boot := { d.boot with lostData := false, lost := [] } }
    if d.boot.dumpState ≠ 0 then ((d.wr MAP_DUMP_STAT_LAST 2).wr MAP_DUMP_STAT_STRIPES d.boot.dumpStripes).applyDump else d
  else if d.boot.dumpState ≠ 0 then ((d.wr MAP_DUMP_STAT_LAST 1).wr MAP_DUMP_STAT_STRIPES d.boot.dumpStripes).applyDump
  else d

/-- Tenants restored with no queues (R612); a logging that ended is told (R619). -/
def Dev.restoreTenants (d : Dev) : Dev :=
  let one (t : Tenant) : Tenant := match t.life with
    | .on => { (t.fullBuckets d.now) with inc := (t.inc + 1) % 65536 }
    | .draining => { (t.fullBuckets d.now) with life := .on, inc := (t.inc + 1) % 65536 }
    | .quiesced => { t with inc := (t.inc + 1) % 65536 }
    | .off => t
  let logs := tkeys d.tenants fun _ t => t.migr.isSome
  logs.foldl (fun d t => d.event 0x0F00 0 0 t [0x0619]) { d with tenants := tmap d.tenants fun _ t => { (one t) with migr := none } }

/-- The firmware begins to accept commands: the dump is applied or found wanting, receiving sessions' unfinished cycles are rolled back,
the slot booted becomes ACTIVE (R763). -/
def Dev.acceptCommands (d : Dev) : Dev :=
  if d.boot.watchdog.isNone then d else
  let booted := d.rd TOP_BOOT_SLOT
  let d := d.readJournal.findDump
  let d := d.sealOpen.reopen fun g => d.ownGroups.contains g
  let d := (tkeys d.sessions fun _ _ => true).foldl (fun d n => d.rollBack n) d
  let d := { d with sessions := [] }
  let d := d.restoreTenants
  let d := (d.writeRecord fun r => { r with active := booted, pending := none, tries := 0 }).firmwareRegs
  let d := if booted = d.boot.firstSlot then d else d.event 0x0903 0 0 0 [0]
  { d with boot := { d.boot with watchdog := none } }.reserves.admRegs.spareRegs.settle

/-- The firmware begins to accept commands where no pairing has shown that the partner has not served the home side: a dump is discarded first (R339;
DEDUCED, log 166). A SOLO part has no partner, and its dump is applied. -/
def Dev.acceptUnpaired (d : Dev) : Dev :=
  if d.boot.watchdog.isNone then d else if d.solo then d.acceptCommands else d.discardUnpaired.acceptCommands

/-! ### Boot -/

/-- The rate code of DRC_SIZE.RATE and the size in GiB of a part's RDIMMs; none where R708 or R709 refuses them. -/
def dramConfig (sizes rates : List Nat) : Option (Nat × Nat) :=
  let s := sizes.headD 0
  let r := rates.foldl Nat.min 6400
  if sizes.length = 16 ∧ sizes.all (fun x => decide (x = s)) ∧ (s = 32 ∨ s = 64 ∨ s = 96 ∨ s = 128) ∧ rates.length = 16 ∧
      (r = 4800 ∨ r = 5600 ∨ r = 6400) then some (16 * s, (r - 4800) / 800) else none

/-- A shutdown record as its 64 bytes (Table 20-5). -/
def Shutdown.bytes (r : Shutdown) : Bytes :=
  let temp (i : Int) : Bytes := toLE 1 (unsigned 8 i)
  let b := toLE 1 r.rstate ++ toLE 1 r.sensor ++ toLE 1 r.cause ++ toLE 1 r.pstate ++ toLE 2 (unsigned 16 r.tripSet) ++ toLE 2 (unsigned 16 r.reading)
    ++ r.ondie.flatMap temp ++ r.remote.flatMap temp ++ stampBytes r.stamp ++ toLE 2 r.vcore ++ zeros 2 ++ toLE 4 r.trips
  b ++ toLE 4 (crc32c b)

/-- Anchor-store records replayed as events (R786, R249): newest first, LEDGER_BREACH with INSTANCE 0; neither is said, both are the model's choice
(DESIGN CHOICE, log 127). -/
def Dev.replay (d : Dev) : Dev :=
  let d := d.boot.breaches.foldl (fun (d : Dev) (b : Bytes × Bool) => if b.2 then d else d.eventRec 0x0101 2 0 0 true [] b.1) d
  let d := { d with boot := { d.boot with breaches := d.boot.breaches.map fun (b : Bytes × Bool) => (b.1, true) } }
  (d.thermal.records.filter fun (r : Shutdown) => decide (r.rstate = 1)).foldl (fun (d : Dev) (r : Shutdown) => d.eventRec 0x0301 2 0 r.sensor true [] r.bytes) d

/-- SEC at boot: leaves recovered (R660), erases resumed (R676), the metadata key of the own side drawn if there is none (R671), a nonce. -/
def Dev.secBoot (d : Dev) : Dev :=
  let r := d.sec.record.recover
  let d := { d with sec := { d.sec with record := r.1, leaf := r.2 } }.checkLeaves r.1 r.2
  let erased := tkeys d.sec.keys fun _ (k : KeyRec) => decide (k.rkind = 4)
  let d : Dev := erased.foldl (fun d p => d.destroyKey p) d
  let place := metaPlace (decide (d.side = 2))
  let d := if (d.recordAt place).isSome ∨ d.side = 0 then d else
    let t := d.random 32
    let r := t.1.random 32
    let k : KeyRec := { rkind := 3, index := 0, tenant := 0, gen := 1, t := t.2, r := r.2 }
    { r.1 with sec := { r.1.sec with keys := tput r.1.sec.keys place k } }
  let d := (d.wr SEC_STAT_OWNER (b2n d.sec.owner.isSome)).wr SEC_STAT_KEM_READY 1
  let d := (d.wr SEC_STAT_ES_READY (b2n (decide (d.sec.entropy.startLeft = 0) && !d.isSet SEC_STAT_ES_FAILED))).wr SEC_STAT_EXHAUSTED
    (b2n (decide (2 ^ 40 ≤ d.sec.leaf)))
  d.newNonce.keyRegs

/-- Enter recovery boot for a cause (R765). -/
def Dev.enterRecovery (d : Dev) (cause : Nat) : Dev :=
  { d with boot := { d.boot with phase := .recovery, fetch := none
                                 recovery := some { cause := cause, mac := none, bytes := [], total := 0, at_ := d.now } } }

/-- Whether the part is held in Stowed by R754. -/
def Dev.heldByTrip (d : Dev) : Bool := d.thermal.records.any fun r => decide (r.rstate = 1)

/-- The core firmware starts from a slot (R762 steps 4 and 5): measurements, versions, watchdog; ports are asked for; SOLO accepts commands, a
side goes on to pair. -/
def Dev.startFirmware (d : Dev) (slot : Nat) (x : Image) (source : Nat) : Dev :=
  let d := ((d.wr TOP_BOOT_SLOT slot).wr TOP_BOOT_SOURCE source).wr TOP_BOOT_WARM (b2n d.boot.record.warm)
  let d := d.extend 0 (padTo 32 Config.romDigest)
  let d := d.extend 1 (sha256 x.header)
  let d := d.extend 2 (match d.sec.owner with | some k => sha256 k | none => zeros 32)
  let d := d.extend 3 (sha256 (d.boot.record.bytes ++ toLE 1 d.boot.fuses))
  let d := d.extend 4 (sha256 x.ext)
  let d := d.drawn.extend 5 (padTo 32 (Config.freeBytes d.draws 32))
  let d := { d with
    boot := { d.boot with phase := .running, watchdog := some d.now, fetch := none, recovery := none }
    tenants := if thas d.tenants 0 then d.tenants else tput d.tenants 0 { Tenant.fresh 0 d.now with life := .on } }
  let d := d.firmwareRegs
  let port (n : Nat) : Port :=
    { enabled := d.isSet (FLP_CTL_ENABLE n), own := .free, askedAt := 0, profile := none, training := false, trainAt := 0, results := none, resetting := [], due := false, saved := false, trainedAt := 0, trainedTemp := 0, attempts := 0
      codewords := 0, heldAt := 0, reported := false, goodSince := none }
  let d := { d with ports := (upTo 64).map fun n => (n, port n), pools := (upTo 6).map fun p => (p, Pool.fresh p) }
  let d := (upTo 5).foldl (fun d p => d.poolRegs p) d
  if d.heldByTrip then
    ((d.wr PWR_STAT_STATE 3).wr PWR_STAT_THERMAL_HOLD 1).wr PEER_STAT_STATE (if d.solo then 5 else 2) |>.acceptUnpaired
  else
    let d := (if d.solo then upTo 64 else d.homePorts).foldl (fun d n => d.askPort n) d
    if d.solo then (d.wr PEER_STAT_STATE 5).acceptCommands else d.wr PEER_STAT_STATE 0

/-- The boot ROM's choice of a slot (R762): a trial is counted before the read, and given up after two. -/
def Dev.chooseSlot (d : Dev) : Dev × List Nat :=
  let r := d.boot.record
  match r.pending with
  | some p =>
    if r.tries < 2 then (d.writeRecord fun r => { r with tries := r.tries + 1 }, [p, r.active].eraseDups)
    else ((d.writeRecord fun r => { r with pending := none }).wr TOP_BOOT_REVERTED 1, [r.active, 1 - r.active])
  | none => (d, [r.active, 1 - r.active])

/-- Boot the first of some slots that holds a verified image, else recovery boot. -/
def Dev.bootSlots (d : Dev) (slots : List Nat) : Dev :=
  match slots.find? fun s => (d.slotImage s).isSome with
  | some s => match d.slotImage s with
    | some x => d.startFirmware s x 0
    | none => d
  | none => d.enterRecovery 1

/-- The die profiles the device accepts (R257, R261, R275): signed by the vendor, and by the owner where an owner key is enrolled, and sound. What
the signed bytes say stands beside them: the specification lays no profile out (DEDUCED). -/
def Dev.acceptedProfiles (d : Dev) (l : List SignedProfile) : List Profile :=
  (l.filter fun x => hssOk Config.vendorRoot x.body x.vsig && d.ownerOk x.body x.osig && x.content.sound).map (·.content)

/-- The boot ROM from the rising edge of RESET_N (R762), with what it finds outside the part. -/
def Dev.bootWith (d : Dev) (b : BootIn) : Dev :=
  let images := (upTo 2).map fun s => match d.boot.images.getD s none with
    | some x => some x
    | none => b.images.getD s none
  let d := { d with profiles := d.acceptedProfiles b.profiles, boot := { d.boot with given := some b, images := images } }
  let d := (d.wr TOP_STRAP_SIDE b.side.toNat).wr TOP_STRAP_STRAPS (b2n b.tcxo25 + 2 * b2n (!b.testmode))
  if b.testmode then { d with boot := { d.boot with phase := .test } } else
  let d := { d with evt := { d.evt with recs := [], next := (d.evt.next / 2 ^ 32 + 1) * 2 ^ 32 } }
  let d := d.replay
  if b.side.toNat = 0 then (d.event 0x0F00 2 0 0 [0x0053]).enterRecovery 2 else
  match dramConfig b.dimms b.rates with
  | none => ((d.wr DRC_SIZE_CONFIG_ERR 1).event 0x0906 2 0 0 [0, 0]).enterRecovery 3
  | some (gib, rate) =>
    let d := (d.wr DRC_SIZE_D_GIB gib).wr DRC_SIZE_RATE rate
    let d := (d.wr TOP_BOOT_AREAS_OK b.areasOk.toNat).secBoot
    let c := d.chooseSlot
    let d := { c.1 with boot := { c.1.boot with firstSlot := c.2.headD 0 } }
    let own := (bootPorts d.side).any b.granted.contains
    if own then d.bootSlots c.2
    else if d.solo then d.enterRecovery 1
    else { d with boot := { d.boot with phase := .fetch, fetch := some (c.2.headD 0, [], 0, d.now) } }

/-- The meaning of BOOT (R762). -/
def execBoot (b : BootIn) (s : State) : Host.Outcome State Fault Refusal :=
  onDev (fun d => if d.boot.phase = .reset then d.bootWith b else d) s

/-! ### Partner fetch (R764, R631) -/

/-- The REQUEST for the slot being fetched. -/
def Dev.askImage (d : Dev) (slot : Nat) : Dev :=
  d.linkPut (.fetch { op := 1, slot := BitVec.ofNat 8 slot, offset := 0, total := 0, data := [] })

/-- An image fetched from the partner is whole. -/
def Dev.fetchEnd (d : Dev) (slot : Nat) (b : Bytes) : Dev :=
  match d.fetchedImage b with
  | some x => d.startFirmware slot x 1
  | none => d.enterRecovery 1

/-- A BOOT_FETCH frame at the requester. -/
def Dev.fetchFrame (d : Dev) (f : FetchBody) : Dev :=
  match d.boot.phase, d.boot.fetch with
  | .fetch, some (slot, b, refusals, since) =>
    if f.slot.toNat ≠ slot then d else
    match f.op.toNat with
    | 2 => if f.offset.toNat = b.length then { d with boot := { d.boot with fetch := some (slot, b ++ f.data, refusals, d.now) } } else d
    | 3 => if f.total.toNat = b.length then d.fetchEnd slot b else { d with boot := { d.boot with fetch := some (slot, b, refusals, since) } }
    | 4 =>
      if refusals = 0 then { d with boot := { d.boot with fetch := some (1 - slot, [], 1, d.now) } }.askImage (1 - slot)
      else d.enterRecovery 1
    | _ => d
  | _, _ => d

/-- A BOOT_FETCH REQUEST at the partner (R631): while it holds the requester's home side, what the requester's boot areas hold, which
is not this part's to know, or REFUSED. -/
def Dev.fetchAnswer (d : Dev) (f : FetchBody) : Dev :=
  if f.op.toNat ≠ 1 ∨ d.fenced ∨ !d.peer.sole then d else
  if Config.freeBool d.draws then
    let d := d.drawn
    let n := 128 + 65536 * (1 + Config.freeNat d.draws % 32)
    let body := padTo n (Config.freeBytes d.draws n)
    let d := d.drawn
    let d := d.linkPut (.fetch { op := 2, slot := f.slot, offset := 0, total := BitVec.ofNat 32 n, data := body })
    d.linkPut (.fetch { op := 3, slot := f.slot, offset := 0, total := BitVec.ofNat 32 n, data := [] })
  else d.drawn.linkPut (.fetch { op := 4, slot := f.slot, offset := 0, total := 0, data := [] })

/-- The meaning of BOOT_FETCH_TIMEOUT (R764): no answer within 1 s. -/
def execBootFetchTimeout (s : State) : Host.Outcome State Fault Refusal :=
  onDev (fun d => match d.boot.phase, d.boot.fetch with
    | .fetch, some (_, _, _, since) => if since + sNs 1 ≤ d.now then d.enterRecovery 1 else d
    | _, _ => d) s

/-! ### Recovery boot (R765, R766) -/

/-- The recovery transfer, while the part is in recovery boot. -/
def Dev.recovering (d : Dev) : Option Recovery := if d.boot.phase = .recovery then d.boot.recovery else none

/-- The meaning of RECOVERY_HELLO (R765). -/
def execRecoveryHello (s : State) : Host.Outcome State Fault Refusal :=
  onDev (fun d => match d.recovering with | some r => d.emit (.recovery 1 r.cause) | none => d) s

/-- The meaning of RECOVERY_DATA (R765, R766). -/
def execRecoveryData (mac : BitVec 48) (offset total : Word32) (data : Bytes) (s : State) : Host.Outcome State Fault Refusal :=
  onDev (fun d => match d.recovering with
    | none => d
    | some r =>
      if r.mac.any (fun m => decide (m ≠ mac.toNat)) then d else
      let r := { r with mac := some mac.toNat, at_ := d.now, total := total.toNat }
      let fits := decide (offset.toNat = r.bytes.length) && decide (1 ≤ data.length) && decide (data.length ≤ 8192)
        && decide (r.bytes.length + data.length ≤ r.total)
      let r := if fits then { r with bytes := r.bytes ++ data } else r
      { d with boot := { d.boot with recovery := some r } }.emit (.recovery 3 r.bytes.length)) s

/-- The meaning of RECOVERY_DONE (R766): the image is checked, RESULT sent; when it passes it is written to slot A, and booted unless the
cause of the recovery stands. -/
def execRecoveryDone (mac : BitVec 48) (s : State) : Host.Outcome State Fault Refusal :=
  onDev (fun d => match d.recovering with
    | none => d
    | some r =>
      if r.mac ≠ some mac.toNat then d else
      match if r.bytes.length = r.total then imageOf r.bytes else none with
      | none => { d with boot := { d.boot with recovery := some { r with mac := none, bytes := [], at_ := d.now } } }.emit
          (.recovery 5 (Code.lengthInvalid.value % 256))
      | some x =>
        let code : Code := if !d.imageSound x then .signatureInvalid else if (imageSvn x) < d.boot.fuses then .rollback else .success
        let d := d.emit (.recovery 5 (code.value % 256))
        if code ≠ .success then { d with boot := { d.boot with recovery := some { r with mac := none, bytes := [], at_ := d.now } } }
        else
          let d := { d with boot := { d.boot with images := [some x, d.boot.images.getD 1 none] } }
          let d := d.writeRecord fun b => { b with active := 0, pending := none, tries := 0 }
          if r.cause = 1 then { d with boot := { d.boot with firstSlot := 0 } }.startFirmware 0 x 2
          else { d with boot := { d.boot with recovery := none } }) s

/-- The meaning of RECOVERY_TIMEOUT (R765): 10 s without a frame end the transfer. -/
def execRecoveryTimeout (s : State) : Host.Outcome State Fault Refusal :=
  onDev (fun d => match d.recovering with
    | none => d
    | some r =>
      if r.mac.isNone ∨ d.now < r.at_ + sNs 10 then d
      else { d with boot := { d.boot with recovery := some { r with mac := none, bytes := [], total := 0, at_ := d.now } } }) s

/-! ### Update (R760, R767–R773) -/

/-- TOP_FW_CTL.CONFIRM (R768). -/
def Dev.confirm (d : Dev) : Dev :=
  if d.isolated ∨ d.boot.record.pending.isSome then d.wr TOP_FW_CTL_ERR 1 else
  let own := match d.slotImage d.boot.record.active with | some x => (imageSvn x) | none => 0
  let his := match d.peer.hello with
    | some h => if d.linked then (if h.version.toNat = d.rd (TOP_FW_VER_VERSION d.boot.record.active) then own else Config.freeNat d.draws) else own
    | none => own
  let d := d.drawn
  let top := Nat.min 64 (Nat.max d.boot.fuses (Nat.min own his))
  { d with boot := { d.boot with fuses := top } }.firmwareRegs

/-- Whether an update is in progress on either part of the pair. -/
def Dev.updating (d : Dev) : Bool := d.boot.record.update || d.peer.hisUpdate

/-- FW_STAGE (R168, R756, R757, R760, R771): the payload is an image; it is written to the slot that is not ACTIVE. -/
def Dev.runFwStage (d : Dev) (id : Nat) : Dev :=
  match tget d.cmds id with
  | none => d
  | some c =>
    if d.updating then d.complete id .stateConflict 0 else
    match imageOf c.payload with
    | none => d.complete id .lengthInvalid 0
    | some x =>
      if !d.imageSound x then d.complete id .signatureInvalid 0
      else if (imageSvn x) < d.boot.fuses then d.complete id .rollback 0
      else
        let slot := 1 - d.boot.record.active
        let images := (upTo 2).map fun s => if s = slot then some x else d.boot.images.getD s none
        let d := { d with boot := { d.boot with images := images } }
        let d := if d.boot.record.pending = some slot then d.writeRecord fun r => { r with pending := none } else d
        d.firmwareRegs.succeed id (imageVersion x)

/-- FW_ACTIVATE (R169, R769, R770, R773): SLOT and MODE. The partner of a linked pair is told that UPDATE is set. DESIGN CHOICE (log 153): MODE 1 on
a paired part that is neither LINKED, isolated nor SOLO, and a second MODE 1 while one waits to restart, complete STATE_CONFLICT; R769 and
R773 say nothing of either. -/
def Dev.runFwActivate (d : Dev) (id slot mode : Nat) : Dev :=
  if 1 < slot ∨ 1 < mode then d.complete id .paramInvalid 0 else
  match d.slotImage slot with
  | none => d.complete id .stateConflict 0
  | some x =>
    let pend (d : Dev) (upd : Bool) : Dev :=
      if slot = d.boot.record.active ∧ mode = 0 then d.writeRecord fun r => { r with pending := none }
      else (d.writeRecord fun r => { r with pending := some slot, tries := 0, update := r.update || upd }).firmwareRegs
    if mode = 0 then (pend d false).succeed id 0
    else if d.isolated ∨ d.boot.activating.isSome then d.complete id .stateConflict 0
    else if d.solo then
      let d := (pend d false).succeed id 0
      { d with boot := { d.boot with activating := some id } }
    else if !d.linked then d.complete id .stateConflict 0
    else if d.peer.hello.any (fun h => decide (h.compat.toNat ≠ (imageCompat x))) then d.complete id .stateConflict 0
    else
      let d := ((pend d true).succeed id 0).linkTell (.control (.handback 7))
      { d with boot := { d.boot with activating := some id } }

/-- An update with a restart goes on once the part is quiet and the FW_ACTIVATE's status frame has been sent (R769, R773): a full checkpoint cycle runs to its
end, then root tables to the partner, ports through LEAVING, held commands turned away, and, once their status frames are sent, restart. -/
def Dev.activateStep (d : Dev) : Dev :=
  match d.boot.activating with
  | none => d
  | some id =>
    let sent := match tget d.cmds id with | some c => c.sent | none => true
    if !sent ∨ !d.sideQuiet true ∨ d.ports.any (fun e => decide (e.2.own = .leaving)) then d
    else if d.ckpt.whole ≠ 2 then d.checkpointWhole
    else if d.linked ∧ d.homePorts.any d.portsHeld.contains then
      (((d.sendRoots true).1.linkTell (.control (.handback 5))).leavePorts d.homePorts).turnAway true
    else if d.linked ∧ d.cmds.any (fun e => decide (e.2.stage = .done) && !e.2.sent) then d
    else (d.emit .restart).resetClean

/-! ### Life (R776) -/

/-- What remains of each kind of TOP_LIFE.KIND. -/
def Dev.sparesLeft (d : Dev) : List Nat :=
  let pop (n : Nat) : Nat := countP (upTo 4) fun i => bit n i
  let wear := d.dies.filterMap fun e => match d.dieProfile e.1 with
    | some p => if e.2.used then some (p.endurance - (e.2.blocks.map fun b => b.2.erases).foldl Nat.max 0) else none
    | none => none
  [sumN (d.dies.map fun e => if e.2.used then e.2.spares else 0)
   , d.rd MAP_SPARE_DIES_LEFT
   , d.rd SCH_SPARES_LEFT
   , 8192 - sumN (d.tmem.rowsUsed.map (·.2))
   , sumN ((upTo 4).map fun q => d.rd (TMEM_SPARE_TILES q))
   , sumN ((upTo 16).map fun b => d.rd (STN_SPARE_LEFT b))
   , pop (d.rd TOP_LDPC_SPARE_HARD) + pop (d.rd TOP_LDPC_SPARE_SOFT)
   , d.dram.pageSpares
   , match wear with | [] => 0 | w :: r => r.foldl Nat.min w]

/-- The meaning of LIFE_ESTIMATE (R776): the day's record, the smallest estimate with its kind, and the warning. -/
def execLifeEstimate (s : State) : Host.Outcome State Fault Refusal :=
  onDev (fun d =>
    let now := d.sparesLeft
    let old := (d.life.used.drop 89).headD (d.life.used.getLastD now)
    let ests := (upTo 9).filterMap fun k =>
      let u := old.getD k 0 - now.getD k 0
      if u = 0 then none else some (k, satAt 65535 (now.getD k 0 * 90 / u))
    let best := argMin (fun (e : Nat × Nat) => e.2) ests
    let days := match best with | some e => e.2 | none => 65535
    let kind := match best with | some e => e.1 | none => 15
    let low := decide (days < d.rd TOP_LIFE_CFG_WARN_DAYS)
    let was := d.isSet TOP_LIFE_WARN
    let d := ((d.wr TOP_LIFE_DAYS days).wr TOP_LIFE_KIND kind).wr TOP_LIFE_WARN (b2n low)
    let d := { d with life := { used := (now :: d.life.used).take 91 } }
    if low ∧ !was then d.event 0x0904 0 0 0 [days, kind] else d) s

end Sys2Proof.Machine
end

