-- ==== Sys2Proof/Machine/Power.lean ====
section
/-! DEFINITION. Power states, the pace governor, sensors and the thermal trip (R29–R35, R273, R734–R755; chapter 20). -/

namespace Sys2Proof.Machine

/-! ### Rails -/

/-- PMBus commands used (R743, R750): OPERATION and VOUT_COMMAND. -/
def pmOperation : Nat := 0x01
def pmVout : Nat := 0x21

/-- Quadrant q's rail set to a voltage, within its limits (R744). -/
def Dev.setRail (d : Dev) (q mv : Nat) : Dev :=
  let v := clampN (Nat.max 600 (d.rd (PWR_RAIL_VMIN_MV q))) (Nat.min 900 (d.rd (PWR_RAIL_VMAX_MV q))) mv
  let p := d.power
  { d with power := { p with settled := tput p.settled q d.now, busyPace := tput p.busyPace q d.now } }.emit (.pmbus (d.rd (PWR_RAIL_ADDR q)) pmVout v)

/-- Auxiliary rail k commanded on or off. -/
def Dev.setAux (d : Dev) (k : Nat) (on : Bool) : Dev :=
  (d.wr (PWR_AUX_ON k) (b2n on)).emit (.pmbus (d.rd (PWR_AUX_ADDR k)) pmOperation (if on then 0x80 else 0))

/-! ### The ladder (Tables 20-1 to 20-3) -/

/-- No command outstanding, no task resident, every engine and lane idle: the conditions of Poised. -/
def Dev.atRest (d : Dev) : Bool :=
  d.cmds.all (fun e => decide (e.2.stage = .done) && (e.2.sent || decide (internalKey ≤ e.2.qkey)))
    && d.sched.tasks.isEmpty && d.sched.waiting.isEmpty
    && d.engines.all (fun e => e.2.running.isNone && e.2.queue.isEmpty)
    && d.ciphers.all (fun e => e.2.running.isNone && e.2.queue.isEmpty && e.2.slots.isEmpty)
    && d.digests.all (fun e => e.2.running.isNone && e.2.queue.isEmpty && e.2.slots.isEmpty)

/-- Every write programmed and its batch durable, and no pass busy on the flash: the conditions of Lulled. -/
def Dev.allProgrammed (d : Dev) : Bool := d.rows.all (fun e => d.rowCounts e.2) && d.batches.isEmpty && d.flash.isEmpty

/-- The conditions of the entry step to a state; the step to Stowed begins with a full checkpoint cycle, and goes on once that is over. -/
def Dev.mayEnter (d : Dev) (state : Nat) : Bool :=
  match state with
  | 1 => d.atRest
  | 2 => d.allProgrammed
  | 3 => decide (d.ckpt.whole = 2) && d.allProgrammed
  | _ => true

/-- The checkpoint cycle of the step to Stowed (Table 20-2, R319): the ports that Lulled has parked are taken up for its programs. -/
def Dev.stowCheckpoint (d : Dev) : Dev :=
  if d.ckpt.whole ≠ 0 then d else
  let raise (d : Dev) (n : Nat) : Dev := if d.isSet (FLP_GUARD_STAT_HELD n) then d else d.emit (.portWp n true)
  ((tkeys d.ports fun _ p => decide (p.own = .owned)).foldl raise d).checkpointWhole

/-- Host groups brought to one lane of their first port: their other ports lose link, and the queue pairs on them fail. -/
def Dev.narrowHosts (d : Dev) : Dev :=
  let d := (upTo 4).foldl (fun (d : Dev) g => d.wr (ETH_GSTAT_LINK g) (d.rd (ETH_GSTAT_LINK g) % 2)) d
  d.failPorts fun p => decide (p < 16) && decide (p % 4 ≠ 0)

/-- The entry step to a state (Table 20-2). -/
def Dev.enterStep (d : Dev) (state : Nat) : Dev :=
  let d := match state with
    | 1 => (upTo 4).foldl (fun (d : Dev) q => d.setRail q (600 + 2 * d.rd PWR_GOV_FLOOR_MV)) d
    | 2 =>
      let d := d.parkPorts.narrowHosts
      if d.isSet PEER_LINK_UP then (d.wr PEER_LINK_HALF 1).wr PEER_LINK_LANES 0xFF else d
    | 3 =>
      let d := { d with ckpt := { d.ckpt with whole := 0 } }.parkPorts
      let d := if d.linked then (d.linkTell (.control .dramOff)).isolate else d
      let d := ((d.setAux 0 false).setAux 1 false).wr PEER_LINK_LANES 0
      let d := (d.wr PEER_LINK_UP 0).wr PEER_LINK_HALF 0
      let d := { d with ckpt := { d.ckpt with held := [] }, peer := { d.peer with mirror := Mirror.reset } }
      let d := (upTo 4).foldl (fun (d : Dev) g => (d.wr (ETH_GSTAT_LINK g) 0).wr (ETH_GSTAT_DOWN g) 1) d
      d.failPorts fun p => decide (p < 16)
    | _ =>
      let d := { d with boot := { d.boot with dumpStamp := some d.stamp } }.lastReadings
      let d := ((d.setAux 2 false).setAux 3 false).failPorts fun _ => true
      (upTo 4).foldl (fun (d : Dev) q => d.emit (.pmbus (d.rd (PWR_RAIL_ADDR q)) pmOperation 0)) d
  d.wr PWR_STAT_STATE state

/-- Ports taken up again after Lulled or Stowed: those held are trained from their saved results, the others asked for (Table 20-3); a failed port is
left alone (R266). -/
def Dev.wakePorts (d : Dev) : Dev :=
  let own := if d.solo then upTo 64 else d.homePorts
  own.foldl (fun (d : Dev) n => match tget d.ports n with
    | some p =>
      if d.isSet (FLP_STAT_FAILED n) then d
      else if p.own = .owned then (d.emit (.portWp n (!d.isSet (FLP_GUARD_STAT_HELD n)))).startTraining n (d.rd (FLP_STAT_MODE_NOW n))
      else if p.own = .free ∧ d.boot.phase = .running then d.askPort n else d
    | none => d) d

/-- Exit from the present power state to Active (Tables 20-1 and 20-3). A part held by R754 stays; from Standby the part boots. A fenced part
leaves its fence by no other way than reset (R247): it stays as it is. -/
def Dev.wakeExit (d : Dev) : Dev :=
  if d.fenced then d else
  let d := { (d.wr PWR_STAT_MOVING 0) with power := { d.power with entering := none, cmd := none, idleSince := d.now }, ckpt := { d.ckpt with whole := 0 } }
  if d.isSet PWR_STAT_THERMAL_HOLD then d else
  match d.rd PWR_STAT_STATE with
  | 0 => d
  | 1 => d.wr PWR_STAT_STATE 0
  | 2 =>
    let d := (d.wr PWR_STAT_STATE 0).wakePorts
    if d.isSet PEER_LINK_HALF then (d.wr PEER_LINK_HALF 0).wr PEER_LINK_LANES 0xFFFF else d
  | 3 => ((((d.setAux 0 true).setAux 1 true).setAux 2 true).setAux 3 true).wr PWR_STAT_STATE 0 |>.wakePorts
  | _ =>
    let d := (upTo 4).foldl (fun (d : Dev) q => d.emit (.pmbus (d.rd (PWR_RAIL_ADDR q)) pmOperation 0x80)) d
    (d.emit .restart).resetNow false

/-- Whether a wake event wakes the part from a state (Table 20-1): 0 a token, delay-list wake or internal pass, 1 a frame on a host port, 2 a
frame on the management port, 3 an I3C wake, 4 a sanding pass. -/
def wakes (state w : Nat) : Bool :=
  match state with
  | 1 => decide (w = 0 ∨ w = 1 ∨ w = 2 ∨ w = 4)
  | 2 => decide (1 ≤ w ∧ w ≤ 4)
  | 3 => decide (2 ≤ w ∧ w ≤ 4)
  | _ => decide (w = 3)

/-- The meaning of WAKE (R738, R741): an entry stops at the end of the step that is running, and the device exits from the deepest state
reached. -/
def execWake (w : Nat) (s : State) : Host.Outcome State Fault Refusal :=
  onDev (fun d =>
    if d.boot.phase ≠ .running ∨ (d.rd PWR_STAT_STATE = 0 ∧ d.power.entering.isNone) then d
    else if d.rd PWR_STAT_STATE = 0 then (if w ≤ 4 then d.wakeExit else d)
    else if wakes (d.rd PWR_STAT_STATE) w then d.wakeExit else d) s

/-- The meaning of AUTO_POISE (R735): the conditions of Poised have held for POISE_IDLE and no vermilion stream is open. -/
def execAutoPoise (s : State) : Host.Outcome State Fault Refusal :=
  onDev (fun d =>
    if !d.accepting ∨ !d.isSet PWR_CFG_AUTO_POISE ∨ d.rd PWR_STAT_STATE ≠ 0 ∨ d.power.entering.isSome then d
    else if !d.atRest then { d with power := { d.power with idleSince := d.now } }
    else if d.now < d.power.idleSince + usNs (d.rd PWR_CFG_POISE_IDLE) ∨ d.streams.any (fun e => e.2.isOpen && decide (e.2.cls = 2)) then d
    else d.enterStep 1) s

/-- The meaning of ENTRY_STEP (R737): the next entry step begins once its conditions hold; none of a fenced part (R247). -/
def execEntryStep (s : State) : Host.Outcome State Fault Refusal :=
  onDev (fun d =>
    match d.power.entering with
    | none => d
    | some t =>
      let next := d.rd PWR_STAT_STATE + 1
      let told := match d.power.cmd with
        | some id => (match tget d.cmds id with | some c => c.sent | none => true)
        | none => true
      if !told ∨ d.fenced then d
      else if !d.mayEnter next then (if next = 3 then d.stowCheckpoint.settle else d) else
      let d := d.enterStep next
      if next < t then d else { (d.wr PWR_STAT_MOVING 0) with power := { d.power with entering := none, cmd := none } }) s

/-- POWER_STATE (R170, R735, R736, R754). -/
def Dev.runPowerState (d : Dev) (id target : Nat) : Dev :=
  let now := d.rd PWR_STAT_STATE
  if 4 < target then d.complete id .paramInvalid 0
  else if d.isSet PWR_STAT_MOVING then d.complete id .stateConflict 0
  else if target = now then d.succeed id now
  else if d.isSet PWR_STAT_THERMAL_HOLD ∧ target < now then d.complete id .stateConflict 0
  else if d.streams.any (fun e => e.2.isOpen && decide (e.2.cls = 2)) ∧ target ≠ 0 then d.complete id .stateConflict 0
  else
    let d := (d.wr PWR_STAT_TARGET target).succeed id now
    if target < now then d.wakeExit
    else { (d.wr PWR_STAT_MOVING 1) with power := { d.power with entering := some target, cmd := some id } }

/-! ### Pace (R29–R35, R742–R744) -/

/-- The median of a quadrant's eight monitors (R31): the mean of the middle two, rounded down. Which median of an even count is meant is the model's
choice (DESIGN CHOICE, log 123). -/
def medianOf (ms : List Nat) : Nat :=
  let s := sortOn (fun m => m) ms
  (s.getD 3 0 + s.getD 4 0) / 2

/-- Whether a monitor differs by more than 25% from a median. -/
def offMedian (m x : Nat) : Bool := decide (m < 4 * (if x < m then m - x else x - m))

/-- The monitors of a quadrant judged: VALID_MAP, PACE, MIN_MON and FALLBACK, with their events. Of several monitors at the lowest pace MIN_MON names
the lowest number, a choice (DESIGN CHOICE, log 120). -/
def Dev.judgeMonitors (d : Dev) (q : Nat) (mons : List Nat) : Dev :=
  let med := medianOf mons
  let good := (upTo 8).filter fun i => !offMedian med (mons.getD i 0)
  let map := sumN (good.map fun i => 2 ^ i)
  let known := (tget d.power.excluded q).getD 0
  let fresh := (upTo 8).filter fun i => !good.contains i && !bit known i
  let d := fresh.foldl (fun (d : Dev) _ => d.event 0x0901 0 0 q [0]) d
  let d := { d with power := { d.power with excluded := tput d.power.excluded q (known ||| (255 - map)) } }
  let d := d.wr (PWR_PACE_VALID_MAP q) map
  if good.length < 4 then
    let d := if d.isSet (PWR_PACE_FALLBACK q) then d else (d.wr (PWR_PACE_FALLBACK q) 1).event 0x0901 2 0 q [1]
    let d := if d.rd (PWR_VOUT_MV q) < 650 then d.setRail q 650 else d
    d.wr (PWR_PACE_PACE q) 1024
  else
    match argMin (fun i => mons.getD i 0) good with
    | some i => ((d.wr (PWR_PACE_FALLBACK q) 0).wr (PWR_PACE_PACE q) (satAt 65535 (mons.getD i 0))).wr (PWR_PACE_MIN_MON q) i
    | none => d

/-- The governor acts on a sample (R742–R744, R748): up a step below the target, down a step above the cap of stage 2 or after LOWER_MS of
samples above the target with its guard. Under FALLBACK the cap of stage 2 lowers a rail no further than the 0.65 V of R32: which of the two rules
gives way is the model's choice (DEDUCED, log 119). -/
def Dev.govern (d : Dev) (q : Nat) : Dev :=
  let pace := d.rd (PWR_PACE_PACE q)
  let mv := d.rd (PWR_VOUT_MV q)
  let step := d.rd PWR_GOV_STEP_MV
  let cap := Nat.max (d.rd THM_CFG_CAP_PACE) d.adm.pHold
  let hot := decide (d.rd PWR_STAT_THROTTLE = 2)
  let want := Nat.max (d.rd PWR_GOV_FLOOR_PACE) d.adm.pHold
  let target := if hot then Nat.min want cap else want
  let settled := match tget d.power.settled q with | some t => decide (t + usNs 100 ≤ d.now) | none => true
  let high := decide (target * (128 + d.rd STRM_ADM_CFG_GUARD) ≤ pace * 128)
  let d := if high then d else { d with power := { d.power with busyPace := tput d.power.busyPace q d.now } }
  if !settled then d
  else if pace < target then d.setRail q (mv + step)
  else if hot ∧ cap < pace then d.setRail q (if d.isSet (PWR_PACE_FALLBACK q) then Nat.max 650 (mv - step) else mv - step)
  else if high ∧ (tget d.power.busyPace q).getD 0 + msNs (d.rd PWR_GOV_LOWER_MS) ≤ d.now ∧ !d.isSet (PWR_PACE_FALLBACK q) then d.setRail q (mv - step)
  else d

/-- The meaning of PACE_SAMPLE (R30–R32, R35, R743). The 4 µs windows of R35 are counted from time 0 of the model's clock, a choice (DESIGN CHOICE, log
124). -/
def execPaceSample (q : Nat) (mons : List Nat) (mv centiA : Nat) (s : State) : Host.Outcome State Fault Refusal :=
  onDev (fun d =>
    if 4 ≤ q ∨ d.boot.phase ≠ .running ∨ 2 ≤ d.rd PWR_STAT_STATE then d else
    let d := (d.wr (PWR_VOUT_MV q) mv).wr (PWR_VOUT_CENTI_A q) centiA
    let d := d.judgeMonitors q mons
    let pace := d.rd (PWR_PACE_PACE q)
    let again := match tget d.power.reloaded q with | some t => decide (t / 4000 = d.now / 4000) | none => false
    let d := d.wr (PWR_PACE_LOW_LOW q) (if again then pace else Nat.min pace (d.rd (PWR_PACE_LOW_LOW q)))
    let d := if d.rd PWR_STAT_STATE = 0 then d.govern q else d
    d.notePace.admRegs.reRisk) s

/-- PWR_PACE_LOW.RELOAD (R35). -/
def Dev.reloadLow (d : Dev) (q : Nat) : Dev :=
  { (d.wr (PWR_PACE_LOW_LOW q) (d.rd (PWR_PACE_PACE q))) with power := { d.power with reloaded := tput d.power.reloaded q d.now } }

/-- The meaning of REGULATOR_FAULT (R745): of core rail 0–3 or auxiliary rail 4–7; only a core regulator's silence counts. The STATUS_WORD that
was read is not the part's to know. -/
def execRegulatorFault (k : Nat) (silent : Bool) (s : State) : Host.Outcome State Fault Refusal :=
  onDev (fun d =>
    if 8 ≤ k ∨ (silent ∧ 4 ≤ k) ∨ d.boot.phase ≠ .running then d
    else d.drawn.fence 0x0902 0 k [Config.freeNat d.draws % 65536]) s

/-! ### Heat (R746–R755) -/

/-- A threshold of a sensor in units of 0.125 °C. -/
def Dev.threshold (d : Dev) (f : Fld) : Int := signed 8 (d.rd f) * 8

/-- Unacknowledged records counted in THM_REC_STAT. -/
def Dev.recordRegs (d : Dev) : Dev := d.wr THM_REC_STAT_UNACKED (countP d.thermal.records fun r => decide (r.rstate = 1))

/-- A shutdown record put into the ring (R753): in a free place, the oldest acknowledged one, or the oldest. -/
def Dev.putRecord (d : Dev) (r : Shutdown) : Dev :=
  let l := d.thermal.records
  if l.length < 64 then { d with thermal := { d.thermal with records := l ++ [r] } }.recordRegs else
  let acked := (upTo 64).filter fun i => match l[i]? with | some x => decide (x.rstate ≠ 1) | none => false
  let age (i : Nat) : Nat := match l[i]? with | some x => x.stamp | none => 0
  let place := (argMin age (if acked.isEmpty then upTo 64 else acked)).getD 0
  let d := if acked.isEmpty then d.bump THM_REC_STAT_OVERFLOW else d
  { d with thermal := { d.thermal with records := modAt l place fun _ => r } }.recordRegs

/-- The shutdown record of a trip (Table 20-5), and its event. -/
def Dev.recordTrip (d : Dev) (s cause : Nat) : Dev :=
  let d := d.bump THM_REC_STAT_TRIPS
  let temp (i : Nat) : Int := if d.sensorFailed i then -128 else clampI (-127) 127 (d.sensor i / 8)
  let r : Shutdown :=
    { rstate := 1, sensor := s, cause := cause, pstate := d.rd PWR_STAT_STATE, tripSet := d.threshold (THM_THR_TRIP s), reading := d.sensor s
      ondie := (upTo 24).map temp, remote := (upTo 8).map fun i => temp (24 + i), stamp := d.stamp
      vcore := if s < 24 then d.rd (PWR_VOUT_MV (s / 6)) else 0, trips := d.rd THM_REC_STAT_TRIPS }
  (d.putRecord r).eventRec 0x0301 2 0 s false [] r.bytes

/-- THERMTRIP_N asserted. -/
def Dev.assertTrip (d : Dev) : Dev :=
  if d.pins.thermtrip then d else { (d.emit (.pin 1 false)) with pins := { d.pins with thermtrip := true } }

/-- A trip of a sensor (Table 20-4): admission and heartbeats stop, programs end, ports are released, every queue pair fails, the record is
written, THERMTRIP_N falls. -/
def Dev.trip (d : Dev) (s cause : Nat) : Dev :=
  if d.thermal.tripped.isSome then d else
  let d := (d.recordTrip s cause).fenceQuiet 0x0301
  let d := d.failPorts fun _ => true
  { d.assertTrip with thermal := { d.thermal with tripped := some d.now } }

/-- A part held by R754 goes on once every sensor is well below its TRIP and every record is acknowledged or may resume by itself. -/
def Dev.releaseHold (d : Dev) : Dev :=
  if !d.isSet PWR_STAT_THERMAL_HOLD then d else
  let cool := (upTo 32).all fun s =>
    d.rd (THM_THR_ENABLE s) = 0 || d.sensorFailed s || (thas d.thermal.last s && decide (d.sensor s < d.threshold (THM_THR_TRIP s) - 120))
  let open_ := d.thermal.records.any fun r => decide (r.rstate = 1)
  if !cool ∨ (open_ ∧ !d.isSet THM_CFG_AUTO_RESUME) then d else
  let recs := d.thermal.records.map fun r => if r.rstate = 1 then { r with rstate := 3 } else r
  let d := { (d.wr PWR_STAT_THERMAL_HOLD 0) with thermal := { d.thermal with records := recs } }.recordRegs
  (if d.solo then d else d.wr PEER_STAT_STATE 0).wakeExit

/-- Throttling brought to a stage (R748, R749): 1 holds P_A to P_HOLD, 2 to CAP_PACE. -/
def Dev.setThrottle (d : Dev) (s stage : Nat) : Dev :=
  let cap := match stage with | 0 => 0 | 1 => Nat.max 1 d.adm.pHold | _ => d.rd THM_CFG_CAP_PACE
  let d := { (d.wr PWR_STAT_THROTTLE stage) with adm := { d.adm with paceCap := cap } }
  (d.event 0x0303 0 0 s [stage]).admRegs.reRisk

/-- Whether a sample is one of a failed sensor (R747). An open or short is a diode channel's. -/
def Dev.badSample (d : Dev) (s : Nat) (raw : Int) (open_ : Bool) : Bool :=
  let jump := match tget d.thermal.last s with | some p => decide (160 < raw - p) || decide (160 < p - raw) | none => false
  (open_ && decide (24 ≤ s) && !d.isSet (THM_RCH_NTC (s - 24))) || decide (raw < -440) || decide (1200 < raw) || jump

/-- A sensor's sample judged good or failed (R747). -/
def Dev.judgeSensor (d : Dev) (s : Nat) (raw : Int) (bad : Bool) : Dev :=
  let d := { d with thermal := { d.thermal with last := tput d.thermal.last s raw } }
  let d := d.wr (THM_SENS_TEMP s) (unsigned 12 raw)
  let mask := d.rd THM_STAT_FAILED
  if bad then
    let d := { d with thermal := { d.thermal with goodSince := tdel d.thermal.goodSince s } }
    if d.sensorFailed s then d
    else ((d.wr (THM_SENS_FAILED s) 1).wr THM_STAT_FAILED (setBits mask s 1 1)).event 0x0304 0 0 s [1]
  else
    let d := if signed 12 (d.rd (THM_SENS_PEAK s)) < raw then d.wr (THM_SENS_PEAK s) (unsigned 12 raw) else d
    if !d.sensorFailed s then d else
    match tget d.thermal.goodSince s with
    | none => { d with thermal := { d.thermal with goodSince := tput d.thermal.goodSince s d.now } }
    | some t =>
      if d.now < t + sNs 1 then d
      else { ((d.wr (THM_SENS_FAILED s) 0).wr THM_STAT_FAILED (setBits mask s 1 0)).event 0x0304 0 0 s [0] with
        thermal := { d.thermal with goodSince := tdel d.thermal.goodSince s } }

/-- WARN and THROTTLE of a good sample, with 3 °C of hysteresis (R748). -/
def Dev.judgeHeat (d : Dev) (s : Nat) (raw : Int) : Dev :=
  let warn := d.threshold (THM_THR_WARN s)
  let thr := d.threshold (THM_THR_THROTTLE s)
  let w := d.thermal.warned
  let d : Dev :=
    if warn ≤ raw ∧ !w.contains s then
      { d with thermal := { d.thermal with warned := s :: w } }.event 0x0302 0 0 s [unsigned 64 raw]
    else if raw < warn - 24 then { d with thermal := { d.thermal with warned := w.filter (· ≠ s) } }
    else d
  if thr ≤ raw then
    if thas d.thermal.atThrottle s then d else
    let d := { d with thermal := { d.thermal with atThrottle := tput d.thermal.atThrottle s (d.now, raw) } }
    if d.rd PWR_STAT_THROTTLE = 0 then d.setThrottle s 1 else d
  else if raw < thr - 24 ∧ thas d.thermal.atThrottle s then
    let d := { d with thermal := { d.thermal with atThrottle := tdel d.thermal.atThrottle s } }
    if d.thermal.atThrottle.isEmpty ∧ d.rd PWR_STAT_THROTTLE ≠ 0 then d.setThrottle s 0 else d
  else d

/-- The meaning of SENSOR_SAMPLE (R746–R750, R754). -/
def execSensorSample (k : Nat) (raw : Int) (open_ : Bool) (s : State) : Host.Outcome State Fault Refusal :=
  onDev (fun d =>
    if 32 ≤ k ∨ d.boot.phase = .reset ∨ d.boot.phase = .test then d else
    let bad := d.badSample k raw open_
    let d := (d.judgeSensor k raw bad).guardSensor k
    if d.sensorFailed k ∨ d.rd (THM_THR_ENABLE k) = 0 then d.releaseHold
    else if d.threshold (THM_THR_TRIP k) ≤ raw ∧ d.rd PWR_STAT_STATE < 3 then (d.judgeHeat k raw).trip k 0
    else (d.judgeHeat k raw).releaseHold) s

/-- The meaning of THROTTLE_STAGE2 (R748): a sensor has stayed at THROTTLE for 2 s and reads higher than when it reached it. -/
def execThrottleStage2 (s : State) : Host.Outcome State Fault Refusal :=
  onDev (fun d =>
    if d.rd PWR_STAT_THROTTLE ≠ 1 then d else
    match d.thermal.atThrottle.find? fun e => decide (e.2.1 + sNs 2 ≤ d.now) && decide (e.2.2 < d.sensor e.1) with
    | some e => d.setThrottle e.1 2
    | none => d) s

/-- The meaning of TRIP_POWER_OFF (Table 20-4): 2 ms after a trip the core regulators are told to switch off. -/
def execTripPowerOff (s : State) : Host.Outcome State Fault Refusal :=
  onDev (fun d => match d.thermal.tripped with
    | some t =>
      if d.now < t + msNs 2 then d
      else (upTo 4).foldl (fun (d : Dev) q => d.emit (.pmbus (d.rd (PWR_RAIL_ADDR q)) pmOperation 0)) d
    | none => d) s

/-- The meaning of THERMTRIP_COMPARATOR (R751). -/
def execThermtripComparator (k : Nat) (s : State) : Host.Outcome State Fault Refusal :=
  onDev (fun d => if 24 ≤ k ∨ d.rd (THM_THR_ENABLE k) = 0 then d else d.assertTrip.trip k 1) s

/-- The highest reading that the thermal watch has recorded in Standby, some sensors' readings among them (R741). -/
def Dev.watchTop (d : Dev) (remote : List Nat) : Option Int :=
  remote.foldl (fun t k => some (match t with | some x => if x < d.sensor k then d.sensor k else x | none => d.sensor k)) d.boot.offTop

/-- The meaning of THERMAL_WATCH (R741, R752). -/
def execThermalWatch (s : State) : Host.Outcome State Fault Refusal :=
  onDev (fun d =>
    if d.rd PWR_STAT_STATE < 3 ∨ d.thermal.tripped.isSome then d else
    let remote := ((upTo 8).map (24 + ·)).filter fun k => !d.sensorFailed k && decide (d.rd (THM_THR_ENABLE k) ≠ 0)
    let d := if d.rd PWR_STAT_STATE = 4 then { d with boot := { d.boot with offTop := d.watchTop remote } } else d
    match (remote ++ upTo 6).find? fun k => !d.sensorFailed k && decide (d.rd (THM_THR_ENABLE k) ≠ 0) && decide (d.threshold (THM_THR_TRIP k) ≤ d.sensor k) with
    | some k =>
      let d := (d.recordTrip k 2).assertTrip
      { d with thermal := { d.thermal with tripped := some d.now } }
    | none => d) s

/-- THERMAL_ACK (R172, R755). -/
def Dev.runThermalAck (d : Dev) (id i : Nat) : Dev :=
  match d.thermal.records[i]? with
  | none => d.complete id .paramInvalid 0
  | some _ =>
    let recs := modAt d.thermal.records i fun r => if r.rstate = 1 then { r with rstate := 2 } else r
    let d := { d with thermal := { d.thermal with records := recs } }.recordRegs
    (d.succeed id 0).releaseHold

end Sys2Proof.Machine
end

