-- ==== Sys2Proof/Machine/Views.lean ====
section
/-! DEFINITION. Reading a register (R7–R10, R17, R20, R24): the stored word, with the fields that show other parts of the state laid over it. -/

namespace Sys2Proof.Machine

/-- A word with a field laid over it: lowest bit, width, value. -/
def lay (w : Nat) (f : Nat × Nat × Nat) : Nat := setBits w f.1 f.2.1 (f.2.2 % 2 ^ f.2.1)

/-- Low and high words of a 64-bit value. -/
def lo32 (n : Nat) : Nat := n % 2 ^ 32
def hi32 (n : Nat) : Nat := n / 2 ^ 32 % 2 ^ 32

/-- Bytes in MiB, rounded down and up. -/
def mibDown (n : Nat) : Nat := n / 1048576
def mibUp (n : Nat) : Nat := ceilDiv n 1048576

/-- The state of a queue as TEN_QSTAT and TW_QUEUE show it. HELD is one bit: of a deleted queue it stays set, until the queue is created
again, where status frames were discarded with it (R108; log 115). -/
def Dev.queueWord (d : Dev) (k : Nat) : Nat :=
  match tget d.queues k with
  | none => [(29, 1, b2n (thas d.eth.discarded k))].foldl lay 0
  | some q =>
    [(0, 13, d.outstanding k), (16, 13, q.depth), (29, 1, b2n !q.held.isEmpty), (30, 1, b2n q.failed), (31, 1, b2n q.qpn.isSome)].foldl lay 0

/-- Whether a group is full for a write of no size (R357). -/
def Dev.fullFor (d : Dev) (g n : Nat) : Bool :=
  match d.group g with
  | some x => decide (d.usable g < x.used + x.reserved + n + d.reserveFloor g)
  | none => true

/-- Bytes of program memory a program takes (R537). -/
def Prog.memBytes (p : Prog) : Nat := ceilDiv p.code.length 4096 * 4096 + ceilDiv p.stateLen 4096 * 4096

/-- Program memory in use. -/
def Dev.progMem (d : Dev) : Nat := sumN (d.progs.map fun e => e.2.memBytes)

/-- The number of a replication state in MAP_RSTAT. -/
def ReplState.num (s : ReplState) : Nat :=
  match s with | .opening => 1 | .idle => 2 | .sending => 3 | .waitAck => 4 | .stopped => 5 | .mismatch => 6

/-- Stream registers (STRM_STAT, STRM_COUNT, STRM_OVER). -/
def Dev.streamView (d : Dev) (a : Nat) : Option Nat :=
  let s := tget d.streams (d.rd STRM_SEL_ID)
  match a with
  | 0x90424 => some (match s with
    | none => 0
    | some s => [(0, 2, s.cls), (2, 1, b2n s.dropLate), (3, 1, b2n s.isOpen), (4, 1, b2n s.atRisk), (5, 1, b2n !s.index.isEmpty)
                 , (16, 12, s.pLat)].foldl lay 0)
  | 0x90428 => some (match s with
    | none => 0
    | some s => [(0, 16, satAt 65535 s.misses), (16, 16, satAt 65535 s.unindexed)].foldl lay 0)
  | 0x9042C => some (match s with | none => 0 | some s => satAt (2 ^ 32 - 1) (mibUp s.overBytes))
  | _ => none

/-- Registers of the map and the groups that show other state (MAP_*, ARR_*). -/
def Dev.mapView (d : Dev) (a : Nat) (w : Nat) : Option Nat :=
  let g := d.rd MAP_GSEL_GROUP
  let ag := d.group (d.rd ARR_GSEL_GROUP)
  let die := d.rd MAP_DIE_SEL_DIE
  let x := (tget d.dies die).filter fun y => y.used
  let vol := (d.vol (d.rd MAP_VSEL_VINDEX + 16384 * d.rd MAP_VSEL_SIDE)).filter fun y => !y.dying
  let vnum := d.rd MAP_VSEL_VINDEX + 16384 * d.rd MAP_VSEL_SIDE
  let ses := tget d.sessions (d.rd MAP_RSEL_SESSION)
  match a with
  | 0x180008 => some (lay w (8, 24, d.folded / 2 ^ 30))
  | 0x180024 => some (mibDown (d.usable g))
  | 0x180028 => some (match d.group g with | some y => mibDown y.used | none => 0)
  | 0x18002C => some (match d.group g with
    | none => 0
    | some y => [(0, 16, satAt 65535 (d.qlcSegments g).1), (16, 1, b2n y.amber), (17, 1, b2n (d.fullFor g 1)), (18, 1, b2n y.scrapeOn)
                 , (19, 1, b2n (d.urgent g))].foldl lay 0)
  | 0x180034 => some ([(0, 9, satAt 511 (mibDown d.ckpt.tail)), (9, 1, b2n d.ckpt.cycle.isSome)].foldl lay w)
  | 0x180048 => some (match x with | some y => (y.blocks.map fun b => b.2.erases).foldl Nat.max 0 % 2 ^ 24 | none => 0)
  | 0x18004C => some (match x with
    | some y => [(0, 16, satAt 65535 y.spares), (16, 1, b2n y.retired), (17, 1, b2n (d.pool?.contains die))].foldl lay 0
    | none => 0)
  | 0x180104 => some (sumN (d.index.map fun e => e.2.length) / 1024 % 2 ^ 24)
  | 0x180108 => some (d.bucketCount * 16 / 1024 % 2 ^ 24)
  | 0x180140 => some (lo32 d.entriesUsed)
  | 0x180144 => some (hi32 d.entriesUsed)
  | 0x180148 => some (lo32 d.mapCeil)
  | 0x18014C => some (hi32 d.mapCeil)
  | 0x180154 => some (match vol with
    | none => 0
    | some v =>
      let ends (r : Bool) : Bool := d.sessions.any fun e => decide (e.2.volume = vnum) && decide (e.2.receiver = r)
      [(0, 1, 1), (1, 1, b2n v.origin.isSome), (2, 1, b2n (ends false)), (3, 1, b2n (ends true)), (4, 1, b2n v.compacting)
       , (16, 11, v.snaps.length)].foldl lay 0)
  | 0x180158 => some (match vol with
    | none => 0
    | some v =>
      let newest := (v.snaps.filter fun s => !s.2.deleting).map fun s => s.2.epoch
      [(0, 16, v.epoch), (16, 16, newest.foldl Nat.max 0)].foldl lay 0)
  | 0x180164 => some (match ses with
    | none => 0
    | some s => [(0, 3, s.state.num), (3, 1, b2n s.receiver), (4, 1, b2n s.rekeyDue), (5, 1, b2n s.full), (8, 3, s.keyslot)
                 , (16, 14, s.volume % 16384), (30, 1, s.volume / 16384)].foldl lay 0)
  | 0x180168 => some (match ses with | some s => s.baseCycle % 2 ^ 32 | none => 0)
  | 0x18016C => some (match ses with | some s => satAt (2 ^ 32 - 1) ((d.now - s.committedAt) / 1000000000) | none => 0)
  | 0x1C0014 => some (match ag with
    | some y => [(0, 3, y.geometry), (4, 1, b2n y.cover)].foldl lay w
    | none => 0)
  | 0x1C001C => some (match ag with
    | some y => [(0, 3, y.state.num), (3, 2, y.faults), (6, 1, b2n y.rehoming), (8, 5, y.jrnA), (13, 5, y.jrnB)].foldl lay w
    | none => 0)
  | 0x1C0020 => some (match ag.bind fun y => y.rebuild with
    | some (spare, slot, done, all) => [(0, 11, spare), (11, 5, slot), (16, 7, satAt 100 (done * 100 / Nat.max 1 all))].foldl lay 0
    | none => 0)
  | 0x1C0024 => some (match ag with | some y => satAt (2 ^ 32 - 1) y.lost | none => 0)
  | _ =>
    if 0x1C0100 ≤ a ∧ a < 0x1C0100 + 4 * 26 then
      let m := (a - 0x1C0100) / 4
      some (match ag.bind fun y => (y.member m).map fun k => (y, k) with
        | some (y, k) => [(0, 11, k.die), (11, 1, b2n k.failed), (12, 1, b2n k.target)
                          , (13, 1, b2n (decide (m = y.jrnA) || decide (m = y.jrnB))), (14, 1, b2n k.copy)].foldl lay 0
        | none => 0)
    else none

/-- LDPC_RLT_DATA: the offset-table entry that LDPC_RLT_SEL names; zero for a die not in use (R298). -/
def Dev.rltView (d : Dev) : Nat :=
  let die := d.rd LDPC_RLT_SEL_DIE
  let bg := d.rd LDPC_RLT_SEL_GROUP
  let k := d.rd LDPC_RLT_SEL_LEVEL
  match tget d.dies die, d.dieProfile die with
  | some x, some p =>
    if !x.used then 0 else
    let t := match tget d.learnedAt (offKey die bg k) with | some t => unsigned 8 t.1 | none => 0x80
    [(0, 8, unsigned 8 (d.base p die bg k)), (8, 8, t)].foldl lay 0
  | _, _ => 0

/-- Registers of tint cores, programs and the scheduler that show other state. -/
def Dev.tintView (d : Dev) (a : Nat) (w : Nat) : Option Nat :=
  let c := d.rd SCH_CSEL_CORE
  let x := d.core c
  let depth (l : Nat) : Nat := (x.ready.getD l []).length
  let i := d.rd TINT_PSEL_INDEX
  let p := tget d.progs i
  match a with
  | 0x240104 => some ([(0, 9, depth 0), (16, 9, depth 1)].foldl lay 0)
  | 0x240108 => some ([(0, 9, depth 2), (16, 9, depth 3)].foldl lay 0)
  | 0x24010C => some ([(0, 13, x.delay.length), (16, 16, satAt 65535 x.late)].foldl lay 0)
  | 0x240110 => some ([(0, 10, Config.freeNat d.draws % 1001), (16, 16, d.rd (PWR_PACE_PACE (c / 34)))].foldl lay 0)
  | 0x240114 => some (satAt (2 ^ 32 - 1) ((tget x.hist (d.rd SCH_CSEL_LEVEL * 16 + d.rd SCH_CSEL_BUCKET)).getD 0))
  | 0x240118 => some (satAt (2 ^ 32 - 1) x.misses)
  | 0x280300 => some ([(0, 13, mibUp d.progMem), (16, 11, d.progs.length)].foldl lay 0)
  | 0x280314 => some (match p with
    | none => 0
    | some p =>
      let bs := countP d.bindings fun b => decide (b.prog = i) && b.binder.isNone && b.ended.isNone
      [(0, 1, b2n p.loaded), (1, 1, b2n p.resident), (2, 1, b2n p.stateReset), (8, 10, p.tenant), (18, 14, bs)].foldl lay 0)
  | 0x28031C => some (match p with | some p => satAt (2 ^ 32 - 1) p.traps | none => 0)
  | 0x280320 => some (match p with
    | some p => [(0, 4, p.last.cause), (4, 2, p.last.entry), (6, 4, p.last.seg), (10, 12, p.last.code)].foldl lay 0
    | none => 0)
  | 0x280324 => some (match p with | some p => p.last.pc % 2 ^ 24 | none => 0)
  | 0x280328 => some (match p with | some p => p.last.off % 2 ^ 32 | none => 0)
  | 0x28032C => some (match p with | some p => satAt (2 ^ 32 - 1) p.misses | none => 0)
  | _ =>
    if 0x280000 ≤ a ∧ a < 0x280000 + 4 * 136 then some (lay w (5, 5, (d.core ((a - 0x280000) / 4)).resident.length)) else none

/-- Counter of the key that CIP_GSEL names: present, and its next value. -/
def Dev.selectedCounter (d : Dev) : Option Nat :=
  if d.isSet CIP_GSEL_JAREL then (if d.peer.txKey.secret.isEmpty then none else some d.peer.txKey.counter)
  else
    let place := keyPlace (d.rd CIP_GSEL_TENANT) true (d.rd CIP_GSEL_SLOT)
    if (d.keyAt place).isSome then some (d.gcmAt place).counter else none

/-- Registers of trust, pairing and the event log that show other state. -/
def Dev.systemView (d : Dev) (a : Nat) (w : Nat) : Option Nat :=
  let old := match d.evt.recs with | r :: _ => r.seq | [] => d.evt.next
  let n := d.selectedCounter
  let m := d.rd DIG_MEAS_SEL_INDEX
  match a with
  | 0x000004 => some (lo32 Config.serial.toNat)
  | 0x000008 => some (hi32 Config.serial.toNat)
  | 0x030000 => some (lay w (19, 1, d.rd TOP_STRAP_STRAPS % 2))
  | 0x080008 => some (lay w (3, 1, b2n (decide (d.peer.aliveAt ≠ 0) && decide (d.now < d.peer.aliveAt + usNs 80))))
  | 0x080014 =>
    let data := sumN ((d.peer.mirror.data.filter fun e => !d.ownGroups.contains (e.1 / 2 ^ 40)).map fun e => e.2.length)
    let log := sumN (d.peer.mirror.tail.map fun b => sumN (b.2.2.map fun r => (r.bytes d.handle 0).length))
    some ([(0, 8, satAt 192 (mibUp data)), (8, 9, satAt 256 (mibUp log))].foldl lay 0)
  | 0x340214 => some (lo32 (n.getD 0))
  | 0x340218 => some (hi32 (n.getD 0))
  | 0x34021C => some (match n with
    | some c => [(0, 1, 1), (1, 1, b2n (decide (2 ^ 40 ≤ c))), (2, 1, b2n (decide (2 ^ 48 - 1 ≤ c)))].foldl lay 0
    | none => 0)
  | 0x380524 => some (lay w (16, 16, satAt 65535 ((tget d.boot.measCount m).getD 0)))
  | 0x3C0010 => some (lo32 d.sec.leaf)
  | 0x3C0014 => some (hi32 d.sec.leaf)
  | 0x3C0018 => some (lo32 d.sec.record.resEnd)
  | 0x3C001C => some (hi32 d.sec.record.resEnd)
  | 0x3C0020 => some (lo32 d.sec.record.skipped)
  | 0x3C0024 => some (hi32 d.sec.record.skipped)
  | 0x480000 => some (lo32 d.evt.next)
  | 0x480004 => some (hi32 d.evt.next)
  | 0x480008 => some (lo32 old)
  | 0x48000C => some (hi32 old)
  | _ => none

/-- Sum of the general-area buffer bytes that a tenant's commands hold, in KiB (TW_BUF_HELD). -/
def Dev.heldKiB (d : Dev) (t : Nat) : Nat := d.quotaUsed t / 1024

/-- The number of a lifecycle state in TW_STATE. -/
def Life.num (l : Life) : Nat := match l with | .off => 0 | .on => 1 | .draining => 2 | .quiesced => 3

/-- The word at an offset of tenant t's window (Table 15-4); zero for a tenant that does not exist (R20). -/
def Dev.windowWord (d : Dev) (t off : Nat) : Nat :=
  match tget d.tenants t with
  | none => 0
  | some x =>
    let s32 (n : Nat) : Nat := satAt (2 ^ 32 - 1) n
    if 0x40 ≤ off ∧ off < 0x80 then d.queueWord (t * 16 + (off - 0x40) / 4)
    else if 0xA8 ≤ off ∧ off < 0xB8 then (x.notesM.getD ((off - 0xA8) / 4) 0).toNat
    else if 0xB8 ≤ off ∧ off < 0xC0 then (x.notesT.getD ((off - 0xB8) / 4) 0).toNat
    else match off with
    | 0x00 => [(0, 2, x.life.num), (2, 1, b2n x.enableHeld.isSome), (3, 1, b2n x.migr.isSome), (16, 16, x.inc)].foldl lay 0
    | 0x04 => t
    | 0x08 => s32 x.bandwidth
    | 0x0C => s32 x.kiops
    | 0x10 => [(0, 8, x.quota), (8, 8, x.cores), (16, 2, x.prioCeil)].foldl lay 0
    | 0x14 => s32 x.reserve
    | 0x18 =>
      let set (slot : Bool) (n : Nat) : Nat := sumN ((upTo n).map fun i => if (d.recordAt (keyPlace t slot i)).isSome then 2 ^ i else 0)
      set false 16 + 65536 * set true 8
    | 0x1C => x.maxDomains + 256 * x.maxSlots
    | 0x20 => x.events.toNat
    | 0x24 => s32 x.eventCount
    | 0x28 => s32 x.clampCount
    | 0x2C => x.deferred.length
    | 0x30 => s32 x.deferOvf
    | 0x34 => s32 x.spoofDrops
    | 0x38 => s32 x.misses
    | 0x3C => s32 (mibUp x.droppedBytes)
    | 0x80 => lo32 x.commands
    | 0x84 => hi32 x.commands
    | 0x88 => mibDown x.readBytes % 2 ^ 32
    | 0x8C => mibDown x.writtenBytes % 2 ^ 32
    | 0x90 => s32 x.waitShare
    | 0x94 => s32 x.waitBuf
    | 0x98 => satAt 262143 (d.heldKiB t)
    | 0x9C => satAt 262143 (d.vres t)
    | 0xA0 =>
      let banks := countP d.stencil.banks fun b => decide (b.kind = 3) && decide (b.tenant = t)
      [(0, 15, countP d.vols fun e => decide (e.2.tenant = t)), (16, 5, countP d.progs fun e => decide (e.2.tenant = t)), (24, 5, banks)].foldl lay 0
    | 0xA4 => s32 x.migrOut
    | _ => 0

/-- The word a read of address a shows now; none where the address is no register (R8). WO fields read as zero. -/
def Dev.peek (d : Dev) (a : Nat) : Option Nat :=
  if a % 4 ≠ 0 then none else
  match windowOf a with
  | some (t, off) => if windowHole (thas d.tenants t) off then none else some (d.windowWord t off)
  | none =>
    match specAt a with
    | none => none
    | some _ =>
      let w := (rawWord d.regs a).toNat
      some (match a with
        | 0x90104 => d.queueWord (d.rd TEN_QSEL_QP)
        | 0x90108 => (match tget d.queues (d.rd TEN_QSEL_QP) with | some q => q.nextSeq | none => 0)
        | 0x9010C => (match tget d.queues (d.rd TEN_QSEL_QP) with
          | some q => [(0, 16, satAt 65535 q.hcrcErr), (16, 16, satAt 65535 q.seqErr)].foldl lay 0
          | none => 0)
        | 0x140104 => d.rltView
        | _ =>
          if 0x380540 ≤ a ∧ a < 0x380560 then le d.boot.measLatch (a - 0x380540) 4
          else if 0x380500 ≤ a ∧ a < 0x380520 then 0
          else ((((d.streamView a).orElse fun _ => d.mapView a w).orElse fun _ => d.tintView a w).orElse fun _ => d.systemView a w).getD w)

/-! ### Reads with an effect (R17, R506) -/

/-- Addresses of _LO registers of 64-bit pairs: the _HI register is the next word. -/
def loPairs : List Nat :=
  [0x000004, 0x030010, 0x180140, 0x180148, 0x340214, 0x3C0010, 0x3C0018, 0x3C0020, 0x440008, 0x480000, 0x480008, 0x480114, 0x48011C]

/-- Whether an address is the low word of a pair. -/
def isLo (a : Nat) : Bool :=
  loPairs.contains a || (match windowOf a with | some (_, off) => decide (off = 0x80) | none => false)

/-- Key of a latch: the source that read and the low word's address. -/
def latchKey (src a : Nat) : Nat := src * 2 ^ 24 + a

/-- Read a register for a source: a low word latches its high word, a high word gives back what was latched, DIG_MEAS_DATA[0] latches the
selected measurement register. -/
def Dev.readReg (d : Dev) (src a : Nat) : Option (Dev × Nat) :=
  match d.peek a with
  | none => none
  | some w =>
    if a = 0x380540 then
      let b := d.meas (d.rd DIG_MEAS_SEL_INDEX)
      some ({ d with boot := { d.boot with measLatch := b } }, le b 0 4)
    else if isLo a then
      some ({ d with latches := tput d.latches (latchKey src a) (BitVec.ofNat 32 ((d.peek (a + 4)).getD 0)) }, w)
    else if 4 ≤ a ∧ isLo (a - 4) then
      match tget d.latches (latchKey src (a - 4)) with
      | some h => some ({ d with latches := tdel d.latches (latchKey src (a - 4)) }, h.toNat)
      | none => some (d, w)
    else some (d, w)

end Sys2Proof.Machine
end

