-- ==== Sys2Proof/Machine/Attest.lean ====
section
/-! DEFINITION. The attestation report (R677, Table 17-5), which ATTEST returns and pairing exchanges. -/

namespace Sys2Proof.Machine

/-- "QZAT". -/
def attestMagic : Bytes := [0x51, 0x5A, 0x41, 0x54]

/-- The versions section of a report. -/
def Dev.attestVersions (d : Dev) : Bytes :=
  let ver (s : Nat) : Nat := match d.slotImage s with | some x => imageVersion x | none => 0
  let a := d.boot.record.active
  let his := if d.solo then 0 else match d.peer.hello with | some h => h.version.toNat | none => 0
  [Config.romVersion.toNat, ver a, ver (1 - a), a, d.boot.fuses, Config.profileSetVersion.toNat, his].flatMap (toLE 4) ++ zeros 36

/-- The configuration section of a report: digests of an owner key and of TOP_DEBUG; of the other items the specification gives no
serialisation, and their digests are free values. -/
def Dev.attestConfig (d : Dev) : Dev × Bytes :=
  let free (i : Nat) : Bytes := padTo 32 (Config.freeBytes (d.draws + i) 32)
  let owner := match d.sec.owner with | some k => sha256 k | none => zeros 32
  let dbg := sha256 (toLE 4 ((d.peek 0x000020).getD 0))
  ({ d with draws := d.draws + 5 }, free 0 ++ free 1 ++ free 2 ++ free 3 ++ owner ++ free 4 ++ dbg ++ zeros 32)

/-- Bytes of a report's body with a SELECT. -/
def attestLen (select : Nat) : Nat := 64 + (if bit select 0 then 1024 else 0) + (if bit select 1 then 64 else 0) + if bit select 2 then 256 else 0

/-- A report, its leaf spent: the body, and the signature over it. -/
def Dev.attestReport (d : Dev) (nonce : Bytes) (select tenant : Nat) : Dev × Bytes × Bytes :=
  let sel := select % 8
  let r := d.spendLeaf
  let d := r.1
  let head := attestMagic ++ toLE 2 1 ++ toLE 2 (attestLen sel) ++ toLE 4 sel ++ zeros 4 ++ padTo 8 serialBytes ++ padTo 16 nonce
    ++ stampBytes d.stamp ++ toLE 1 d.quality ++ toLE 1 d.side ++ toLE 2 tenant ++ toLE 8 r.2
  let meas := if bit sel 0 then (upTo 32).flatMap d.meas else []
  let vers := if bit sel 1 then d.attestVersions else []
  let c := if bit sel 2 then d.attestConfig else (d, [])
  let body := head ++ meas ++ vers ++ c.2
  (c.1, body, padTo 5716 (Config.hssSign r.2 body))

end Sys2Proof.Machine
end

