-- ==== Sys2Proof/Machine/Time.lean ====
section
/-! DEFINITION. The timebase and PTP (chapter 18, R695–R706), and PPS_OUT (R793). -/

namespace Sys2Proof.Machine

/-! ### The increment (R697) -/

/-- The temperature of the sensor that TC_SENSOR names, in units of 0.125 °C; with it failed, that of the Q0 sensor 0 (R699). -/
def Dev.tcTemp (d : Dev) : Int :=
  let s := 24 + d.rd TIME_CFG_TC_SENSOR
  if d.sensorFailed s then d.sensor 0 else d.sensor s

/-- The points of the compensation curve (temperature, 1/64 ppb), as far as they ascend. -/
def Dev.curve (d : Dev) : List (Int × Int) :=
  let ps := (upTo 32).map fun k => (signed 12 (d.rd (TIME_TC_TEMP k)), signed 20 (d.rd (TIME_TC_PPB k)))
  ps.foldl (fun (l : List (Int × Int)) p => match l.getLast? with
    | some q => if q.1 < p.1 then l ++ [p] else l
    | none => [p]) []

/-- The value of a curve at a temperature: linear between points, the end values outside them. -/
def curveAt : List (Int × Int) → Int → Int
  | [], _ => 0
  | [p], _ => p.2
  | p :: q :: r, t =>
    if t ≤ p.1 then p.2
    else if t < q.1 then p.2 + (q.2 - p.2) * (t - p.1) / (q.1 - p.1)
    else curveAt (q :: r) t

/-- The interval of a curve that holds a temperature: how many points lie at or below it. -/
def curveInterval (l : List (Int × Int)) (t : Int) : Nat := countP l fun p => decide (p.1 ≤ t)

/-- The nominal increment per cycle of 625 MHz, 1.6 ns, in units of 2^-32 ns. -/
def nominalIncr : Int := 6871947674

/-- The increment for the present temperature, residual and servo term. -/
def Dev.increment (d : Dev) : Nat :=
  let l := d.curve
  let t := d.tcTemp
  let res := (tget d.time.residual (curveInterval l t)).getD 0
  let servo := if d.time.master.isSome then d.time.servo else 0
  (nominalIncr + nominalIncr * (curveAt l t + res + servo) / 64000000000).toNat

/-- The meaning of TIMEBASE_UPDATE (R697). -/
def execTimebaseUpdate (s : State) : Host.Outcome State Fault Refusal :=
  onDev (fun d =>
    let t := d.tcTemp
    let time := { d.time with incr := d.increment }
    if t = time.lockedTemp then { d with time := time }
    else { d with time := { time with lockedTemp := t, lockedSince := d.now } }) s

/-- The meaning of RESIDUAL_LEARN (R698): after 60 s LOCKED at one temperature the servo term is stored for its curve interval. -/
def execResidualLearn (s : State) : Host.Outcome State Fault Refusal :=
  onDev (fun d =>
    if d.rd TIME_STAT_STATE ≠ 2 ∨ d.tcTemp ≠ d.time.lockedTemp ∨ d.now < d.time.lockedSince + sNs 60 then d else
    let k := curveInterval d.curve d.tcTemp
    { d with time := { d.time with residual := tput d.time.residual k d.time.servo, lockedSince := d.now } }) s

/-! ### Steps and states (R700–R703) -/

/-- The timebase steps: counted, with a manager event. -/
def Dev.stepTime (d : Dev) (acc : Nat) : Dev :=
  let d := { d with time := { d.time with acc := acc } }
  (d.bump TIME_STAT_STEPS).event 0x0905 0 0 0 [stampSec d.stamp % 2 ^ 48]

/-- T_off of a port's dies in eighths of a °C (R348): the higher of OFF_TEMP and the last reading of the port's sensor before power-off; after Standby the
highest remote reading that the thermal watch recorded there (R741). -/
def Dev.offEighths (d : Dev) (n : Nat) : Int :=
  let t := 8 * signed 8 (d.rd MAP_SAND_CFG_OFF_TEMP)
  match d.boot.offTop with
  | some x => x
  | none => let last := d.boot.offTemps.getD n t; if t < last then last else t

/-- The first TAI time is known (R348): the time between power-off and now replaces the days added provisionally, and is what a port granted later adds. -/
def Dev.knowTime (d : Dev) : Dev :=
  match d.boot.dumpStamp with
  | none => d
  | some off =>
    let secs := (d.stamp - off) / secUnits
    let d := { d with boot := { d.boot with dumpStamp := none, offTime := some secs } }
    { d with dies := tmap d.dies fun n x =>
        match d.dieProfile n with
        | none => x
        | some p => { x with groups := tmap x.groups fun _ g =>
            if g.provisional = 0 then g
            else { g with age := g.age - g.provisional + secs * afAt p.af (d.offEighths (diePort n)) * 1000 / 3600, provisional := 0 } } }

/-- A time transmitter is selected. -/
def Dev.acquire (d : Dev) (source rank port : Nat) : Dev :=
  let d := { d with time := { d.time with master := some (source, rank), good := 0, twoStep := none } }
  (d.wr TIME_STAT_STATE 1).wr TIME_STAT_PORT port

/-- The time transmitter is lost: LOCKED, and ACQUIRING once LOCKED has been reached, go to HOLDOVER. -/
def Dev.loseMaster (d : Dev) : Dev :=
  let st := d.rd TIME_STAT_STATE
  let d := { d with time := { d.time with master := none, good := 0, twoStep := none } }.wr TIME_STAT_PORT 31
  if st = 2 ∨ (st = 1 ∧ d.time.everLocked) then { d.wr TIME_STAT_STATE 3 with time := { d.time with holdSince := d.now } } else d

/-- The meaning of SYNC_TIMEOUT (R700): four Sync intervals without a Sync, or three Announce intervals without an Announce. -/
def execSyncTimeout (s : State) : Host.Outcome State Fault Refusal :=
  onDev (fun d =>
    let t := d.time
    let st := d.rd TIME_STAT_STATE
    if t.master.isSome ∧ (st = 1 ∨ st = 2) ∧ (t.syncAt + 4 * t.syncIvl ≤ d.now ∨ t.announceAt + 3 * t.announceIvl ≤ d.now) then d.loseMaster
    else d) s

/-- The meaning of HOLDOVER_EXPIRY (R700). -/
def execHoldoverExpiry (s : State) : Host.Outcome State Fault Refusal :=
  onDev (fun d =>
    if d.rd TIME_STAT_STATE = 3 ∧ d.time.holdSince + sNs (3600 * d.rd TIME_CFG_HOLDOVER_MAX) < d.now then
      { d.wr TIME_STAT_STATE 0 with time := { d.time with hasTime := false, everLocked := false } }
    else d) s

/-- TIME_CTL.SET (R703): only in FREE_RUN. -/
def Dev.setTime (d : Dev) : Dev :=
  if d.rd TIME_STAT_STATE ≠ 0 then d.wr TIME_STAT_SET_ERR 1
  else
    let sec := d.rd TIME_SET_LO_SEC + d.rd TIME_SET_HI_SEC * 2 ^ 32
    (d.stepTime (sec * 1000000000 * 2 ^ 32)).knowTime

/-! ### Sync and Announce (R700, R702, R705, R706) -/

/-- An interval of 2^k s in ns. -/
def ivlNs (k : Int) : Nat := if 0 ≤ k then 1000000000 * 2 ^ k.toNat else 1000000000 / 2 ^ (-k).toNat

/-- The servo takes an offset in 2^-16 ns: the first Sync out of FREE_RUN steps the timebase, every other slews it by at most
50 ppm; 16 offsets in a row within 100 ns lock it. -/
def Dev.takeOffset (d : Dev) (off : Int) : Dev :=
  let d := d.wr TIME_OFFSET_OFFSET (unsigned 32 (off / 4096))
  if !d.time.hasTime then
    { d with time := { d.time with hasTime := true } }.stepTime ((d.time.acc : Int) - off * 65536).toNat
  else
    let d := { d with time := { d.time with
      servo := clampI (-3200000) 3200000 (Config.servo off d.time.servo)
      good := if off.natAbs ≤ 100 * 65536 then d.time.good + 1 else 0 } }
    if d.rd TIME_STAT_STATE = 1 ∧ 16 ≤ d.time.good then
      { d.wr TIME_STAT_STATE 2 with time := { d.time with everLocked := true, lockedSince := d.now, lockedTemp := d.tcTemp } }.knowTime
    else d

/-- Whether a message comes from the selected time transmitter, on its port and in the domain. -/
def Dev.fromMaster (d : Dev) (p : PtpMsg) : Bool :=
  decide (p.domain = d.rd TIME_CFG_DOMAIN) && decide (p.port = d.rd TIME_STAT_PORT) &&
    match d.time.master with | some (m, _) => decide (m = p.source) | none => false

/-- The receive stamp of a message at a port, corrected by its ASYM (R696). -/
def Dev.rxStamp (d : Dev) (port : Nat) : Int := (d.stamp : Int) - signed 20 (d.rd (ETH_PORT_PTP_ASYM port)) * 65536 / 1000

/-- A Sync's origin is known: offset taken, and a delay measurement begun. -/
def Dev.syncDone (d : Dev) (port : Nat) (rx origin : Int) : Dev :=
  let d := { d with time := { d.time with diff := rx - origin } }
  let d := d.takeOffset (rx - origin - d.time.delay)
  let kind := if d.isSet TIME_CFG_P2P then 2 else 1
  { d with time := { d.time with reqAt := d.stamp } }.emit (.ptp port kind)

/-- The meaning of SYNC (R700, R702, R705). -/
def execPtpSync (p : PtpMsg) (s : State) : Host.Outcome State Fault Refusal :=
  onDev (fun d =>
    if !d.fromMaster p ∨ p.logIvl < -7 ∨ 0 < p.logIvl then d else
    let d := { d with time := { d.time with syncAt := d.now, syncIvl := ivlNs p.logIvl } }
    let rx := d.rxStamp p.port
    if p.twoStep then { d with time := { d.time with twoStep := some (p.seq, rx.toNat, p.correction) } }
    else d.syncDone p.port rx (p.origin + p.correction)) s

/-- The meaning of FOLLOW_UP (R705). -/
def execPtpFollowUp (p : PtpMsg) (s : State) : Host.Outcome State Fault Refusal :=
  onDev (fun d => match d.time.twoStep with
    | some (q, rx, c) =>
      if !d.fromMaster p ∨ q ≠ p.seq then d
      else { d with time := { d.time with twoStep := none } }.syncDone p.port rx (p.origin + p.correction + c)
    | none => d) s

/-- The meaning of ANNOUNCE (R705, R706): the best clock over the ports is selected; a change of port while LOCKED goes through
HOLDOVER to ACQUIRING. -/
def execPtpAnnounce (p : PtpMsg) (s : State) : Host.Outcome State Fault Refusal :=
  onDev (fun d =>
    let forced := d.rd TIME_CFG_PTP_PORT
    if p.domain ≠ d.rd TIME_CFG_DOMAIN ∨ (forced ≠ 31 ∧ forced ≠ p.port) ∨ 16 < p.port then d else
    let heard (d : Dev) : Dev :=
      { d with time := { d.time with announceAt := d.now, announceIvl := ivlNs p.logIvl } }.wr TIME_STAT_UTC_OFFSET p.utcOffset
    let select (d : Dev) : Dev :=
      let d := heard d
      { d.acquire p.source p.rank p.port with time := { (d.acquire p.source p.rank p.port).time with syncAt := d.now, syncIvl := ivlNs 0 } }
    match d.time.master with
    | none => select d
    | some (m, r) =>
      if m = p.source ∧ p.port = d.rd TIME_STAT_PORT then
        { heard d with time := { (heard d).time with master := some (m, p.rank) } }
      else if p.rank < r then select d
      else d) s

/-! ### Delay measurements (R705) -/

/-- The meaning of DELAY_RESP: half of the two differences; `origin` is the receive stamp that it carries. -/
def execPtpDelayResp (p : PtpMsg) (s : State) : Host.Outcome State Fault Refusal :=
  onDev (fun d =>
    if d.isSet TIME_CFG_P2P ∨ !p.mine ∨ !d.fromMaster p then d
    else { d with time := { d.time with delay := (d.time.diff + (p.origin - p.correction - d.time.reqAt)) / 2 } }) s

/-- The meaning of PDELAY_RESP: half of the round trip less the turnaround that its correction gives. -/
def execPtpPdelayResp (p : PtpMsg) (s : State) : Host.Outcome State Fault Refusal :=
  onDev (fun d =>
    if !d.isSet TIME_CFG_P2P ∨ !p.mine ∨ p.domain ≠ d.rd TIME_CFG_DOMAIN ∨ p.port ≠ d.rd TIME_STAT_PORT then d
    else { d with time := { d.time with delay := (d.rxStamp p.port - d.time.reqAt - p.correction) / 2 } }) s

/-- The meaning of PDELAY_REQ: answered one-step. -/
def execPtpPdelayReq (p : PtpMsg) (s : State) : Host.Outcome State Fault Refusal :=
  onDev (fun d => if p.domain = d.rd TIME_CFG_DOMAIN then d.emit (.ptp p.port 0) else d) s

/-! ### PPS_OUT (R793) -/

/-- The meaning of PPS_PULSE: the pin rises in each new second, and falls 100 ms into it. -/
def execPpsPulse (s : State) : Host.Outcome State Fault Refusal :=
  onDev (fun d =>
    let sec := stampSec d.stamp
    let set (high : Bool) : Dev := { d with time := { d.time with ppsHigh := high, ppsAt := if high then sec else d.time.ppsAt } }.emit (.pin 2 high)
    if d.time.ppsHigh then (if d.time.ppsAt < sec ∨ 100000000 ≤ stampNs d.stamp then set false else d)
    else if d.time.ppsAt < sec then set true else d) s

end Sys2Proof.Machine
end

