-- ==== Sys2Proof/Machine/Peer.lean ====
section
/-! DEFINITION. The Jarel link and the pair (chapter 16): lanes, pairing, heartbeats, mirror frames, isolated mode, handback. -/

namespace Sys2Proof.Machine

/-! ### Lanes (R623–R625) -/

/-- The lanes that carry traffic when some have failed: the 16 lowest-numbered healthy ones, else the 8 lowest, else none. -/
def lanesUsed (bad : List Nat) : List Nat :=
  let well := (upTo 17).filter fun l => !bad.contains l
  if 16 ≤ well.length then well.take 16 else if 8 ≤ well.length then well.take 8 else []

/-- The link brought to the lanes that are left, with the events of R624 and R625. -/
def Dev.setLanes (d : Dev) (bad : List Nat) : Dev :=
  let use := lanesUsed bad
  let half := decide (use.length = 8)
  let spare := decide (use.length = 16) && use.contains 16
  let d := { d with peer := { d.peer with lanesBad := bad } }
  let d := if spare ∧ !d.isSet PEER_LINK_SPARE_USED then (d.wr PEER_LINK_SPARE_USED 1).event 0x0804 0 0 0 [0] else d
  let d := if half ∧ !d.isSet PEER_LINK_HALF then d.event 0x0804 0 0 0 [1] else d
  ((d.wr PEER_LINK_LANES (sumN (use.map fun l => 2 ^ l))).wr PEER_LINK_HALF (b2n half)).wr PEER_LINK_UP (b2n !use.isEmpty)

/-- Whether PEERALIVE_IN still changes (R648). -/
def Dev.hisAlive (d : Dev) : Bool := decide (d.now < d.peer.aliveAt + usNs 80)

/-- The meaning of LANE_FAIL (R624, R625, R648): a lane that carries traffic is given up. -/
def execLaneFail (lane : Nat) (s : State) : Host.Outcome State Fault Refusal :=
  onDev (fun d =>
    if d.solo ∨ !d.isSet PEER_LINK_UP ∨ !bit (d.rd PEER_LINK_LANES) lane ∨ 17 ≤ lane then d else
    let d := d.setLanes (lane :: d.peer.lanesBad)
    if d.linked ∧ !d.isSet PEER_LINK_UP ∧ d.hisAlive then d.isolate else d) s

/-! ### Received frames (R626, R627) -/

/-- A sealed frame is opened: under the key in force, or with NEWKEY under the next one; none where its tag fails or its counter was
passed (R485). -/
def Dev.openSealed (d : Dev) (h : LinkHdr) : Option Dev :=
  let k := d.peer.rxKey
  let k : LinkKey := match h.newkey, k.next with
    | true, some s => { secret := s, counter := 0, next := none }
    | _, _ => k
  if k.secret.isEmpty ∨ !h.tagOk ∨ h.counter.toNat < k.counter then none
  else some { d with peer := { d.peer with rxKey := { k with counter := h.counter.toNat + 1 } } }

/-- A link frame is taken where it is the next in SEQ order, and acknowledged; any other one is dropped, and comes again. -/
def Dev.inOrder (d : Dev) (h : LinkHdr) : Option Dev :=
  if h.seq.toNat ≠ d.peer.rxSeq then none
  else some ({ d with peer := { d.peer with rxSeq := (d.peer.rxSeq + 1) % 2 ^ 32, frameAt := d.now } }.emit (.link 0x09 h.seq.toNat 0))

/-- Run f on a sealed frame of a paired partner. -/
def Dev.onSealed (d : Dev) (h : LinkHdr) (f : Dev → Dev) : Dev :=
  if d.solo ∨ d.fenced ∨ !d.isSet PEER_LINK_UP ∨ d.boot.phase ≠ .running ∨ d.peer.step ≠ 6 then d else
  match d.openSealed h with
  | none => d.bump PEER_LINK_AUTH_FAIL
  | some e => match e.inOrder h with | some e => f e | none => e

/-- Run f on a pairing frame, which is in clear, at a pairing step that takes it. -/
def Dev.onClear (d : Dev) (h : LinkHdr) (p : Nat → Bool) (f : Dev → Dev) : Dev :=
  if d.solo ∨ d.fenced ∨ !d.isSet PEER_LINK_UP ∨ d.boot.phase ≠ .running ∨ !p d.peer.step ∨ d.isSet PEER_STAT_NEW_SERIAL then d else
  match d.inOrder h with
  | some d => f d
  | none => d

/-- ACCEPT of mirror content that has been written (R633). -/
def Dev.acceptFrame (d : Dev) (h : LinkHdr) : Dev := d.linkTell (.accept h.seq.toNat)

/-! ### Resynchronisation (R650) -/

/-- Everything the partner mirrors sent again, in order: what isolated mode left pending, root tables, the whole tail of the map log (R322), journal entries,
the data of every row whose buffers are not released; then the end mark, whose acceptance ends the resynchronisation. -/
def Dev.sendMirror (d : Dev) : Dev :=
  let d := d.peer.owed.foldl (fun (d : Dev) c => d.linkTell (.control c)) d
  let d := { d with peer := { d.peer with owed := [] } }.keyRegs
  let d := (d.sendRoots true).1
  let d := (tkeys d.sessions fun _ x => !x.landed.isEmpty).foldl (fun (d : Dev) n => match tget d.sessions n with
    | some x => d.linkTell (.control (.received x.volume x.base x.landed))
    | none => d) d
  let batch (r : Dev × List Batch) (b : Batch) : Dev × List Batch :=
    let x := r.1.linkSend (.maplog b.group b.first b.recs)
    (x.1, r.2 ++ [{ b with linkSeq := x.2, mirrored := false }])
  let d := d.ckpt.past.foldl (fun (d : Dev) b => (d.linkSend (.maplog b.1 b.2.1 b.2.2)).1) d
  let r := d.batches.foldl batch (d, [])
  let d := { r.1 with batches := r.2 }
  let x := d.linkSend (.jrn (d.journal.map JEntry.jrn))
  let d := { x.1 with journal := x.1.journal.map fun (e : JEntry) => { e with linkSeq := x.2, mirrored := false } }
  let row (d : Dev) (e : Nat × Row) : Dev :=
    if e.2.state = .filling ∨ e.2.state = .closed ∨ !e.2.found.isEmpty then d else
    let n := match d.group e.2.group with | some g => g.n | none => 0
    let x := d.linkSend (.data e.2.group (e.1 % 2 ^ 40) ((e.2.payload n).take (e.2.units * unitBytes)))
    { x.1 with rows := tmod x.1.rows e.1 fun w => { w with linkSeq := x.2, mirrored := false } }
  let d := d.rows.foldl row d
  let x := d.linkSend (.control .resynced)
  { x.1 with peer := { x.1.peer with resyncSeq := x.2 } }.wr PEER_STAT_RESYNC 1

/-- The part enters LINKED: acknowledgements return to R42; what was changed while it resynchronised is told (R676). -/
def Dev.enterLinked (d : Dev) : Dev :=
  let was := d.rd PEER_STAT_STATE
  let d := { d with peer := { d.peer with resyncSeq := none, dramOff := false } }
  let d := (d.wr PEER_STAT_STATE 1).wr PEER_STAT_RESYNC (b2n !d.peer.hisResynced)
  let d := if was = 2 then d.event 0x0802 0 0 0 [0] else d
  let late := d.peer.owed
  let d := late.foldl (fun (d : Dev) c => d.linkTell (.control c)) { d with peer := { d.peer with owed := [] } }
  d.keyRegs.acceptCommands.settle

/-- The meaning of ACCEPT (R633): mirror content up to a SEQ is accepted; the last of a resynchronisation ends it. -/
def execMirrorAccept (h : LinkHdr) (seq : Word32) (s : State) : Host.Outcome State Fault Refusal :=
  onDev (fun d => d.onSealed h fun d =>
    let d := (d.accepted seq.toNat).settle
    if d.peer.resyncSeq.isSome ∧ seqBy d.peer.resyncSeq seq.toNat ∧ (d.rd PEER_STAT_STATE = 0 ∨ d.rd PEER_STAT_STATE = 2) then d.enterLinked
    else if d.peer.resyncSeq.isSome ∧ seqBy d.peer.resyncSeq seq.toNat ∧ d.linked then
      { d with peer := { d.peer with resyncSeq := none } }.wr PEER_STAT_RESYNC (b2n !d.peer.hisResynced)
    else d) s

/-- The meaning of LINK_ACK (R627): every frame up to the named SEQ is acknowledged; commands that waited for that go on. -/
def execLinkAck (seq : Word32) (s : State) : Host.Outcome State Fault Refusal :=
  onDev (fun d =>
    let behind (x : LinkTx) : Bool := decide ((seq.toNat + 2 ^ 32 - x.seq) % 2 ^ 32 < 2 ^ 31)
    { d with peer := { d.peer with unacked := d.peer.unacked.filter fun x => !behind x } }.partnerDone.settle) s

/-! ### Mirror frames (R632–R635) -/

/-- The mirror region changed. -/
def Dev.modMirror (d : Dev) (f : Mirror → Mirror) : Dev := { d with peer := { d.peer with mirror := f d.peer.mirror } }

/-- The meaning of MIRROR_DATA: the data of a row of the partner. -/
def execMirrorData (h : LinkHdr) (g l : Nat) (data : Bytes) (s : State) : Host.Outcome State Fault Refusal :=
  onDev (fun d => d.onSealed h fun d =>
    (d.modMirror fun m => { m with data := tput m.data (rowKey g l) data }).acceptFrame h) s

/-- Whether a COMMIT of some entries retires a journal entry (R634). -/
def jrnRetiredBy (es : List Jrn) (j : Jrn) : Bool :=
  decide (j.type = 1) && es.any fun c => decide (c.type = 2) && decide (c.group = j.group) && decide (j.logseq ≤ c.logseq)

/-- The meaning of MIRROR_JRN: journal entries of the partner; a COMMIT frees those it retires. -/
def execMirrorJrn (h : LinkHdr) (es : List Jrn) (s : State) : Host.Outcome State Fault Refusal :=
  onDev (fun d => d.onSealed h fun d =>
    (d.modMirror fun m => { m with journal := (m.journal ++ es).filter fun j => !jrnRetiredBy es j }).acceptFrame h) s

/-- The first record that a checkpoint root of some records still needs (R322). -/
def rootStart (recs : List Rec) : Option Nat := recs.findSome? fun r => match r with | .ckptRoot s => some s | _ => none

/-- The meaning of MIRROR_MAPLOG: map-log records of the partner; a checkpoint root frees those before its start (R322), whose effect
stands in the partner's checkpoint pages from then on. -/
def execMirrorMaplog (h : LinkHdr) (g first : Nat) (recs : List Rec) (s : State) : Host.Outcome State Fault Refusal :=
  onDev (fun d => d.onSealed h fun d =>
    let keep (b : Nat × Nat × List Rec) : Bool := match rootStart recs with
      | some start => decide (b.1 ≠ g) || decide (start < b.2.1 + b.2.2.length)
      | none => true
    (d.modMirror fun m =>
      let all := (m.tail.filter fun b => decide (b.1 ≠ g) || decide (b.2.1 ≠ first)) ++ [(g, first, recs)]
      { m with tail := all.filter keep, past := m.past ++ all.filter fun b => !keep b }).acceptFrame h) s

/-- The meaning of RELEASE (R634). -/
def execMirrorRelease (h : LinkHdr) (refs : List (Nat × Nat)) (s : State) : Host.Outcome State Fault Refusal :=
  onDev (fun d => d.onSealed h fun d =>
    d.modMirror fun m => { m with data := refs.foldl (fun (t : Tbl Bytes) r => tdel t (rowKey r.1 r.2)) m.data }) s

/-- The meaning of REKEY (R628): the key that the partner's next NEWKEY frame brings into use. -/
def execLinkRekey (h : LinkHdr) (ct : Bytes) (s : State) : Host.Outcome State Fault Refusal :=
  onDev (fun d => d.onSealed h fun d =>
    { d with peer := { d.peer with rxKey := { d.peer.rxKey with next := some (Config.kemDecaps ct) } } }) s

/-! ### Pairing (R629, R630) -/

/-- One bit for each port that the part holds OWNED or ASK (Table 16-3). -/
def Dev.holdsWord (d : Dev) : Nat := sumN (d.portsHeld.map fun n => 2 ^ n)

/-- The HELLO of this part. -/
def Dev.hello (d : Dev) : HelloBody :=
  let x := d.slotImage d.boot.record.active
  { side := BitVec.ofNat 2 d.side, serial := Config.serial
    version := BitVec.ofNat 32 (match x with | some x => imageVersion x | none => 0)
    compat := BitVec.ofNat 16 (match x with | some x => imageCompat x | none => 0)
    state := BitVec.ofNat 3 (d.rd PEER_STAT_STATE), update := d.boot.record.update
    owner := d.sec.owner.getD [], holds := BitVec.ofNat 64 d.holdsWord }

/-- Pairing begins: sequences and keys start anew, and HELLO goes out. -/
def Dev.startPairing (d : Dev) : Dev :=
  let d := if d.linked then d.isolate else d
  let key : LinkKey := { secret := [], counter := 0, next := none }
  let d := { d with peer := { d.peer with
      txSeq := 0, unacked := [], rxSeq := 0, accepted := 0, txKey := key, rxKey := key, step := 1, myNonce := [], hisNonce := []
      mySecret := [], hisSecret := [], hello := none, resyncSeq := none, hisResynced := false, hisCert := [], hisKem := []
      dramOff := false } }
  let d := (d.wr PEER_STAT_NEW_SERIAL 0).wr PEER_STAT_RESYNC 0
  d.linkTell (.hello d.hello)

/-- The meaning of JAREL_LINK_UP (R629, R764): the lanes have trained. A part in its boot ROM asks for an image; any other one pairs. -/
def execJarelLinkUp (lanes : BitVec 17) (s : State) : Host.Outcome State Fault Refusal :=
  onDev (fun d =>
    if d.solo ∨ d.fenced then d else
    let d := d.setLanes ((upTo 17).filter fun l => !bit lanes.toNat l)
    if !d.isSet PEER_LINK_UP then d else
    match d.boot.phase, d.boot.fetch with
    | .fetch, some (slot, _, _, _) =>
      { d with peer := { d.peer with txSeq := 0, unacked := [], rxSeq := 0 } }.askImage slot
    | .running, _ =>
      let d := if d.rd PEER_STAT_STATE = 4 then
          d.homePorts.foldl (fun (d : Dev) n => d.askPort n) ({ d with peer := { d.peer with handback := 0 } }.wr PEER_STAT_STATE 0) else d
      let d := if d.peer.sole ∧ d.peer.handback ≠ 0 then
          { d with peer := { d.peer with handback := 0, owed := d.peer.owed ++ [.handback 1] } } else d
      d.startPairing
    | _, _ => d) s

/-- Pairing has failed at a step (R629), or waits for the manager to accept a serial (step 0, R630): the link is down for traffic, and the
part serves its own side in isolated mode. -/
def Dev.pairFail (d : Dev) (step : Nat) : Dev :=
  let d := if step = 0 then d else
    ({ d with peer := { d.peer with step := 0 } }.wr PEER_STAT_PAIR_FAIL step).event 0x0803 0 0 0 [step]
  if d.rd PEER_STAT_STATE = 0 then d.isolate.acceptUnpaired else d

/-- The first pairing step at which a HELLO fails: versions, side, owner keys; none where it passes (R629, R770). -/
def Dev.helloFails (d : Dev) (b : HelloBody) : Option Nat :=
  let me := d.hello
  if b.version ≠ me.version ∧ !((b.update || me.update) && decide (b.compat = me.compat)) then some 1
  else if b.side.toNat ≠ d.partnerSide then some 2
  else if b.owner ≠ me.owner then some 3
  else none

/-- Pairing goes on to the exchange of certificates. -/
def Dev.sendCerts (d : Dev) : Dev :=
  { d with peer := { d.peer with step := 3 } }.linkTell (.cert Config.deviceCert Config.kemCert)

/-- The meaning of HELLO (R629, R630). -/
def execPairHello (h : LinkHdr) (b : HelloBody) (s : State) : Host.Outcome State Fault Refusal :=
  onDev (fun d => d.onClear h (fun k => decide (k = 1)) fun d =>
    match d.helloFails b with
    | some k => d.pairFail k
    | none =>
      let d := { d with peer := { d.peer with hello := some b, hisUpdate := b.update, step := 2 } }
      if d.peer.partner = some b.serial.toNat then d.sendCerts
      else (d.wr PEER_STAT_NEW_SERIAL 1).pairFail 0) s

/-- PEER_CTL.ACCEPT_NEW (R630): the partner's serial is recorded, and pairing goes on. -/
def Dev.acceptNew (d : Dev) : Dev :=
  match d.peer.hello with
  | some b =>
    if !d.isSet PEER_STAT_NEW_SERIAL then d else
    { d with peer := { d.peer with partner := some b.serial.toNat } }.wr PEER_STAT_NEW_SERIAL 0 |>.sendCerts
  | none => d

/-- The meaning of CERT (R629): both chains must end at the vendor root. A nonce is exchanged, and the partner's is answered with a signed
report. -/
def execPairCert (h : LinkHdr) (device kem : Bytes) (s : State) : Host.Outcome State Fault Refusal :=
  onDev (fun d => d.onClear h (fun k => decide (k = 3)) fun d =>
    if !Config.certsValid device kem then d.pairFail 3
    else if !d.leafReady then d.pairFail 4
    else
      let mine := d.random 16
      let d := mine.1
      let his := padTo 16 (Config.freeBytes d.draws 16)
      let d := { d.drawn with peer := { d.peer with step := 4, myNonce := mine.2, hisNonce := his, hisCert := device, hisKem := kem } }
      let r := d.attestReport his 7 0
      r.1.linkTell (.attest r.2.1 r.2.2)) s

/-- The meaning of ATTEST in pairing (R629): a report over this part's nonce, signed by the partner's device key; a secret is encapsulated
to the partner's key. -/
def execLinkAttest (h : LinkHdr) (body signature : Bytes) (s : State) : Host.Outcome State Fault Refusal :=
  onDev (fun d => d.onClear h (fun k => decide (k = 4)) fun d =>
    let serial := match d.peer.hello with | some b => b.serial.toNat | none => 0
    if hssOk (Config.certKey d.peer.hisCert) body signature ∧ slice body 0x18 16 = d.peer.myNonce ∧ le body 0x10 8 = serial then
      let r := Config.kemEncaps d.peer.hisKem d.draws
      { d.drawn with peer := { d.peer with step := 5, mySecret := r.2 } }.linkTell (.kem r.1)
    else d.pairFail 4) s

/-- "JAREL". -/
def jarelText : Bytes := [0x4A, 0x41, 0x52, 0x45, 0x4C]

/-- The key of frames sent by a side (pairing step 5): `a` and `b` are the secrets and serials of sides A and B. -/
def jarelKey (a b : Bytes) (side : Nat) (sa sb : Nat) : Bytes :=
  hmac (a ++ b) (jarelText ++ [BitVec.ofNat 8 (if side = 1 then 0x41 else 0x42)] ++ toLE 6 sa ++ toLE 6 sb)

/-- Whether the part's word stands for the metadata key of a side (R671): of the other side after it took that side over, of its own side
unless the partner holds a port of it. -/
def Dev.metaOwner (d : Dev) (side : Nat) : Bool :=
  if side ≠ d.side then d.peer.sole else
    let his := match d.peer.hello with | some b => b.holds.toNat | none => 0
    !(d.homePorts.any fun n => his.testBit n)

/-- At pairing the part sends the metadata key of every side whose groups it owns, and of its own side where neither owns them (R671). -/
def Dev.sendMetaKeys (d : Dev) : Dev :=
  [1, 2].foldl (fun (d : Dev) side =>
    match d.metaOwner side, d.keyAt (metaPlace (decide (side = 2))) with
    | true, some k => d.linkTell (.control (.key (metaPlace (decide (side = 2))) k))
    | _, _ => d) d

/-- A key record told by the partner: taken, but for the metadata key of a side whose groups this part owns (R671). -/
def Dev.takeKey (d : Dev) (place : Nat) (k : KeyRec) : Dev :=
  if place < 2 ∧ d.metaOwner (place + 1) then d else
    { d with sec := { d.sec with
      keys := tput d.sec.keys place k, gens := tdel d.sec.gens place, lost := d.sec.lost.filter (· ≠ place) } }.keyRegs

/-- The meaning of KEM (R629): both secrets are known, keys come into use, and the first sealed frames go out. -/
def execPairKem (h : LinkHdr) (ct : Bytes) (s : State) : Host.Outcome State Fault Refusal :=
  onDev (fun d => d.onClear h (fun k => decide (k = 5)) fun d =>
    let his := Config.kemDecaps ct
    let mine := d.peer.mySecret
    let hs := match d.peer.hello with | some b => b.serial.toNat | none => 0
    let ms := Config.serial.toNat
    let key (side : Nat) : Bytes := if d.side = 1 then jarelKey mine his side ms hs else jarelKey his mine side hs ms
    let d := { d with peer := { d.peer with
        step := 6, hisSecret := his, txKey := { secret := key d.side, counter := 0, next := none }
        rxKey := { secret := key d.partnerSide, counter := 0, next := none } } }
    let d := d.linkTell (.heartbeat (d.rd PEER_STAT_STATE) d.holdsWord d.peer.hbSeq)
    let own := d.ports.filter fun e => decide (e.2.own = .owned) && d.isSet (FLP_STAT_TRAINED e.1)
    (own.foldl (fun (d : Dev) e => e.2.results.elim d fun r => d.linkTell (.control (.training e.1 (d.rd (FLP_STAT_MODE_NOW e.1)) r))) d).sendMetaKeys) s

/-! ### Handback (R651) -/

/-- PEER_CTL.HANDBACK: handback starts where the partner waits for it. -/
def Dev.startHandback (d : Dev) : Dev :=
  if d.peer.sole ∧ d.peer.handback = 0 ∧ d.peer.step = 6 ∧ d.peer.hisState = 4 then
    { d with peer := { d.peer with handback := 1, owed := d.peer.owed.filter (· ≠ .handback 1) } }
  else d

/-- Handback goes on at the survivor as far as it can: the side's commands done and its writes programmed, checkpoint, streams and sessions
closed, root tables accepted, ports released. -/
def Dev.handbackStep (d : Dev) : Dev :=
  if !d.peer.sole then d else
  match d.peer.handback with
  | 1 =>
    if !d.sideQuiet false then d else
    if d.ckpt.whole ≠ 2 then d.checkpointWhole else
    let d := { d with ckpt := { d.ckpt with whole := 0 } }.closeStreams fun s => !d.ownVol s.volume
    let d := d.closeSessions fun s => !d.ownVol s.volume
    let r := d.sendRoots false
    { r.1 with peer := { r.1.peer with handback := 4, resyncSeq := r.2 } }
  | 4 =>
    let done := match d.peer.resyncSeq with | some q => seqBy (some q) d.peer.accepted | none => true
    if !done then d else
    let d := d.leavePorts d.partnerPorts
    { d with peer := { d.peer with handback := 5, resyncSeq := none } }
  | 5 =>
    if d.partnerPorts.any fun n => match tget d.ports n with | some p => decide (p.own ≠ .free) | none => false then d
    else { d with peer := { d.peer with handback := 6 } }.linkTell (.control (.handback 5))
  | _ => d

/-- A part that takes its home side back accepts commands once every port it asked for has been trained (handback steps 5 and 6); it
clears UPDATE (R771). -/
def Dev.portsBack (d : Dev) : Dev :=
  if d.rd PEER_STAT_STATE ≠ 4 ∨ d.peer.handback ≠ 5 then d else
  let waits (n : Nat) : Bool := match tget d.ports n with
    | some p => decide (p.own = .ask) || decide (p.own = .leaving) || (decide (p.own = .owned) && p.training)
    | none => false
  if d.homePorts.any waits then d else
  let d := { d with peer := { d.peer with handback := 0 } }
  let d := (if d.boot.record.update then d.writeRecord fun r => { r with update := false } else d).acceptCommands
  if d.now < d.peer.hbAt + usNs 80 then ((d.wr PEER_STAT_STATE 1).linkTell (.control (.handback 6))).sendMirror.settle else d.isolate

/-- The survivor has handed the side back (handback step 6): commands held for it are turned away, and the pair is LINKED. -/
def Dev.handedBack (d : Dev) : Dev :=
  if d.peer.handback ≠ 6 then d else
  let d := { d with peer := { d.peer with hisUpdate := false } }
  ((d.turnAway false).forgetSide.wr PEER_STAT_STATE 1).sendMirror.admRegs.reRisk.settle

/-- A handback step that the partner has reached: at 5 its ports are free, and a part that waits for its home side asks for them, while the
partner of a part that updates seizes them (R769); at 6 it accepts commands; at 7 it has set UPDATE (R168). -/
def Dev.handbackTold (d : Dev) (step : Nat) : Dev :=
  match step with
  | 5 =>
    if d.rd PEER_STAT_STATE = 4 then
      let d := { d.takeBack with peer := { d.takeBack.peer with handback := 5 } }
      (d.homePorts.foldl (fun (d : Dev) n => d.askPort n) d).portsBack
    else if d.linked ∧ d.peer.takeover.isNone then { d with peer := { d.peer with hisUpdate := true } }.seize false
    else d
  | 6 => d.handedBack
  | 7 => { d with peer := { d.peer with hisUpdate := true } }
  | _ => d

/-! ### CONTROL -/

/-- A row's data sent again where the partner has lost its mirror copy (Table 19-2). -/
def Dev.resendRow (d : Dev) (g l : Nat) : Dev :=
  match d.row g l, d.group g with
  | some w, some x =>
    let r := d.mirrorSend (.data g l ((w.payload x.n).take (w.units * unitBytes)))
    r.1.modRow g l fun w => { w with linkSeq := r.2 }
  | _, _ => d

/-- What a CONTROL message does. -/
def Dev.control (d : Dev) (h : LinkHdr) (c : Ctl) : Dev :=
  match c with
  | .root g standby root pages =>
    (d.modMirror fun m => { m with
      roots := tput m.roots g root, standby := tput m.standby g standby, pages := tput m.pages g pages
      past := m.past.filter fun b => decide (b.1 ≠ g) || decide (pages.first < b.2.1 + b.2.2.length) }).acceptFrame h
  | .resynced =>
    let d := { d with peer := { d.peer with hisResynced := true, dramOff := false } }
    (if d.linked ∧ d.peer.resyncSeq.isNone then d.wr PEER_STAT_RESYNC 0 else d).acceptFrame h
  | .training port mode r =>
    { d with savedTraining := tput d.savedTraining port (mode, r) }.modMirror fun m => { m with training := tput m.training port (mode, r) }
  | .key place k => d.takeKey place k
  | .erase place =>
    let gone := decide (place % 32 < 16)
    ((d.deleteVols fun v => gone && decide (v.tenant = place / 32) && decide (v.keydom = place % 32)).1).eraseKey place
  | .owner pub => { d with sec := { d.sec with owner := some pub } }
  | .dramOff =>
    let d := { d with peer := { d.peer with dramOff := true } }
    if d.linked then d.isolate else d
  | .handback step => d.handbackTold step
  | .resend g l => d.resendRow g l
  | .tenant t bs =>
    let x := (tget d.tenants t).getD (Tenant.fresh t d.now)
    { d with tenants := tput d.tenants t { x with bindings := bs } }
  | .noTenant t => if thas d.tenants t then (d.removeTenant t false).1 else d
  | .askTenant t => d.linkTell (.control (.tenantState t (d.quiet t)))
  | .tenantState t quiet => d.tenantAnswer t quiet
  | .received v base gs => d.modMirror fun m => { m with received := if gs.isEmpty then tdel m.received v else tput m.received v (base, gs) }

/-- The meaning of CONTROL. -/
def execLinkControl (h : LinkHdr) (c : Ctl) (s : State) : Host.Outcome State Fault Refusal :=
  onDev (fun d => d.onSealed h fun d => (d.control h c).settle) s

/-! ### Heartbeats (R639–R641) -/

/-- The meaning of HEARTBEAT_SEND (R639, R652): the pin changes level, a HEARTBEAT goes to a paired partner, and what waits for the pair
goes on. With DRAM off only the pin changes (R739). -/
def execHeartbeatSend (s : State) : Host.Outcome State Fault Refusal :=
  onDev (fun d =>
    if d.fenced ∨ d.boot.phase ≠ .running ∨ d.thermal.tripped.isSome then d else
    let up := !d.peer.aliveOut
    let d := { d with peer := { d.peer with aliveOut := up } }.emit (.pin 0 up)
    if 3 ≤ d.rd PWR_STAT_STATE then d else
    let d := if d.solo ∨ d.peer.step ≠ 6 then d else
      let n := (d.peer.hbSeq + 1) % 2 ^ 32
      { d with peer := { d.peer with hbSeq := n } }.linkTell (.heartbeat (d.rd PEER_STAT_STATE) d.holdsWord n)
    d.handbackStep.activateStep.settle) s

/-- The partner holds the home side (R339): the dump is discarded, ports asked for are let go, and the part waits for handback. -/
def Dev.awaitHandback (d : Dev) : Dev :=
  if d.rd PEER_STAT_STATE = 4 then d else
  let asked := d.homePorts.filter fun n => match tget d.ports n with | some p => decide (p.own = .ask) | none => false
  ((d.leavePorts asked).discardDump).wr PEER_STAT_STATE 4

/-- What an accepted HEARTBEAT of a paired partner leads to: handback at a survivor, AWAIT_HANDBACK where the partner holds this part's home
side, else the resynchronisation. -/
def Dev.paired (d : Dev) : Dev :=
  let st := d.rd PEER_STAT_STATE
  let held := d.homePorts.any fun n => bit d.peer.hisHolds n
  if d.peer.sole then
    if d.isSet PEER_CFG_AUTO_HANDBACK ∨ d.peer.owed.contains (.handback 1) then d.startHandback else d
  else if held ∧ (st = 0 ∨ st = 4) then d.awaitHandback
  else if (st = 0 ∨ st = 2) ∧ d.peer.resyncSeq.isNone ∧ !d.peer.dramOff then d.sendMirror
  else d

/-- The meaning of HEARTBEAT (R639, R641): accepted, intervals without one counted; a partner that claims a home port this part holds
fences it. -/
def execHeartbeat (h : LinkHdr) (state : BitVec 8) (holds : Word64) (hbSeq : Word32) (s : State) : Host.Outcome State Fault Refusal :=
  onDev (fun d => d.onSealed h fun d =>
    let missed := if d.peer.hbAt = 0 then 0 else (d.now - d.peer.hbAt) / usNs 10 - 1
    let d := d.addSat PEER_HB_MISSED missed
    let d := { d with peer := { d.peer with hbAt := d.now, hisState := state.toNat, hisHolds := holds.toNat } }
    let claimed (n : Nat) : Bool := bit holds.toNat n && match tget d.ports n with | some p => decide (p.own = .owned) | none => false
    if d.homePorts.any claimed then (d.fence 0x0F00 0 0 [0x0641, hbSeq.toNat]).settle else d.paired) s

/-- The meaning of PEERALIVE_IN_CHANGE (R640). -/
def execPeeraliveInChange (s : State) : Host.Outcome State Fault Refusal :=
  onDev (fun d => if d.solo then d else { d with peer := { d.peer with aliveIn := !d.peer.aliveIn, aliveAt := d.now } }) s

/-- Whether the partner is dead (R640). -/
def Dev.partnerDead (d : Dev) : Bool := decide (d.peer.hbAt + usNs 80 ≤ d.now) && decide (d.peer.aliveAt + usNs 80 ≤ d.now)

/-- The meaning of PARTNER_DEAD (R640, R642): a part of a pair seizes the partner's ports; one that has not paired serves its own side; one
that waited for its home side takes it back. -/
def execPartnerDead (s : State) : Host.Outcome State Fault Refusal :=
  onDev (fun d =>
    if d.solo ∨ d.fenced ∨ d.boot.phase ≠ .running ∨ !d.partnerDead ∨ d.peer.takeover.isSome ∨ d.peer.sole then d else
    match d.rd PEER_STAT_STATE with
    | 1 => (d.seize false).settle
    | 2 => (d.seize true).settle
    | 0 => d.isolate.acceptUnpaired
    | 4 =>
      let d := { d with peer := { d.peer with handback := 5 } }
      (d.homePorts.foldl (fun (d : Dev) n => d.askPort n) d).portsBack
    | _ => d) s

/-- The meaning of ISOLATED_MODE (R648): linked, no frame accepted for 80 µs or the link down, while the partner still lives. -/
def execIsolatedMode (s : State) : Host.Outcome State Fault Refusal :=
  onDev (fun d =>
    if d.linked ∧ !d.fenced ∧ d.hisAlive ∧ (d.peer.frameAt + usNs 80 ≤ d.now ∨ !d.isSet PEER_LINK_UP) then d.isolate else d) s

/-! ### Images for a partner that boots (R631) -/

/-- The meaning of BOOT_FETCH (R631, R764): answered, or taken by the part that asked. -/
def execBootFetch (h : LinkHdr) (f : FetchBody) (s : State) : Host.Outcome State Fault Refusal :=
  onDev (fun d =>
    if d.solo ∨ d.fenced ∨ !d.isSet PEER_LINK_UP then d else
    match d.inOrder h with
    | none => d
    | some d => if d.boot.phase = .fetch then d.fetchFrame f else if d.boot.phase = .running then d.fetchAnswer f else d) s

end Sys2Proof.Machine
end

