-- ==== Sys2Proof/Machine/Ports.lean ====
section
/-! DEFINITION. Flash ports (chapter 06): grants, training, the write guard. -/

namespace Sys2Proof.Machine

/-! ### Training (R264–R271) -/

/-- A boot port has been trained: its warm-boot data is written to the anchor store. -/
def Dev.keepWarm (d : Dev) (n : Nat) : Dev :=
  if (bootPorts d.side).contains n ∧ !d.boot.record.warm then d.writeRecord fun r => { r with warm := true } else d

/-- Modes the ports run at have changed: capacities and guarantees are judged again (R270), and what waits may go. -/
def Dev.portsChanged (d : Dev) : Dev := d.admRegs.reRisk.issueFlash.settle

/-- Whether every lane's margin meets the minimum of the port's profile (R265). -/
def Port.passes (p : Port) (r : Training) : Bool :=
  match p.profile with | some q => r.margins.all fun m => decide (q.minMargin ≤ m) | none => true

/-- A training has passed: the port runs at its mode, its results are kept, and sent to the partner (R256, R264, R636). -/
def Dev.trained (d : Dev) (n mode : Nat) (r : Training) : Dev :=
  let d := if d.isSet (FLP_STAT_TRAINED n) then d.bump (FLP_RETRAIN_RETRAINS n) else d
  let d := d.modPort n fun p => { p with training := false, saved := false, attempts := 0, codewords := 0, trainedAt := d.now
                                         trainedTemp := d.sensor (d.portSensor n), results := some r }
  let d := d.wr (FLP_STAT_MODE_NOW n) mode
  let d := ((d.wr (FLP_STAT_TRAINED n) 1).wr (FLP_STAT_STEPPED n) (b2n (decide (mode < d.rd (FLP_CTL_MODE n))))).wr (FLP_SLIP_SLIPS n) 0
  let d := d.keepWarm n
  if d.linked then d.linkTell (.control (.training n mode r)) else d

/-- A training has failed (R265, R266): repeated once, then a mode lower within the interface, and at its lowest the port fails. -/
def Dev.trainingFailed (d : Dev) (n : Nat) (p : Port) : Dev :=
  let mode := p.trainAt
  let low := match p.profile with | some q => q.lowMode | none => 1
  if p.attempts = 0 then (d.modPort n fun p => { p with attempts := 1 }).startTraining n mode
  else if low < mode then
    let d := ((d.modPort n fun p => { p with attempts := 0 }).wr (FLP_STAT_STEPPED n) 1).event 0x0401 0 0 n [mode - 1]
    d.startTraining n (mode - 1)
  else
    let d := d.modPort n fun p => { p with training := false, attempts := 0 }
    let d := ((d.wr (FLP_STAT_TRAINED n) 0).wr (FLP_STAT_FAILED n) 1).event 0x0402 2 0 n [0]
    d.faultPort n

/-- The meaning of TRAINING_DONE (R265, R266). -/
def execTrainingDone (n : Nat) (r : Training) (s : State) : Host.Outcome State Fault Refusal :=
  onDev (fun d => match tget d.ports n with
    | none => d
    | some p =>
      if !p.training ∨ p.own ≠ .owned then d
      else (if p.passes r then d.trained n p.trainAt r else d.trainingFailed n p).portsBack.portsChanged) s

/-- Whether a port is due for a retraining (R267). -/
def Dev.retrainDue (d : Dev) (n : Nat) (p : Port) : Bool :=
  let moved := d.sensor (d.portSensor n) - p.trainedTemp
  p.due || decide (p.trainedAt + msNs (d.rd (FLP_RETRAIN_INTERVAL n)) ≤ d.now) ||
    decide (8 * (d.rd (FLP_RETRAIN_TEMP_DELTA n) : Int) < moved) || decide (moved < -(8 * (d.rd (FLP_RETRAIN_TEMP_DELTA n) : Int)))

/-- The meaning of RETRAINING (R267–R269, R271): a port that is due trains again, at FLP_CTL.MODE. Operations that run in its dies go
on. -/
def execRetraining (n : Nat) (s : State) : Host.Outcome State Fault Refusal :=
  onDev (fun d => match tget d.ports n with
    | none => d
    | some p =>
      if p.profile.isSome ∧ d.portReady n ∧ d.retrainDue n p then d.startTraining n (d.targetMode n) else d) s

/-! ### Ownership (R272, Table 6-4) -/

/-- The retention ages of a port's dies grow by the time the part was off: by what is known of it, else provisionally by OFF_DEFAULT days (R348). Only
block groups that stood through that time on this part's side grow. -/
def Dev.addOffTime (d : Dev) (n : Nat) : Dev :=
  let grown (p : Profile) (g : BGrp) : BGrp :=
    if !g.due then g else
    match d.boot.offTime, d.boot.dumpStamp with
    | some secs, _ => { g with age := g.age + secs * afAt p.af (d.offEighths n) * 1000 / 3600, provisional := 0, due := false }
    | none, some _ =>
      let more := d.rd MAP_SAND_CFG_OFF_DEFAULT * 24 * 1000 * afAt p.af (d.offEighths n)
      { g with age := g.age + more, provisional := more, due := false }
    | none, none => { g with due := false }
  { d with dies := tmap d.dies fun die x =>
      match (if diePort die = n then d.dieProfile die else none) with
      | none => x
      | some p => { x with groups := tmap x.groups fun _ g => grown p g } }

/-- A granted port runs at TAKEOVER_MODE, within its profile's interface, with the results its last owner sent, until it is trained (R256,
R271); without them it is trained at that mode (R650). The part takes commands while the RESET of its dies still runs (R274). -/
def Dev.resumePort (d : Dev) (n : Nat) : Dev :=
  let mode := d.modeFor n (d.rd (FLP_CTL_TAKEOVER_MODE n))
  let d := d.modPort n fun p => { p with resetting := tkeys d.dies fun k x => decide (diePort k = n) && x.used }
  match tget d.savedTraining n with
  | some r => ((d.modPort n fun p => { p with saved := true, due := true, results := some r.2 }).wr (FLP_STAT_MODE_NOW n) mode).wr (FLP_STAT_TRAINED n) 1
  | none => (d.modPort n fun p => { p with due := true }).startTraining n mode

/-- The meaning of PORTGNT_HIGH (R272, R258, R271). -/
def execPortgntHigh (n : Nat) (ids : List (Option DieId)) (s : State) : Host.Outcome State Fault Refusal :=
  onDev (fun d => match tget d.ports n with
    | none => d
    | some p =>
      if p.own ≠ .ask then d else
      let seizing := match d.peer.takeover with | some t => t.waiting.contains n | none => false
      let d := ((d.modPort n fun p => { p with own := .owned }).showOwn n 2 true).wr (FLP_OWN_GNT_PIN n) 1
      let d := (upTo 8).foldl (fun (d : Dev) ce => d.emit (.flashReset n ce)) (d.emit (.portIdle n idleLevels))
      let d := d.emit (.portWp n (!d.isSet (FLP_GUARD_STAT_HELD n)))
      let d := ((d.wr (FLP_STAT_TRAINED n) 0).wr (FLP_STAT_MODE_NOW n) 0).identify n ids
      let d := d.addOffTime n
      let known := ((tget d.ports n).bind (·.profile)).isSome
      let d := if !known then d else if seizing then d.resumePort n else d.startTraining n (d.targetMode n)
      (d.seized n).portsBack.portsChanged) s

/-- A port leaves the part at once: outputs high impedance, its operations back with the scheduler as not issued. -/
def Dev.freePort (d : Dev) (n : Nat) : Dev :=
  let d := d.modPort n fun p => { p with own := .free, training := false }
  let back (o : FlashOp) : FlashOp := if diePort o.die = n then { o with issued := false, left := [], marked := false } else o
  let d := { d with flash := d.flash.map back }
  (((d.emit (.portWp n false)).showOwn n 0 false).wr (FLP_OWN_GNT_PIN n) 0).emit (.portHiZ n)

/-- The meaning of GRANT_LOST (R272, R641): in pair operation the part fences. A part strapped SOLO can no longer read the port's dies. -/
def execGrantLost (n : Nat) (s : State) : Host.Outcome State Fault Refusal :=
  onDev (fun d => match tget d.ports n with
    | none => d
    | some p =>
      if p.own ≠ .owned then d else
      let d := (d.freePort n).bump (FLP_OWN_LOSSES n)
      if d.solo then ((d.event 0x0402 2 0 n [1]).faultPort n).portsChanged
      else (d.fence 0x0402 0 n [1]).settle) s

/-- The meaning of ASK_TIMEOUT (R272, R646). -/
def execAskTimeout (n : Nat) (s : State) : Host.Outcome State Fault Refusal :=
  onDev (fun d => match tget d.ports n with
    | none => d
    | some p =>
      if p.own ≠ .ask ∨ d.now < p.askedAt + usNs 20 then d else
      let seizing := match d.peer.takeover with | some t => t.waiting.contains n | none => false
      let d := ((d.freePort n).bump (FLP_OWN_GNT_TIMEOUTS n)).event 0x0403 0 0 n []
      let d := if seizing then d.abandonTakeover else if d.solo then d.faultPort n else d
      d.portsBack.portsChanged) s

/-- The meaning of LEAVING_DONE (R272): a home port that handback has freed for this part is asked for at once. -/
def execLeavingDone (n : Nat) (s : State) : Host.Outcome State Fault Refusal :=
  onDev (fun d => match tget d.ports n with
    | none => d
    | some p =>
      if p.own ≠ .leaving then d else
      let d := d.freePort n
      if d.rd PEER_STAT_STATE = 4 ∧ d.peer.handback = 5 ∧ d.homePorts.contains n then d.askPort n else d) s

/-! ### Write guard (R290–R297) -/

/-- The event of a hold that has lasted longer than 1 s (R295). -/
def Dev.reportHold (d : Dev) (n : Nat) (p : Port) : Dev :=
  if p.reported ∨ d.now ≤ p.heldAt + sNs 1 then d
  else (d.event 0x0404 0 0 n [(d.now - p.heldAt) / 1000000]).modPort n fun p => { p with reported := true }

/-- The meaning of VCCQ_SAMPLE (R290, R291): the supply is `pm` thousandths off the nominal of the port's mode. -/
def execVccqSample (n : Nat) (pm : Int) (s : State) : Host.Outcome State Fault Refusal :=
  onDev (fun d => match tget d.ports n with
    | none => d
    | some p =>
      let supply := decide (50 < pm.natAbs)
      let hot := d.tempOut n
      let d := (d.wr (FLP_GUARD_STAT_SUPPLY_OUT n) (b2n supply)).wr (FLP_GUARD_STAT_TEMP_OUT n) (b2n hot)
      let held := d.isSet (FLP_GUARD_STAT_HELD n)
      let d := d.modPort n fun p => { p with
        supplyHold := p.supplyHold && held || supply
        supplyGood := if pm.natAbs ≤ 40 then some (p.supplyGood.getD d.now) else none }
      if supply ∨ d.heatHolds n then
        let d := if held then d.modPort n fun p => { p with goodSince := none } else
          d.holdWrites n
        (if held then d.reportHold n p else d).issueFlash
      else if !held then d
      else
        let good := decide (pm.natAbs ≤ 40) && d.tempGood n
        let d := d.modPort n fun p => { p with goodSince := if good then some (p.goodSince.getD d.now) else none }
        d.reportHold n p) s

/-- The meaning of GUARD_RELEASE (R291, R294). -/
def execGuardRelease (n : Nat) (s : State) : Host.Outcome State Fault Refusal :=
  onDev (fun d => match tget d.ports n with
    | none => d
    | some p =>
      let ended : Bool := match p.goodSince with | some t => decide (t + msNs 1 ≤ d.now) | none => false
      if !ended ∨ !d.isSet (FLP_GUARD_STAT_HELD n) then d else
      let d := (d.reportHold n p).wr (FLP_GUARD_STAT_HELD n) 0
      let d := d.modPort n fun p => { p with goodSince := none, supplyHold := false }
      (if p.own = .owned then d.emit (.portWp n true) else d).issueFlash) s

end Sys2Proof.Machine
end

