-- ==== Sys2Proof/Machine/RegWrite.lean ====
section
/-! DEFINITION. Writing a register (R7–R16, R20–R24): every field of the word by its access code, then what the register's own rules make of the
write. -/

namespace Sys2Proof.Machine

/-! ### Legal values of RWC fields that look beyond themselves (R13) -/

/-- A signed number kept in a w-bit field brought into a range. -/
def clampSigned (w : Nat) (lo hi : Int) (v : Nat) : Nat := unsigned w (clampI lo hi (signed w v))

/-- Whether every group has room for what it uses and its reserve with an OP and a SHARE (R359). -/
def Dev.spaceFits (d : Dev) (op share : Nat) : Bool :=
  d.groups.all fun e => let g := e.1; match d.group g with
    | some x =>
      let u := d.usableWith g op share
      decide (x.used + u * d.rd MAP_SPACE_CFG_RESERVE / 1000 ≤ u)
    | none => true

/-- The largest value from `old` up to v that satisfies ok; v itself where it is no rise. -/
def largestOk (ok : Nat → Bool) (old v : Nat) : Nat := (((upTo (v - old)).map (v - ·)).find? ok).getD (Nat.min old v)

/-- Buffers of pool p that the journal and the scrape floor may take together (R221). -/
def Dev.floorRoom (d : Dev) (p : Nat) : Nat := (70 - d.rd (BPM_VFLOOR_V_MAX p)) * poolTotal p / 100

/-- The fewest retry sets that a profile in use on a port has. -/
def Dev.fewestRetries (d : Dev) : Nat :=
  (d.ports.filterMap fun e => e.2.profile.map fun q => q.retry.length).foldl Nat.min 16

/-- The class weights of ETH_ETS_BW in force: each 1–100; weights of classes without strict priority that do not sum to 100 are scaled to it,
rounded down, and the lowest such class takes the remainder. -/
def etsWeights (strict v : Nat) : Nat :=
  let w := (upTo 4).map fun k => clampN 1 100 (bits v (8 * k) 8)
  let free := (upTo 4).filter fun k => !bit strict k
  let sum := sumN (free.map fun k => w.getD k 0)
  let low := free.headD 4
  let part (k : Nat) : Nat := w.getD k 0 * 100 / Nat.max 1 sum
  let rest := 100 - sumN (free.map part)
  let new (k : Nat) : Nat :=
    if sum = 100 ∨ bit strict k then w.getD k 0 else if k = low then part k + rest else part k
  (upTo 4).foldl (fun n k => setBits n (8 * k) 8 (new k)) 0

/-- The legal value nearest to v of an RWC field whose rule looks beyond itself: register table at `base`, index i, lowest bit. -/
def Dev.legalSpecial (d : Dev) (base i lo v : Nat) : Nat :=
  match base, lo with
  | 0x020100, 0 => clampSigned 8 (-40) (signed 8 (d.rd (THM_THR_THROTTLE i)) - 1) v
  | 0x020100, 8 => clampSigned 8 (-39) (signed 8 (d.rd (THM_THR_TRIP i)) - 1) v
  | 0x040008, 0 => clampN 16 96 v
  | 0x040008, 8 => clampN 8 (d.rd (ETH_PFC_XOFF i) - 8) v
  | 0x040010, 0 => etsWeights (d.rd (ETH_ETS_MAP_STRICT i)) v
  | 0x100000, 4 => (match (tget d.ports i).bind (·.profile) with
    | some q => q.clampMode v
    | none => clampN 1 8 v)
  | 0x100000, 8 => clampN 1 (d.rd (FLP_CTL_MODE i)) v
  | 0x100014, 0 => clampSigned 8 (-40) 0 v
  | 0x100014, 8 => clampSigned 8 60 95 v
  | 0x140000, 16 => clampN 1 (Nat.max 1 d.fewestRetries) v
  | 0x180000, 0 => largestOk (fun n => d.spaceFits (d.rd MAP_SPACE_CFG_OP) n) (d.rd MAP_PRIMER_CFG_SHARE) (clampN 2 32 v)
  | 0x180010, 8 => clampN 5 (d.rd MAP_SCRAPE_CFG_START) v
  | 0x180010, 16 => clampN (d.rd MAP_SCRAPE_CFG_START) 250 v
  | 0x180014, 0 => largestOk (fun n => d.spaceFits n (d.rd MAP_PRIMER_CFG_SHARE)) (d.rd MAP_SPACE_CFG_OP) (clampN 4 28 v)
  | 0x180054, 16 => clampSigned 8 0 85 v
  | 0x180100, 0 => d.clampHot v
  | 0x200010, 8 => clampN (d.rd (BPM_WM_AMBER i) + 5) 95 v
  | 0x200014, 0 => Nat.min (clampN (poolJRange i).1 (poolJRange i).2 v) (Nat.max (poolJRange i).1 (d.floorRoom i - (poolSRange i).1))
  | 0x200014, 16 => Nat.min (clampN (poolSRange i).1 (poolSRange i).2 v) (Nat.max (poolSRange i).1 (d.floorRoom i - d.rd (BPM_FLOOR_J_FLOOR i)))
  | 0x200018, 16 =>
    if i = 4 then 0 else
    Nat.min (satAt 60 v) ((70 * poolTotal i - 100 * (d.rd (BPM_FLOOR_J_FLOOR i) + d.rd (BPM_FLOOR_S_FLOOR i))) / poolTotal i)
  | 0x240004, 8 => clampN (d.rd SCH_SLOT_WM_AMBER + 5) 95 v
  | _, _ => v

/-! ### The fields of a word -/

/-- A write under way: the part, whether an RWL field would have changed under its lock, whether a value was clamped. -/
structure WriteAcc where
  dev : Dev
  locked : Bool
  clamped : Bool

/-- Registers whose RW fields show other state and are not stored when they are written. -/
def Dev.notStored (d : Dev) (a : Nat) : Bool :=
  decide (0x2C0000 ≤ a ∧ a < 0x2C0040) || decide (a = 0x140104) || (decide (a = 0x1C0014) && (d.group (d.rd ARR_GSEL_GROUP)).isSome)

/-- One field of a register written (Table 0-3, R13, R16): `d0` is the part as it stood before the write. -/
def WriteAcc.field (d0 : Dev) (sp : RegSpec) (i a w : Nat) (x : WriteAcc) (f : FieldSpec) : WriteAcc :=
  let fld : Fld := ⟨a, f.lo, f.width⟩
  let v := bits w f.lo f.width
  match f.acc with
  | .ro => x
  | .rw => if d0.notStored a then x else { x with dev := x.dev.wr fld v }
  | .wo => if sp.base = 0x380500 then { x with dev := x.dev.wr fld v } else x
  | .w1c => { x with dev := x.dev.wr fld (x.dev.rd fld - (x.dev.rd fld &&& v)) }
  | .w1s => { x with dev := x.dev.wr fld (x.dev.rd fld ||| v) }
  | .rwc c =>
    let v' := match c with
      | .range lo hi => clampN lo hi v
      | .special => x.dev.legalSpecial sp.base i f.lo v
    { x with dev := x.dev.wr fld v', clamped := x.clamped || decide (v' ≠ v) }
  | .rwl lock =>
    if d0.isSet (lock i) then { x with locked := x.locked || decide (d0.rd fld ≠ v) }
    else { x with dev := x.dev.wr fld v }

/-- The order in which the fields of a register are taken: ascending, but a sensor's limits from the top (WARN lies below THROTTLE, and THROTTLE
below TRIP), and MAP_SPACE_CFG from the top too, so that OP is judged with the RESERVE of the same write (R359). -/
def RegSpec.order (sp : RegSpec) : List FieldSpec := if sp.base = 0x020100 ∨ sp.base = 0x180014 then sp.fields.reverse else sp.fields

/-! ### What a write starts -/

/-- The write of ARR_GRP_CTL: CREATE, DISSOLVE, RESUME, REBUILD, REHOME on the selected group, in that order where a write sets several
(DESIGN CHOICE, log 175). -/
def Dev.groupControl (d : Dev) (v : Nat) : Dev :=
  let d := if bit v 0 then d.createGroup else d
  let d := if bit v 1 then d.dissolveGroup else d
  let d := if bit v 2 then d.resumeGroup else d
  let d := if bit v 3 then d.rebuildGroup else d
  if bit v 4 then d.rehome (d.rd ARR_GSEL_GROUP) else d

/-- A write of ARR_GRP_CFG for an existing group: GEOMETRY is ignored, SECOND_FAULT sets the group's policy (Table 8-4). -/
def Dev.groupConfig (d : Dev) (v : Nat) : Dev :=
  (d.modGroup (d.rd ARR_GSEL_GROUP) fun x => { x with cover := bit v 4 && decide (geoK x.geometry = 2) }).policyNow (d.rd ARR_GSEL_GROUP)

/-- A write of LDPC_RLT_DATA: base of the selected entry; ignored for a die not in use (R298), and where the device has written the entry at
the same instant, whose value is kept (R289). -/
def Dev.setBase (d : Dev) (v : Nat) : Dev :=
  let die := d.rd LDPC_RLT_SEL_DIE
  let now : Bool := match tget d.learnedAt (offKey die (d.rd LDPC_RLT_SEL_GROUP) (d.rd LDPC_RLT_SEL_LEVEL)) with
    | some e => decide (e.2 = d.now) | none => false
  match tget d.dies die with
  | some x =>
    if x.used && !now then
      { d with offsets := tput d.offsets (offKey die (d.rd LDPC_RLT_SEL_GROUP) (d.rd LDPC_RLT_SEL_LEVEL)) (signed 8 (bits v 0 8)) }
    else d
  | none => d

/-- DIG_MEAS_CTL.EXTEND on a register the manager may extend (R494, R495). -/
def Dev.extendByManager (d : Dev) (v : Nat) : Dev :=
  if bit v 8 ∧ 16 ≤ bits v 0 5 then d.extend (bits v 0 5) ((upTo 8).flatMap fun j => toLE 4 (d.rd (DIG_MEAS_VAL_VALUE j))) else d

/-- FLT_LEDGER_TEST (R251): the named ledger's comparator finds an unequal pair; nothing else changes. -/
def Dev.ledgerTest (d : Dev) (v : Nat) : Dev :=
  if bit v 8 ∧ bits v 0 3 < 6 then d.wr FLT_LEDGER_STAT_TEST_HIT (d.rd FLT_LEDGER_STAT_TEST_HIT ||| 2 ^ bits v 0 3) else d

/-- A fall of a group's USABLE against what it was (R359). -/
def Dev.usableFell (d d0 : Dev) : Dev :=
  (tkeys d.groups fun _ _ => true).foldl (fun (d : Dev) g => if d.usable g < d0.usable g then d.event 0x0409 0 0 g [1] else d) d

/-- Space, reserves and scrape of every group judged again after a write of their settings. -/
def Dev.spaceSettings (d d0 : Dev) : Dev :=
  let d := (d.usableFell d0).reserves
  (tkeys d.groups fun _ _ => true).foldl (fun (d : Dev) g => (d.spaceCheck g).scrapeState g) d

/-- What a write of a register starts, its fields being stored: `d0` is the part before the write. -/
def Dev.writeEffect (d d0 : Dev) (base i a v : Nat) : Dev :=
  match base with
  | 0x00003C => if bit v 0 then d.confirm else d
  | 0x010210 => if bit v 31 then d.reloadLow i else d
  | 0x020200 => d.releaseHold
  | 0x03000C => if bit v 0 then d.setTime else d
  | 0x040000 => d.groupWritten i
  | 0x04000C => d.wr (ETH_ETS_BW_BW i) (etsWeights (d.rd (ETH_ETS_MAP_STRICT i)) (d.rd (ETH_ETS_BW_BW i)))
  | 0x042000 =>
    let d := if bit v 6 then d.setAddress else d
    if bit v 7 then d.connect else d
  | 0x080004 =>
    let d := if bit v 0 then d.startHandback else d
    let d := if bit v 1 then d.acceptNew else d
    if bit v 2 then d.rekeyTx else d
  | 0x090210 => d.loadBinding
  | 0x090400 => d.reRisk
  | 0x10000C => if bit v 15 then d.modPort i fun p => { p with due := true } else d
  | 0x100014 => d.guardCheck i
  | 0x140104 => d.setBase v
  | 0x180000 =>
    let d := if d.rd MAP_PRIMER_CFG_SHARE = d0.rd MAP_PRIMER_CFG_SHARE then d else { d with dies := tmap d.dies fun _ x => { x with moved := [] } }
    d.spaceSettings d0
  | 0x180010 => d.spaceSettings d0
  | 0x180014 => d.spaceSettings d0
  | 0x180100 => d.moveHot (d0.rd MAP_DEDUP_CFG_HOT_BANKS) (d.rd MAP_DEDUP_CFG_HOT_BANKS)
  | 0x1C0014 => d.groupConfig v
  | 0x1C0018 => d.groupControl v
  | 0x200010 => d.poolRegs i
  | 0x200014 => (d.setExcess i).poolRegs i
  | 0x200018 => (d.setExcess i).poolRegs i
  | 0x240004 => d.schedRegs
  | 0x24011C =>
    let d := if bit v 0 then d.retireCore else d
    let d := if bit v 1 then d.clearHist else d
    if bit v 2 then d.selftestNow else d
  | 0x280314 => if bit v 2 then { d with progs := tmod d.progs (d.rd TINT_PSEL_INDEX) fun p => { p with stateReset := false } } else d
  | 0x2C0000 => d.assignBank i (bit v 2) (bits v 4 10)
  | 0x2C0120 =>
    let d := if bit v 16 then d.lookup else d
    if bit v 17 then d.lookStep else d
  | 0x380520 => d.extendByManager v
  | 0x440004 =>
    let d := if bit v 28 then d.testClaim else d
    if bit v 29 then d.testAct else d
  | 0x440010 => if bit v 10 then d.testRelease else d
  | 0x440028 => if bit v 0 then d.scrubStart else d
  | 0x480104 => d.ledgerTest v
  | _ => if a = 0 then d else d

/-! ### Windows (R20–R24, Table 15-4) -/

/-- A word of a tenant's window written: TW_EVENT and TW_NOTE_T by either side, TW_NOTE_M by the manager; all else ignored. -/
def Dev.writeWindow (d : Dev) (t off v : Nat) (manager : Bool) : Dev :=
  if off = 0x20 then d.modTenant t fun x => { x with events := x.events &&& ~~~ BitVec.ofNat 32 v }
  else if 0xB8 ≤ off ∧ off < 0xC0 then d.modTenant t fun x => { x with notesT := modAt (padNotes 2 x.notesT) ((off - 0xB8) / 4) fun _ => BitVec.ofNat 32 v }
  else if manager = true ∧ 0xA8 ≤ off ∧ off < 0xB8 then
    d.modTenant t fun x => { x with notesM := modAt (padNotes 4 x.notesM) ((off - 0xA8) / 4) fun _ => BitVec.ofNat 32 v }
  else d
where
  /-- Notes as n words. -/
  padNotes (n : Nat) (l : List Word32) : List Word32 := (l ++ List.replicate n 0).take n

/-! ### A write whole -/

/-- What a register write comes to: the part, LOCKED, clamped, the link frame its reply waits for, and whether its reply waits for a port group
(number of the group, plus one). -/
structure Written where
  dev : Dev
  locked : Bool
  clamped : Bool
  seq : Option Nat
  group : Nat

/-- A REG_WRITE of v to address a (R7–R16); none where a is no register (R8). -/
def Dev.writeReg (d : Dev) (a v : Nat) : Option Written :=
  if a % 4 ≠ 0 then none else
  match windowOf a with
  | some (t, off) => if windowHole (thas d.tenants t) off then none else some { dev := d.writeWindow t off v true, locked := false, clamped := false, seq := none, group := 0 }
  | none =>
    match specAt a with
    | none => none
    | some (sp, i) =>
      if sp.base = 0x380520 ∧ bit v 8 ∧ bits v 0 5 < 16 then
        some { dev := d, locked := true, clamped := false, seq := none, group := 0 }
      else
        let x := sp.order.foldl (WriteAcc.field d sp i a v) { dev := d, locked := false, clamped := false }
        let e := x.dev.writeEffect d sp.base i a v
        let r : Dev × Option Nat := if sp.base = 0x090224 ∧ bit v 0 then e.writeBinding else (e, none)
        let held := decide (sp.base = 0x040000) && bit v 2 && r.1.groupHeld i
        some { dev := r.1.settle, locked := x.locked, clamped := x.clamped, seq := r.2, group := if held then i + 1 else 0 }

/-- REG_WRITE (R7–R16): RETVAL is the word read back, also where the write completes LOCKED. -/
def Dev.runRegWrite (d : Dev) (id : Nat) : Dev :=
  match tget d.cmds id with
  | none => d
  | some c =>
    match d.writeReg c.msg.address c.msg.value with
    | none => d.endCmd id .addressInvalid 0 0
    | some w =>
      let d := if w.clamped then w.dev.noteClamp id else w.dev
      let back := (d.peek c.msg.address).getD 0
      if w.locked then d.endCmd id .locked 0 back
      else if w.group ≠ 0 then d.modCmd id fun c => { (c.setNum 19 w.group) with hold := .drain, retval := back }
      else d.waitPartner id w.seq back

/-- The source number of a command's reads for the latches of R17: its queue. -/
def Cmd.source (c : Cmd) : Nat := c.qkey

/-- REG_READ (R7, R8, R17). -/
def Dev.runRegRead (d : Dev) (id : Nat) : Dev :=
  match tget d.cmds id with
  | none => d
  | some c =>
    match d.readReg c.source c.msg.address with
    | none => d.endCmd id .addressInvalid 0 0
    | some (d, w) => d.succeed id w

/-- The window address that a WIN_READ or WIN_WRITE names; none for an offset outside the window (R22, R23). -/
def Cmd.windowAddr (c : Cmd) : Option Nat :=
  let off := c.msg.address
  if off % 4 ≠ 0 ∨ 0xBC < off then none else some (windowBase c.tenant + off)

/-- WIN_READ (R21–R23). -/
def Dev.runWinRead (d : Dev) (id : Nat) : Dev :=
  match tget d.cmds id with
  | none => d
  | some c =>
    match c.windowAddr.bind fun a => d.readReg c.source a with
    | none => d.endCmd id .addressInvalid 0 0
    | some (d, w) => d.succeed id w

/-- WIN_WRITE (R21–R24). -/
def Dev.runWinWrite (d : Dev) (id : Nat) : Dev :=
  match tget d.cmds id with
  | none => d
  | some c =>
    match c.windowAddr with
    | none => d.endCmd id .addressInvalid 0 0
    | some a =>
      let d := d.writeWindow c.tenant c.msg.address c.msg.value false
      d.succeed id ((d.peek a).getD 0)

end Sys2Proof.Machine
end

