-- ==== Sys2Proof/Machine/RunCompute.lean ====
section
/-! DEFINITION. The opcodes of the compute family (Tables 3-10 and 3-11, R152–R156, R534–R541, R556, R557, R579–R582). -/

namespace Sys2Proof.Machine

/-! ### Programs -/

/-- The index of a program that a handle names to a tenant (R541). -/
def Dev.progOf (d : Dev) (tenant h : Nat) : Option Nat :=
  match tget d.progs (bits h 0 10) with
  | none => none
  | some p => if bits h 10 6 = 0 ∧ p.gen = bits h 16 16 ∧ p.tenant = tenant then some (bits h 0 10) else none

/-- Whether an image passes the loader's checks (R535): `n` is LENGTH. -/
def tintImageOk (b : Bytes) (n : Nat) : Bool :=
  let code := le b 0x08 4
  let state := le b 0x0C 4
  let init := le b 0x10 4
  let entries := (upTo 4).map fun i => le b (0x18 + 4 * i) 4
  let lengths := 4 ≤ code ∧ code ≤ 16777152 ∧ code % 4 = 0 ∧ state ≤ 16777216 ∧ init ≤ state ∧ 64 + code + init = n ∧ b.length = n
  decide (le b 0 4 = 0x746E6954) && decide (le b 4 2 = 1) && decide (le b 0x34 4 = crc32c (patch b 0x34 (zeros 4))) && decide lengths &&
    entries.any (fun e => decide (e ≠ 0xFFFFFFFF)) && entries.all fun e => decide (e = 0xFFFFFFFF) || (decide (e % 4 = 0) && decide (e < code))

/-- LOAD_PROGRAM (R152, R534–R539): the lowest free index, with the generation it has come to; the program is resident, its state segment
made from INIT. -/
def Dev.runLoadProgram (d : Dev) (id : Nat) : Dev :=
  match tget d.cmds id with
  | none => d
  | some c =>
    let b := c.payload.take c.length
    if !tintImageOk b c.length then d.endCmd id .programInvalid 0 0 else
    let code := le b 0x08 4
    let state := le b 0x0C 4
    let stack := le b 0x14 2
    let out := le b 0x16 2
    let budgets := (upTo 4).map fun i => le b (0x2C + 2 * i) 2
    let clamped := decide (clampN 1 64 stack ≠ stack) || decide (clampN 1 256 out ≠ out) || budgets.any fun x => decide (x = 0)
    let d := if clamped then d.noteClamp id else d
    let mem := ceilDiv code 4096 * 4096 + ceilDiv state 4096 * 4096
    let mine := countP d.progs fun e => decide (e.2.tenant = c.tenant)
    if 16 ≤ mine ∨ 1024 ≤ d.progs.length ∨ 2 ^ 32 < d.progMem + mem then d.endCmd id .limit 0 0 else
    match (upTo 1024).find? fun n => !thas d.progs n with
    | none => d.endCmd id .limit 0 0
    | some n =>
      let init := b.drop (64 + code)
      let gen := (tget d.progGens n).getD firstGen
      let p : Prog :=
        { tenant := c.tenant, gen := gen, code := slice b 64 code, init := init, stateLen := state, stack := clampN 1 64 stack
          outMax := clampN 1 256 out, entries := (upTo 4).map fun i => (let e := le b (0x18 + 4 * i) 4; if e = 0xFFFFFFFF then none else some e)
          wraps := (upTo 4).map (fun i => bit (le b (0x28 + i) 1) 0), budgets := budgets.map (fun x => Nat.max 1 x), loaded := true
          resident := true, state := padTo state init, stateReset := false, traps := 0
          last := { cause := 0, entry := 0, seg := 0, code := 0, pc := 0, off := 0 }, misses := 0 }
      { d with progs := tput d.progs n p }.endCmd id .success 0 (n + gen * 65536)

/-- Whether a binding stands: made by a BIND_PROGRAM that has completed, or that has not yet, and not unbound.  DESIGN CHOICE, log 150: R153
does not say what becomes of the binding of a stream that is closed, nor whether a BIND_PROGRAM held at step 4 makes its program IN_USE; the
one stays in force and keeps its program IN_USE, and so does the other from its parse. -/
def Dev.bindingLive (d : Dev) (b : Binding) : Bool :=
  b.ended.isNone && match b.binder with
  | none => true
  | some i => match tget d.cmds i with | some k => decide (k.stage ≠ .done) | none => false

/-- Whether work under way needs program n: a SCAN that runs it, a task of it, or a write that has begun step 8 under a binding ended since.
Of the last two R153 does not speak; they count as uses of the program (DESIGN CHOICE, log 150). -/
def Dev.progRuns (d : Dev) (n : Nat) : Bool :=
  (d.cmds.any fun e => decide (e.2.op = .scan) && decide (e.2.stage = .path) && decide (e.2.scanProg = n)) ||
    (d.sched.tasks.any fun e => decide (e.2.prog = n)) ||
    d.bindings.any fun b => decide (b.prog = n) && (b.ended.getD []).any fun i =>
      match tget d.cmds i with | some k => decide (k.stage ≠ .done) | none => false

/-- UNLOAD_PROGRAM (R153, R541). -/
def Dev.runUnloadProgram (d : Dev) (id : Nat) : Dev :=
  match tget d.cmds id with
  | none => d
  | some c =>
    match d.progOf c.tenant (c.msg.par 0x28 4) with
    | none => d.endCmd id .paramInvalid 0 0
    | some n =>
      let bound := d.bindings.any fun b => decide (b.prog = n) && d.bindingLive b
      if bound ∨ d.progRuns n then d.endCmd id .inUse 0 0 else (d.dropProg n).endCmd id .success 0 0

/-! ### Bindings -/

/-- The stream a BIND_PROGRAM or UNBIND_PROGRAM names: none for every write to the volume. -/
def Cmd.bindStream (c : Cmd) : Option Nat := if c.msg.stream = 0xFFFF then none else some c.msg.stream.toNat

/-- The tenant's share of cores, at least 1 (R556). -/
def Dev.coreShare (d : Dev) (t : Nat) : Nat := Nat.max 1 (match tget d.tenants t with | some x => x.cores | none => 1)

/-- The quadrant that holds most of the members of a volume's group, the lowest of several (R557). -/
def Dev.volQuadrant (d : Dev) (v : Nat) : Nat :=
  match (d.vol v).bind fun x => d.group x.group with
  | none => 0
  | some g => (argMax (fun q => countP g.members fun m => decide (m.die / 512 = q)) (upTo 4)).getD 0

/-- Effective CORES of a BIND_PROGRAM (R556). -/
def Dev.bindCores (d : Dev) (c : Cmd) : Nat := Nat.max 1 (Nat.min (clampN 1 128 (c.msg.par 0x2E 2)) (d.coreShare c.tenant))

/-- Whether a volume or stream has a program at a point (R153): one bound by a BIND_PROGRAM that has completed. -/
def Dev.pointTaken (d : Dev) (v : Nat) (stream : Option Nat) (point : Nat) : Bool :=
  d.bindings.any fun b => decide (b.volume = v) && decide (b.stream = stream) && decide (b.point = point) && b.binder.isNone && b.ended.isNone

/-- The program and point that a BIND_PROGRAM names, where they are legal: a program of the tenant that has the point's entry. -/
def Dev.bindTarget (d : Dev) (c : Cmd) : Option (Nat × Nat) :=
  let point := c.msg.par 0x2C 1
  match d.progOf c.tenant (c.msg.par 0x28 4) with
  | none => none
  | some n =>
    let has : Bool := match tget d.progs n with | some p => (p.entries.getD (point - 1) none).isSome | none => false
    if (point = 1 ∨ point = 2) ∧ has then some (n, point) else none

/-- A number that no program has. -/
def noProg : Nat := 1024

/-- A BIND_PROGRAM that is held at step 4 leaves its binding, not yet made, at its parse, also while its point is occupied: writes parsed while it waits are
held at step 8 (R154). -/
def Dev.bindEarly (d : Dev) (id : Nat) : Dev :=
  match tget d.cmds id with
  | none => d
  | some c =>
    let point := c.msg.par 0x2C 1
    if point ≠ 1 ∧ point ≠ 2 then d else
      let b : Binding :=
        { prog := match d.bindTarget c with | some x => x.1 | none => noProg, tenant := c.tenant, volume := c.volume, stream := c.bindStream, point := point, cores := [], binder := some id, since := id }
      { d with bindings := d.bindings ++ [b] }

/-- BIND_PROGRAM (R153, R154, R556). -/
def Dev.runBindProgram (d : Dev) (id : Nat) : Dev :=
  match tget d.cmds id with
  | none => d
  | some c =>
    let cores := c.msg.par 0x2E 2
    let d := { d with bindings := d.bindings.filter fun b => decide (b.binder ≠ some id) }
    match d.bindTarget c with
    | none => d.endCmd id .paramInvalid 0 0
    | some (n, point) =>
      let d := if clampN 1 128 cores ≠ cores then d.noteClamp id else d
      if d.pointTaken c.volume c.bindStream point then d.endCmd id .inUse 0 0 else
      let k := d.bindCores c
      let b : Binding :=
        { prog := n, tenant := c.tenant, volume := c.volume, stream := c.bindStream, point := point
          cores := d.chooseCores k (d.volQuadrant c.volume), binder := none, since := id }
      ({ d with bindings := d.bindings ++ [b] }.slotFloor.reRisk).endCmd id .success 0 k

/-- The writes that have begun step 8 under a binding of a FILTER: a grain of theirs is in the program or past it. -/
def Dev.begunUnder (d : Dev) (b : Binding) : List Nat :=
  if b.point ≠ 1 then [] else
  tkeys d.cmds fun i c => decide (c.op = .write) && decide (c.stage ≠ .done) && decide (d.bindingFor c i 1 = some b) &&
    c.grains.any fun e => decide (e.2.step = 75) || (decide (8 ≤ e.2.step) && decide (e.2.step ≤ 20)) ||
      (decide (60 ≤ e.2.step) && decide (e.2.step ≤ 63))

/-- UNBIND_PROGRAM (R154): it takes effect now, but for the writes that have begun step 8. -/
def Dev.runUnbindProgram (d : Dev) (id : Nat) : Dev :=
  match tget d.cmds id with
  | none => d
  | some c =>
    let point := c.msg.par 0x2C 1
    let mine (b : Binding) : Bool :=
      decide (b.volume = c.volume) && decide (b.stream = c.bindStream) && decide (b.point = point) && b.binder.isNone && b.ended.isNone
    let unbound (b : Binding) : Option Binding :=
      if !mine b then some b else if (d.begunUnder b).isEmpty then none else some { b with ended := some (d.begunUnder b) }
    if (point ≠ 1 ∧ point ≠ 2) ∨ !d.bindings.any mine then d.endCmd id .paramInvalid 0 0
    else ({ d with bindings := d.bindings.filterMap unbound }.slotFloor.reRisk).endCmd id .success 0 0

/-! ### SCAN (R155, R546, R556, R568) -/

/-- What a SCAN takes at its parse: its core set. -/
def Dev.scanCores (d : Dev) (c : Cmd) : List Nat := d.chooseCores (d.coreShare c.tenant) (d.volQuadrant c.volume)

/-- SCAN: a program that has neither SCAN nor FINISH is no legal one. Each mapped grain of the range is read; one without SCAN runs FINISH
alone. -/
def Dev.runScan (d : Dev) (id : Nat) : Dev :=
  match tget d.cmds id with
  | none => d
  | some c =>
    match d.progOf c.tenant (c.msg.par 0x28 4), d.vol c.volume with
    | some n, some v =>
      let first := c.msg.par 0x30 8
      let count := c.msg.par 0x38 8
      let t := c.msg.par 0x2C 4
      let entry (k : Nat) : Bool := match tget d.progs n with | some p => (p.entries.getD k none).isSome | none => false
      if !entry 2 ∧ !entry 3 then d.endCmd id .paramInvalid 0 0
      else if v.capacity < first + count then d.endCmd id .rangeInvalid 0 0 else
      let d := if clampN 1 3600000 t ≠ t then d.noteClamp id else d
      let spg := v.grainSectors
      let mapped := (d.issued.grainEntries c.volume none).filter fun e =>
        decide (e.2.kind ≠ 0) && decide (first < (e.1 + 1) * spg) && decide (e.1 * spg < first + count)
      let grains : Tbl Grain := if entry 2 then mapped.map fun e => (e.1, Grain.fresh []) else []
      (d.modCmd id fun c =>
        { (((c.setNum 0 v.grainBytes).setNum 13 n).setNum 14 (c.arrived + msNs (clampN 1 3600000 t))) with stage := .path, grains := grains }).scanStep id
    | none, _ => d.endCmd id .paramInvalid 0 0
    | _, none => d.endCmd id .handleInvalid 0 0

/-! ### PATTERN_LOAD (R156, R579–R582) -/

/-- The entry an 80-byte record holds; none where its VALID is clear. -/
def entryOf (b : Bytes) : Option SEntry :=
  if bit (le b 0x48 1) 0 then
    some { key := BitVec.ofNat 256 (le b 0 32), mask := BitVec.ofNat 256 (le b 0x20 32), result := BitVec.ofNat 64 (le b 0x40 8) }
  else none

/-- PATTERN_LOAD: one or two entries, written in one step, of banks the tenant owns. -/
def Dev.runPatternLoad (d : Dev) (id : Nat) : Dev :=
  match tget d.cmds id with
  | none => d
  | some c =>
    let e := c.msg.par 0x28 4
    let n := c.msg.par 0x2C 1
    let owned (i : Nat) : Bool :=
      let b := d.stencil.bank (i / 4096)
      decide (b.kind = 3) && decide (b.tenant = c.tenant) && b.next.isNone
    if (n ≠ 1 ∧ n ≠ 2) ∨ 65536 < e + n ∨ !((upTo n).all fun i => owned (e + i)) then d.endCmd id .paramInvalid 0 0 else
    ((upTo n).foldl (fun (d : Dev) i => d.setEntry (e + i) (entryOf (slice c.payload (80 * i) 80))) d).endCmd id .success 0 0

end Sys2Proof.Machine
end

