-- ==== Sys2Proof/Machine/Kat.lean ====
section
/-! DEFINITION. Known-answer tests (R173, R189, R775): an instance is tested once its message has ended; one that fails stays out
of service, and a spare comes in where the unit has one. -/

namespace Sys2Proof.Machine

/-- Instances of the unit that ENGINE of KAT_RUN names: compression engines, cipher lanes, digest lanes, parity engines, LDPC decoders. -/
def katCount (engine : Nat) : Nat := ([16, 32, 64, 2, 128])[engine]?.getD 0

/-- Work that stands in the queues of instances out of service goes to others that take it. -/
def Dev.rehouse (d : Dev) : Dev :=
  let d := (tkeys d.engines fun e _ => !d.isSet (CMP_ENG_IN_SERVICE e)).foldl (fun (d : Dev) e =>
    (d.engine e).queue.foldl (fun (d : Dev) j =>
      match d.submitCmp (e / 4) j with
      | some d => d.setEngine e { (d.engine e) with queue := (d.engine e).queue.filter (·.order ≠ j.order) }
      | none => d) d) d
  let lanes (dig : Bool) (d : Dev) : Dev := (tkeys (if dig then d.digests else d.ciphers) fun l _ => !d.laneUp dig l).foldl (fun (d : Dev) l =>
    let x := d.lane dig l
    (x.slots ++ x.queue).foldl (fun (d : Dev) j =>
      match d.submitLane dig (laneQuadrant dig l) { j with done := 0 } with
      | some d =>
        let y := d.lane dig l
        d.setLane dig l { y with queue := y.queue.filter (·.order ≠ j.order), slots := y.slots.filter (·.order ≠ j.order) }
      | none => d) d) d
  lanes true (lanes false d)

/-- Whether an instance runs no message; an LDPC decoder, whether it has no codeword (R173). -/
def Dev.katIdle (d : Dev) (engine i : Nat) : Bool :=
  match engine with
  | 0 => (d.engine i).running.isNone
  | 1 => (d.lane false i).running.isNone
  | 2 => (d.lane true i).running.isNone
  | 3 => true
  | _ => !d.freads.any fun e => e.2.cws.any fun w => decide (w.2.decoder = some i)

/-- The verdict of a test on an instance: KAT_FAIL and IN_SERVICE (R173). -/
def Dev.katVerdict (d : Dev) (engine i : Nat) (pass : Bool) : Dev :=
  let mark (fail service : Fld) : Dev := (d.wr fail (b2n !pass)).wr service (b2n pass)
  match engine with
  | 0 => mark (CMP_ENG_KAT_FAIL i) (CMP_ENG_IN_SERVICE i)
  | 1 => mark (CIP_LANE_KAT_FAIL i) (CIP_LANE_IN_SERVICE i)
  | 2 => mark (DIG_LANE_KAT_FAIL i) (DIG_LANE_IN_SERVICE i)
  | 3 => { d with outOfService := d.outOfService.filter (· ≠ 768 + i) ++ (if pass then [] else [768 + i]) }
  | _ => if pass then { d with outOfService := d.outOfService.filter (· ≠ 1024 + i) } else d.decoderFails i

/-- KAT_RUN with number id tests every instance it still has to test that runs no message, and ends after the last: RETVAL counts the
instances tested and failed. Whether an instance passes is a free value. Numbers 24 and 25 of the command count. -/
def Dev.katStep (d : Dev) (id : Nat) : Dev :=
  match tget d.cmds id with
  | none => d
  | some c =>
    if c.op ≠ .katRun ∨ c.hold ≠ .kat ∨ c.stage = .done then d else
    let engine := c.msg.par 0x28 1
    let now_ := c.waits.filter fun i => d.katIdle engine i
    let test (d : Dev) (i : Nat) : Dev :=
      let pass := Config.freeBool d.draws
      let d := d.drawn.katVerdict engine i pass
      d.modCmd id fun c =>
        { (c.setNum 24 (c.num 24 + 1)).setNum 25 (c.num 25 + b2n !pass) with waits := c.waits.filter (· ≠ i) }
    let d := now_.foldl test d
    let d := if now_.isEmpty then d else d.reRisk
    match tget d.cmds id with
    | some c => if c.waits.isEmpty then d.endCmd id .success 0 (c.num 24 + c.num 25 * 2 ^ 32) else d
    | none => d

/-- Every known-answer test goes on as far as it can, and work moves off instances out of service. -/
def Dev.katAll (d : Dev) : Dev :=
  ((tkeys d.cmds fun _ c => decide (c.hold = .kat)).foldl (fun (d : Dev) id => d.katStep id) d).rehouse.serveDecoders

end Sys2Proof.Machine
end

