-- ==== Sys2Proof/Machine/RunIo.lean ====
section
/-! DEFINITION. The opcodes of the I/O family that move no sectors, of the diagnostics family, and EVENT_READ (Tables 3-3, 3-17 and 3-19). -/

namespace Sys2Proof.Machine

/-! ### Records -/

/-- A deferred record as its 32 bytes (Table 2-9). -/
def Deferred.bytes (r : Deferred) : Bytes :=
  toLE 2 r.queue ++ toLE 2 r.tag ++ toLE 4 r.seq ++ toLE 8 r.volume ++ toLE 8 r.lba ++ toLE 4 r.sectors ++ toLE 2 r.cause.value ++ zeros 2

/-- An event record as its 96 bytes (Table 22-4). -/
def Evt.bytes (e : Evt) : Bytes :=
  let b := if e.body.isEmpty then e.args.flatMap (toLE 8) else e.body
  toLE 8 e.seq ++ toLE 8 (stampLow e.stamp) ++ toLE 2 e.code ++ toLE 1 e.sev ++ toLE 1 (b2n e.anchor) ++ toLE 2 e.tenant ++ toLE 2 e.inst ++
    toLE 4 e.count ++ toLE 2 b.length ++ zeros 2 ++ padTo 64 b

/-! ### NOP, ECHO -/

/-- NOP (Table 3-4). -/
def Dev.runNop (d : Dev) (id : Nat) : Dev := d.endCmd id .success 0 0

/-- ECHO: DATA returned (Table 3-19). -/
def Dev.runEcho (d : Dev) (id : Nat) : Dev :=
  match tget d.cmds id with
  | none => d
  | some c => d.endCmd id .success 0 (c.msg.par 0x28 8)

/-! ### ABORT (R114–R118) -/

/-- ABORT, resolved against its target as it stands (Table 2-10). A target that has its outcome already counts as past its commit
point. -/
def Dev.runAbort (d : Dev) (id : Nat) : Dev :=
  match tget d.cmds id with
  | none => d
  | some c =>
    let tag := c.msg.par 0x28 2
    let seq := c.msg.par 0x2C 4
    match d.cmds.find? fun e => decide (e.2.qkey = c.qkey) && decide (e.2.seq = seq) && decide (e.2.tag = tag) && !e.2.sent && decide (e.1 ≠ id) with
    | some e =>
      if e.2.stage = .done ∨ e.2.committed then d.endCmd id .tooLate 0 0
      else (d.endCmd e.1 .aborted 0 0).endCmd id .success 0 0
    | none =>
      let back := (c.seq + 2 ^ 32 - seq) % 2 ^ 32
      let known : Bool := match tget d.queues c.qkey with | some q => q.tags.contains (tag, seq) | none => false
      d.endCmd id (if known ∧ 1 ≤ back ∧ back ≤ 4096 then .tooLate else .notFound) 0 0

/-! ### FLUSH, GET_DEFERRED, EVENT_READ -/

/-- The changes a FLUSH of a volume covers: those of its tenant whose status frame has been sent (R138). -/
def Dev.flushCovers (d : Dev) (c : Cmd) : List Nat :=
  tkeys d.cmds fun _ e => decide (e.tenant = c.tenant) && e.op.edits && decide (e.volume = c.volume) && e.sent

/-- FLUSH waits for what it covers (R138). -/
def Dev.runFlush (d : Dev) (id : Nat) : Dev := (d.modCmd id fun c => { c with hold := .flush }).flushStep id

/-- GET_DEFERRED (R139). -/
def Dev.runGetDeferred (d : Dev) (id : Nat) : Dev :=
  match tget d.cmds id with
  | none => d
  | some c =>
    match tget d.tenants c.tenant with
    | none => d.endCmd id .success 0 0
    | some t =>
      let n := Nat.min t.deferred.length (c.length / 32)
      d.sendResult id ((t.deferred.take n).flatMap Deferred.bytes) (n + (t.deferred.length - n) * 2 ^ 16 + t.deferOvf * 2 ^ 32)

/-- The records an EVENT_READ takes at its parse (R171, R785). -/
def Dev.eventSet (d : Dev) (from_ length : Nat) : Bytes :=
  ((d.evt.recs.filter fun e => decide (from_ ≤ e.seq)).take (length / 96)).flatMap Evt.bytes

/-- EVENT_READ writes the records it took at its parse, which its payload holds (R785). -/
def Dev.runEventRead (d : Dev) (id : Nat) : Dev :=
  match tget d.cmds id with
  | none => d
  | some c =>
    let b := c.payload
    d.sendResult id b (if b.isEmpty then c.msg.par 0x28 8 else le b (b.length - 96) 8 + 1)

/-- The result of a command has been written and acknowledged, with the words of a migration bitmap that it set (R167): deferred records it carried are removed (R139), events it carried count as
written (R784), and it completes with the bytes written. Where some of the result was lost with its queue pair the command fails, and nothing is
removed. -/
def Dev.resultDone (d : Dev) (id : Nat) : Dev :=
  match tget d.cmds id with
  | none => d
  | some c =>
    if c.stage ≠ .result ∨ d.moving id then d else
    if c.failing then d.endCmd id c.outcome 0 0 else
    let sent := chunks 32 (c.result.length / 32) c.result
    let d := if c.op = .getDeferred then
        d.modTenant c.tenant fun t => { t with deferred := (sent.foldl (fun (l : List Deferred) b =>
          match l.findIdx? fun r => decide (r.bytes = b) with | some i => l.eraseIdx i | none => l) t.deferred) }
      else if c.op = .eventRead ∧ !c.result.isEmpty then
        let last := le c.result (c.result.length - 96) 8
        { d with evt := { d.evt with readTo := some (Nat.max last (d.evt.readTo.getD 0)) } }
      else d
    d.endCmd id .success c.result.length c.retval

/-! ### Diagnostics -/

/-- KAT_RUN (R173): the instances it names are tested as they come to run no message. -/
def Dev.runKatRun (d : Dev) (id : Nat) : Dev :=
  match tget d.cmds id with
  | none => d
  | some c =>
    let engine := c.msg.par 0x28 1
    let inst := c.msg.par 0x29 1
    if 4 < engine ∨ (inst ≠ 0xFF ∧ katCount engine ≤ inst) then d.endCmd id .paramInvalid 0 0 else
    let all := if inst = 0xFF then upTo (katCount engine) else [inst]
    (d.modCmd id fun c => { c with hold := .kat, waits := all }).katAll

/-- TMEM_SCRUB (R174). -/
def Dev.runTmemScrub (d : Dev) (id : Nat) : Dev :=
  match tget d.cmds id with
  | none => d
  | some c =>
    let first := c.msg.par 0x28 8
    let bytes := c.msg.par 0x30 8
    if first % 8 ≠ 0 ∨ bytes % 8 ≠ 0 ∨ 0x10000000 < first + bytes then d.endCmd id .paramInvalid 0 0
    else if c.length < 32 then d.endCmd id .bufferSmall 0 32
    else d.queueScrub { first := first, bytes := bytes, cmd := some id }

/-- The meaning of SCRUB_DONE (R732, R733): the summary goes to the registers, or to the opcode's result; each error counts towards
its row's replacement; the next waiting scrub starts. -/
def execScrubDone (s : State) : Host.Outcome State Fault Refusal :=
  onDev (fun d => match d.tmem.scrub with
    | none => d
    | some x =>
      let es := d.tmem.errors x.first x.bytes
      let d := match x.cmd with
        | some id => if d.cmds.any (fun (e : Nat × Cmd) => decide (e.1 = id) && decide (e.2.stage ≠ Stage.done)) then d.sendResult id (scrubSummary x.bytes es) 0 else d
        | none =>
          (((d.wr TMEM_SCRUB_WORDS_VALUE (x.bytes / 8)).wr TMEM_SCRUB_ERRS_VALUE es.length).wr TMEM_SCRUB_FIRSTERR_VALUE
            (es.head?.getD 0xFFFFFFFF)).wr TMEM_SCRUB_LASTERR_VALUE (es.getLast?.getD 0xFFFFFFFF)
      let d := es.foldl (fun d o => d.countRow o) d
      match d.tmem.scrubs with
      | [] => (d.setTmem { d.tmem with scrub := none }).wr TMEM_SCRUB_CTL_BUSY 0
      | y :: r => d.setTmem { d.tmem with scrub := some y, scrubs := r }) s

end Sys2Proof.Machine
end

