-- ==== Sys2Proof/Machine/RunSecurity.lean ====
section
/-! DEFINITION. The opcodes of the security family (Tables 3-12 and 3-13; R157–R160, R663–R668, R672–R677, R681–R683). -/

namespace Sys2Proof.Machine

/-! ### Waits -/

/-- Run an operation that needs a random value: while the entropy source does not deliver it waits, up to 100 ms from now (R681; number 23
keeps when the wait began). -/
def Dev.withEntropy (d : Dev) (id : Nat) (f : Dev → Dev) : Dev :=
  if d.entropyOk then f (d.modCmd id fun c => { c with hold := .none })
  else d.modCmd id fun c => if c.hold = .entropy then c else { (c.setNum 23 d.now) with hold := .entropy }

/-- Run an operation that signs: at the last leaf it ends KEYS_EXHAUSTED (R661); while the next bottom tree is not ready it waits
(R662). -/
def Dev.withLeaf (d : Dev) (id : Nat) (f : Dev → Dev) : Dev :=
  if 2 ^ 40 ≤ d.sec.leaf then d.endCmd id .keysExhausted 0 0
  else if !d.leafReady then d.modCmd id fun c => { c with hold := .nextTree }
  else f (d.modCmd id fun c => { c with hold := .none })

/-! ### CERT_GET, ATTEST -/

/-- CERT_GET (Table 17-2): the owner certificate is written as far as LENGTH allows. -/
def Dev.runCertGet (d : Dev) (id : Nat) : Dev :=
  match tget d.cmds id with
  | none => d
  | some c =>
    match [Config.deviceCert, Config.kemCert, padTo 1568 Config.kemPublic, d.sec.ownerCert][c.msg.par 0x28 1]? with
    | none => d.endCmd id .paramInvalid 0 0
    | some b =>
      if c.length < b.length ∧ c.msg.par 0x28 1 ≠ 3 then d.endCmd id .bufferSmall 0 b.length
      else d.sendResult id (b.take c.length) b.length

/-- ATTEST (R159, R677). -/
def Dev.runAttest (d : Dev) (id : Nat) : Dev :=
  match tget d.cmds id with
  | none => d
  | some c =>
    let sel := c.msg.par 0x38 4
    let n := attestLen (sel % 8) + 4 + 5716
    if c.length < n then d.endCmd id .bufferSmall 0 n else
    d.withLeaf id fun d =>
      let r := d.attestReport (c.msg.parBytes 0x28 16) sel c.tenant
      r.1.sendResult id (r.2.1 ++ toLE 4 5716 ++ r.2.2) n

/-! ### KEY_INSTALL (R157, R665–R668, R672, R673) -/

/-- "QZ-KEYPAD" and "QZ-KEYCHK". -/
def keyPad : Bytes := ascii [0x51, 0x5A, 0x2D, 0x4B, 0x45, 0x59, 0x50, 0x41, 0x44]
def keyChk : Bytes := ascii [0x51, 0x5A, 0x2D, 0x4B, 0x45, 0x59, 0x43, 0x48, 0x4B]

/-- Bytes combined by exclusive or. -/
def xorBytes (a b : Bytes) : Bytes := (a.zip b).map fun x => x.1 ^^^ x.2

/-- T of a wrapped field under K and a context; none where C differs (R665, R666). -/
def unwrapKey (k ctx w : Bytes) : Option Bytes :=
  let t := xorBytes (w.take 32) (hmac k (keyPad ++ ctx ++ toLE 1 1))
  let c := xorBytes (slice w 32 32) (hmac k (keyPad ++ ctx ++ toLE 1 2))
  if c = hmac k (keyChk ++ ctx ++ t) then some t else none

/-- The lowest free index for a key of a tenant, none whose erase is pending (RKIND 4; R668; in isolated mode even ones on side A and odd ones on side B, R673). -/
def Dev.freeKey (d : Dev) (tenant : Nat) (slot : Bool) : Option Nat :=
  (upTo (if slot then 8 else 16)).find? fun i =>
    !thas d.sec.keys (keyPlace tenant slot i) && !d.erasePending tenant slot i && (!d.isolated || decide (i % 2 = b2n (decide (d.side = 2))))

/-- KEY_INSTALL: the key is checked before the tenant's limit; in a linked pair it completes when the partner has the record. -/
def Dev.runKeyInstall (d : Dev) (id : Nat) : Dev :=
  match tget d.cmds id with
  | none => d
  | some c =>
    let kind := c.msg.par 0x28 1
    if 1 < kind then d.endCmd id .paramInvalid 0 0 else
    let slot := decide (kind = 1)
    let ctx := toLE 2 c.tenant ++ toLE 1 kind ++ serialBytes
    match unwrapKey (Config.kemDecaps (c.payload.take 1568)) ctx (slice c.payload 1568 64) with
    | none => d.endCmd id .keyInvalid 0 0
    | some t =>
      let most := match tget d.tenants c.tenant with | some x => if slot then x.maxSlots else x.maxDomains | none => 0
      match d.freeKey c.tenant slot with
      | none => d.endCmd id .limit 0 0
      | some i =>
        if c.tenant = 0 ∨ most ≤ (d.keysOf c.tenant slot).length then d.endCmd id .limit 0 0 else
        let install (d : Dev) (r : Bytes) : Dev :=
          let place := keyPlace c.tenant slot i
          let k : KeyRec :=
            { rkind := kind + 1, index := i, tenant := c.tenant, gen := ((tget d.sec.gens place).getD 0 + 1) % 2 ^ 32, t := t, r := r }
          let d := { d with sec := { d.sec with keys := tput d.sec.keys place k, gens := tdel d.sec.gens place, gcm := tdel d.sec.gcm place } }
          let d := if d.isolated then { d with peer := { d.peer with owed := d.peer.owed ++ [.key place k] } } else d
          let s := if d.linked then d.linkSend (.control (.key place k)) else (d, none)
          s.1.keyRegs.waitPartner id s.2 i
        if slot then install d (zeros 32)
        else d.withEntropy id fun d => let r := d.random 32; install r.1 r.2

/-! ### CRYPTO_ERASE (R158, R675) -/

/-- The place that KEYDOM of a CRYPTO_ERASE names, if it holds a key. -/
def Dev.erasePlace (d : Dev) (c : Cmd) : Option Nat :=
  let k := c.msg.par 0x28 2
  let place := if k < 16 then some (keyPlace c.tenant false k) else if 0x8000 ≤ k ∧ k < 0x8008 then some (keyPlace c.tenant true (k - 0x8000)) else none
  if c.tenant = 0 then none else place.bind fun p => if (d.recordAt p).isSome then some p else none

/-- CRYPTO_ERASE (R675): the key is destroyed here and at the partner of a linked pair, whose acknowledgement the rest waits for. -/
def Dev.runCryptoErase (d : Dev) (id : Nat) : Dev :=
  match tget d.cmds id with
  | none => d
  | some c =>
    match d.erasePlace c with
    | none => d.endCmd id .paramInvalid 0 0
    | some place =>
      d.withEntropy id fun d =>
        let d := (d.random 80).1.destroyKey place
        if d.linked then d.waitPartner id (some ((d.peer.txSeq + 2 ^ 32 - 1) % 2 ^ 32)) 0 else d.finishErase id

/-! ### OWNER_ENROL (R160, R663, R664) -/

/-- "QZ-OWNER". -/
def ownerText : Bytes := ascii [0x51, 0x5A, 0x2D, 0x4F, 0x57, 0x4E, 0x45, 0x52]

/-- Serials of side A and side B as M holds them: a SOLO part's own serial in both places. -/
def Dev.sideSerials (d : Dev) : Bytes :=
  let his := toLE 6 (d.peer.partner.getD 0)
  if d.solo then serialBytes ++ serialBytes else if d.side = 2 then his ++ serialBytes else serialBytes ++ his

/-- Whether an HSS public key is of a kind that R663 allows. -/
def ownerKeyOk (pub : Bytes) : Bool :=
  let l := fromBE (pub.take 4)
  let lms := fromBE (slice pub 4 4)
  let ots := fromBE (slice pub 8 4)
  decide (1 ≤ l ∧ l ≤ 3) && decide (5 ≤ lms ∧ lms ≤ 9) && decide (1 ≤ ots ∧ ots ≤ 4)

/-- OWNER_ENROL ends with a status: SEC_NONCE is replaced whatever the outcome (R664). -/
def Dev.enrolEnd (d : Dev) (id : Nat) (code : Code) : Dev := d.newNonce.endCmd id code 0 0

/-- OWNER_ENROL. -/
def Dev.runOwnerEnrol (d : Dev) (id : Nat) : Dev :=
  match tget d.cmds id with
  | none => d
  | some c =>
    let action := c.msg.par 0x28 1
    if 1 < action then d.endCmd id .paramInvalid 0 0 else
    d.withEntropy id fun d =>
      let b := c.payload.take c.length
      let np := le b 0 4
      let ns := le b 4 4
      let no := le b 8 4
      let pub := slice b 16 np
      let m := ownerText ++ toLE 1 action ++ d.sideSerials ++ d.nonce ++ pub
      let oldOk : Bool := match d.sec.owner with | some k => hssOk k m (slice b (16 + np + ns) no) | none => true
      if c.length < 16 ∨ 65536 < c.length ∨ c.length ≠ 16 + np + ns + no then d.enrolEnd id .lengthInvalid
      else if np ≠ 60 ∨ !ownerKeyOk pub then d.enrolEnd id .paramInvalid
      else if (action = 0 ∧ d.sec.owner.isSome) ∨ (action = 1 ∧ d.sec.owner.isNone) ∨ d.isolated then d.enrolEnd id .stateConflict
      else if !hssOk pub m (slice b (16 + np) ns) ∨ !oldOk then d.enrolEnd id .signatureInvalid
      else if 2 ^ 40 ≤ d.sec.leaf then d.enrolEnd id .keysExhausted
      else d.withLeaf id fun d =>
        let d := d.spendLeaf.1
        let cert := Config.freeBytes d.draws 0
        let d := { d with sec := { d.sec with owner := some pub, ownerCert := cert }, draws := d.draws + 1 }
        let d := (d.wr SEC_STAT_OWNER 1).newNonce.event 0x0F00 0 0 0 [0x0664]
        let s := if d.linked then d.linkSend (.control (.owner pub)) else (d, none)
        s.1.waitPartner id s.2 0

/-! ### DEBUG_UNLOCK (R682, R683) -/

/-- Every key share is zeroed, and no key is loaded until power-on. -/
def Dev.sealKeys (d : Dev) : Dev :=
  let all := (d.sec.cache ++ d.heldKeys ++ d.sec.wanted).eraseDups
  (all.foldl (fun (d : Dev) p => d.dropKey p) d).wr SEC_STAT_KEYS_SEALED 1

/-- DEBUG_UNLOCK. -/
def Dev.runDebugUnlock (d : Dev) (id : Nat) : Dev :=
  match tget d.cmds id with
  | none => d
  | some c =>
    d.withEntropy id fun d =>
      let b := c.payload.take c.length
      let nv := le b 0x20 4
      let no := le b 0x24 4
      let scope := le b 6 2
      let signed := b.take 64
      let good := decide (le b 0 4 = 0x42445A51) && decide (le b 8 8 % 2 ^ 48 = fromLE serialBytes) && decide (slice b 16 16 = d.nonce) &&
        hssOk Config.vendorRoot signed (slice b 64 nv) && d.ownerOk signed (slice b (64 + nv) no)
      let d := d.newNonce
      if c.length < 64 ∨ c.length ≠ 64 + nv + no then d.endCmd id .lengthInvalid 0 0
      else if !good then d.endCmd id .signatureInvalid 0 0
      else
        let d := d.extend 15 (sha256 b)
        let d := if bit scope 0 then d.wr TOP_DEBUG_BOUNDARY 1 else d
        let d := if bit scope 1 then ((d.fence 0x0F00 0 0 [0x0683]).sealKeys).wr TOP_DEBUG_DEBUG 1 else d
        d.endCmd id .success 0 0

end Sys2Proof.Machine
end

