-- ==== Sys2Proof/Machine/RunStream.lean ====
section
/-! DEFINITION. The opcodes of the stream family (Tables 3-7 and 3-8, R147–R151, R177, R183–R188, R206). -/

namespace Sys2Proof.Machine

/-! ### STREAM_OPEN -/

/-- Whether a stream ID is the part's to give (R177): 0x0000 to 0xFFFC as side A, 0x0001 to 0xFFFD as side B, any when SOLO. -/
def Dev.streamMine (d : Dev) (i : Nat) : Bool :=
  d.solo || (decide (i % 2 = b2n (decide (d.side = 2))) && decide (i ≤ 0xFFFD))

/-- The lowest unused stream ID of the part: one that names no stream and no time index, which a closed stream keeps until its volume is
deleted (R149, R177). -/
def Dev.freshStream (d : Dev) : Option Nat := (upTo 0xFFFF).find? fun i => d.streamMine i && !thas d.streams i

/-- STREAM_OPEN (R147, R183–R185): DROP_LATE is kept for a vermilion stream; on ADMISSION_REFUSED, RETVAL is the highest RATE that passes. -/
def Dev.runStreamOpen (d : Dev) (id : Nat) : Dev :=
  match tget d.cmds id with
  | none => d
  | some c =>
    let cls := c.msg.par 0x28 1
    let r := c.msg.par 0x2C 4
    let t := c.msg.par 0x30 4
    if 2 < cls then d.endCmd id .paramInvalid 0 0 else
    let rate := clampN 1 190000 r
    let deadline := clampN 100 10000000 t
    let d := if rate ≠ r ∨ deadline ≠ t then d.noteClamp id else d
    let v := c.volume
    let sum := d.vres c.tenant
    let reserve := match tget d.tenants c.tenant with | some x => x.reserve | none => 0
    if 4096 ≤ countP d.streams (fun e => e.2.isOpen) then d.endCmd id .limit 0 0 else
    match d.freshStream with
    | none => d.endCmd id .limit 0 0
    | some i =>
      if cls = 2 ∧ (d.admits d.vset (d.vstream v rate deadline) sum reserve).isNone then
        d.endCmd id .admissionRefused 0 (d.bestRate v deadline sum reserve)
      else
        let s : Strm :=
          { tenant := c.tenant, volume := v, cls := cls, dropLate := decide (cls = 2) && bit (c.msg.par 0x29 1) 0, rate := rate, deadline := deadline
            isOpen := true, tokens := 2 * d.wmax * 1000, filledAt := d.now, overBytes := 0, bytes := 0, misses := 0, maxLate := 0, dropped := 0
            atRisk := false, clearSince := none, pLat := 0, unindexed := 0, index := [] }
        (({ d with streams := tput d.streams i s }.readmit).reRisk).endCmd id .success 0 i

/-! ### STREAM_CLOSE, STREAM_QUERY -/

/-- STREAM_CLOSE: RETVAL is the bytes the stream has written (R148). -/
def Dev.runStreamClose (d : Dev) (id : Nat) : Dev :=
  match tget d.cmds id with
  | none => d
  | some c =>
    let i := c.msg.stream.toNat
    match tget d.streams i with
    | none => d.endCmd id .handleInvalid 0 0
    | some s => if s.isOpen then (d.closeStream i).endCmd id .success 0 s.bytes else d.endCmd id .handleInvalid 0 0

/-- STREAM_QUERY (Table 3-9). -/
def Dev.runStreamQuery (d : Dev) (id : Nat) : Dev :=
  match tget d.cmds id with
  | none => d
  | some c =>
    match tget d.streams c.msg.stream.toNat with
    | none => d.endCmd id .handleInvalid 0 0
    | some s =>
      match [s.rate, s.deadline, s.bytes, s.misses, s.maxLate, s.dropped][c.msg.par 0x28 1]? with
      | some n => d.endCmd id .success 0 n
      | none => d.endCmd id .paramInvalid 0 0

/-! ### QUERY_TIME (R150, R206) -/

/-- A run: first sector, sectors, the writes that supplied it with their capture stamps, and its quality bits. -/
structure TimeRun where
  lba : Nat
  sectors : Nat
  writes : List (Nat × Nat)
  quality : Nat
  deriving DecidableEq, Repr

/-- The bit of QUALITY that an entry's timebase state sets (Table 4-6). -/
def qualityBit (q : Nat) : Nat := if q = 1 then 1 else if q = 2 then 2 else 0

/-- Union of two sets of quality bits. -/
def qualityOr (a b : Nat) : Nat := Nat.max (a % 2) (b % 2) + 2 * Nat.max (a / 2) (b / 2)

/-- Entries in LBA order joined to maximal runs. -/
def joinRuns : List TIdx → List TimeRun
  | [] => []
  | e :: r =>
    match joinRuns r with
    | x :: y =>
      if e.lba + e.sectors = x.lba then
        { lba := e.lba, sectors := e.sectors + x.sectors
          writes := if x.writes.contains (e.write, e.stamp) then x.writes else (e.write, e.stamp) :: x.writes
          quality := qualityOr (qualityBit e.quality) x.quality } :: y
      else { lba := e.lba, sectors := e.sectors, writes := [(e.write, e.stamp)], quality := qualityBit e.quality } :: x :: y
    | [] => [{ lba := e.lba, sectors := e.sectors, writes := [(e.write, e.stamp)], quality := qualityBit e.quality }]

/-- A run as its 48-byte record (Table 4-6). -/
def TimeRun.bytes (r : TimeRun) : Bytes :=
  let stamps := r.writes.map (·.2)
  let first := stamps.foldl Nat.min (stamps.headD 0)
  let last := stamps.foldl Nat.max 0
  toLE 8 r.lba ++ toLE 8 r.sectors ++ stampBytes first ++ stampBytes last ++ toLE 4 r.writes.length ++ toLE 2 r.quality ++ zeros 2

/-- The runs of a stream's index in a window of stamps, at or above an LBA. -/
def Strm.runs (s : Strm) (lba start stop : Nat) : List TimeRun :=
  let inside := s.index.filter fun e => decide (start ≤ stampBits e.stamp) && decide (stampBits e.stamp < stop) && decide (lba < e.lba + e.sectors)
  let cut := inside.map fun e => if e.lba < lba then { e with lba := lba, sectors := e.lba + e.sectors - lba } else e
  joinRuns (sortOn (·.lba) cut)

/-- QUERY_TIME: as many runs as fit, lowest LBAs first, of the index as the completed writes leave it (R150, R205). -/
def Dev.runQueryTime (d : Dev) (id : Nat) : Dev :=
  match tget d.cmds id with
  | none => d
  | some c =>
    match tget d.issued.streams c.msg.stream.toNat with
    | none => d.endCmd id .handleInvalid 0 0
    | some s =>
      let start := c.msg.par 0x28 12
      let stop := c.msg.par 0x34 12
      if stop ≤ start then d.endCmd id .paramInvalid 0 0 else
      let rs := s.runs c.lba start stop
      let n := Nat.min rs.length (c.length / 48)
      d.sendResult id ((rs.take n).flatMap TimeRun.bytes) (n + (rs.length - n) * 2 ^ 32)

end Sys2Proof.Machine
end

