-- ==== Sys2Proof/Machine/Runs.lean ====
section
/-! DEFINITION. What an opcode does once it has passed step 4 and holds its data: one call per opcode of Tables 3-3 to 3-19. -/

namespace Sys2Proof.Machine

/-- The values of the opcodes (Tables 3-3, 3-5, 3-7, 3-10, 3-12, 3-14, 3-17 and 3-19). -/
def Op.value (o : Op) : Nat :=
  match o with
  | .nop => 0x0100 | .read => 0x0101 | .write => 0x0102 | .writeZeroes => 0x0103 | .discard => 0x0104 | .strip => 0x0105
  | .flush => 0x0106 | .abort => 0x0107 | .getDeferred => 0x0108
  | .volCreate => 0x0201 | .volDelete => 0x0202 | .volResize => 0x0203 | .volQuery => 0x0204 | .snapCreate => 0x0205
  | .snapDelete => 0x0206 | .cloneCreate => 0x0207 | .replOpen => 0x0208 | .replClose => 0x0209 | .replRekey => 0x020A
  | .streamOpen => 0x0301 | .streamClose => 0x0302 | .streamQuery => 0x0303 | .queryTime => 0x0304
  | .loadProgram => 0x0401 | .unloadProgram => 0x0402 | .bindProgram => 0x0403 | .unbindProgram => 0x0404 | .scan => 0x0405
  | .patternLoad => 0x0406
  | .certGet => 0x0501 | .keyInstall => 0x0502 | .cryptoErase => 0x0503 | .attest => 0x0504 | .keyPolicySet => 0x0505
  | .ownerEnrol => 0x0506 | .debugUnlock => 0x0507
  | .winRead => 0x0601 | .winWrite => 0x0602 | .tenantCreate => 0x0603 | .tenantBind => 0x0604 | .tenantShares => 0x0605
  | .queueBind => 0x0606 | .queueDelete => 0x0607 | .enableTenant => 0x0608 | .quiesceTenant => 0x0609 | .resetTenant => 0x060A
  | .removeTenant => 0x060B | .migrationLog => 0x060C
  | .regRead => 0x0701 | .regWrite => 0x0702 | .fwStage => 0x0703 | .fwActivate => 0x0704 | .powerState => 0x0705
  | .eventRead => 0x0706 | .thermalAck => 0x0707
  | .echo => 0x0801 | .katRun => 0x0802 | .tmemScrub => 0x0803

/-- Every opcode. -/
def Op.all : List Op :=
  [.nop, .read, .write, .writeZeroes, .discard, .strip, .flush, .abort, .getDeferred, .volCreate, .volDelete, .volResize, .volQuery,
   .snapCreate, .snapDelete, .cloneCreate, .replOpen, .replClose, .replRekey, .streamOpen, .streamClose, .streamQuery, .queryTime,
   .loadProgram, .unloadProgram, .bindProgram, .unbindProgram, .scan, .patternLoad] ++
  [.certGet, .keyInstall, .cryptoErase, .attest, .keyPolicySet, .ownerEnrol, .debugUnlock, .winRead, .winWrite, .tenantCreate,
   .tenantBind, .tenantShares, .queueBind, .queueDelete, .enableTenant, .quiesceTenant, .resetTenant, .removeTenant, .migrationLog,
   .regRead, .regWrite, .fwStage, .fwActivate, .powerState, .eventRead, .thermalAck, .echo, .katRun, .tmemScrub]

/-- The opcode a value names; none where it is undefined (R121). -/
def opOf (v : Nat) : Option Op := Op.all.find? fun o => decide (o.value = v)

/-! ### Header columns (Table 3-1) -/

/-- N: LENGTH gives the byte length of a sector range. -/
def Op.usesN (o : Op) : Bool := [.writeZeroes, .discard, .strip].contains o

/-- O: LENGTH gives the size of a result buffer. -/
def Op.usesO (o : Op) : Bool := [.getDeferred, .queryTime, .scan, .certGet, .attest, .eventRead, .tmemScrub].contains o

/-- M: LENGTH gives the size of a buffer that the device writes for as long as the opcode's effect lasts. -/
def Op.usesM (o : Op) : Bool := decide (o = .migrationLog)

/-- S: STREAM names a stream of the issuing tenant. -/
def Op.usesS (o : Op) : Bool := [.write, .streamClose, .streamQuery, .queryTime, .bindProgram, .unbindProgram].contains o

/-- L with N or D: LBA and LENGTH give a range of sectors. -/
def Op.ranged (o : Op) : Bool := o.usesN || decide (o = .read) || decide (o = .write)

/-- Manager-only opcodes (column Mgr). -/
def Op.manager (o : Op) : Bool :=
  [.keyPolicySet, .ownerEnrol, .debugUnlock, .tenantCreate, .tenantBind, .tenantShares, .queueBind, .queueDelete, .enableTenant,
   .quiesceTenant, .resetTenant, .removeTenant, .migrationLog, .regRead, .regWrite, .fwStage, .fwActivate, .powerState, .eventRead,
   .thermalAck, .katRun, .tmemScrub].contains o

/-- Run an opcode that works on no sectors through the data path. READ, WRITE, WRITE_ZEROES, DISCARD and STRIP do. -/
def Dev.runOp (d : Dev) (id : Nat) : Dev :=
  match tget d.cmds id with
  | none => d
  | some c =>
    match c.op with
    | .nop => d.runNop id | .read => d | .write => d | .writeZeroes => d | .discard => d | .strip => d
    | .flush => d.runFlush id | .abort => d.runAbort id | .getDeferred => d.runGetDeferred id
    | .volCreate => d.runVolCreate id | .volDelete => d.runVolDelete id | .volResize => d.runVolResize id | .volQuery => d.runVolQuery id
    | .snapCreate => d.runSnapCreate id | .snapDelete => d.runSnapDelete id | .cloneCreate => d.runCloneCreate id
    | .replOpen => d.runReplOpen id | .replClose => d.runReplClose id | .replRekey => d.runReplRekey id
    | .streamOpen => d.runStreamOpen id | .streamClose => d.runStreamClose id | .streamQuery => d.runStreamQuery id
    | .queryTime => d.runQueryTime id
    | .loadProgram => d.runLoadProgram id | .unloadProgram => d.runUnloadProgram id | .bindProgram => d.runBindProgram id
    | .unbindProgram => d.runUnbindProgram id | .scan => d.runScan id | .patternLoad => d.runPatternLoad id
    | .certGet => d.runCertGet id | .keyInstall => d.runKeyInstall id | .cryptoErase => d.runCryptoErase id | .attest => d.runAttest id
    | .keyPolicySet => d.runKeyPolicySet id | .ownerEnrol => d.runOwnerEnrol id | .debugUnlock => d.runDebugUnlock id
    | .winRead => d.runWinRead id | .winWrite => d.runWinWrite id
    | .tenantCreate => d.runTenantCreate id | .tenantBind => d.runTenantBind id | .tenantShares => d.runTenantShares id
    | .queueBind => d.runQueueBind id | .queueDelete => d.runQueueDelete id | .enableTenant => d.runEnableTenant id
    | .quiesceTenant => d.runQuiesceTenant id | .resetTenant => d.runResetTenant id | .removeTenant => d.runRemoveTenant id
    | .migrationLog => d.runMigrationLog id
    | .regRead => d.runRegRead id | .regWrite => d.runRegWrite id | .fwStage => d.runFwStage id
    | .fwActivate => d.runFwActivate id (c.msg.par 0x28 1) (c.msg.par 0x29 1)
    | .powerState => d.runPowerState id (c.msg.par 0x28 1)
    | .eventRead => d.runEventRead id | .thermalAck => d.runThermalAck id (c.msg.par 0x28 1)
    | .echo => d.runEcho id | .katRun => d.runKatRun id | .tmemScrub => d.runTmemScrub id

end Sys2Proof.Machine
end

