-- ==== Sys2Proof/Machine/Validate.lean ====
section
/-! DEFINITION. Checks 9 to 14 of Table 2-7, and the comparison of declared length with arriving data (R78, R87, R89–R96, R123–R132, R136,
R139, R144, R148–R150, R155–R157, R166, R406, R647, R785). -/

namespace Sys2Proof.Machine

/-! ### Check 9: VOLUME and STREAM -/

/-- The part as it serves a volume: a volume of a side that is being taken over is known from the mirror (R644). -/
def Dev.viewOf (d : Dev) (v : Nat) : Dev := if d.peer.takeover.isSome ∧ !d.ownVol v then d.partnerView else d

/-- Why a handle is not valid for a tenant, with the RETVAL of its status (R406, R647); none where it is. -/
def Dev.badHandle (d : Dev) (tenant h : Nat) : Option (Code × Nat) :=
  let v := volNum h
  if d.serves v ∨ d.peer.takeover.isSome then (if (d.viewOf v).handleOk tenant h then none else some (.handleInvalid, 0))
  else match d.wrongPart tenant h with
    | some side => some (.wrongPart, side)
    | none => some (.handleInvalid, 0)

/-- Whether STREAM is valid for a command (R136, R148, R149): 0xFFFF where an opcode may name no stream; a stream of the tenant on
VOLUME, open and not being closed; the query opcodes name closed ones too. -/
def Dev.streamValid (d : Dev) (c : Cmd) : Bool :=
  let i := c.msg.stream.toNat
  let optional := decide (c.op = .write) || decide (c.op = .bindProgram) || decide (c.op = .unbindProgram)
  let closing := d.cmds.any fun (e : Nat × Cmd) =>
    decide (e.2.op = .streamClose) && decide (e.2.stage ≠ .done) && decide (e.2.msg.stream.toNat = i) && decide (e.2.tenant = c.tenant)
  if optional ∧ i = 0xFFFF then true else
  match tget d.streams i with
  | none => false
  | some s =>
    decide (s.tenant = c.tenant) && decide (s.volume = c.volume) &&
      (decide (c.op = .streamQuery) || decide (c.op = .queryTime) || (s.isOpen && !closing))

/-! ### Check 10: LENGTH -/

/-- A multiple of `unit` in a range. -/
def stepIn (unit lo hi n : Nat) : Bool := decide (n % unit = 0) && decide (lo ≤ n) && decide (n ≤ hi)

/-- Whether LENGTH is legal for a command's opcode. OWNER_ENROL's is at least that of the four words before its key (R663),
DEBUG_UNLOCK's that of a token with no signatures (R682). -/
def Cmd.lengthOk (c : Cmd) : Bool :=
  let n := c.length
  match c.op with
  | .read => stepIn 4096 4096 0x8000000 n
  | .write => stepIn 4096 4096 0x8000000 n
  | .writeZeroes => stepIn 4096 4096 4294950912 n
  | .getDeferred => stepIn 32 32 8192 n
  | .queryTime => stepIn 48 48 0x100000 n
  | .loadProgram => stepIn 1 64 0x1000000 n
  | .patternLoad => decide (n = 80 * c.msg.par 0x2C 1)
  | .keyInstall => decide (n = 1632)
  | .debugUnlock => decide (64 ≤ n)
  | .ownerEnrol => stepIn 1 16 65536 n
  | .fwStage => stepIn 1 4096 0x4000000 n
  | .eventRead => stepIn 96 96 393216 n
  | .migrationLog => match c.msg.par 0x2A 1 with
    | 0 => decide (n = 0)
    | 1 => stepIn 8 8 0x8000000 n
    | _ => true
  | o => o.usesN || o.usesD || o.usesO || decide (n = 0)

/-! ### Check 11: the range -/

/-- Whether a command's range lies within its volume. -/
def Dev.rangeOk (d : Dev) (c : Cmd) : Bool :=
  match (d.viewOf c.volume).vol c.volume with
  | none => true
  | some v =>
    if c.op.ranged then decide (c.lba + ceilDiv c.length 4096 ≤ v.capacity)
    else if c.op = .queryTime then decide (c.lba < v.capacity)
    else true

/-! ### Check 12: descriptors -/

/-- Whether DCOUNT, the descriptors and INLINE are legal together (R76, R78, R124, R125, R166). More inline data than R78 allows is no legal
INLINE (DEDUCED, log 157). -/
def Cmd.descsOk (c : Cmd) : Bool :=
  let n := c.msg.dcount.toNat
  let buffer := c.op.usesD || c.op.usesO || c.op.usesM
  let listOk : Bool := match c.msg.descs with
    | x :: _ => decide (n * 16 ≤ x.len.toNat)
    | [] => false
  let one := match c.op, c.msg.par 0x2A 1 with
    | .migrationLog, 0 => decide (n = 0)
    | .migrationLog, 1 => decide (n = 1)
    | _, _ => true
  (!c.msg.inline || (decide (n = 0) && c.op.carries && decide (c.msg.inl.length ≤ 8192))) && decide (n ≤ 4096) && c.msg.descs.all (fun x => decide (x.len ≠ 0)) &&
    (buffer || decide (n = 0)) && (decide (n ≤ 16) || listOk) && one

/-! ### In place of check 13: snapshot handles (R144) -/

/-- What an opcode that a snapshot handle is not valid for returns for one. -/
def Op.onSnapshot (o : Op) : Option Code :=
  match o with
  | .read => none | .volQuery => none | .snapDelete => none | .cloneCreate => none
  | .write => some .readOnly | .writeZeroes => some .readOnly | .discard => some .readOnly | .strip => some .readOnly
  | .volResize => some .readOnly | .snapCreate => some .readOnly
  | .replOpen => some .paramInvalid
  | _ => some .handleInvalid

/-! ### Check 13: the opcode's own codes -/

/-- The codes with which an opcode refuses its PARAM words. -/
def Code.ofParams (c : Code) : Bool :=
  [Code.paramInvalid, .alignmentInvalid, .addressInvalid, .rangeInvalid].contains c

/-- Whether PATTERN_LOAD names entries that the tenant may write (R156). -/
def Dev.patternOk (d : Dev) (c : Cmd) : Bool :=
  let e := c.msg.par 0x28 4
  let n := c.msg.par 0x2C 1
  let owned (i : Nat) : Bool :=
    let b := d.stencil.bank (i / 4096)
    decide (b.kind = 3) && decide (b.tenant = c.tenant) && b.next.isNone
  (decide (n = 1) || decide (n = 2)) && decide (e + n ≤ 65536) && (upTo n).all fun i => owned (e + i)

/-- The code with which an opcode refuses its PARAM words now: what the opcode itself would complete with, had it passed step 4; of an
opcode that carries data, what does not depend on the data. -/
def Dev.paramCode (d : Dev) (id : Nat) (c : Cmd) : Option Code :=
  let grain := match (d.viewOf c.volume).vol c.volume with | some v => v.grainBytes | none => 4096
  match c.op with
  | .discard => if stepIn grain 0 4294950912 c.length ∧ c.startByte % grain = 0 then none else some .alignmentInvalid
  | .strip => if stepIn grain 0 4294950912 c.length ∧ c.startByte % grain = 0 then none else some .alignmentInvalid
  | .patternLoad => if d.patternOk c then none else some .paramInvalid
  | .keyInstall => if 1 < c.msg.par 0x28 1 then some .paramInvalid else none
  | .ownerEnrol => if 1 < c.msg.par 0x28 1 then some .paramInvalid else none
  | o =>
    if o.usesD ∨ o = .writeZeroes ∨ o = .abort then none else
    match tget (Dev.runOp { d with cmds := tput d.cmds id c } id).cmds id with
    | some k => if k.stage = .done ∧ k.outcome.ofParams then some k.outcome else none
    | none => none

/-! ### The checks in order -/

/-- The status of the first of checks 9 to 13 that a command fails, with its RETVAL (Table 2-7). -/
def Dev.check (d : Dev) (id : Nat) (c : Cmd) : Option (Code × Nat) :=
  let handle := if c.op.usesV then d.badHandle c.tenant c.msg.volume.toNat else none
  if handle.isSome then handle
  else if c.op.usesS ∧ !d.streamValid c then some (.handleInvalid, 0)
  else if !c.lengthOk then some (.lengthInvalid, 0)
  else if !d.rangeOk c then some (.rangeInvalid, 0)
  else if !c.descsOk then some (.descriptorInvalid, 0)
  else if c.op.usesV ∧ c.snap.isSome ∧ c.op.onSnapshot.isSome then c.op.onSnapshot.map (·, 0)
  else (d.paramCode id c).map (·, 0)

/-! ### Declared length against arriving data (R93–R96) -/

/-- The transfer size of a command: with HOST_TUPLE, a READ's or WRITE's sectors carry their tuples. -/
def Cmd.size (c : Cmd) : Nat := if c.op = .read ∨ c.op = .write then c.transfer else c.length

/-- Whether what a frame names or carries is shorter than the transfer size; of an indirect list only what is known. -/
def Cmd.short (c : Cmd) : Bool :=
  if !(c.op.usesD || c.op.usesO || c.op.usesM) then false
  else if c.msg.inline then decide (c.msg.inl.length < c.size)
  else if 16 < c.msg.dcount.toNat then false
  else decide (descSum c.msg.descs < c.size)

end Sys2Proof.Machine
end

