-- ==== Sys2Proof/Machine/Gates.lean ====
section
/-! DEFINITION. Step 4 and what follows it by itself: what a command waits for (R99–R104, R118, R131, R148, R320, R379, R385, R600, R644,
R715, R769), what turns it away there (R142, R357, R358, R400, R446), and the start of its execution (R44, R76, R77, R208–R210, R237). -/

namespace Sys2Proof.Machine

/-! ### Earlier commands -/

/-- The commands of a tenant parsed before a command that have not completed. -/
def Dev.earlier (d : Dev) (id tenant : Nat) : List (Nat × Cmd) :=
  d.cmds.filter fun e => decide (e.1 < id) && e.2.framed && decide (e.2.tenant = tenant) && decide (e.2.stage ≠ .done)

/-- Whether a shrinking VOL_RESIZE of a clone removes a grain that is still to be filled from a write of its origin whose record has not been issued
(R436): it waits like the barrier that it is. -/
def Dev.shrinkWait (d : Dev) (c : Cmd) : Bool :=
  decide (c.op = .volResize) && match d.vol c.volume with
    | some x => x.origin.isSome &&
        (let w := d.issued
         let n := c.msg.par 0x28 8 / x.grainSectors
         (d.cmds.flatMap fun e => e.2.grains.map (·.1)).any fun g => decide (n ≤ g) && d.originHas w c.volume g)
    | none => false

/-- Whether a command waits for a volume barrier, or is one that waits (R131). -/
def Dev.barrierWait (d : Dev) (id : Nat) (c : Cmd) : Bool :=
  ((d.earlier id c.tenant).any fun e => (c.op.barrier && d.covers c e.2) || (e.2.op.barrier && d.covers e.2 c)) || d.shrinkWait c

/-- Whether a STREAM_CLOSE waits for earlier writes of its stream (R148). -/
def Dev.streamWait (d : Dev) (id : Nat) (c : Cmd) : Bool :=
  decide (c.op = .streamClose) && (d.earlier id c.tenant).any fun e => decide (e.2.streamId = some c.msg.stream.toNat)

/-! ### Shares (R600) -/

/-- Whether a command of the same tenant that a share holds goes first: class V before the others, then in parse order. -/
def Dev.shareBehind (d : Dev) (id : Nat) (c : Cmd) : Bool :=
  d.cmds.any fun (e : Nat × Cmd) =>
    decide (e.1 ≠ id) && decide (e.2.hold = .share) && decide (e.2.tenant = c.tenant) &&
      (if (e.2.claim = .V) = (c.claim = .V) then decide (e.1 < id) else decide (e.2.claim = .V))

/-- Whether a command takes part in the KIOPS share at all. -/
def Op.shared (o : Op) : Bool := !([Op.abort, .nop, .echo].contains o)

/-- The part with a tenant's buckets filled up to now. -/
def Dev.fillShares (d : Dev) (t : Nat) : Dev := d.modTenant t fun x => x.fill d.now d.admitPct

/-- Whether a share holds a command. -/
def Dev.shareWait (d : Dev) (id : Nat) (c : Cmd) : Bool :=
  c.op.shared && !c.shareTaken &&
    (d.shareBehind id c ||
      match tget d.tenants c.tenant with
      | some t => !(t.fill d.now d.admitPct).shareOk c.op c.claim
      | none => false)

/-- A command takes its tokens. -/
def Dev.takeShare (d : Dev) (id : Nat) : Dev :=
  match tget d.cmds id with
  | none => d
  | some c =>
    if c.shareTaken ∨ !c.op.shared then d else
    ((d.fillShares c.tenant).modTenant c.tenant fun t => t.shareTake c.op c.claim c.length).modCmd id fun c => { c with shareTaken := true }

/-! ### Journal, tail, content records (R320, R379, R715) -/

/-- Log stripes in the open window of a group: those with data in a row above its last COMMIT, one that still fills included, each known by its
segment and its place there. -/
def Dev.openStripes (d : Dev) (g : Nat) : Nat :=
  match d.group g with
  | none => 0
  | some x => ((d.groupRows g).flatMap fun e =>
      let units := (e.2.items.map fun i => ceilDiv (i.offset + i.bytes.length) unitBytes).foldl Nat.max 0
      (upTo units).map fun j => (e.2.segment, (e.2.row * x.n + j) / 16)).eraseDups.length

/-- Free entries of the journal ring. -/
def Dev.ringFree (d : Dev) : Nat := 32768 - d.journal.length

/-- Whether the journal holds a command that changes the content of its range (R379). -/
def Dev.journalWait (d : Dev) (c : Cmd) : Bool :=
  c.op.edits && match d.vol c.volume with
    | some v => decide (2048 ≤ d.openStripes v.group) || (decide (d.ringFree < 512) && decide (c.claim ≠ .J) && decide (c.claim ≠ .S))
    | none => false

/-- Commands that change a map (R320). -/
def Op.changesMap (o : Op) : Bool :=
  o.edits || [Op.volCreate, .volDelete, .volResize, .snapCreate, .snapDelete, .cloneCreate, .cryptoErase].contains o

/-- Whether a full map-log tail holds a command. -/
def Dev.tailWait (d : Dev) (c : Cmd) : Bool := c.op.changesMap && decide (256 * oneMiB ≤ d.ckpt.tail)

/-- Whether a write waits because every content record is in use (R715). -/
def Dev.recordWait (d : Dev) (c : Cmd) : Bool := decide (c.op = .write) && decide (d.crecLimit ≤ d.crecs.length)

/-- Whether a command's group is being verified (R385). -/
def Dev.verifyWait (d : Dev) (c : Cmd) : Bool :=
  c.op.usesV && match (d.vol c.volume).bind fun v => d.group v.group with
    | some x => decide (x.state = .verifying)
    | none => false

/-! ### What holds a command at step 4 -/

/-- What holds a command at step 4 now: FENCE, volume barriers, a closing stream, a side on its way to another part or a group being
verified, shares, then the limits of the journal, the map log and the content records. ABORT is never held (R140). -/
def Dev.gateWhy (d : Dev) (id : Nat) (c : Cmd) : Hold :=
  if c.op = .abort then .none
  else if c.msg.fence ∧ !(d.earlier id c.tenant).isEmpty then .fence
  else if d.barrierWait id c then .barrier
  else if d.streamWait id c then .stream
  else if c.op.usesV ∧ (d.sideMoving c.volume ∨ d.verifyWait c) then .drain
  else if d.shareWait id c then .share
  else if d.journalWait c then .journal
  else if d.tailWait c then .tail
  else if d.recordWait c then .records
  else .none

/-- A wait at step 4 begins: those that a counter shows are counted. -/
def Dev.countHold (d : Dev) (c : Cmd) (h : Hold) : Dev :=
  if c.hold = h then d else
  match h with
  | .share => d.modTenant c.tenant fun t => { t with waitShare := sat32 (t.waitShare + 1) }
  | .journal => d.bump ARR_JRN_STAT_WAITS
  | .tail => d.bump MAP_CKPT_STAT_TAIL_WAITS
  | .records => d.bump DRC_SIZE_CREC_WAITS
  | _ => d

/-! ### What turns a command away at step 4 -/

/-- Whether a command only frees space (R358): DISCARD and STRIP; WRITE_ZEROES of whole grains that are mapped. -/
def Dev.frees (d : Dev) (c : Cmd) : Bool :=
  decide (c.op = .discard) || decide (c.op = .strip) ||
    (decide (c.op = .writeZeroes) && c.grainRange.all fun g => !c.partial_ g && decide ((d.entryAt c.volume none g).kind = 2))

/-- Bytes that a write takes with no reduction (R357): of a WRITE_ZEROES those of the grains it covers in part, which it merges. -/
def Cmd.fullSize (c : Cmd) : Nat :=
  let n := match c.op with
    | .write => c.grainRange.length
    | .writeZeroes => countP c.grainRange c.partial_
    | _ => 0
  n * fragBytes c.spg (8 * c.spg + c.num 0)

/-- What the state of a command's group, key domain and volume turn it away with (Table 8-6, R670, R446, R357). -/
def Dev.gateCode (d : Dev) (c : Cmd) : Option Code :=
  if !c.op.usesV then none else
  match d.vol c.volume with
  | none => none
  | some v =>
    let state := (d.group v.group).map (·.state)
    let reads := decide (c.op = .read) || decide (c.op = .scan)
    let shrinks := decide (c.op = .volResize) && decide (c.msg.par 0x28 8 < v.capacity)
    if state = some .offline ∧ (c.op.edits ∨ reads ∨ shrinks) then some .groupOffline
    else if d.sec.lost.contains (keyPlace v.tenant false v.keydom) ∧ (c.op.edits ∨ reads) then some .mediaUnreadable
    else if c.op.edits ∧ (d.receiverOf c.volume).isSome then some .readOnly
    else if state = some .readOnly ∧ c.op.edits ∧ !d.frees c then some .groupOffline
    else if c.op.edits ∧ !d.frees c ∧ d.fullFor v.group c.fullSize then some .mediaFull
    else none

/-- Space reserved for a write that passes step 4 (R357; number 4 of the command). -/
def Dev.reserve (d : Dev) (id : Nat) (c : Cmd) : Dev :=
  match d.vol c.volume with
  | some v =>
    if c.fullSize = 0 then d else
    (d.modGroup v.group fun x => { x with reserved := x.reserved + c.fullSize }).modCmd id fun c => c.setNum 4 c.fullSize
  | none => d

/-! ### The hazard tracker (R99–R102, R118) -/

/-- Whether grain g of a change has its data in tile memory (write step 5): a WRITE's fetched, another's zeros once it has passed its own
hazards. A grain that a failure has taken out of the command counts. -/
def Cmd.placed (k : Cmd) (g : Nat) : Bool :=
  match tget k.grains g with
  | some y => y.dropped || y.mapped || (if k.op = .write then decide (5 ≤ y.step) else decide (k.num 1 = 1))
  | none => true

/-- Whether an earlier command has passed the point of Table 2-8 that a later one waits for, for their common grains. A command that
still fetches its indirect list has begun none of them. -/
def Cmd.pastFor (k c : Cmd) : Bool :=
  let common := k.grainRange.filter fun g => c.grainRange.contains g
  if k.op.edits ∧ c.op.edits then k.committed
  else if k.op.edits then !k.grains.isEmpty && common.all k.placed
  else if c.op.edits then
    !k.grains.isEmpty && common.all fun g => match tget k.grains g with
      | some y => decide (y.step ≠ 3)
      | none => true
  else true

/-- Whether the hazard tracker lets a command pass: every earlier overlapping command of its queue has passed its point. -/
def Dev.hazardFree (d : Dev) (id : Nat) (c : Cmd) : Bool :=
  d.cmds.all fun (e : Nat × Cmd) =>
    decide (id ≤ e.1) || decide (e.2.qkey ≠ c.qkey) || decide (e.2.stage = .done) || !e.2.overlaps c || e.2.pastFor c

/-- The hazard tracker looks at a command (number 1: passed). -/
def Dev.hazard (d : Dev) (id : Nat) : Dev :=
  match tget d.cmds id with
  | none => d
  | some c =>
    if d.hazardFree id c then d.modCmd id fun c => { (c.setNum 1 1) with hold := .none }
    else (d.modCmd id fun c => { c with hold := .hazard }).noteHazard id

/-! ### Data to the device -/

/-- Ask for the buffer of the next chunk of a command's data (R208). -/
def Dev.askPayload (d : Dev) (id : Nat) : Dev :=
  match tget d.cmds id with
  | none => d
  | some c => (d.modCmd id fun c => { c with stage := .buffers }).request (Nat.min chunkBytes (c.length - c.num 7 * chunkBytes)) 1 c.claim c.tenant
      (.payload id)

/-- Begin what a command does, its descriptors being known or its list still to come. A DISCARD or STRIP of no grain is over at once (R132). -/
def Dev.begin (d : Dev) (id : Nat) : Dev :=
  match tget d.cmds id with
  | none => d
  | some c =>
    let fresh : Tbl Grain := c.grainRange.map fun g => (g, Grain.fresh [])
    if c.op.edits ∧ fresh.isEmpty then (d.modCmd id fun c => { c with committed := true }).endCmd id .success 0 0
    else if c.op = .read then (d.modCmd id fun c => { c with stage := .path, grains := fresh }).hazard id
    else if c.op = .write then ((d.modCmd id fun c => { c with stage := .path, grains := fresh }).hazard id).askPiece id 0
    else if c.op.edits then (d.modCmd id fun c => { c with stage := .path, grains := fresh }).hazard id
    else if c.op.carries then d.askPayload id
    else d.runOp id

/-- A command passes step 4 (R44): every opcode that moves no sectors commits here, but SNAP_CREATE and CLONE_CREATE may still wait for
a snapshot. An indirect list is fetched before any data (R77); its buffer is asked for first unless the data's are of a lower pool (R209). A range
judged at the parse is not judged again, also where a VOL_RESIZE has passed meanwhile (DESIGN CHOICE, log 25). -/
def Dev.pass (d : Dev) (id : Nat) : Dev :=
  match tget d.cmds id with
  | none => d
  | some c =>
    match if c.op.usesV then d.badHandle c.tenant c.msg.volume.toNat else none with
    | some (code, retval) => d.endCmd id code 0 retval
    | none =>
      match d.gateCode c with
      | some code => d.endCmd id code 0 0
      | none =>
        let commits := !(c.op.edits || [Op.read, .snapCreate, .cloneCreate].contains c.op)
        let d := (d.reserve id c).modCmd id fun c => { c with stage := .exec, hold := .none, committed := commits }
        if c.listed && !c.listLast then d.askList id else d.begin id

/-- A command at step 4 goes on as far as it can; a FENCE that holds it is the cause of its delay (R196). -/
def Dev.tryPass (d : Dev) (id : Nat) : Dev :=
  match tget d.cmds id with
  | none => d
  | some c =>
    if c.stage ≠ .gate then d else
    let h := d.gateWhy id c
    let early := [Hold.fence, .barrier, .stream, .drain, .share].contains h
    let d := if early then d else d.takeShare id
    if h = .none then d.pass id else
    let d := (d.countHold c h).modCmd id fun c => { c with hold := h }
    if h = .fence then d.noteHazard id else d

/-- A command that waits at step 4 for a reason goes on, if the reason is gone. -/
def Dev.goOn (d : Dev) (id : Nat) (h : Hold) : Dev :=
  match tget d.cmds id with
  | none => d
  | some c => if c.stage = .gate ∧ c.hold = h ∧ d.gateWhy id c ≠ h then (d.tryPass id).settle else d

/-- Commands whose wait at step 4 ends with no event of its own go on: a closing stream's, a moving side's, and for content records. -/
def Dev.passWaiters (d : Dev) : Dev :=
  let ids := tkeys d.cmds fun _ c =>
    decide (c.stage = .gate) && (decide (c.hold = .stream) || decide (c.hold = .drain) || decide (c.hold = .records))
  ids.foldl (fun (d : Dev) id => match tget d.cmds id with
    | some c => d.goOn id c.hold
    | none => d) d

/-! ### The release events -/

/-- The meaning of FENCE_RELEASE (R103, R104). -/
def execFenceRelease (cmd : Nat) (s : State) : Host.Outcome State Fault Refusal := onDev (fun d => d.goOn cmd .fence) s

/-- The meaning of VOLUME_BARRIER_RELEASE (R131). -/
def execVolumeBarrierRelease (cmd : Nat) (s : State) : Host.Outcome State Fault Refusal := onDev (fun d => d.goOn cmd .barrier) s

/-- The meaning of SHARE_RELEASE (R600). -/
def execShareRelease (cmd : Nat) (s : State) : Host.Outcome State Fault Refusal := onDev (fun d => d.goOn cmd .share) s

/-- The meaning of JOURNAL_WAIT_RELEASE (R379). -/
def execJournalWaitRelease (cmd : Nat) (s : State) : Host.Outcome State Fault Refusal := onDev (fun d => d.goOn cmd .journal) s

/-- The meaning of TAIL_WAIT_RELEASE (R320). -/
def execTailWaitRelease (cmd : Nat) (s : State) : Host.Outcome State Fault Refusal := onDev (fun d => d.goOn cmd .tail) s

/-- The meaning of HAZARD_RELEASE (R100, R118): a command that the hazard tracker holds goes on. -/
def execHazardRelease (cmd : Nat) (s : State) : Host.Outcome State Fault Refusal :=
  onDev (fun d => match tget d.cmds cmd with
    | none => d
    | some c => if c.hold = .hazard ∧ d.hazardFree cmd c then (d.hazard cmd).settle else d) s

end Sys2Proof.Machine
end

