-- ==== Sys2Proof/Machine/Receive.lean ====
section
/-! DEFINITION. Arrival and parse of a frame: what the transport, the fence, the power state, classification, the spoof check and the room of
the receive queue do with it, checks 1 to 8 of Table 2-7, and the command record (R59–R72, R87, R88, R107, R109, R239, R240, R247, R589,
R590, R602–R610, R644, R694, R738, R815). -/

namespace Sys2Proof.Machine

/-! ### The door -/

/-- What becomes of a frame before it is parsed: not taken at all, answered with an RNR NAK, dropped as unclassified, dropped by the spoof
check, on a tombstone, for a replication session, or for a queue, whether it must be held in the receive queue. -/
inductive Door where
  | shut
  | nak
  | stray
  | spoof (tenant : Nat)
  | tomb (tenant : Nat)
  | session (n : Nat)
  | queue (k : Nat) (hold : Bool)
  deriving DecidableEq, Repr

/-- Room of a port's share of its receive queue in bytes (R689). -/
def Dev.rxRoom (d : Dev) (port : Nat) : Nat := if port = 16 then 0x40000 else 0x100000 * d.portLanes port

/-- Bytes of a port's receive queue in use: frames held unparsed, and inline data that has not moved to its buffers (R64, R238). -/
def Dev.rxUsed (d : Dev) (port : Nat) : Nat :=
  sumN (d.eth.rx.map fun x => if x.net.port.val = port then x.raw.length + (match x.frame with | some m => m.size | none => 0) else 0) +
    sumN (d.cmds.map fun e => if e.2.msg.net.port.val = port ∧ (e.2.stage = .gate ∨ e.2.stage = .buffers) then e.2.msg.inl.length else 0)

/-- Whether status frames of an earlier queue pair must go out on a queue pair before frames are taken there (R107). -/
def Dev.relaying (d : Dev) (k n : Nat) : Bool :=
  (match tget d.eth.qps n with
    | some p => p.queued.any fun x => match x with | .status st => st.relayed | .repl _ _ => false
    | none => false) || d.oldRunning k

/-- KIND, tenant and queue number, or session, that a frame is classified to: the management port to its one queue pair's queue (R694, R815), a host port by the
stencil array (R589). -/
def Dev.classOf (d : Dev) (n : Net) (use : QpUse) : Option (Nat × Nat × Nat) :=
  if n.port.val = 16 then
    match use with
    | .queue k => some (0, k / 16, k % 16)
    | _ => none
  else (d.classify n.qpn.toNat (n.port.val / 4)).map fun r =>
    if r.toNat % 4 = 1 then (1, 0, bits r.toNat 2 6) else (r.toNat % 4, bits r.toNat 2 10, bits r.toNat 12 4)

/-- The largest message that the receive queue accepts (R64, R78). -/
def largestFrame : Nat := 8512

/-- What becomes of a frame of a size that arrives. A message longer than the receive queue accepts is not taken at all (DESIGN CHOICE, log
157: R64 names no answer to it). A fenced part takes frames on its management port whether it accepts commands or not (R247). -/
def Dev.door (d : Dev) (n : Net) (size : Nat) (waited : Bool) : Door :=
  let q := n.qpn.toNat
  let port := n.port.val
  if largestFrame < size ∨ d.boot.phase ≠ .running ∨ d.dumping ∨ !d.portUp port ∨ (port = 16 ∧ d.rd PWR_STAT_STATE = 4) then .shut else
  match tget d.eth.qps q with
  | none => .stray
  | some p =>
    if p.failed ∨ !p.up ∨ p.port ≠ port then .shut
    else if !d.accepting && !(d.fenced && decide (port = 16)) then .nak else
    match p.use with
    | .tomb t => if thas d.tenants t ∧ !d.passes t n then .spoof t else .tomb t
    | use =>
      match d.classOf n use with
      | none => .stray
      | some (kind, t, number) =>
        if kind ≠ 0 then
          match tget d.sessions number with
          | some x => if p.use ≠ .session number then .shut else if n.ip ≠ p.ip then .spoof x.tenant else .session number
          | none => .shut
        else if !d.passes t n then .spoof t else
        let k := t * 16 + number
        match tget d.queues k with
        | none => .stray
        | some x =>
          if (t ≠ 0 ∧ d.isSet PWR_STAT_MOVING) ∨ d.relaying k q ∨ (!waited ∧ x.depth ≤ d.outstanding k) then .nak
          else if !waited ∧ d.rxRoom port < d.rxUsed port + size then .nak
          else .queue k (d.withheld q || (!waited && d.eth.rx.any fun y => y.net.qpn = n.qpn))

/-! ### Frames that are dropped -/

/-- A frame fails the spoof check (R605, R606): counted, and told at the first drop of a tenant, then at most once per INTERVAL. -/
def Dev.spoofDrop (d : Dev) (t : Nat) : Dev :=
  let d := (d.bump TEN_SPOOF_STAT_DROPS).modTenant t fun x => { x with spoofDrops := sat32 (x.spoofDrops + 1), spoofSince := x.spoofSince + 1 }
  match tget d.tenants t with
  | none => d
  | some x =>
    let due : Bool := match x.spoofAt with
      | none => true
      | some a => decide (a + msNs (d.rd TEN_SPOOF_CFG_INTERVAL) ≤ d.now)
    if !due then d else
    (d.event 0x0A02 0 t 0 [x.spoofSince]).modTenant t fun x => { x with spoofSince := 0, spoofAt := some d.now }

/-! ### Checks 1 and 2 -/

/-- Whether a message is shorter than its header with its direct descriptors (check 1). -/
def rawTruncated (b : Bytes) : Bool :=
  let n := le b 0x24 2
  let need := if bit (le b 2 2) 1 then 64 else if n ≤ 16 then 64 + 16 * n else 80
  decide (b.length < 64) || decide (b.length < need)

/-- Whether the header CRC of a message holds (R73). -/
def rawCrcOk (b : Bytes) : Bool := decide (le b 0x0C 4 = crc32c (patch (b.take 64) 0x0C (zeros 4)))

/-- Whether a frame carries fewer descriptors than DCOUNT asks for (check 1). -/
def frameTruncated (m : Msg) : Bool :=
  !m.inline && decide (m.descs.length < if m.dcount.toNat ≤ 16 then m.dcount.toNat else 1)

/-- What check 1 or 2 finds wrong with what has arrived: the code, and TAG as R88 copies it. -/
def Rx.untrusted (x : Rx) : Option (Code × Nat × Nat) :=
  match x.frame with
  | some m => if frameTruncated m then some (.frameTruncated, m.tag.toNat, m.seq.toNat) else none
  | none =>
    if rawTruncated x.raw then some (.frameTruncated, x.tag, x.seq)
    else if !rawCrcOk x.raw then some (.headerCrc, x.tag, x.seq)
    else none

/-- What has arrived as bytes and passes checks 1 and 2 is the frame that its bytes spell (R70). -/
def Rx.read (x : Rx) : Rx :=
  if x.frame.isSome ∨ x.untrusted.isSome then x else
  let f := frameOf x.net x.raw
  { x with op := f.1, frame := some f.2, raw := [] }

/-! ### The command record -/

/-- The record of a parsed frame (R64), before its class is known. -/
def Dev.newCmd (d : Dev) (op : Op) (m : Msg) (x : Rx) (k seq inc : Nat) : Cmd :=
  let grain := match (d.viewOf (volNum m.volume.toNat)).vol (volNum m.volume.toNat) with | some v => v.grainBytes | none => 0
  let c : Cmd :=
    { op := op, msg := m, qkey := k, tenant := k / 16, inc := inc, seq := seq, tag := m.tag.toNat, stamp := x.stamp, arrived := x.arrived
      claim := .G, prio := m.prio, stage := .gate, hold := .none, waits := [], clamped := false, committed := decide (op = .abort)
      late := false, missCause := 0xF, grains := [], descs := if m.dcount.toNat ≤ 16 then m.descs else [], payload := [], result := []
      applied := 0, retval := 0, aux := [grain], outcome := .success, shareTaken := false, sent := false }
  c.setNum 10 x.quality

/-- Whether a PARAM word of tuning or sizing lies outside its legal range (R90; of QUEUE_BIND's DEPTH also what the free records allow,
R63). -/
def Dev.outOfRange (d : Dev) (c : Cmd) : Bool :=
  let off (lo hi at_ n : Nat) : Bool := decide (clampN lo hi (c.msg.par at_ n) ≠ c.msg.par at_ n)
  match c.op with
  | .scan => off 1 3600000 0x2C 4
  | .streamOpen => off 1 190000 0x2C 4 || off 100 10000000 0x30 4
  | .replOpen => decide (c.msg.par 0x30 8 ≠ 0) && (off 1 190000 0x38 4 || off 100 86400000 0x3C 4)
  | .bindProgram => off 1 128 0x2E 2
  | .tenantShares => match c.msg.par 0x2A 1 with
    | 0 => off 1 190000 0x30 8
    | 1 => off 1 100000 0x30 8
    | 2 => off 1 192 0x30 8
    | 3 => off 0 190000 0x30 8
    | 4 => off 0 128 0x30 8
    | 5 => off 0 3 0x30 8
    | _ => false
  | .keyPolicySet => match c.msg.par 0x2A 1 with
    | 0 => off 0 16 0x2C 4
    | 1 => off 0 8 0x2C 4
    | _ => false
  | .queueBind => off 1 4096 0x30 2 || match d.queueNamed c with
    | some k => decide (d.recordsLeft k < c.msg.par 0x30 2)
    | none => false
  | _ => false

/-- Check 14 (R72, R90): PRIO at most the tenant's ceiling, and the opcode's own tuning and sizing values; one clamp is counted for the
command, whatever becomes of it. -/
def Dev.clampFrame (d : Dev) (id : Nat) (ceil : Nat) : Dev :=
  match tget d.cmds id with
  | none => d
  | some c =>
    if ceil < c.prio ∨ d.outOfRange c then (d.modCmd id fun c => { c with prio := Nat.min c.prio ceil }).noteClamp id else d

/-- What some opcodes take from the part at their parse: the writes a FLUSH covers (R138), the records an EVENT_READ writes (R785), a
SCAN's cores (R556), the map entries of a SNAP_CREATE (R428). -/
def Dev.atParse (d : Dev) (id : Nat) : Dev :=
  match tget d.cmds id with
  | none => d
  | some c =>
    match c.op with
    | .flush => d.modCmd id fun k => { k with waits := d.flushCovers c }
    | .eventRead => d.modCmd id fun k => { k with payload := d.eventSet (c.msg.par 0x28 8) c.length }
    | .scan => d.modCmd id fun k => { k with waits := d.scanCores c }
    | .snapCreate => d.snapReserve id c.volume
    | _ => d

/-- A BIND_PROGRAM that is held at step 4 makes its binding all the same (R154). -/
def Dev.bindHeld (d : Dev) (id : Nat) : Dev :=
  match tget d.cmds id with
  | some c => if c.stage = Stage.gate then d.bindEarly id else d
  | none => d

/-- A frame has passed checks 1 to 8: checks 9 to 14, the comparison of lengths, its class (R180, R239), and step 4. -/
def Dev.takeIn (d : Dev) (k : Nat) (t : Tenant) (c : Cmd) : Dev :=
  let id := d.nextCmd
  match d.check id c with
  | some (code, retval) => d.reply k c.tag c.seq code retval false false
  | none =>
    let d := { d with nextCmd := id + 1, cmds := tput d.cmds id c }.clampFrame id t.prioCeil
    let r := match c.streamId with
      | some i => d.streamClass i c.length
      | none => (d, Claim.G)
    let d := r.1.modCmd id fun c => { c with claim := r.2 }
    let d := d.modQp c.qpn fun p => { p with classes := (r.2 :: p.classes).take 64 }
    if c.short then d.endCmd id .lengthShort 0 0 else
    let d := (d.atParse id).tryPass id
    let d := if c.op = Op.bindProgram then d.bindHeld id else d
    d.settle

/-- Parse a frame on queue k (R66, Table 2-7 checks 3 to 8). -/
def Dev.parse (d : Dev) (x : Rx) (k : Nat) : Dev :=
  match tget d.queues k, tget d.tenants (k / 16) with
  | some q, some t =>
    let seq := q.nextSeq
    match x.untrusted, x.frame with
    | some (code, tag, _), _ =>
      ((d.countFrame k tag).modQueue k fun q => { q with hcrcErr := satAt 0xFFFF (q.hcrcErr + 1) }).reply k tag seq code 0 true false
    | none, none => d
    | none, some m =>
      let tag := m.tag.toNat
      let d := d.countFrame k tag
      let bad (code : Code) : Dev := d.reply k tag seq code 0 false false
      if m.seq.toNat ≠ seq then (d.modQueue k fun q => { q with seqErr := satAt 0xFFFF (q.seqErr + 1) }).reply k tag seq .sequenceInvalid 0 false false
      else if m.queue.toNat ≠ k % 16 then bad .queueMismatch
      else if t.life ≠ .on then bad .tenantNotOn else
      match opOf x.op.toNat with
      | none => bad .opcodeInvalid
      | some op =>
        if op.manager ∧ k / 16 ≠ 0 then bad .managerOnly
        else if d.tagBusy k tag then bad .tagInUse
        else if d.fenced ∧ op ≠ .regRead ∧ op ≠ .eventRead then bad .deviceFault
        else d.takeIn k t (d.newCmd op m x k seq t.inc)
  | _, _ => d

/-! ### Arrival -/

/-- A frame that is taken draws a congestion notification where it is marked CE (R690), and wakes the part from a power state (Table 20-1);
the part is no longer idle (R735). -/
def Dev.frameWakes (d : Dev) (n : Net) : Dev :=
  let d := d.ceSeen n
  let s := d.rd PWR_STAT_STATE
  let d := if s ≠ 0 ∧ !d.isSet PWR_STAT_MOVING ∧ wakes s (if n.port.val = 16 then 2 else 1) then d.wakeExit else d
  { d with power := { d.power with idleSince := d.now } }

/-- A frame, or a message that spells one, arrives. -/
def Dev.arrive (d : Dev) (x : Rx) : Dev :=
  let x := x.read
  let n := x.net.qpn.toNat
  match d.door x.net (x.raw.length + match x.frame with | some m => m.size | none => 0) false with
  | .shut => d
  | .nak => (d.ceSeen x.net).emit (.rnrNak n minRnrTimer)
  | .stray => d.bump STN_STAT_UNCLASSIFIED
  | .spoof t => d.spoofDrop t
  | .tomb t =>
    let d := d.frameWakes x.net
    match x.untrusted, x.frame with
    | some (code, tag, seq), _ => d.tombReply n t tag seq code true
    | none, some m => d.tombReply n t m.tag.toNat m.seq.toNat .tenantReset false
    | none, none => d
  | .session _ => d
  | .queue k hold =>
    let d := d.frameWakes x.net
    if hold then { d with eth := { d.eth with rx := d.eth.rx ++ [x] } }.pauseCheck x.net.port.val x.net.pcp.toNat else d.parse x k

/-- Frames held unparsed go on, in order on each queue pair, as far as their credits are no longer withheld (R240). -/
def Dev.takeHeld : Nat → Dev → Dev
  | 0, d => d
  | fuel + 1, d =>
    let ready (x : Rx) : Option Nat := match d.door x.net 0 true with
      | .queue k false => some k
      | _ => none
    let first := d.eth.rx.zipIdx.find? fun e =>
      (ready e.1).isSome && !(d.eth.rx.take e.2).any fun y => y.net.qpn = e.1.net.qpn
    match first with
    | none => d
    | some (x, i) =>
      match ready x with
      | none => d
      | some k => Dev.takeHeld fuel ({ d with eth := { d.eth with rx := d.eth.rx.eraseIdx i } }.parse x k)

/-- A whole frame with an opcode, arriving now. -/
def Dev.rxOf (d : Dev) (op : Nat) (m : Msg) : Rx :=
  { net := m.net, op := BitVec.ofNat 16 op, frame := some m, raw := [], stamp := d.stamp, quality := d.quality, arrived := d.now }

/-- A frame with an opcode is received. -/
def Dev.receive (d : Dev) (op : Op) (m : Msg) : Dev := d.arrive (d.rxOf op.value m)

/-- What the door does with a frame that arrives. -/
def Dev.doorOf (d : Dev) (m : Msg) : Door := d.door m.net m.size false

end Sys2Proof.Machine
end

