-- ==== Sys2Proof/Machine/Arrivals.lean ====
section
/-! DEFINITION. Buffers granted and released, and device-initiated transfers that arrive or are acknowledged (R48, R77, R94–R98, R139, R209–R218,
R229–R233, R237, R618). -/

namespace Sys2Proof.Machine

/-! ### Data of opcodes that write no sectors -/

/-- The data of a command is whole in tile memory: the opcode runs. -/
def Dev.runWhole (d : Dev) (id : Nat) : Dev := (d.modCmd id fun c => { c with stage := .exec }).runOp id

/-- A chunk of a command's data has arrived: its buffer goes, and the next is asked for, or the opcode runs. -/
def Dev.chunkDone (d : Dev) (id : Nat) : Dev :=
  match tget d.cmds id with
  | none => d
  | some c =>
    let n := c.num 7 + 1
    let d := (d.releaseAll id).modCmd id fun c => c.setNum 7 n
    if n * chunkBytes < c.length then d.askPayload id else d.runWhole id

/-- The next chunk of a command's data has its buffer: inline data moves into it, other data is fetched (R237). -/
def Dev.chunkFetch (d : Dev) (id : Nat) : Dev :=
  match tget d.cmds id with
  | none => d
  | some c =>
    let d := d.modCmd id fun c => { c with stage := .fetch }
    let start := c.num 7 * chunkBytes
    let n := Nat.min chunkBytes (c.length - start)
    if c.msg.inline then
      (d.modCmd id fun c => { c with payload := c.payload ++ slice c.msg.inl start n }).chunkDone id
    else (d.modCmd id fun c => { c with payload := c.payload ++ zeros n }).fetch id start n

/-- A command's descriptors are known: what waited for them goes on, or the command begins.  The buffer of the list stays until those of the
data are granted, where there are any (R209). -/
def Dev.listKnown (d : Dev) (id : Nat) : Dev :=
  match tget d.cmds id with
  | none => d
  | some c =>
    if c.stage = .path then d.freeList id
    else if !c.listLast then (if c.bufBytes.isSome then d else d.freeList id).begin id
    else if c.op = .write then
      let b := c.pieceBytes c.pieceGrains
      ((d.freeList id).modCmd id fun c => { c with stage := .fetch, payload := zeros b.2 }).fetch id b.1 b.2
    else (d.freeList id).chunkFetch id

/-- An indirect list has arrived (R76, R77): a descriptor of length zero is illegal, and what the descriptors name must reach the transfer
size (R93, R94). -/
def Dev.listArrived (d : Dev) (id : Nat) (b : Bytes) : Dev :=
  match tget d.cmds id with
  | none => d
  | some c =>
    let ds := descsOf (b.take c.listBytes)
    let d := d.modCmd id fun c => { c with descs := ds, stage := if c.stage = .path then .path else .exec }
    if ds.any fun x => decide (x.len = 0) then d.endCmd id .descriptorInvalid 0 0
    else if descSum ds < c.size then d.endCmd id .lengthShort 0 0
    else d.listKnown id

/-- A buffer for a command's indirect list or for the next chunk of its data has been granted. -/
def Dev.payloadGranted (d : Dev) (id : Nat) (hs : List Nat) : Dev :=
  match tget d.cmds id with
  | none => d
  | some c =>
    if c.listOut ∧ c.num 26 = 1 then
      (d.modCmd id fun c => { (c.setNum 21 (hs.headD 0 + 1)) with stage := if c.stage = .path then .path else .fetch }).fetchList id
    else if c.listOut then d.askList id
    else (d.freeList id).chunkFetch id

/-! ### BUFFER_GRANT, BUFFER_RELEASE -/

/-- What a grant is for goes on, with the handles granted: what a unit of the device asked for, it holds. -/
def Dev.granted (d : Dev) (r : BufReq) (hs : List Nat) : Dev :=
  match r.use with
  | .piece id gs => d.pieceGranted id gs hs
  | .payload id => d.payloadGranted id hs
  | .reads id => d.readsGranted id r.count hs
  | .test => d.testGranted hs
  | .sample die b => (d.setHands r.use hs).sampleReads die b
  | u => d.setHands u (d.handsOf u ++ hs)

/-- Requests of a pool that a tenant's quota alone holds, counted as they are found waiting for the first time (TW_WAIT_BUF). -/
def Dev.countQuota (d : Dev) (p : Nat) : Dev :=
  (d.pool p).waiting.foldl (fun d r =>
    if !r.waited ∧ d.mayGrant p r.count r.claim = some none ∧ !d.quotaOk p r.count r.tenant then
      d.modTenant r.tenant fun t => { t with waitBuf := sat32 (t.waitBuf + 1) }
    else d) d

/-- The meaning of BUFFER_GRANT (R214–R218): the request that comes first is granted; those that stay are counted as waiting. -/
def execBufferGrant (pool : Nat) (s : State) : Host.Outcome State Fault Refusal :=
  onDev (fun d =>
    match d.nextGrant pool with
    | none => (d.countQuota pool).countWaits pool
    | some (i, r, f) =>
      let d := d.modPool pool fun q => { q with waiting := q.waiting.eraseIdx i }
      let x := d.takeBuffers pool r.count f r.tenant r.use.owner
      (((x.1.granted r (x.2.map (handleOf pool))).countQuota pool).countWaits pool).settle) s

/-- The meaning of BUFFER_RELEASE (R229–R233); credits withheld until then may go out (R239). -/
def execBufferRelease (h : Word32) (s : State) : Host.Outcome State Fault Refusal := onDev (fun d => (d.release h.toNat).advertise) s

/-! ### Transfers -/

/-- Data of a transfer put at an offset of a command's payload; `base` is the transfer offset of the payload's first byte. -/
def Dev.putData (d : Dev) (id off base n : Nat) (b : Bytes) : Dev :=
  d.modCmd id fun c => { c with payload := patch c.payload (off - base) (padTo n (b.take n)) }

/-- Whether a command still waits for data. -/
def Dev.fetching (d : Dev) (id : Nat) : Bool :=
  d.xfers.any fun (e : Nat × Xfer) => decide (e.2.cmd = id) && e.2.read

/-- Transfer x ends. -/
def Dev.endXfer (d : Dev) (x : Nat) : Dev := d.endXfers fun y _ => decide (y = x)

/-- The meaning of RDMA_READ_RESPONSE (R237): the data of a transfer that has gone out arrives whole. -/
def execRdmaReadResponse (x : Nat) (data : Bytes) (s : State) : Host.Outcome State Fault Refusal :=
  onDev (fun d =>
    match tget d.xfers x with
    | none => d
    | some t =>
      if !t.read ∨ d.dumping ∨ !d.posted x t then d else
      let d := d.endXfer x
      match tget d.cmds t.cmd, t.load with
      | some _, .list => (d.listArrived t.cmd data).settle
      | some c, .data off =>
        if c.op = .write then
          let d := d.putData t.cmd off (c.pieceBytes c.pieceGrains).1 t.length data
          if d.fetching t.cmd then d else (d.pieceArrived t.cmd).settle
        else
          let d := d.putData t.cmd off 0 t.length data
          if d.fetching t.cmd then d else (d.chunkDone t.cmd).settle
      | _, _ => d) s

/-- Commands that wait for words of a migration bitmap go on (R618). -/
def Dev.bitmapWaiters (d : Dev) : Dev :=
  (tkeys d.cmds fun _ c => decide (c.op = .migrationLog) && decide (c.hold = .flush) && decide (c.stage ≠ .done)).foldl
    (fun (d : Dev) id => d.runMigrationLog id) d

/-- Commands whose result or bitmap words were lost with a queue pair that has failed go on (R107, R618). -/
def Dev.resultWaiters (d : Dev) : Dev :=
  ((tkeys d.cmds fun id c => decide (c.stage = .result) && !d.moving id).foldl (fun (d : Dev) id => d.resultDone id) d).bitmapWaiters

/-- The meaning of RDMA_WRITE_ACK (R48, R125, R139, R618). -/
def execRdmaWriteAck (x : Nat) (s : State) : Host.Outcome State Fault Refusal :=
  onDev (fun d =>
    match tget d.xfers x with
    | none => d
    | some t =>
      if t.read then d else
      let d := d.endXfer x
      ((d.resultDone t.cmd).bitmapWaiters).settle) s

/-- The meaning of TRANSFER_FAIL (R97, R98): the transfer ends, and its command completes TRANSFER_FAIL; a word of a migration bitmap that
cannot be written fails no command of the tenant. -/
def execTransferFail (x : Nat) (s : State) : Host.Outcome State Fault Refusal :=
  onDev (fun d => match tget d.xfers x with
    | none => d
    | some t =>
      if !d.posted x t then d else
      let d := d.endXfer x
      if t.load = Load.bitmap then ((d.resultDone t.cmd).bitmapWaiters).settle else (d.transferFailed t.cmd).settle) s

end Sys2Proof.Machine
end

