-- ==== Sys2Proof/Machine/Engines.lean ====
section
/-! DEFINITION. Messages to compression engines, cipher lanes and digest lanes, and what follows when they end (chapters 10
and 11): grains of the data path, engine calls of tint tasks, replication messages, and descriptors in tile memory. -/

namespace Sys2Proof.Machine

/-! ### Shared -/

/-- Whether a lane or engine already has a message of a producer. -/
def Dev.cmpBusy (d : Dev) (src : JobSrc) : Bool :=
  d.engines.any fun e => (e.2.queue ++ e.2.running.toList).any fun j => decide (j.src = src)

def Dev.laneBusy (d : Dev) (src : JobSrc) : Bool :=
  (d.ciphers ++ d.digests).any fun e => (e.2.queue ++ e.2.slots ++ e.2.running.toList).any fun j => decide (j.src = src)

/-- The quadrant of a buffer. -/
def bufQuadrant (h : Nat) : Nat := tileQuadrant (tileOf (handleOffset h))

/-- The quadrant of a command's first buffer. -/
def Dev.cmdQuadrant (d : Dev) (id : Nat) : Nat :=
  let hs := (upTo 5).flatMap fun p => (d.pool p).alloc.filterMap fun e => if e.2.owner = some id then some (handleOf p e.1) else none
  match hs.head? with
  | some h => bufQuadrant h
  | none => 0

/-- The quadrant of the buffer in which a grain's message has its input (R467, R473): that of the coded output for `coded` messages of a coded
grain, else the grain's own. -/
def Dev.grainQuadrant (d : Dev) (id g : Nat) (coded : Bool) : Nat :=
  match if coded then (d.handsOf (.coded id g)).head? else none, (d.grain id g).bind (·.buf) with
  | some h, _ => bufQuadrant h
  | none, some h => bufQuadrant h
  | none, none => d.cmdQuadrant id

/-- The quadrant of a task's call: of the buffer that its input segment lies in, else of its core, in whose memory it lies. -/
def Dev.taskQuadrant (d : Dev) (ti : Nat) : Nat :=
  match d.task ti with
  | none => 0
  | some t =>
    match if (t.seg (t.segReg 3)).region = 2 then t.refs.head? else none with
    | some h => bufQuadrant h
    | none => t.core.getD 0 / 34

/-- The command that owns the buffers of a descriptor (R470, R503). -/
def Dev.servedBy (d : Dev) (hs : List Nat) : Option Nat := hs.findSome? fun h => (d.buf h).bind (·.owner)

/-- The claimant class that CLASS of a descriptor names (Table 10-1). -/
def claimOf (n : Nat) : Option Claim := [Claim.V, .J, .S, .O, .G][n]?

/-- n little-endian bytes of tile memory as a number. -/
def Tmem.num (m : Tmem) (o n : Nat) : Nat := fromLE (m.read o n)

/-- The handles a descriptor lists from offset o on. -/
def Tmem.handles (m : Tmem) (o n : Nat) : List Nat := (upTo n).map fun i => m.num (o + 4 * i) 4

/-- Bytes that a chain of buffers holds. -/
def chainSize (hs : List Nat) : Nat := sumN (hs.map fun h => poolSize (handlePool h))

/-- The parts of a chain of buffers that its first n bytes take: offset and length. -/
def chainParts : List Nat → Nat → List (Nat × Nat)
  | [], _ => []
  | h :: r, n =>
    let k := Nat.min n (poolSize (handlePool h))
    if k = 0 then [] else (handleOffset h, k) :: chainParts r (n - k)

/-- The first n bytes of a chain of buffers. -/
def Tmem.chain (m : Tmem) (hs : List Nat) (n : Nat) : Bytes := (chainParts hs n).flatMap fun p => m.read p.1 p.2

/-- Bytes stored over a chain of buffers. -/
def Tmem.putChain (m : Tmem) (hs : List Nat) (b : Bytes) : Tmem :=
  ((chainParts hs b.length).foldl (fun (a : Tmem × Bytes) p => (a.1.write p.1 (a.2.take p.2), a.2.drop p.2)) (m, b)).1

/-- The first word with wrong parity in the first n bytes of a chain. -/
def Tmem.chainBad (m : Tmem) (hs : List Nat) (n : Nat) : Option Nat :=
  (chainParts hs n).findSome? fun p => (m.errors p.1 p.2).head?

/-- Breach ledger 0 where one of some handles is not allocated (R231, R466, R497). -/
def Dev.checkHandles (d : Dev) (hs : List Nat) : Dev :=
  match hs.find? fun h => (d.buf h).isNone with
  | some h => d.breach 0 refTerm (handlePool h) 0 1
  | none => d

/-! ### Compression engines -/

/-- The message of a grain: coding of a new grain of a COMPRESS volume (R460), decoding of a coded stored grain (R462). -/
def Dev.grainCmp (d : Dev) (id g : Nat) : Option CmpJob :=
  match tget d.cmds id, d.grain id g with
  | some c, some x =>
    match d.vol c.volume with
    | none => none
    | some v =>
      let n := v.grainBytes
      if x.step = 10 ∧ v.compress then
        some { src := .grain id g, claim := c.claim, prio := c.prio, tenant := c.tenant, decode := false, input := x.data
               limit := n - 256, expect := 0, order := 0 }
      else if x.step = 95 ∨ x.step = 72 ∨ x.step = 62 ∨ x.step = 64 then
        some { src := .grain id g, claim := c.claim, prio := c.prio, tenant := c.tenant, decode := true
               input := if x.step = 64 then x.frag else fragGrain x.frag
               limit := n, expect := n, order := 0 }
      else none
  | _, _ => none

/-- Whether a coding message of a grain has the buffers of its output, 4 KiB each (R210, Table 5-1). -/
def Dev.outputHeld (d : Dev) (id g : Nat) (j : CmpJob) : Bool := j.decode || decide (j.input.length / 4096 ≤ (d.handsOf (.coded id g)).length)

/-- The buffers of a coding's output that it does not fill let go: all of them where the grain stays raw. -/
def Dev.trimOutput (d : Dev) (id g : Nat) (r : CmpOut) : Dev :=
  let hs := d.handsOf (.coded id g)
  let n := if r.result = 0 then ceilDiv r.out.length 4096 else 0
  (hs.drop n).foldl (fun d h => d.release h) (d.setHands (.coded id g) (hs.take n))

/-- The result fields of a compression descriptor written. -/
def Tmem.cmpResult (m : Tmem) (a result len used codes : Nat) : Tmem :=
  ((m.write (a + 0x24) (toLE 4 len)).write (a + 0x28) (toLE 1 result ++ toLE 1 used)).write (a + 0x2C) (toLE 4 codes)

/-- Output handles that a compression descriptor supplies, and the size of the buffers that its engine asks for (Table 10-1). -/
def Tmem.outHandles (m : Tmem) (a : Nat) : List Nat := m.handles (a + 0x40) (Nat.min 16 (m.num (a + 0x11) 1))
def Tmem.outSize (m : Tmem) (a : Nat) : Nat := poolSize (m.num (a + 0x12) 1)

/-- What the output chain of a descriptor holds with its 16 buffers (R459). -/
def Tmem.outMost (m : Tmem) (a : Nat) : Nat := chainSize (m.outHandles a) + (16 - (m.outHandles a).length) * m.outSize a

/-- Every handle of a compression descriptor. -/
def Tmem.cmpHandles (m : Tmem) (a : Nat) : List Nat := m.handles (a + 0x14) (Nat.min 4 (m.num (a + 0x10) 1)) ++ m.outHandles a

/-- Whether R466 ends a compression descriptor CORRUPT before its input is read. -/
def Dev.cmpCorrupt (d : Dev) (a : Nat) : Bool :=
  let m := d.tmem
  let op := m.num a 1
  let inLen := m.num (a + 4) 4
  let limit := m.num (a + 8) 4
  let expect := m.num (a + 0xC) 4
  let nIn := m.num (a + 0x10) 1
  let nOut := m.num (a + 0x11) 1
  let pool := m.num (a + 0x12) 1
  decide ((op ≠ 1 ∧ op ≠ 2) ∨ inLen = 0 ∨ 262144 < inLen ∨ limit = 0 ∨ 262144 < limit ∨ (op = 1 ∧ expect ≠ 0) ∨ limit < expect ∨ nIn = 0 ∨
    4 < nIn ∨ 16 < nOut ∨ pool = 0 ∨ 4 < pool ∨ 16 * poolSize pool < limit ∨ chainSize (m.handles (a + 0x14) nIn) < inLen) ||
    (claimOf (bits (m.num (a + 1) 1) 2 3)).isNone || (m.cmpHandles a).any fun h => (d.buf h).isNone

/-- The message of a compression descriptor in tile memory (R465, R466, Table 10-2). A chain of 16 buffers that holds less than LIMIT, some supplied ones being
small, limits the output as LIMIT does (DESIGN CHOICE, log 181). -/
def Dev.descCmp (d : Dev) (a : Nat) : CmpJob :=
  let m := d.tmem
  let flags := m.num (a + 1) 1
  let inLen := m.num (a + 4) 4
  let ins := m.handles (a + 0x14) (Nat.min 4 (m.num (a + 0x10) 1))
  let bad := if d.cmpCorrupt a then 3 else if (m.chainBad ins inLen).isSome then 4 else 0
  { src := .desc a, claim := (claimOf (bits flags 2 3)).getD .G, prio := bits flags 0 2, tenant := m.num (a + 2) 2, decode := decide (m.num a 1 = 2)
    input := if bad = 0 then m.chain ins inLen else [], limit := if bad = 0 then Nat.min (m.num (a + 8) 4) (m.outMost a) else m.num (a + 8) 4
    expect := m.num (a + 0xC) 4, order := 0, len := inLen, bad := bad, serves := d.servedBy (m.cmpHandles a) }

/-- The meaning of COMPRESSION_DESCRIPTOR (R467): a message goes to an engine of its input's quadrant with room, else to the one
with the shortest queue; with every queue full its producer is held. -/
def execCompressionDescriptor (src : JobSrc) (s : State) : Host.Outcome State Fault Refusal :=
  onDev (fun d =>
    if d.cmpBusy src then d else
    let put (q : Nat) (j : CmpJob) : Dev := (d.submitCmp q j).getD d
    match src with
    | .grain id g => match d.grainCmp id g with
      | some j => if d.outputHeld id g j then put (d.grainQuadrant id g false) j else d
      | none => d
    | .task ti => match d.callCmp ti with
      | some j => put (d.taskQuadrant ti) j
      | none => d
    | .session _ => d
    | .desc a => put (bufQuadrant (d.tmem.num (a + 0x14) 4)) (d.descCmp a)) s

/-- The output chain of a descriptor's message of n bytes: its own buffers, and further ones of OUT_POOL that have been granted for it under its class,
their handles behind its own (R459). While its output needs more, one more is asked for (R208–R216), up to 16 buffers in all, and there is no chain
yet. -/
def Dev.outChain (d : Dev) (a : Nat) (j : CmpJob) (n : Nat) : Dev × Option (List Nat) :=
  let own := d.tmem.outHandles a
  let size := d.tmem.outSize a
  let more := d.handsOf (.output a)
  if chainSize own + more.length * size < n ∧ own.length + more.length < 16 then
    (d.ask (.output a) size (more.length + 1) j.claim j.tenant, none)
  else
    let put (x : Dev × Nat) (h : Nat) : Dev × Nat := (x.1.setTmem (x.1.tmem.write (a + 0x40 + 4 * x.2) (toLE 4 h)), x.2 + 1)
    ((more.foldl put (d.setHands (.output a) [], own.length)).1, some (own ++ more))

/-- What a descriptor's message leaves in tile memory, and whether it is over: not while it waits for an output buffer. One that R466 or a parity error ended
writes its result alone; RAW gives back every output buffer (R460). -/
def Dev.descCmpDone (d : Dev) (a : Nat) (j : CmpJob) (r : CmpOut) : Dev × Bool :=
  if j.bad ≠ 0 then
    let e := d.setTmem (d.tmem.cmpResult a j.bad 0 0 0)
    (if j.bad = 3 then e.checkHandles (d.tmem.cmpHandles a)
     else match d.tmem.chainBad (d.tmem.handles (a + 0x14) (d.tmem.num (a + 0x10) 1)) j.len with
      | some o => e.tileError o
      | none => e, true)
  else match d.outChain a j r.out.length with
    | (d, none) => (d, false)
    | (d, some hs) =>
      let m := d.tmem.putChain hs r.out
      if r.result = 1 then (hs.foldl (fun (d : Dev) h => d.release h) (d.setTmem (m.cmpResult a 1 r.out.length 0 r.codes)), true)
      else (d.setTmem (m.cmpResult a r.result r.out.length (chainParts hs r.out.length).length r.codes), true)

/-- A descriptor's message whose command ended before it did ends DISCARDED (R470): output buffers that are still that command's go back, with those its
engine had asked for. -/
def Dev.descCmpDrop (d : Dev) (a : Nat) (j : CmpJob) : Dev :=
  let mine := (d.tmem.outHandles a).filter fun h => decide ((d.buf h).bind (·.owner) = j.serves)
  let d := mine.foldl (fun (d : Dev) h => d.release h) (d.dropHands (.output a))
  d.setTmem (d.tmem.cmpResult a 5 0 0 0)

/-- A coded grain that a receiving session has entered has been decoded (R445): its guards are checked, and it goes on at step 9; else its cycle fails
(R448), with no DECODE_FAIL event (R464). -/
def Dev.receivedDone (d : Dev) (id g : Nat) (x : Grain) (r : CmpOut) : Dev :=
  if r.result = 2 then d.endCmd id .decompLimit 0 0
  else if r.result ≠ 0 ∨ guardsOf r.out ≠ x.digest then d.endCmd id .integrityFail 0 0
  else d.modGrain id g fun x => { x with step := 8, data := r.out, frag := [], digest := [] }

/-- The grain whose coding or decoding has ended goes on (R460, R461, R464). -/
def Dev.grainCmpDone (d : Dev) (id g : Nat) (r : CmpOut) : Dev :=
  match d.grain id g with
  | none => d
  | some x =>
    if x.step = 10 then
      let d := d.trimOutput id g r
      if r.result = 0 then d.modGrain id g fun x => { x with step := 11, frag := r.out, raw := false }
      else d.modGrain id g fun x => { x with step := 11, frag := x.data, raw := true }
    else if x.step = 64 then d.receivedDone id g x r
    else d.expanded id g r.out r.result

/-- The meaning of COMPRESSION_RESULT (R468): engine e ends its message, its result goes to whoever gave it, and it takes its next
one. -/
def execCompressionResult (e : Nat) (s : State) : Host.Outcome State Fault Refusal :=
  onDev (fun d =>
    let x := d.engine e
    match x.running with
    | none => d
    | some j =>
      let r := j.run
      let free (d : Dev) : Dev := (((d.countCmp e j r).setEngine e { (d.engine e) with running := none }).katAll).engineNext e
      if d.jobOrphan j.src j.serves then free (match j.src with | .desc a => d.descCmpDrop a j | _ => d) else
      match j.src with
      | .grain id g => ((free d).grainCmpDone id g r).settle
      | .task ti => ((free d).callDone ti r.result r.out).settle
      | .session _ => free d
      | .desc a => match d.descCmpDone a j r with
        | (d, true) => free d
        | (d, false) => d) s

/-! ### Lanes -/

/-- A lane message without anything particular. -/
def LaneJob.of (src : JobSrc) (claim : Claim) (prio tenant : Nat) (op : LaneOp) (key : Option Nat) (input : Bytes) : LaneJob :=
  { src := src, claim := claim, prio := prio, tenant := tenant, op := op, key := key, system := false, id := 0, off := 0, aad := []
    input := input, callerKey := [], fixedField := 0, counter := 0, tag := [], compare := none, save := false, restore := none
    done := 0, order := 0, bad := 0, keyGone := false }

/-- The body that write step 12 encrypts: guards, the coded or raw grain, and padding to 16 bytes (R309). -/
def Grain.body (x : Grain) : Bytes :=
  let b := guardsOf x.data ++ x.frag
  padTo (ceilDiv b.length 16 * 16) b

/-- PAD of a grain's fragment. -/
def Grain.pad (x : Grain) : Nat :=
  let n := (guardsOf x.data ++ x.frag).length
  ceilDiv n 16 * 16 - n

/-- The cipher message of a grain: encryption at write step 12, decryption of a stored fragment (R475). -/
def Dev.grainCipher (d : Dev) (id g : Nat) : Option LaneJob :=
  match tget d.cmds id, d.grain id g with
  | some c, some x =>
    match d.vol c.volume with
    | none => none
    | some v =>
      let key := keyPlace v.tenant false v.keydom
      let job (dec : Bool) (content : Nat) (b : Bytes) : LaneJob :=
        { LaneJob.of (.grain id g) c.claim c.prio c.tenant (.xts dec) (some key) b with id := content }
      if x.step = 11 ∧ c.op.edits then x.content.map fun k => job false k x.body
      else if x.step = 9 ∧ (c.op = .read ∨ c.op = .scan) ∨ x.step = 71 ∨ x.step = 61 then
        x.match?.map fun k => job true k (fragBody x.frag)
      else none
  | _, _ => none

/-- The key that KEYREF of a descriptor names: its place, or the result it ends with (R497, R498). -/
def Dev.keyRef (d : Dev) (tenant ref : Nat) (xts : Bool) : Nat ⊕ Nat :=
  let kind := bits ref 0 2
  if xts then
    if kind = 0 ∧ ref < 64 then
      if tenant = 0 then .inr 5 else
      let p := keyPlace tenant false (bits ref 2 4)
      if (d.keyAt p).isSome then .inl p else .inr 5
    else if kind = 2 ∧ bits ref 2 4 < 2 ∧ ref < 64 then
      if tenant = 0 then .inl (metaPlace (decide (bits ref 2 4 = 1))) else .inr 5
    else .inr 7
  else if kind = 1 ∧ ref < 32 then
    let p := keyPlace tenant true (bits ref 2 3)
    if (d.keyAt p).isSome then .inl p else .inr 5
  else .inr 7

/-- A cipher descriptor of tile memory (Table 11-4): its message, or the result it ends with at once. -/
def Dev.descCipher (d : Dev) (a : Nat) : LaneJob ⊕ Nat :=
  let m := d.tmem
  let op := m.num a 1
  let flags := m.num (a + 1) 1
  let tenant := m.num (a + 2) 2
  let n := m.num (a + 8) 4
  let aad := m.num (a + 0xC) 4
  let nIn := m.num (a + 0x1C) 1
  let nOut := m.num (a + 0x1D) 1
  let ins := m.handles (a + 0x40) nIn
  let outs := m.handles (a + 0x60) nOut
  let xts := decide (op = 1) || decide (op = 2)
  match claimOf (bits flags 2 3) with
  | none => .inr 7
  | some c =>
    if op = 0 ∨ 4 < op ∨ n = 0 ∨ 262144 < n ∨ 1023 < tenant ∨ (xts ∧ (n % 16 ≠ 0 ∨ aad ≠ 0)) ∨ 64 < aad ∨ n < aad ∨ nIn = 0 ∨ 8 < nIn ∨
        nOut = 0 ∨ 8 < nOut ∨ ((ins ++ outs).any fun h => (d.buf h).isNone) ∨ chainSize ins < n ∨ chainSize outs < n - aad then .inr 7
    else match d.keyRef tenant (m.num (a + 4) 4) xts with
      | .inr r => .inr r
      | .inl p =>
        if (m.chainBad ins n).isSome then .inr 8 else
        let b := m.chain ins n
        let j := { LaneJob.of (.desc a) c (bits flags 0 2) tenant
          (if op = 1 then .xts false else if op = 2 then .xts true else if op = 3 then .seal else .openTag) (some p) (b.drop aad) with
          serves := d.servedBy (ins ++ outs) }
        let id := m.num (a + 0x10) 8
        if xts then .inl { j with system := decide (bits (m.num (a + 4) 4) 0 2 = 2), id := id, off := m.num (a + 0x18) 4 }
        else .inl { j with aad := b.take aad, fixedField := if op = 3 then nonceField 0x52 (id % 256) d.part else id % 2 ^ 32
                           counter := m.num (a + 0x20) 8, tag := m.read (a + 0x28) 16 }

/-- A digest descriptor of tile memory (Table 11-5): its message, or the result it ends with at once. -/
def Dev.descDigest (d : Dev) (a : Nat) : LaneJob ⊕ Nat :=
  let m := d.tmem
  let op := m.num a 1
  let flags := m.num (a + 1) 1
  let tenant := m.num (a + 2) 2
  let n := m.num (a + 8) 4
  let keyLen := m.num (a + 0xC) 4
  let nIn := m.num (a + 0x18) 1
  let ins := m.handles (a + 0x40) nIn
  let save := bit flags 6
  let restore := bit flags 7
  let more := (if op = 3 then [m.num (a + 0x10) 4] else []) ++ (if save || restore then [m.num (a + 0x14) 4] else [])
  let st := m.read (handleOffset (m.num (a + 0x14) 4)) 48
  match claimOf (bits flags 2 3) with
  | none => .inr 7
  | some c =>
    if (save ∨ restore) ∧ (op = 2 ∨ op = 3) then .inr 6
    else if op = 0 ∨ 3 < op ∨ 262144 < n ∨ 1023 < tenant ∨ 8 < nIn ∨ (nIn = 0 ∧ n ≠ 0) ∨ (op = 3 ∧ (keyLen = 0 ∨ 64 < keyLen)) ∨
        (op ≠ 3 ∧ keyLen ≠ 0) ∨ ((ins ++ more).any fun h => (d.buf h).isNone) ∨ chainSize ins < n ∨ (save ∧ n % 64 ≠ 0) ∨
        (restore ∧ (readState st).isNone) then .inr 7
    else
      let key := if op = 2 then d.keyRef tenant (m.num (a + 4) 4) (decide (bits (m.num (a + 4) 4) 0 2 ≠ 1)) else .inl 0
      match key with
      | .inr r => .inr r
      | .inl p =>
        if (m.chainBad ins n).isSome then .inr 8 else
        let j := LaneJob.of (.desc a) c (bits flags 0 2) tenant (if op = 1 then .sha else if op = 2 then .hmacStore else .hmacCaller)
          (if op = 2 then some p else none) (m.chain ins n)
        .inl { j with serves := d.servedBy ins
                      callerKey := if op = 3 then m.read (handleOffset (m.num (a + 0x10) 4)) keyLen else []
                      compare := if bit flags 5 then some (m.read (a + 0x20) 32) else none
                      save := save, restore := if restore then readState st else none }

/-- A descriptor that ends at once: its RESULT written, KEY_DENIED told to the manager (R498), an unallocated handle a breach
(R497), a parity error handled. -/
def Dev.laneRefuse (d : Dev) (dig : Bool) (a r : Nat) : Dev :=
  let m := d.tmem
  let nIn := Nat.min 8 (m.num (a + (if dig then 0x18 else 0x1C)) 1)
  let ins := m.handles (a + 0x40) nIn
  let more := if dig then [] else m.handles (a + 0x60) (Nat.min 8 (m.num (a + 0x1D) 1))
  let d1 := d.setTmem (m.laneResult dig a r)
  if r = 5 then d1.event 0x0703 0 (m.num (a + 2) 2) 0 [m.num (a + 4) 4]
  else if r = 7 then d1.checkHandles (ins ++ more)
  else if r = 8 then match m.chainBad ins (m.num (a + 8) 4) with
    | some o => d1.tileError o
    | none => d1
  else d1

/-- The meaning of CIPHER_DESCRIPTOR (R473): a message goes to a cipher lane of its input's quadrant, else to the one with the
shortest queue. -/
def execCipherDescriptor (src : JobSrc) (s : State) : Host.Outcome State Fault Refusal :=
  onDev (fun d =>
    if d.laneBusy src then d else
    match src with
    | .grain id g => match d.grainCipher id g with
      | some j => (d.submitLane false (d.grainQuadrant id g true) j).getD d
      | none => d
    | .task _ => d
    | .session n => match d.replJob n with
      | some j => match d.submitLane false 0 j with
        | some d => d.modSess n fun s => { s with sealing := true }
        | none => d
      | none => d
    | .desc a => match d.descCipher a with
      | .inl j => (d.submitLane false (bufQuadrant (d.tmem.num (a + 0x40) 4)) j).getD d
      | .inr r => d.laneRefuse false a r) s

/-- The meaning of DIGEST_DESCRIPTOR (R489): a message goes to a digest lane: a grain's fingerprint at write step 9, a task's
call, or a descriptor of tile memory. -/
def execDigestDescriptor (src : JobSrc) (s : State) : Host.Outcome State Fault Refusal :=
  onDev (fun d =>
    if d.laneBusy src then d else
    match src with
    | .grain id g => match tget d.cmds id, d.grain id g with
      | some c, some x =>
        if x.step = 9 ∧ c.op.edits then
          (d.submitLane true (d.grainQuadrant id g false) (LaneJob.of src c.claim c.prio c.tenant .sha none x.data)).getD d
        else d
      | _, _ => d
    | .task ti => match d.callLane ti with
      | some j => (d.submitLane true (d.taskQuadrant ti) j).getD d
      | none => d
    | .session _ => d
    | .desc a => match d.descDigest a with
      | .inl j => (d.submitLane true (bufQuadrant (d.tmem.num (a + 0x40) 4)) j).getD d
      | .inr r => d.laneRefuse true a r) s

/-- What a descriptor's lane message leaves in tile memory. -/
def Dev.descLaneDone (d : Dev) (dig : Bool) (a : Nat) (j : LaneJob) (r : LaneOut) : Dev :=
  let m := d.tmem
  if dig then
    let m := m.laneResult true a r.result
    if r.result ≠ 0 then d.setTmem m
    else if j.save then d.setTmem (m.write (handleOffset (d.tmem.num (a + 0x14) 4)) r.out)
    else if j.compare.isSome then d.setTmem (m.write (a + 0x1A) (toLE 1 (b2n r.match_)))
    else d.setTmem (m.write (a + 0x20) r.out)
  else
    let m := m.laneResult false a r.result
    if r.result ≠ 0 then d.setTmem m else
    let m := m.putChain (d.tmem.handles (a + 0x60) (d.tmem.num (a + 0x1D) 1)) r.out
    if j.op = .seal then d.setTmem ((m.write (a + 0x20) (toLE 8 j.counter)).write (a + 0x28) r.tag) else d.setTmem m

/-- The grain whose lane message has ended goes on: its fingerprint, its encrypted fragment, or its stored bytes in clear. -/
def Dev.grainLaneDone (d : Dev) (id g : Nat) (r : LaneOut) : Dev :=
  match d.grain id g with
  | none => d
  | some x =>
    if r.result ≠ 0 then d.failAt id g .mediaUnreadable
    else if x.step = 9 ∧ x.match?.isNone then d.dedup id g (r.out.take 24)
    else if x.step = 11 then
      match x.content with
      | some k => d.modGrain id g fun x => { x with step := 12, frag := fragHeader k r.out.length x.raw x.pad x.stamps ++ r.out }
      | none => d
    else if x.step = 9 ∨ x.step = 71 ∨ x.step = 61 then d.decrypted id g r.out
    else d

/-- The meaning of LANE_MESSAGE_END (R502): a lane ends its message, its result goes to whoever gave it, and it takes the next
work; a message whose key is not in the cache yet has not ended (R674). -/
def execLaneMessageEnd (dig : Bool) (l : Nat) (s : State) : Host.Outcome State Fault Refusal :=
  onDev (fun d =>
    let x := d.lane dig l
    match x.running with
    | none => d
    | some j =>
      let waits : Bool := match j.key with
        | some p => (d.keyAt p).isSome && !d.cached p && !j.keyGone
        | none => false
      if waits then d else
      let orphan := d.jobOrphan j.src j.serves
      let r : LaneOut := if orphan then { result := 9, out := [], match_ := false, tag := [] } else d.laneResult j
      let d := (((d.laneEffects dig l j r).setLane dig l { (d.lane dig l) with running := none }).katAll).laneNext dig l
      if orphan then (match j.src with | .desc a => d.descLaneDone dig a j r | _ => d) else
      match j.src with
      | .grain id g => (d.grainLaneDone id g r).settle
      | .task ti => (d.callDone ti r.result r.out).settle
      | .session n => (d.replSealed n j r).settle
      | .desc a => d.descLaneDone dig a j r) s

end Sys2Proof.Machine
end

