-- ==== Sys2Proof/Machine/Frames.lean ====
section
/-! DEFINITION. The frames of the table: one meaning for each opcode, and one for each way in which a frame starts no command (chapters 02
and 03). -/

namespace Sys2Proof.Machine

/-! ### Frames that start no command -/

/-- The meaning of UNTRUSTED_FRAME (R70, R88): a message given as its bytes, which check 1 or 2 of Table 2-7 fails; one that both pass is
the frame that its bytes spell. -/
def execUntrustedFrame (n : Net) (raw : Bytes) (s : State) : Host.Outcome State Fault Refusal :=
  onDev (fun d =>
    d.arrive { net := n, op := 0, frame := none, raw := raw, stamp := d.stamp, quality := d.quality, arrived := d.now }) s

/-- The meaning of TOMBSTONE_FRAME (R610). -/
def execTombstoneFrame (m : Msg) (op : BitVec 16) (s : State) : Host.Outcome State Fault Refusal :=
  onDev (fun d => match d.doorOf m with
    | .tomb _ => d.arrive (d.rxOf op.toNat m)
    | _ => d) s

/-- The meaning of RECEIVER_NOT_READY (R64, R107, R240, R737). -/
def execReceiverNotReady (m : Msg) (op : BitVec 16) (s : State) : Host.Outcome State Fault Refusal :=
  onDev (fun d => match d.doorOf m with
    | .nak => d.arrive (d.rxOf op.toNat m)
    | _ => d) s

/-- The meaning of UNCLASSIFIED (R590). -/
def execUnclassified (m : Msg) (op : BitVec 16) (s : State) : Host.Outcome State Fault Refusal :=
  onDev (fun d => match d.doorOf m with
    | .stray => d.arrive (d.rxOf op.toNat m)
    | _ => d) s

/-- The meaning of SPOOF_DROP (R605, R606). -/
def execSpoofDrop (m : Msg) (op : BitVec 16) (s : State) : Host.Outcome State Fault Refusal :=
  onDev (fun d => match d.doorOf m with
    | .spoof _ => d.arrive (d.rxOf op.toNat m)
    | _ => d) s

/-- The meaning of OPCODE_INVALID (R121): a frame with an opcode that no table lists. -/
def execOpcodeInvalid (m : Msg) (op : BitVec 16) (s : State) : Host.Outcome State Fault Refusal :=
  onDev (fun d => if (opOf op.toNat).isNone then d.arrive (d.rxOf op.toNat m) else d) s

/-! ### I/O family -/

/-- The meaning of NOP (R103). -/
def execNop (m : Msg) (s : State) : Host.Outcome State Fault Refusal := onDev (fun d => d.receive .nop m) s

/-- The meaning of READ (R48). -/
def execRead (m : Msg) (s : State) : Host.Outcome State Fault Refusal := onDev (fun d => d.receive .read m) s

/-- The meaning of WRITE (R40). -/
def execWrite (m : Msg) (s : State) : Host.Outcome State Fault Refusal := onDev (fun d => d.receive .write m) s

/-- The meaning of WRITE_ZEROES (R134). -/
def execWriteZeroes (m : Msg) (s : State) : Host.Outcome State Fault Refusal := onDev (fun d => d.receive .writeZeroes m) s

/-- The meaning of DISCARD (R353). -/
def execDiscard (m : Msg) (s : State) : Host.Outcome State Fault Refusal := onDev (fun d => d.receive .discard m) s

/-- The meaning of STRIP (R354). -/
def execStrip (m : Msg) (s : State) : Host.Outcome State Fault Refusal := onDev (fun d => d.receive .strip m) s

/-- The meaning of FLUSH (R138). -/
def execFlush (m : Msg) (s : State) : Host.Outcome State Fault Refusal := onDev (fun d => d.receive .flush m) s

/-- The meaning of ABORT (R114). -/
def execAbort (m : Msg) (s : State) : Host.Outcome State Fault Refusal := onDev (fun d => d.receive .abort m) s

/-- The meaning of GET_DEFERRED (R139). -/
def execGetDeferred (m : Msg) (s : State) : Host.Outcome State Fault Refusal := onDev (fun d => d.receive .getDeferred m) s

/-! ### Volume family -/

/-- The meaning of VOL_CREATE (R407). -/
def execVolCreate (m : Msg) (s : State) : Host.Outcome State Fault Refusal := onDev (fun d => d.receive .volCreate m) s

/-- The meaning of VOL_DELETE (R142). -/
def execVolDelete (m : Msg) (s : State) : Host.Outcome State Fault Refusal := onDev (fun d => d.receive .volDelete m) s

/-- The meaning of VOL_RESIZE (R142). -/
def execVolResize (m : Msg) (s : State) : Host.Outcome State Fault Refusal := onDev (fun d => d.receive .volResize m) s

/-- The meaning of VOL_QUERY (R92). -/
def execVolQuery (m : Msg) (s : State) : Host.Outcome State Fault Refusal := onDev (fun d => d.receive .volQuery m) s

/-- The meaning of SNAP_CREATE (R143). -/
def execSnapCreate (m : Msg) (s : State) : Host.Outcome State Fault Refusal := onDev (fun d => d.receive .snapCreate m) s

/-- The meaning of SNAP_DELETE (R427). -/
def execSnapDelete (m : Msg) (s : State) : Host.Outcome State Fault Refusal := onDev (fun d => d.receive .snapDelete m) s

/-- The meaning of CLONE_CREATE (R432). -/
def execCloneCreate (m : Msg) (s : State) : Host.Outcome State Fault Refusal := onDev (fun d => d.receive .cloneCreate m) s

/-- The meaning of REPL_OPEN (R439). -/
def execReplOpen (m : Msg) (s : State) : Host.Outcome State Fault Refusal := onDev (fun d => d.receive .replOpen m) s

/-- The meaning of REPL_CLOSE (R450). -/
def execReplClose (m : Msg) (s : State) : Host.Outcome State Fault Refusal := onDev (fun d => d.receive .replClose m) s

/-- The meaning of REPL_REKEY (R146). -/
def execReplRekey (m : Msg) (s : State) : Host.Outcome State Fault Refusal := onDev (fun d => d.receive .replRekey m) s

/-! ### Stream family -/

/-- The meaning of STREAM_OPEN (R183). -/
def execStreamOpen (m : Msg) (s : State) : Host.Outcome State Fault Refusal := onDev (fun d => d.receive .streamOpen m) s

/-- The meaning of STREAM_CLOSE (R148). -/
def execStreamClose (m : Msg) (s : State) : Host.Outcome State Fault Refusal := onDev (fun d => d.receive .streamClose m) s

/-- The meaning of STREAM_QUERY (R92). -/
def execStreamQuery (m : Msg) (s : State) : Host.Outcome State Fault Refusal := onDev (fun d => d.receive .streamQuery m) s

/-- The meaning of QUERY_TIME (R150). -/
def execQueryTime (m : Msg) (s : State) : Host.Outcome State Fault Refusal := onDev (fun d => d.receive .queryTime m) s

/-! ### Compute family -/

/-- The meaning of LOAD_PROGRAM (R534). -/
def execLoadProgram (m : Msg) (s : State) : Host.Outcome State Fault Refusal := onDev (fun d => d.receive .loadProgram m) s

/-- The meaning of UNLOAD_PROGRAM (R153). -/
def execUnloadProgram (m : Msg) (s : State) : Host.Outcome State Fault Refusal := onDev (fun d => d.receive .unloadProgram m) s

/-- The meaning of BIND_PROGRAM (R154). -/
def execBindProgram (m : Msg) (s : State) : Host.Outcome State Fault Refusal := onDev (fun d => d.receive .bindProgram m) s

/-- The meaning of UNBIND_PROGRAM (R154). -/
def execUnbindProgram (m : Msg) (s : State) : Host.Outcome State Fault Refusal := onDev (fun d => d.receive .unbindProgram m) s

/-- The meaning of SCAN (R155). -/
def execScan (m : Msg) (s : State) : Host.Outcome State Fault Refusal := onDev (fun d => d.receive .scan m) s

/-- The meaning of PATTERN_LOAD (R580). -/
def execPatternLoad (m : Msg) (s : State) : Host.Outcome State Fault Refusal := onDev (fun d => d.receive .patternLoad m) s

/-! ### Security family -/

/-- The meaning of CERT_GET (R656). -/
def execCertGet (m : Msg) (s : State) : Host.Outcome State Fault Refusal := onDev (fun d => d.receive .certGet m) s

/-- The meaning of KEY_INSTALL (R666). -/
def execKeyInstall (m : Msg) (s : State) : Host.Outcome State Fault Refusal := onDev (fun d => d.receive .keyInstall m) s

/-- The meaning of CRYPTO_ERASE (R675). -/
def execCryptoErase (m : Msg) (s : State) : Host.Outcome State Fault Refusal := onDev (fun d => d.receive .cryptoErase m) s

/-- The meaning of ATTEST (R677). -/
def execAttest (m : Msg) (s : State) : Host.Outcome State Fault Refusal := onDev (fun d => d.receive .attest m) s

/-- The meaning of KEY_POLICY_SET (R157). -/
def execKeyPolicySet (m : Msg) (s : State) : Host.Outcome State Fault Refusal := onDev (fun d => d.receive .keyPolicySet m) s

/-- The meaning of OWNER_ENROL (R664). -/
def execOwnerEnrol (m : Msg) (s : State) : Host.Outcome State Fault Refusal := onDev (fun d => d.receive .ownerEnrol m) s

/-- The meaning of DEBUG_UNLOCK (R683). -/
def execDebugUnlock (m : Msg) (s : State) : Host.Outcome State Fault Refusal := onDev (fun d => d.receive .debugUnlock m) s

/-! ### Tenant-admin family -/

/-- The meaning of WIN_READ (R21). -/
def execWinRead (m : Msg) (s : State) : Host.Outcome State Fault Refusal := onDev (fun d => d.receive .winRead m) s

/-- The meaning of WIN_WRITE (R22). -/
def execWinWrite (m : Msg) (s : State) : Host.Outcome State Fault Refusal := onDev (fun d => d.receive .winWrite m) s

/-- The meaning of TENANT_CREATE (R599). -/
def execTenantCreate (m : Msg) (s : State) : Host.Outcome State Fault Refusal := onDev (fun d => d.receive .tenantCreate m) s

/-- The meaning of TENANT_BIND (R161). -/
def execTenantBind (m : Msg) (s : State) : Host.Outcome State Fault Refusal := onDev (fun d => d.receive .tenantBind m) s

/-- The meaning of TENANT_SHARES (R600). -/
def execTenantShares (m : Msg) (s : State) : Host.Outcome State Fault Refusal := onDev (fun d => d.receive .tenantShares m) s

/-- The meaning of QUEUE_BIND (R162). -/
def execQueueBind (m : Msg) (s : State) : Host.Outcome State Fault Refusal := onDev (fun d => d.receive .queueBind m) s

/-- The meaning of QUEUE_DELETE (R108). -/
def execQueueDelete (m : Msg) (s : State) : Host.Outcome State Fault Refusal := onDev (fun d => d.receive .queueDelete m) s

/-- The meaning of ENABLE_TENANT (R609). -/
def execEnableTenant (m : Msg) (s : State) : Host.Outcome State Fault Refusal := onDev (fun d => d.receive .enableTenant m) s

/-- The meaning of QUIESCE_TENANT (R163). -/
def execQuiesceTenant (m : Msg) (s : State) : Host.Outcome State Fault Refusal := onDev (fun d => d.receive .quiesceTenant m) s

/-- The meaning of RESET_TENANT (R613). -/
def execResetTenant (m : Msg) (s : State) : Host.Outcome State Fault Refusal := onDev (fun d => d.receive .resetTenant m) s

/-- The meaning of REMOVE_TENANT (R165). -/
def execRemoveTenant (m : Msg) (s : State) : Host.Outcome State Fault Refusal := onDev (fun d => d.receive .removeTenant m) s

/-- The meaning of MIGRATION_LOG (R166). -/
def execMigrationLog (m : Msg) (s : State) : Host.Outcome State Fault Refusal := onDev (fun d => d.receive .migrationLog m) s

/-! ### Device-admin family -/

/-- The meaning of REG_READ (R8). -/
def execRegRead (m : Msg) (s : State) : Host.Outcome State Fault Refusal := onDev (fun d => d.receive .regRead m) s

/-- The meaning of REG_WRITE (R9). -/
def execRegWrite (m : Msg) (s : State) : Host.Outcome State Fault Refusal := onDev (fun d => d.receive .regWrite m) s

/-- The meaning of FW_STAGE (R760). -/
def execFwStage (m : Msg) (s : State) : Host.Outcome State Fault Refusal := onDev (fun d => d.receive .fwStage m) s

/-- The meaning of FW_ACTIVATE (R769). -/
def execFwActivate (m : Msg) (s : State) : Host.Outcome State Fault Refusal := onDev (fun d => d.receive .fwActivate m) s

/-- The meaning of POWER_STATE (R737). -/
def execPowerState (m : Msg) (s : State) : Host.Outcome State Fault Refusal := onDev (fun d => d.receive .powerState m) s

/-- The meaning of EVENT_READ (R785). -/
def execEventRead (m : Msg) (s : State) : Host.Outcome State Fault Refusal := onDev (fun d => d.receive .eventRead m) s

/-- The meaning of THERMAL_ACK (R755). -/
def execThermalAck (m : Msg) (s : State) : Host.Outcome State Fault Refusal := onDev (fun d => d.receive .thermalAck m) s

/-! ### Diagnostics family -/

/-- The meaning of ECHO (R121). -/
def execEcho (m : Msg) (s : State) : Host.Outcome State Fault Refusal := onDev (fun d => d.receive .echo m) s

/-- The meaning of KAT_RUN (R173). -/
def execKatRun (m : Msg) (s : State) : Host.Outcome State Fault Refusal := onDev (fun d => d.receive .katRun m) s

/-- The meaning of TMEM_SCRUB (R174). -/
def execTmemScrub (m : Msg) (s : State) : Host.Outcome State Fault Refusal := onDev (fun d => d.receive .tmemScrub m) s

end Sys2Proof.Machine
end

