-- ==== Sys2Proof/Machine/Media.lean ====
section
/-! DEFINITION. What the media tell the device and what it does with them of itself: parity, journal, programs, erases, reads,
decodes, and the passes of media care (chapters 06 to 08). -/

namespace Sys2Proof.Machine

/-! ### Rows: parity, padding, journal, programs -/

/-- The meaning of PARITY_COMPUTE: P and Q of a closed row (R373), whose writes pass their commit point then (R44), with its STRIPE
entry and mirror frames; or the reconstruction of a codeword from the others of its row (R391, R395), or of a unit of a rebuild from those that the rebuild
has read of its row (R390). One of the two engines does it,
while one is in service (R173). -/
def execParityCompute (w : ParityWork) (s : State) : Host.Outcome State Fault Refusal :=
  onDev (fun d =>
    if d.outOfService.contains 768 && d.outOfService.contains 769 then d else
    match w with
    | .row g l =>
      match d.row g l with
      | none => d
      | some x =>
        if x.state ≠ .closed ∨ !d.parityReady g l x then d else
        let d := x.cmds.foldl (fun d k => d.commit k) d
        (d.rowParity g l).settle
    | .rebuild id cw others =>
      if d.parityWork.any fun k => decide (k.2 = .unit id) then (d.unitRebuilt id).settle else
      match d.cw id cw with
      | none => d
      | some (r, _) =>
        let e := d.reconstruct id cw others
        (e.1.rowFaults r.group r.segment e.2.1 e.2.2).settle) s

/-- Whether a row must close at once (R372): a FLUSH waits in its group, or it holds data or records that only a program
acknowledges. -/
def Dev.rowUrgent (d : Dev) (g : Nat) (w : Row) : Bool :=
  let flush := d.cmds.any fun e => decide (e.2.op = .flush) && decide (e.2.stage ≠ .done) &&
    match d.vol e.2.volume with | some v => decide (v.group = g) | none => false
  w.urgent || flush || !d.linked || w.cmds.any fun k => match tget d.cmds k with | some c => c.msg.forceMedium | none => false

/-- Rows of FILL units follow a programmed row, up to the last row of its block whose program its pages wait for (R318). -/
def Dev.coverRow (d : Dev) (g : Nat) (w : Row) : Dev :=
  match d.seg g w.segment, d.group g with
  | some x, some y =>
    let size := Nat.max 1 (y.n * unitBytes)
    let d := match d.rowIn g w.segment (x.pos / size) with
      | some (l, v) => if v.state = .filling then d.closeRow g l else d
      | none => d
    let rows := (d.disturbers g w.segment w.row).filter fun r => (d.rowIn g w.segment r).isNone
    let top := rows.foldl (fun a r => Nat.max a (r + 1)) 0
    ((upTo top).filter (ceilDiv x.pos size ≤ ·)).foldl (fun d r => let e := d.beginRow g w.segment r x .G; e.1.closeRow g e.2) d
  | _, _ => d

/-- The meaning of ROW_PADDED (R372): a row that has waited FILL_WAIT, 8 µs with vermilion data, or that must close at once, closes. A programmed row that
has waited so long, or must count as programmed at once, is followed by rows of FILL units where its pages wait for later programs of their
blocks (DESIGN CHOICE, log 165; R318). -/
def execRowPadded (g l : Nat) (s : State) : Host.Outcome State Fault Refusal :=
  onDev (fun d =>
    match d.row g l with
    | none => d
    | some w =>
      let wait := d.rd ARR_CFG_FILL_WAIT
      let wait := if w.claim = .V ∧ 8 < wait then 8 else wait
      if !(decide (w.since + usNs wait ≤ d.now) || d.rowUrgent g w) then d
      else if w.state = .filling then (d.closeRow g l).settle
      else if w.state = .programmed ∧ !d.rowCounts w then (d.coverRow g w).settle else d) s

/-- The codewords of a journal program that ran on a die for a member of the pair are written: their entries are durable there (R375), and journal blocks
in which nothing is live any more go to ERASING (R378). -/
def Dev.journalEnded (d : Dev) (g : Nat) (seqs : List Nat) (pages : List FAddr) (m : Nat × Nat × Bool) : Dev :=
  let put (j : JEntry) : JEntry :=
    if j.group = g ∧ seqs.contains j.jseq then (if m.2.2 then { j with onA := true } else { j with onB := true }) else j
  let d := pages.foldl (fun (d : Dev) p => d.journalWrote g m.1 m.2.1 (d.blockAt m.2.1 p.row) (journalEntries p.data)) { d with journal := d.journal.map put }
  (d.dropHands (.page g m.1)).journalTrim g m.1 m.2.1

/-- The codewords of a journal program into a block of the old pair are written while the journal is re-homed: their entries are held there (R382). -/
def Dev.journalHeld (d : Dev) (g die : Nat) (seqs : List Nat) (pages : List FAddr) : Dev :=
  let keep (j : JEntry) : JEntry := if j.group = g ∧ seqs.contains j.jseq then { j with held := (die :: j.held).eraseDups } else j
  let put (d : Dev) (p : FAddr) : Dev :=
    let k := blockKey die (d.blockAt die p.row)
    { d with jpages := tput d.jpages k ((tget d.jpages k).getD [] ++ journalEntries p.data) }
  pages.foldl put { d with journal := d.journal.map keep }

/-- A journal program into a block has failed (R344): the block is marked for retirement and takes nothing more, and its entries go into another one. -/
def Dev.journalLost (d : Dev) (g b : Nat) (m : Nat × Nat × Bool) : Dev :=
  (((d.event 0x0406 0 0 (m.2.1 % 65536) [m.2.1, b, 0]).modBlk m.2.1 b fun k => { k with retire := true }).sealBlock m.2.1 b).modMember g m.1 fun k =>
    { k with jblocks := k.jblocks.map fun q => if q.1 = b then (b, q.2.1, q.2.2.1, true) else q }

/-- A journal program that ran on a die is over: its entries are written, or it has failed. -/
def Dev.journalOver (d : Dev) (die g : Nat) (seqs : List Nat) (pages : List FAddr) (failed : Bool) : Dev :=
  let d := if failed then d else d.noteTemps die pages
  let b := match pages with | p :: _ => d.blockAt die p.row | [] => 0
  let old := (d.group g).any fun x => x.oldJournal.contains (die, b)
  let mine := match d.group g with | some x => x.pair.filter fun (e : Nat × Nat × Bool) => decide (e.2.1 = die) | none => []
  let d := if old then (if failed then d else d.journalHeld g die seqs pages)
    else mine.foldl (fun (d : Dev) e => if failed then d.journalLost g b e else d.journalEnded g seqs pages e) d
  (((d.rehomed g).journalKick g).issueFlash).settle

/-- The meaning of JOURNAL_PROGRAM_DONE (R374, R375): the entries of the journal program that runs on a die are durable there, unless a CHECK of its
sequence fails (R263). While the port is in training its end is not seen (R268). -/
def execJournalProgramDone (die : Nat) (s : State) : Host.Outcome State Fault Refusal :=
  onDev (fun d =>
    match d.flash.find? fun (o : FlashOp) => decide (o.die = die) && o.issued && (match o.op with | .journal _ _ => true | _ => false) with
    | none => d
    | some o => match o.op with
      | .journal g seqs =>
        if d.busPaused die then d else
        let e := d.flashEnd die o.op statusPass
        e.1.journalOver die g seqs o.pages e.2
      | _ => d) s

/-- The log stripe that unit j of a row belongs to: its slot, and the unit's place in it; none of a unit without fragments. -/
def Row.stripeOf (w : Row) (n j : Nat) : Option (Nat × Nat) :=
  if n ≤ j ∨ w.units ≤ j then none else
  let u := w.row * n + j
  some (if u / 16 = w.row * n / 16 then w.slotA else w.slotB, u % 16)

/-- Re-place the pages of a failed data unit, whose buffers are still held, into the die's overlay block (R313, R314, R344). Past the limits of the overlay
the log stripe moves with its segment. The slot is that of the row, wherever the media map has the log stripe. -/
def Dev.replacePages (d : Dev) (g l slot die : Nat) : Dev :=
  match d.row g l, d.group g with
  | some w, some x =>
    let j := slotRole x.geometry w.row slot
    match w.stripeOf x.n j with
    | none => d
    | some (i, u) =>
      let c := match d.dieProfile die with | some p => Nat.max 1 p.cwPerPage | none => 1
      let per := 16 / c
      if !d.overlayRoom g i per then d else
      let pay := w.payload x.n
      let v := { w with slc := true }
      (upTo per).foldl (fun (d : Dev) q =>
        d.putOverlay g l i (u * per + q) die ((upTo c).map fun k => d.unitCodeword l v x.n pay j (q * c + k) die) w.claim) d
  | _, _ => d

/-- A program of a member of a row has failed, and is off its die (R344). -/
def Dev.programLost (d : Dev) (g l slot : Nat) : Dev :=
  match d.row g l with
  | none => d
  | some w =>
    match (d.seg g w.segment).bind fun y => y.blocks.getD slot none with
    | none => d
    | some (die, b) =>
      let d := (d.event 0x0406 0 0 (die % 65536) [die, b, 0]).modRow g l fun w => { w with failed := slot :: w.failed }
      let d := (d.modBlk die b fun k => { k with retire := true }).replacePages g l slot die
      let d := d.modSeg g w.segment fun y => { y with stale := true }
      (d.sealEarly g w.segment).claim g w.segment .media

/-- A program into an overlay block has failed, and is off its die: the block is marked and takes nothing more, and the page goes into another. -/
def Dev.overlayLost (d : Dev) (o : FlashOp) : Dev :=
  match o.op with
  | .overlay g l slot piece b _ =>
    let full := match d.dieProfile o.die with | some p => pagesIn p true | none => 0
    let d := ((d.event 0x0406 0 0 (o.die % 65536) [o.die, b, 0]).modBlk o.die b fun k => { k with retire := true }).sealBlock o.die b
    let d := d.modDie o.die fun x => { x with ovl := x.ovl.map fun e => if e.1 = b then (b, full) else e }
    d.putOverlay g l slot piece o.die (o.pages.map FAddr.data) o.claim
  | _ => d

/-- A program of a row, of the overlay or of a rebuild is over, and is off its die. -/
def Dev.programOver (d : Dev) (o : FlashOp) (failed : Bool) : Dev :=
  let d := if failed then d else d.noteTemps o.die o.pages
  match o.op with
  | .program g l slot => if failed then d.programLost g l slot else d
  | .overlay _ _ _ _ _ _ => if failed then d.overlayLost o else d.overlayDone o
  | .rebuild g _ _ => if failed then d.rebuildFailed g o.die else d
  | _ => d

/-- The programs of a row that have been issued on dies whose ports are not in training, with those of a rebuild of that row. -/
def Dev.endable (d : Dev) (g l : Nat) : List FlashOp :=
  let unit (o : FlashOp) : Bool := match o.op with | .rebuild a b _ => decide (a = g) && decide (b = l) | _ => false
  (d.rowPrograms g l ++ d.flash.filter unit).filter fun o => o.issued && !d.busPaused o.die

/-- The meaning of PROGRAM_COMPLETE (R296, R318): the programs of a row that have been issued have ended, those that fail a CHECK as failed (R263); the row is
programmed once none is left. Members that a write guard holds still wait. While a port is in training the end of its programs is not seen
(R268). During the dump, every program that dumps the row has ended. -/
def execProgramComplete (g l : Nat) (s : State) : Host.Outcome State Fault Refusal :=
  onDev (fun d =>
    if !(d.dumpOps g l).isEmpty then d.rowDumped g l else
    let ops := d.endable g l
    if ops.isEmpty then d else
    let one (d : Dev) (o : FlashOp) : Dev := let e := d.flashEnd o.die o.op statusPass; e.1.programOver o e.2
    (((ops.foldl one d).rowEnd g l).issueFlash).settle) s

/-- The program that a failure on a slot of a row is of: that of the member, of a rebuild onto it, of an overlay page on its die, or of the journal there. -/
def Dev.failing (d : Dev) (g l slot : Nat) : Option FlashOp :=
  let die := ((d.row g l).bind fun w => (d.seg g w.segment).bind fun y => y.blocks.getD slot none).map Prod.fst
  let jdie := ((d.group g).bind fun x => x.member slot).map (·.die)
  let is (o : FlashOp) : Bool := match o.op with
    | .program a b c | .rebuild a b c => decide (a = g) && decide (b = l) && decide (c = slot)
    | .overlay a b _ _ _ _ => decide (a = g) && decide (b = l) && decide (die = some o.die)
    | _ => false
  let jrn (o : FlashOp) : Bool := match o.op with | .journal a _ => decide (a = g) && decide (jdie = some o.die) | _ => false
  let run := d.flash.filter fun o => o.issued && !d.busPaused o.die
  match run.find? is with | some o => some o | none => run.find? jrn

/-- The meaning of PROGRAM_FAIL (R263, R344; during the dump R338): the program on a slot of a row ends with FAIL in its status byte. -/
def execProgramFail (g l slot : Nat) (s : State) : Host.Outcome State Fault Refusal :=
  onDev (fun d =>
    match (d.dumpOps g l).find? fun (o : FlashOp) => o.issued && !d.busPaused o.die && decide (o.op = .dump (rowKey g l) slot) with
    | some o => d.dumpFailed o
    | none => match d.failing g l slot with
      | none => d
      | some o =>
        let d := (d.flashEnd o.die o.op statusFail).1
        match o.op with
        | .journal _ seqs => d.journalOver o.die g seqs o.pages true
        | _ => (((d.programOver o true).rowEnd g l).issueFlash).settle) s

/-! ### Erases (R300, R301, R334, R344, R345) -/

/-- The erase of one block has ended (R301, R344): the block is FREE; one that failed, or that was marked, is retired. -/
def Dev.eraseEnded (d : Dev) (g die b : Nat) (ok : Bool) : Dev :=
  let e := d.blockErased die b ok
  let d := if ok then e.1 else e.1.event 0x0406 0 0 (die % 65536) [die, b, 1]
  if e.2 then d.retire g die b else d

/-- The erase operation of a slot of a segment, or of a block by itself, if it runs. -/
def Dev.eraseOn (d : Dev) (g segment slot : Nat) : Option FlashOp :=
  let ops := d.flash.filter fun (o : FlashOp) => match o.op with | .erase a b _ => decide (a = g) && decide (b = segment) | _ => false
  let o := match (d.seg g segment).bind fun y => y.blocks.getD slot none with
    | some k => ops.find? fun (o : FlashOp) => decide (o.die = k.1)
    | none => ops[slot]?
  o.filter fun o => o.issued

/-- An erase operation is over, and is off its die. A segment whose erases have all ended is gone. -/
def Dev.eraseOver (d : Dev) (g segment slot : Nat) (o : FlashOp) (ok : Bool) : Dev :=
  match o.op with
  | .erase _ _ b =>
    let d := (d.eraseEnded g o.die b ok).modSeg g segment fun y => { y with erasing := y.erasing.filter (· ≠ slot) }
    let d : Dev := match d.seg g segment with
      | some y => if y.erasing.isEmpty ∧ y.state = BlkState.erasing then ((d.segmentGone g segment).nameStandby g).spaceCheck g else d
      | none => d
    (d.reserves.scrapeState g).issueFlash.settle
  | _ => d

/-- The meaning of ERASE_COMPLETE: the erase ends with PASS or FAIL in its status byte (R263). While the port is in training its end is not seen
(R268). -/
def execEraseComplete (g segment slot : Nat) (ok : Bool) (s : State) : Host.Outcome State Fault Refusal :=
  onDev (fun d =>
    match d.eraseOn g segment slot with
    | none => d
    | some o =>
      if d.busPaused o.die then d else
      let e := d.flashEnd o.die o.op (if ok then statusPass else statusFail)
      e.1.eraseOver g segment slot o (ok && !e.2)) s

/-- The meaning of SEGMENT_ERASE (R334): the erases of a segment out of which nothing is read any more. -/
def execSegmentErase (g segment : Nat) (s : State) : Host.Outcome State Fault Refusal :=
  onDev (fun d => (d.eraseSegment g segment).settle) s

/-! ### Reads and decodes -/

/-- Samples of the sanding pass that are over are taken (R350, R351). -/
def Dev.endSamples (d : Dev) : Dev :=
  let fs := d.freads.filter fun (e : Nat × FRead) => (match e.2.use with | .sample _ _ => true | _ => false) && e.2.sampleOver
  fs.foldl (fun d e => { d with freads := tdel d.freads e.1 }.sampled e.2) d

/-- The meaning of FLASH_READ_DONE (R277): a capture of a codeword. -/
def execFlashReadDone (read cw : Nat) (cap : Bytes) (s : State) : Host.Outcome State Fault Refusal :=
  onDev (fun d => ((d.captured read cw cap).endSamples).settle) s

/-- The meaning of LDPC_DECODE (R276, R280): the decoder's verdict on a codeword; a decoder that a KAT_RUN waits for is tested then (R173). -/
def execLdpcDecode (read cw : Nat) (result : Option Bytes) (s : State) : Host.Outcome State Fault Refusal :=
  onDev (fun d => (((d.decoded read cw result).katAll).endSamples).settle) s

/-- The slot by which an erase operation is known: the place of its block in the segment, or of the operation among those of the block. -/
def Dev.eraseSlot (d : Dev) (g segment b : Nat) (o : FlashOp) : Nat :=
  match d.seg g segment with
  | some y => (y.blocks.zipIdx.find? fun e => decide (e.1 = some (o.die, b))).elim 0 (·.2)
  | none => (d.flash.filter fun (k : FlashOp) => match k.op with | .erase a c _ => decide (a = g) && decide (c = segment) | _ => false).idxOf o

/-- The meaning of WAIT_RDY_TIMEOUT (R263): the operation issued to a die fails, and its chip enable is reset. A read goes on to its next decode stage; a
journal program's entries go into a new block. While the port is in training no poll runs (R268). -/
def execWaitRdyTimeout (die : Nat) (s : State) : Host.Outcome State Fault Refusal :=
  onDev (fun d =>
    match d.flash.find? fun (o : FlashOp) => decide (o.die = die) && o.issued with
    | none => d
    | some o =>
      if d.busPaused die then d else
      let slot := match o.op with | .erase g segment b => d.eraseSlot g segment b o | _ => 0
      let d := d.emit (.flashReset (diePort die) (die % 32 / 4))
      match o.op with
      | .dump _ _ => d.dumpFailed o
      | .erase g segment _ => (d.flashTake die o.op).eraseOver g segment slot o false
      | .read id cw => (((d.flashTake die o.op).nextDecode id cw).issueFlash).settle
      | .journal g seqs => (d.flashTake die o.op).journalOver die g seqs o.pages true
      | .program g l _ => ((((d.flashTake die o.op).programOver o true).rowEnd g l).issueFlash).settle
      | .overlay g l _ _ _ _ => ((((d.flashTake die o.op).programOver o true).rowEnd g l).issueFlash).settle
      | .rebuild _ _ _ => (((d.flashTake die o.op).programOver o true).issueFlash).settle) s

/-! ### Media care -/

/-- The meaning of SECOND_COAT (R327): a group's next primer log stripe is folded. -/
def execSecondCoat (g : Nat) (s : State) : Host.Outcome State Fault Refusal :=
  onDev (fun d => if d.passesOn then (d.fold g).settle else d) s

/-- The meaning of SCRAPE (R330–R335): a group's evacuations go one step on. -/
def execScrape (g : Nat) (s : State) : Host.Outcome State Fault Refusal :=
  onDev (fun d => if d.passesOn then ((d.overlayTrim g).scrapeStep g).settle else d) s

/-- The meaning of WEAR_LEVELLING (R342). -/
def execWearLevelling (die : Nat) (s : State) : Host.Outcome State Fault Refusal :=
  onDev (fun d => if d.passesOn then (d.level_ die).settle else d) s

/-- The meaning of SANDING_PASS (R350, R351): a sealed block is sampled, and one whose group is too old has its segments claimed. -/
def execSandingPass (die block : Nat) (s : State) : Host.Outcome State Fault Refusal :=
  onDev (fun d =>
    if !d.passesOn then d else
    let d := if d.tooOld die block then (d.segsOn die block).foldl (fun d e => d.claim e.1 e.2 .media) d else d
    (d.sample die block).settle) s

/-- The meaning of RETENTION_TICK (R347): a second is added to the retention ages. -/
def execRetentionTick (s : State) : Host.Outcome State Fault Refusal := onDev (fun d => d.ageAll) s

/-- The meaning of CHECKPOINT_CYCLE (R319). -/
def execCheckpointCycle (s : State) : Host.Outcome State Fault Refusal := onDev (fun d => d.checkpoint.settle) s

/-- The meaning of MAP_FAULT (R323): an absent map page is loaded. -/
def execMapFault (table page : Nat) (s : State) : Host.Outcome State Fault Refusal :=
  onDev (fun d => (d.loadPage table page).settle) s

end Sys2Proof.Machine
end

