-- ==== Sys2Proof/Machine/Misc.lean ====
section
/-! DEFINITION. Entropy samples and waits (R678–R681), the next bottom tree (R662), uncorrectable DRAM words (R720), and the JTAG and I3C ports (R682,
R788, R792, R795). -/

namespace Sys2Proof.Machine

/-- The commands that stand for a reason and are past step 4 run again. -/
def Dev.rerun (d : Dev) (h : Hold) : Dev :=
  ((tkeys d.cmds fun _ c => decide (c.hold = h)).foldl (fun (d : Dev) id => d.runOp id) d).settle

/-! ### The entropy source -/

/-- One sample taken: the repetition count test, the adaptive proportion test, and what becomes of it (R678, R679); the Bool says whether
both tests passed. -/
def Entropy.take (e : Entropy) (v : Nat) : Entropy × Bool :=
  let run := if v = e.lastSample then e.run + 1 else 1
  let fresh := decide (e.aptPos = 0)
  let sample := if fresh then v else e.aptSample
  let count := if fresh then 1 else if v = sample then e.aptCount + 1 else e.aptCount
  let pos := if e.aptPos + 1 = 512 then 0 else e.aptPos + 1
  let start := e.startLeft - 1
  ({ startLeft := start, lastSample := v, run := run, aptSample := sample, aptCount := count, aptPos := pos
     pool := if e.startLeft = 0 then (e.pool + 1) % 256 else 0, failures := e.failures },
   decide (run < 11) && decide (count < 177))

/-- The state of the source after a health-test failure at a time (R680): pending samples discarded, the start-up tests ahead, and the
failures of the last second. -/
def Entropy.failed (e : Entropy) (t : Nat) : Entropy :=
  { Entropy.reset with failures := t :: e.failures.filter fun (x : Nat) => t < x + sNs 1 }

/-- The meaning of ENTROPY_SAMPLE (R678–R680): on the last good start-up sample the source delivers, and what waited for it goes on. -/
def execEntropySample (v : Byte) (s : State) : Host.Outcome State Fault Refusal :=
  onDev (fun d =>
    if d.isSet SEC_STAT_ES_FAILED then d else
    let e := d.sec.entropy
    let r := e.take v.toNat
    if r.2 then
      let d := { d with sec := { d.sec with entropy := r.1 } }
      if r.1.startLeft = 0 ∧ !d.isSet SEC_STAT_ES_READY then (d.wr SEC_STAT_ES_READY 1).rerun .entropy else d
    else
      let f := e.failed d.now
      let d := { d with sec := { d.sec with entropy := f } }.wr SEC_STAT_ES_READY 0
      if 3 ≤ f.failures.length then (d.wr SEC_STAT_ES_FAILED 1).event 0x0701 2 0 0 [0] else d) s

/-- The meaning of ENTROPY_WAIT_TIMEOUT (R681): 100 ms after its wait began, an operation ends. -/
def execEntropyWaitTimeout (cmd : Nat) (s : State) : Host.Outcome State Fault Refusal :=
  onDev (fun d => match tget d.cmds cmd with
    | none => d
    | some c =>
      if c.hold = .entropy ∧ !d.entropyOk ∧ c.num 23 + msNs 100 ≤ d.now then (d.endCmd cmd .entropyFailed 0 0).settle else d) s

/-- Leaves of the current bottom tree that are spent (R662). -/
def Dev.treeSpent (d : Dev) : Nat :=
  if d.sec.leaf % 2 ^ 20 = 0 ∧ d.sec.leaf ≠ 0 then 2 ^ 20 else d.sec.leaf % 2 ^ 20

/-- The meaning of NEXT_TREE_DONE (R662): its computation starts when the current bottom tree has spent 2^19 leaves; signatures that wait
for it go on. -/
def execNextTreeDone (s : State) : Host.Outcome State Fault Refusal :=
  onDev (fun d =>
    if 2 ^ 40 ≤ d.sec.leaf ∨ d.treeSpent < 2 ^ 19 ∨ d.isSet SEC_STAT_NEXT_TREE then d
    else (d.wr SEC_STAT_NEXT_TREE 1).rerun .nextTree) s

/-! ### Uncorrectable DRAM words -/

/-- What becomes of the owner of an uncorrectable word (Table 19-2). Program code is reloaded from its durable image under R539, which leaves its
state segment as it is. -/
def Dev.dramLost (d : Dev) (ch : Nat) (o : DramOwner) : Dev :=
  match o with
  | .page table page => { d with ckpt := { d.ckpt with held := d.ckpt.held.filter fun k => k ≠ (table, page) } }
  | .index bucket =>
    let first := bucket / 32 * 32
    ((upTo 32).map (first + ·)).foldl (fun (d : Dev) b =>
      ((d.bucket b).foldl (fun (d : Dev) (e : IdxEntry) => d.dropIndex e.content) d).setBucket b []) d
  | .ring p => if p < 5 then d.rebuildRing p else d
  | .mirror g l =>
    (d.modMirror fun m => { m with data := tdel m.data (rowKey g l) }).linkTell (.control (.resend g l))
  | .code _ => d
  | .state n =>
    match tget d.progs n with
    | none => d
    | some p =>
      if !p.resident then d else
      { d with progs := tput d.progs n { p with state := padTo p.stateLen p.init, stateReset := true } }.tenantEvent p.tenant 7 n
  | .shadow => d.rebuildShadow
  | .firmware => d.fence 0x0F00 0 ch [0x0720]

/-- The meaning of DRAM_UNCORRECTABLE (R711, R720, R722). -/
def execDramUncorrectable (ch row : Nat) (owner : DramOwner) (s : State) : Host.Outcome State Fault Refusal :=
  onDev (fun d => if 8 ≤ ch then d else (((d.bump (DRC_CH_UE ch)).dramLost ch owner).repairRow ch row).settle) s

/-! ### JTAG and I3C -/

/-- The instructions of the TAP as this model numbers them: 0 BYPASS, 1 IDCODE, 2 SAMPLE/PRELOAD; any other runs only where a debug token has
unlocked it, and is BYPASS otherwise, the factory test mode included (R682, R683, R795). -/
def Dev.jtagRun (d : Dev) (ir : Nat) : Nat :=
  if ir ≤ 2 then ir
  else if d.boot.phase = .test ∨ (!d.isSet TOP_DEBUG_BOUNDARY ∧ !d.isSet TOP_DEBUG_DEBUG) then 0
  else ir

/-- The meaning of JTAG_ACCESS (R682, R795): the instruction is loaded and its register shifted out. BYPASS gives 0; the specification fixes no other
value. -/
def execJtagAccess (ir : Nat) (s : State) : Host.Outcome State Fault Refusal :=
  onDev (fun d =>
    let i := d.jtagRun ir
    let d := { d with pins := { d.pins with ir := i } }
    if i = 0 then d.emit (.jtag 0) else d.drawn.emit (.jtag (Config.freeNat d.draws))) s

/-- The meaning of I3C_ENTDAA (R788, Table 23-3): the board controller assigns the target its dynamic address. -/
def execI3cEntdaa (addr : BitVec 7) (s : State) : Host.Outcome State Fault Refusal :=
  onDev (fun d => { d with pins := { d.pins with i3c := some addr } }) s

/-- The meaning of I3C_IBI_SERVICED (R788). -/
def execI3cIbiServiced (s : State) : Host.Outcome State Fault Refusal :=
  onDev (fun d => { d with evt := { d.evt with ibi := none } }) s

end Sys2Proof.Machine
end

