-- ==== Sys2Proof/Machine/RegRows.lean ====
section
/-! DEFINITION. The rows of the table that are one access to a register: each is a REG_WRITE or REG_READ frame with ADDRESS at the register the row
names (R7–R17); a row that names a bit writes the frame's value with that bit set. -/

namespace Sys2Proof.Machine

/-! ### The frame of a row -/

/-- The address that a row of an array of n registers at base a writes: the one the frame names, if it is one of them, else the first. -/
def rowAddr (a stride n x : Nat) : Nat :=
  if a ≤ x ∧ (x - a) % stride = 0 ∧ (x - a) / stride < n then x else a

/-- A frame with ADDRESS and VALUE given, the rest of its PARAM as it stands. -/
def regFrame (m : Msg) (a v : Nat) : Msg :=
  { m with param := BitVec.ofNat 192 (m.param.toNat / 2 ^ 64 * 2 ^ 64 + v % 2 ^ 32 * 2 ^ 32 + a % 2 ^ 32) }

/-- A REG_WRITE of v to register a. -/
def Dev.writeRow (d : Dev) (m : Msg) (a v : Nat) : Dev := d.receive .regWrite (regFrame m a v)

/-- A REG_WRITE of v with a bit set. -/
def Dev.writeBit (d : Dev) (m : Msg) (a b : Nat) (v : Word32) : Dev := d.writeRow m a (setBits v.toNat b 1 1)

/-! ### Faults and scheduler -/

/-- The meaning of LEDGER_TEST (R251). -/
def execLedgerTest (m : Msg) (v : Word32) (s : State) : Host.Outcome State Fault Refusal := onDev (fun d => d.writeBit m 0x480104 8 v) s

/-- The meaning of RETIRE (R570). -/
def execCoreRetire (m : Msg) (v : Word32) (s : State) : Host.Outcome State Fault Refusal := onDev (fun d => d.writeBit m 0x24011C 0 v) s

/-- The meaning of HIST_CLEAR (R574). -/
def execHistClear (m : Msg) (v : Word32) (s : State) : Host.Outcome State Fault Refusal := onDev (fun d => d.writeBit m 0x24011C 1 v) s

/-- The meaning of SELFTEST_NOW (R574). -/
def execSelftestNow (m : Msg) (v : Word32) (s : State) : Host.Outcome State Fault Refusal := onDev (fun d => d.writeBit m 0x24011C 2 v) s

/-! ### Flash ports, firmware, groups -/

/-- The meaning of FLP_RETRAIN_FORCE (R267). -/
def execFlpRetrainForce (m : Msg) (v : Word32) (s : State) : Host.Outcome State Fault Refusal :=
  onDev (fun d => d.writeBit m (rowAddr 0x10000C 4096 64 m.address) 15 v) s

/-- The meaning of CONFIRM (R768). -/
def execFwConfirm (m : Msg) (v : Word32) (s : State) : Host.Outcome State Fault Refusal := onDev (fun d => d.writeBit m 0x3C 0 v) s

/-- The meaning of CREATE (R363). -/
def execGroupCreate (m : Msg) (v : Word32) (s : State) : Host.Outcome State Fault Refusal := onDev (fun d => d.writeBit m 0x1C0018 0 v) s

/-- The meaning of DISSOLVE (R366). -/
def execGroupDissolve (m : Msg) (v : Word32) (s : State) : Host.Outcome State Fault Refusal := onDev (fun d => d.writeBit m 0x1C0018 1 v) s

/-- The meaning of RESUME (R402). -/
def execGroupResume (m : Msg) (v : Word32) (s : State) : Host.Outcome State Fault Refusal := onDev (fun d => d.writeBit m 0x1C0018 2 v) s

/-- The meaning of ARR_REBUILD (R389). -/
def execGroupRebuild (m : Msg) (v : Word32) (s : State) : Host.Outcome State Fault Refusal := onDev (fun d => d.writeBit m 0x1C0018 3 v) s

/-- The meaning of REHOME (R381). -/
def execGroupRehome (m : Msg) (v : Word32) (s : State) : Host.Outcome State Fault Refusal := onDev (fun d => d.writeBit m 0x1C0018 4 v) s

/-! ### Tenants and the stencil array -/

/-- The meaning of TEN_BSEL (R622). -/
def execTenBsel (m : Msg) (v : Word32) (s : State) : Host.Outcome State Fault Refusal := onDev (fun d => d.writeRow m 0x90210 v.toNat) s

/-- The meaning of TEN_BCTL_WRITE (R621). -/
def execTenBctlWrite (m : Msg) (v : Word32) (s : State) : Host.Outcome State Fault Refusal := onDev (fun d => d.writeBit m 0x90224 0 v) s

/-- The meaning of LOOKUP (R577). -/
def execStnLookup (m : Msg) (v : Word32) (s : State) : Host.Outcome State Fault Refusal := onDev (fun d => d.writeBit m 0x2C0120 16 v) s

/-- The meaning of STEP (R578). -/
def execLookupStep (m : Msg) (v : Word32) (s : State) : Host.Outcome State Fault Refusal := onDev (fun d => d.writeBit m 0x2C0120 17 v) s

/-- The meaning of STN_BANK_ASSIGN (R586). -/
def execStnBankAssign (m : Msg) (v : Word32) (s : State) : Host.Outcome State Fault Refusal :=
  onDev (fun d => d.writeRow m (rowAddr 0x2C0000 4 16 m.address) v.toNat) s

/-- The meaning of HOT_BANKS (R584). -/
def execHotBanks (m : Msg) (v : Word32) (s : State) : Host.Outcome State Fault Refusal := onDev (fun d => d.writeRow m 0x180100 v.toNat) s

/-! ### The pair, power and locks -/

/-- The meaning of HANDBACK (R651). -/
def execHandback (m : Msg) (v : Word32) (s : State) : Host.Outcome State Fault Refusal := onDev (fun d => d.writeBit m 0x80004 0 v) s

/-- The meaning of ACCEPT_NEW (R630). -/
def execAcceptNew (m : Msg) (v : Word32) (s : State) : Host.Outcome State Fault Refusal := onDev (fun d => d.writeBit m 0x80004 1 v) s

/-- The meaning of PEER_CTL_REKEY (R628). -/
def execPeerCtlRekey (m : Msg) (v : Word32) (s : State) : Host.Outcome State Fault Refusal := onDev (fun d => d.writeBit m 0x80004 2 v) s

/-- The meaning of RELOAD (R35). -/
def execPaceReload (m : Msg) (v : Word32) (s : State) : Host.Outcome State Fault Refusal :=
  onDev (fun d => d.writeBit m (rowAddr 0x10210 4 4 m.address) 31 v) s

/-- The meaning of SET (R703). -/
def execTimeSet (m : Msg) (v : Word32) (s : State) : Host.Outcome State Fault Refusal := onDev (fun d => d.writeBit m 0x3000C 0 v) s

/-- The meaning of TIME_CTL_LOCK (R15). -/
def execTimeCtlLock (m : Msg) (v : Word32) (s : State) : Host.Outcome State Fault Refusal := onDev (fun d => d.writeBit m 0x3000C 1 v) s

/-- The meaning of ETH_CTL_LOCK (R15). -/
def execEthCtlLock (m : Msg) (v : Word32) (s : State) : Host.Outcome State Fault Refusal := onDev (fun d => d.writeBit m 0x43000 0 v) s

/-- The meaning of TMEM_CTL_LOCK (R15). -/
def execTmemCtlLock (m : Msg) (v : Word32) (s : State) : Host.Outcome State Fault Refusal := onDev (fun d => d.writeBit m 0x440000 1 v) s

/-- The meaning of PWR_RAIL_LOCK (R15). -/
def execPwrRailLock (m : Msg) (v : Word32) (s : State) : Host.Outcome State Fault Refusal :=
  onDev (fun d => d.writeBit m (rowAddr 0x10100 4 4 m.address) 7 v) s

/-- The meaning of PWR_AUX_LOCK (R15). -/
def execPwrAuxLock (m : Msg) (v : Word32) (s : State) : Host.Outcome State Fault Refusal :=
  onDev (fun d => d.writeBit m (rowAddr 0x10120 4 4 m.address) 7 v) s

/-- The meaning of THM_CFG_LOCK (R15). -/
def execThmCfgLock (m : Msg) (v : Word32) (s : State) : Host.Outcome State Fault Refusal := onDev (fun d => d.writeBit m 0x20200 20 v) s

/-! ### Ethernet -/

/-- The meaning of ETH_GCFG_WRITE (R687). -/
def execEthGcfgWrite (m : Msg) (v : Word32) (s : State) : Host.Outcome State Fault Refusal :=
  onDev (fun d => d.writeRow m (rowAddr 0x40000 64 4 m.address) v.toNat) s

/-- The meaning of ADDR_WRITE (R688). -/
def execAddrWrite (m : Msg) (v : Word32) (s : State) : Host.Outcome State Fault Refusal := onDev (fun d => d.writeBit m 0x42000 6 v) s

/-- The meaning of CONNECT (R693). -/
def execCmConnect (m : Msg) (v : Word32) (s : State) : Host.Outcome State Fault Refusal := onDev (fun d => d.writeBit m 0x42000 7 v) s

/-! ### Tile memory -/

/-- A write of TMEM_TEST.ACT, where TMEM_TPAR.OP names an operation. -/
def Dev.testRow (d : Dev) (m : Msg) (op : Nat) (v : Word32) : Dev := if d.rd TMEM_TPAR_OP = op then d.writeBit m 0x440004 29 v else d

/-- The meaning of CLAIM (R730). -/
def execTmemClaim (m : Msg) (v : Word32) (s : State) : Host.Outcome State Fault Refusal := onDev (fun d => d.writeBit m 0x440004 28 v) s

/-- The meaning of TEST_WRITE (R730). -/
def execTmemTestWrite (m : Msg) (v : Word32) (s : State) : Host.Outcome State Fault Refusal := onDev (fun d => d.testRow m 0 v) s

/-- The meaning of TEST_READ (R730). -/
def execTmemTestRead (m : Msg) (v : Word32) (s : State) : Host.Outcome State Fault Refusal := onDev (fun d => d.testRow m 1 v) s

/-- The meaning of INJECT (R731). -/
def execTmemInject (m : Msg) (v : Word32) (s : State) : Host.Outcome State Fault Refusal := onDev (fun d => d.testRow m 2 v) s

/-- The meaning of TMEM_RELEASE (R730). -/
def execTmemRelease (m : Msg) (v : Word32) (s : State) : Host.Outcome State Fault Refusal := onDev (fun d => d.writeBit m 0x440010 10 v) s

/-- The meaning of SCRUB_START (R733). -/
def execScrubStart (m : Msg) (v : Word32) (s : State) : Host.Outcome State Fault Refusal := onDev (fun d => d.writeBit m 0x440028 0 v) s

/-! ### Measurements and pairs of words -/

/-- The meaning of EXTEND (R494, R495). -/
def execMeasExtend (m : Msg) (v : Word32) (s : State) : Host.Outcome State Fault Refusal := onDev (fun d => d.writeBit m 0x380520 8 v) s

/-- The meaning of DIG_MEAS_DATA_READ (R506). -/
def execDigMeasDataRead (m : Msg) (s : State) : Host.Outcome State Fault Refusal := onDev (fun d => d.receive .regRead (regFrame m 0x380540 m.value)) s

/-- The meaning of LO_READ_LATCH (R17): a REG_READ of a low word. -/
def execLoReadLatch (m : Msg) (s : State) : Host.Outcome State Fault Refusal := onDev (fun d => if isLo m.address then d.receive .regRead m else d) s

end Sys2Proof.Machine
end

