-- ==== Sys2Proof/Machine/ReplFrames.lean ====
section
/-! DEFINITION. Replication messages that arrive (R443–R448, R484, R485, R604, R605): the door of a session's queue pair, the opening of a message, and
what each type of message does. -/

namespace Sys2Proof.Machine

/-- A frame at a session's queue pair: classified, its source checked (R590, R604–R606); the session that it is for. -/
def Dev.sessionDoor (d : Dev) (net : Net) (size : Nat) : Dev × Option (Nat × Sess) :=
  match d.door net size false with
  | .session n => (d.frameWakes net, (tget d.sessions n).map fun s => (n, s))
  | .spoof t => (d.spoofDrop t, none)
  | .stray => (d.bump STN_STAT_UNCLASSIFIED, none)
  | .nak => ((d.ceSeen net).emit (.rnrNak net.qpn.toNat minRnrTimer), none)
  | .shut => (d, none)
  | .tomb _ => (d, none)
  | .queue _ _ => (d, none)

/-- Open a replication message of a TYPE that arrived on a session's queue pair: its session, header and body. One that fails its tag
or is a replay is discarded and counted, and a receiving end asks for what follows the last message it accepted (R447, R484,
R485). -/
def Dev.openRepl (d : Dev) (net : Net) (raw : Bytes) (type : Nat) : Dev × Option (Nat × Sess × Bytes × Bytes) :=
  match d.sessionDoor net raw.length with
  | (d, none) => (d, none)
  | (d, some (n, s)) =>
    let h := raw.take 64
    if raw.length < 80 ∨ le h 0 1 ≠ type ∨ le h 0x1C 4 ≠ raw.length - 80 then (d, none) else
    let ct := slice raw 64 (raw.length - 80)
    let tag := raw.drop (raw.length - 16)
    let c := le h 8 8
    let bad (d : Dev) : Dev :=
      let d := d.bump (CIP_AUTHFAIL_COUNT ((d.pickLane false 0).getD 0))
      if s.receiver then d.replAnswer n 5 (s.lastAccepted.getD 0) 0 else d
    match d.keyAt s.key with
    | none => (bad d, none)
    | some k =>
      match [0, 1].find? fun p => decide (gcmTag k.t (gcmNonce (s.hisField p) c) h ct = tag) with
      | none => (bad d, none)
      | some p =>
        let f := s.hisField p
        let g := d.gcmAt s.key
        let old : Bool := match tget g.seen f with | some last => decide (c ≤ last) | none => false
        if old then (bad d, none) else
        let d := { d with sec := { d.sec with gcm := tput d.sec.gcm s.key { g with seen := tput g.seen f c } } }
        let d := d.modSess n fun s => { s with lastAccepted := some c }
        (d, some (n, { s with lastAccepted := some c }, h, gcmCrypt k.t (gcmNonce f c) ct))

/-- The meaning of REPL_HELLO (R443): at a receiving end checked and answered, at a sending end the answer, which settles whether the
next cycle is full. -/
def execReplHello (net : Net) (raw : Bytes) (s : State) : Host.Outcome State Fault Refusal :=
  onDev (fun d =>
    match d.openRepl net raw 1 with
    | (d, none) => d
    | (d, some (n, x, h, b)) =>
      match d.vol x.volume with
      | none => d
      | some v =>
        let peer := le h 2 2
        let base := le h 4 4
        if x.receiver then
          let bad := le h 0x10 8 ≠ v.handle x.volume ∨ le b 0 8 ≠ b2n v.grain16 ∨ v.capacity < le b 8 8
          if bad then (d.modSess n fun x => { x with state := .mismatch, peer := peer }).replAnswer n 5 (le h 8 8) 0x1011 else
          let d := d.modSess n fun x => { x with
            state := if x.state = .opening then .idle else x.state
            peer := peer
            full := !(decide (base = x.baseCycle) && x.base.isSome) }
          d.replHello n
        else if x.state = .opening then
          d.modSess n fun x => { x with state := .idle, peer := peer, full := !(decide (base = x.baseCycle) && x.base.isSome) }
        else d) s

/-- A message of a cycle arrives at a receiving end: what another cycle wrote that has not been committed is undone first, since its sender has given it up
(R448), and the cycle starts with its first message. -/
def Dev.cycleOf (d : Dev) (n cycle : Nat) : Dev :=
  match tget d.sessions n with
  | none => d
  | some x =>
    let d := if x.midCycle ∧ x.cycle ≠ cycle then d.rollBack n else d
    d.modSess n fun x => if x.midCycle then { x with state := .sending } else { x with state := .sending, cycle := cycle, startedAt := d.now }

/-- The meaning of REPL_GRAINS (R445): the message's records enter the write path, and it is acknowledged. -/
def execReplGrains (net : Net) (raw : Bytes) (s : State) : Host.Outcome State Fault Refusal :=
  onDev (fun d =>
    match d.openRepl net raw 2 with
    | (d, none) => d
    | (d, some (n, x, h, b)) =>
      match d.vol x.volume with
      | none => d
      | some v =>
        if !x.receiver ∨ (x.state ≠ .idle ∧ x.state ≠ .sending) then d else
        let d := d.cycleOf n (le h 4 4)
        match Dev.enterAll n v.grainBytes (le h 0x18 4) d b with
        | .ok d => (d.replAnswer n 4 (le h 8 8) 0).settle
        | .error e => (d.receiverFail n e).settle) s

/-- The meaning of REPL_CYCLE_END (R445): the cycle commits once everything it sent is durable, and is then acknowledged. One whose RECORDS are not those that
have been entered, each grain counted once, is not acknowledged: a message before it was discarded, and its sender sends what follows that again,
this one too (R447; DEDUCED, log 185). -/
def execReplCycleEnd (net : Net) (raw : Bytes) (s : State) : Host.Outcome State Fault Refusal :=
  onDev (fun d =>
    match d.openRepl net raw 3 with
    | (d, none) => d
    | (d, some (n, x, h, _)) =>
      if !x.receiver ∨ (x.state ≠ .idle ∧ x.state ≠ .sending) then d else
      let d := d.cycleOf n (le h 4 4)
      let whole : Bool := match tget d.sessions n with | some x => decide (x.wrote.length = le h 0x18 4) | none => false
      if !whole then d else
      (d.modSess n fun x => { x with state := .waitAck, endDue := some (le h 8 8) }).settle) s

/-- The meaning of REPL_ACK (R444, R445): the acknowledged message leaves the list; that of CYCLE_END makes C the new base. -/
def execReplAck (net : Net) (raw : Bytes) (s : State) : Host.Outcome State Fault Refusal :=
  onDev (fun d =>
    match d.openRepl net raw 4 with
    | (d, none) => d
    | (d, some (n, x, _, b)) =>
      if x.receiver ∨ (x.state ≠ .sending ∧ x.state ≠ .waitAck) then d else
      let left := x.unacked.filter fun e => decide (le b 0 8 < e.1)
      let d := d.modSess n fun x => { x with unacked := left }
      let ended := decide (x.state = .waitAck) && left.isEmpty && !x.unacked.isEmpty && x.outbox.isEmpty
      (if ended then d.cycleDone n else d).settle) s

/-- The meaning of REPL_FAIL (R443, R447, R448): in OPENING with PARAM_INVALID the sessions do not match, else HELLO goes again; later with no status the sender sends again from the
message after the last one accepted; else its cycle has failed. -/
def execReplFail (net : Net) (raw : Bytes) (s : State) : Host.Outcome State Fault Refusal :=
  onDev (fun d =>
    match d.openRepl net raw 5 with
    | (d, none) => d
    | (d, some (n, x, _, b)) =>
      if x.receiver then d
      else if x.state = .opening then
        if le b 8 8 = 0x1011 then d.modSess n fun x => { x with state := .mismatch }
        else if x.outbox.isEmpty then d.replHello n else d
      else if x.state ≠ .sending ∧ x.state ≠ .waitAck then d
      else if le b 8 8 = 0 then (d.resendAfter n (some (le b 0 8))).settle
      else (d.senderFail n).settle) s

end Sys2Proof.Machine
end

