-- ==== Sys2Proof/Machine/Tint.lean ====
section
/-! DEFINITION. The instructions of the tint cores (Tables 12-1 to 12-7): each is issued on a core that runs a task at whose pc its
word stands, under R515. -/

namespace Sys2Proof.Machine

/-- The meaning of ALU: rd = ra FN rb. -/
def execAlu (c : Nat) (g : BitVec 4) (rd ra rb : BitVec 5) (fn : BitVec 7) (s : State) : Host.Outcome State Fault Refusal :=
  onCore c (tintWord g 0x00 (rd.toNat * 131072 + ra.toNat * 4096 + rb.toNat * 128 + fn.toNat)) (fun t p =>
    tgo (t.setReg rd.toNat (aluFn fn.toNat (t.reg ra.toNat) (t.reg rb.toNat))) p) s

/-- The meaning of ADDI. -/
def execAddi (c : Nat) (g : BitVec 4) (rd ra : BitVec 5) (imm : BitVec 12) (s : State) : Host.Outcome State Fault Refusal :=
  onCore c (tintWord g 0x1 (rd.toNat * 131072 + ra.toNat * 4096 + imm.toNat)) (fun t p =>
    tgo (t.setReg rd.toNat (t.reg ra.toNat + imm.signExtend 64)) p) s

/-- The meaning of ANDI. -/
def execAndi (c : Nat) (g : BitVec 4) (rd ra : BitVec 5) (imm : BitVec 12) (s : State) : Host.Outcome State Fault Refusal :=
  onCore c (tintWord g 0x2 (rd.toNat * 131072 + ra.toNat * 4096 + imm.toNat)) (fun t p =>
    tgo (t.setReg rd.toNat (t.reg ra.toNat &&& imm.signExtend 64)) p) s

/-- The meaning of ORI. -/
def execOri (c : Nat) (g : BitVec 4) (rd ra : BitVec 5) (imm : BitVec 12) (s : State) : Host.Outcome State Fault Refusal :=
  onCore c (tintWord g 0x3 (rd.toNat * 131072 + ra.toNat * 4096 + imm.toNat)) (fun t p =>
    tgo (t.setReg rd.toNat (t.reg ra.toNat ||| imm.signExtend 64)) p) s

/-- The meaning of XORI. -/
def execXori (c : Nat) (g : BitVec 4) (rd ra : BitVec 5) (imm : BitVec 12) (s : State) : Host.Outcome State Fault Refusal :=
  onCore c (tintWord g 0x4 (rd.toNat * 131072 + ra.toNat * 4096 + imm.toNat)) (fun t p =>
    tgo (t.setReg rd.toNat (t.reg ra.toNat ^^^ imm.signExtend 64)) p) s

/-- The meaning of SHLI, by imm[5:0]. -/
def execShli (c : Nat) (g : BitVec 4) (rd ra : BitVec 5) (imm : BitVec 12) (s : State) : Host.Outcome State Fault Refusal :=
  onCore c (tintWord g 0x5 (rd.toNat * 131072 + ra.toNat * 4096 + imm.toNat % 64)) (fun t p =>
    tgo (t.setReg rd.toNat (t.reg ra.toNat <<< (imm.toNat % 64))) p) s

/-- The meaning of SHRI, by imm[5:0]. -/
def execShri (c : Nat) (g : BitVec 4) (rd ra : BitVec 5) (imm : BitVec 12) (s : State) : Host.Outcome State Fault Refusal :=
  onCore c (tintWord g 0x6 (rd.toNat * 131072 + ra.toNat * 4096 + imm.toNat % 64)) (fun t p =>
    tgo (t.setReg rd.toNat (t.reg ra.toNat >>> (imm.toNat % 64))) p) s

/-- The meaning of SRAI, by imm[5:0]. -/
def execSrai (c : Nat) (g : BitVec 4) (rd ra : BitVec 5) (imm : BitVec 12) (s : State) : Host.Outcome State Fault Refusal :=
  onCore c (tintWord g 0x7 (rd.toNat * 131072 + ra.toNat * 4096 + imm.toNat % 64)) (fun t p =>
    tgo (t.setReg rd.toNat ((t.reg ra.toNat).sshiftRight (imm.toNat % 64))) p) s

/-- The meaning of MOVZ. -/
def execMovz (c : Nat) (g : BitVec 4) (rd : BitVec 5) (imm : BitVec 16) (s : State) : Host.Outcome State Fault Refusal :=
  onCore c (tintWord g 0x8 (rd.toNat * 131072 + imm.toNat)) (fun t p =>
    tgo (t.setReg rd.toNat (imm.setWidth 64)) p) s

/-- The meaning of MOVK1: bits [31:16] of rd. -/
def execMovk1 (c : Nat) (g : BitVec 4) (rd : BitVec 5) (imm : BitVec 16) (s : State) : Host.Outcome State Fault Refusal :=
  onCore c (tintWord g 0x9 (rd.toNat * 131072 + imm.toNat)) (fun t p =>
    tgo (t.setReg rd.toNat (BitVec.ofNat 64 (setBits (t.reg rd.toNat).toNat 16 16 imm.toNat))) p) s

/-- The meaning of MOVK2: bits [47:32] of rd. -/
def execMovk2 (c : Nat) (g : BitVec 4) (rd : BitVec 5) (imm : BitVec 16) (s : State) : Host.Outcome State Fault Refusal :=
  onCore c (tintWord g 0xa (rd.toNat * 131072 + imm.toNat)) (fun t p =>
    tgo (t.setReg rd.toNat (BitVec.ofNat 64 (setBits (t.reg rd.toNat).toNat 32 16 imm.toNat))) p) s

/-- The meaning of MOVK3: bits [63:48] of rd. -/
def execMovk3 (c : Nat) (g : BitVec 4) (rd : BitVec 5) (imm : BitVec 16) (s : State) : Host.Outcome State Fault Refusal :=
  onCore c (tintWord g 0xb (rd.toNat * 131072 + imm.toNat)) (fun t p =>
    tgo (t.setReg rd.toNat (BitVec.ofNat 64 (setBits (t.reg rd.toNat).toNat 48 16 imm.toNat))) p) s

/-- The meaning of CMP. -/
def execCmp (c : Nat) (g : BitVec 4) (pd : BitVec 3) (cond : BitVec 4) (ra rb : BitVec 5) (s : State) : Host.Outcome State Fault Refusal :=
  onCore c (tintWord g 0x10 (pd.toNat * 524288 + cond.toNat * 32768 + ra.toNat * 1024 + rb.toNat * 32)) (fun t p =>
    tgo (t.setPred pd.toNat (condFn cond.toNat (t.reg ra.toNat) (t.reg rb.toNat))) p) s

/-- The meaning of CMPI. -/
def execCmpi (c : Nat) (g : BitVec 4) (pd : BitVec 3) (cond : BitVec 4) (ra : BitVec 5) (imm : BitVec 10) (s : State) : Host.Outcome State Fault Refusal :=
  onCore c (tintWord g 0x11 (pd.toNat * 524288 + cond.toNat * 32768 + ra.toNat * 1024 + imm.toNat)) (fun t p =>
    tgo (t.setPred pd.toNat (condFn cond.toNat (t.reg ra.toNat) (imm.signExtend 64))) p) s

/-- The meaning of PSET. -/
def execPset (c : Nat) (g : BitVec 4) (pd pa pb : BitVec 3) (lop : BitVec 2) (ia ib : Bool) (s : State) : Host.Outcome State Fault Refusal :=
  onCore c (tintWord g 0x12 (pd.toNat * 524288 + pa.toNat * 65536 + pb.toNat * 8192 + lop.toNat * 2048 + b2n ia * 1024 + b2n ib * 512)) (fun t p =>
    let a := t.pred pa.toNat != ia
    let b := t.pred pb.toNat != ib
    tgo (t.setPred pd.toNat (match lop.toNat with | 0 => a && b | 1 => a || b | _ => a != b)) p) s

/-- The meaning of LD8U. -/
def execLd8u (c : Nat) (g : BitVec 4) (rd ra : BitVec 5) (seg : BitVec 4) (imm : BitVec 8) (s : State) : Host.Outcome State Fault Refusal :=
  onCore c (tintWord g 0x18 (rd.toNat * 131072 + ra.toNat * 4096 + seg.toNat * 256 + imm.toNat)) (fun t p =>
    tintLoad 1 false rd.toNat ra.toNat seg.toNat imm t p) s

/-- The meaning of LD16U. -/
def execLd16u (c : Nat) (g : BitVec 4) (rd ra : BitVec 5) (seg : BitVec 4) (imm : BitVec 8) (s : State) : Host.Outcome State Fault Refusal :=
  onCore c (tintWord g 0x19 (rd.toNat * 131072 + ra.toNat * 4096 + seg.toNat * 256 + imm.toNat)) (fun t p =>
    tintLoad 2 false rd.toNat ra.toNat seg.toNat imm t p) s

/-- The meaning of LD32U. -/
def execLd32u (c : Nat) (g : BitVec 4) (rd ra : BitVec 5) (seg : BitVec 4) (imm : BitVec 8) (s : State) : Host.Outcome State Fault Refusal :=
  onCore c (tintWord g 0x1a (rd.toNat * 131072 + ra.toNat * 4096 + seg.toNat * 256 + imm.toNat)) (fun t p =>
    tintLoad 4 false rd.toNat ra.toNat seg.toNat imm t p) s

/-- The meaning of LD64. -/
def execLd64 (c : Nat) (g : BitVec 4) (rd ra : BitVec 5) (seg : BitVec 4) (imm : BitVec 8) (s : State) : Host.Outcome State Fault Refusal :=
  onCore c (tintWord g 0x1b (rd.toNat * 131072 + ra.toNat * 4096 + seg.toNat * 256 + imm.toNat)) (fun t p =>
    tintLoad 8 false rd.toNat ra.toNat seg.toNat imm t p) s

/-- The meaning of LD8S. -/
def execLd8s (c : Nat) (g : BitVec 4) (rd ra : BitVec 5) (seg : BitVec 4) (imm : BitVec 8) (s : State) : Host.Outcome State Fault Refusal :=
  onCore c (tintWord g 0x1c (rd.toNat * 131072 + ra.toNat * 4096 + seg.toNat * 256 + imm.toNat)) (fun t p =>
    tintLoad 1 true rd.toNat ra.toNat seg.toNat imm t p) s

/-- The meaning of LD16S. -/
def execLd16s (c : Nat) (g : BitVec 4) (rd ra : BitVec 5) (seg : BitVec 4) (imm : BitVec 8) (s : State) : Host.Outcome State Fault Refusal :=
  onCore c (tintWord g 0x1d (rd.toNat * 131072 + ra.toNat * 4096 + seg.toNat * 256 + imm.toNat)) (fun t p =>
    tintLoad 2 true rd.toNat ra.toNat seg.toNat imm t p) s

/-- The meaning of LD32S. -/
def execLd32s (c : Nat) (g : BitVec 4) (rd ra : BitVec 5) (seg : BitVec 4) (imm : BitVec 8) (s : State) : Host.Outcome State Fault Refusal :=
  onCore c (tintWord g 0x1e (rd.toNat * 131072 + ra.toNat * 4096 + seg.toNat * 256 + imm.toNat)) (fun t p =>
    tintLoad 4 true rd.toNat ra.toNat seg.toNat imm t p) s

/-- The meaning of ST8. -/
def execSt8 (c : Nat) (g : BitVec 4) (rs ra : BitVec 5) (seg : BitVec 4) (imm : BitVec 8) (s : State) : Host.Outcome State Fault Refusal :=
  onCore c (tintWord g 0x20 (rs.toNat * 131072 + ra.toNat * 4096 + seg.toNat * 256 + imm.toNat)) (fun t p =>
    tintStore 1 rs.toNat ra.toNat seg.toNat imm t p) s

/-- The meaning of ST16. -/
def execSt16 (c : Nat) (g : BitVec 4) (rs ra : BitVec 5) (seg : BitVec 4) (imm : BitVec 8) (s : State) : Host.Outcome State Fault Refusal :=
  onCore c (tintWord g 0x21 (rs.toNat * 131072 + ra.toNat * 4096 + seg.toNat * 256 + imm.toNat)) (fun t p =>
    tintStore 2 rs.toNat ra.toNat seg.toNat imm t p) s

/-- The meaning of ST32. -/
def execSt32 (c : Nat) (g : BitVec 4) (rs ra : BitVec 5) (seg : BitVec 4) (imm : BitVec 8) (s : State) : Host.Outcome State Fault Refusal :=
  onCore c (tintWord g 0x22 (rs.toNat * 131072 + ra.toNat * 4096 + seg.toNat * 256 + imm.toNat)) (fun t p =>
    tintStore 4 rs.toNat ra.toNat seg.toNat imm t p) s

/-- The meaning of ST64. -/
def execSt64 (c : Nat) (g : BitVec 4) (rs ra : BitVec 5) (seg : BitVec 4) (imm : BitVec 8) (s : State) : Host.Outcome State Fault Refusal :=
  onCore c (tintWord g 0x23 (rs.toNat * 131072 + ra.toNat * 4096 + seg.toNat * 256 + imm.toNat)) (fun t p =>
    tintStore 8 rs.toNat ra.toNat seg.toNat imm t p) s

/-- The meaning of AMOADD. -/
def execAmoadd (c : Nat) (g : BitVec 4) (rd ra rb : BitVec 5) (seg : BitVec 4) (s : State) : Host.Outcome State Fault Refusal :=
  onCore c (tintWord g 0x24 (rd.toNat * 131072 + ra.toNat * 4096 + seg.toNat * 256 + rb.toNat * 8)) (fun t p =>
    tintAmo (fun v => some (v + t.reg rb.toNat)) rd.toNat ra.toNat seg.toNat t p) s

/-- The meaning of AMOSWAP. -/
def execAmoswap (c : Nat) (g : BitVec 4) (rd ra rb : BitVec 5) (seg : BitVec 4) (s : State) : Host.Outcome State Fault Refusal :=
  onCore c (tintWord g 0x25 (rd.toNat * 131072 + ra.toNat * 4096 + seg.toNat * 256 + rb.toNat * 8)) (fun t p =>
    tintAmo (fun _ => some (t.reg rb.toNat)) rd.toNat ra.toNat seg.toNat t p) s

/-- The meaning of AMOCAS. -/
def execAmocas (c : Nat) (g : BitVec 4) (rd ra rb : BitVec 5) (seg : BitVec 4) (s : State) : Host.Outcome State Fault Refusal :=
  onCore c (tintWord g 0x26 (rd.toNat * 131072 + ra.toNat * 4096 + seg.toNat * 256 + rb.toNat * 8)) (fun t p =>
    tintAmo (fun v => if v = t.reg rd.toNat then some (t.reg rb.toNat) else none) rd.toNat ra.toNat seg.toNat t p) s

/-- The meaning of FENCE (R526): earlier stores are visible already, since the model applies each at once. -/
def execTintFence (c : Nat) (g : BitVec 4) (s : State) : Host.Outcome State Fault Refusal :=
  onCore c (tintWord g 0x27 (0)) (fun t p =>
    tgo t p) s

/-- The meaning of SEGN. -/
def execSegn (c : Nat) (g : BitVec 4) (sd ss : BitVec 4) (ra rb : BitVec 5) (rights : BitVec 3) (s : State) : Host.Outcome State Fault Refusal :=
  onCore c (tintWord g 0x28 (sd.toNat * 262144 + ss.toNat * 16384 + ra.toNat * 512 + rb.toNat * 16 + rights.toNat * 2)) (fun t p =>
    tintSegn sd.toNat ss.toNat ra.toNat rb.toNat rights t p) s

/-- The meaning of SEGLEN. -/
def execSeglen (c : Nat) (g : BitVec 4) (rd : BitVec 5) (seg : BitVec 4) (s : State) : Host.Outcome State Fault Refusal :=
  onCore c (tintWord g 0x29 (rd.toNat * 131072 + seg.toNat)) (fun t p =>
    tgo (t.setReg rd.toNat (BitVec.ofNat 64 (t.seg seg.toNat).limit)) p) s

/-- The meaning of BR. -/
def execBr (c : Nat) (g : BitVec 4) (imm : BitVec 22) (s : State) : Host.Outcome State Fault Refusal :=
  onCore c (tintWord g 0x30 (imm.toNat)) (fun t p =>
    .go t p (some (branchTo t imm))) s

/-- The meaning of CALL. -/
def execCall (c : Nat) (g : BitVec 4) (imm : BitVec 22) (s : State) : Host.Outcome State Fault Refusal :=
  onCore c (tintWord g 0x31 (imm.toNat)) (fun t p =>
    tintCall (branchTo t imm) t p) s

/-- The meaning of RET. -/
def execRet (c : Nat) (g : BitVec 4) (s : State) : Host.Outcome State Fault Refusal :=
  onCore c (tintWord g 0x32 (0)) (fun t p =>
    tintPop (fun v t => .go t p (some (v.toNat % 2 ^ 32))) t) s

/-- The meaning of JR. -/
def execJr (c : Nat) (g : BitVec 4) (ra : BitVec 5) (s : State) : Host.Outcome State Fault Refusal :=
  onCore c (tintWord g 0x33 (ra.toNat * 4096)) (fun t p =>
    .go t p (some (t.num ra.toNat % 2 ^ 32))) s

/-- The meaning of CALLR. -/
def execCallr (c : Nat) (g : BitVec 4) (ra : BitVec 5) (s : State) : Host.Outcome State Fault Refusal :=
  onCore c (tintWord g 0x34 (ra.toNat * 4096)) (fun t p =>
    tintCall (t.num ra.toNat % 2 ^ 32) t p) s

/-- The meaning of RPOP. -/
def execRpop (c : Nat) (g : BitVec 4) (rd : BitVec 5) (s : State) : Host.Outcome State Fault Refusal :=
  onCore c (tintWord g 0x35 (rd.toNat * 131072)) (fun t p =>
    tintPop (fun v t => tgo (t.setReg rd.toNat v) p) t) s

/-- The meaning of RPUSH. -/
def execRpush (c : Nat) (g : BitVec 4) (ra : BitVec 5) (s : State) : Host.Outcome State Fault Refusal :=
  onCore c (tintWord g 0x36 (ra.toNat * 4096)) (fun t p =>
    match tintPush t p (t.reg ra.toNat) with
    | none => .trap 0x6 0 0 0
    | some t => tgo t p) s

/-- The meaning of RSD. -/
def execRsd (c : Nat) (g : BitVec 4) (rd : BitVec 5) (s : State) : Host.Outcome State Fault Refusal :=
  onCore c (tintWord g 0x37 (rd.toNat * 131072)) (fun t p =>
    tgo (t.setReg rd.toNat (BitVec.ofNat 64 t.rstack.length)) p) s

/-- The meaning of ECALL SHA256. -/
def execEcallSha256 (c : Nat) (g : BitVec 4) (s : State) : Host.Outcome State Fault Refusal :=
  onCore c (tintWord g 0x38 (1)) (fun t _ =>
    tintEcall 1 t) s

/-- The meaning of ECALL HMAC. -/
def execEcallHmac (c : Nat) (g : BitVec 4) (s : State) : Host.Outcome State Fault Refusal :=
  onCore c (tintWord g 0x38 (2)) (fun t _ =>
    tintEcall 2 t) s

/-- The meaning of ECALL DECOMP. -/
def execEcallDecomp (c : Nat) (g : BitVec 4) (s : State) : Host.Outcome State Fault Refusal :=
  onCore c (tintWord g 0x38 (3)) (fun t _ =>
    tintEcall 3 t) s

/-- The meaning of ECALL STENCIL. -/
def execEcallStencil (c : Nat) (g : BitVec 4) (s : State) : Host.Outcome State Fault Refusal :=
  onCore c (tintWord g 0x38 (4)) (fun t _ =>
    tintEcall 4 t) s

/-- The meaning of ECALL NOW. -/
def execEcallNow (c : Nat) (g : BitVec 4) (s : State) : Host.Outcome State Fault Refusal :=
  onCore c (tintWord g 0x38 (5)) (fun t _ =>
    tintEcall 5 t) s

/-- The meaning of END. -/
def execTintEnd (c : Nat) (g : BitVec 4) (s : State) : Host.Outcome State Fault Refusal :=
  onCore c (tintWord g 0x39 (0)) (fun _ _ =>
    .ended) s

/-- The meaning of DELAY (R530). -/
def execTintDelay (c : Nat) (g : BitVec 4) (ra : BitVec 5) (s : State) : Host.Outcome State Fault Refusal :=
  onCore c (tintWord g 0x3a (ra.toNat * 4096)) (fun t _ =>
    .delay (Nat.min (t.num ra.toNat) 1000000)) s

/-- The meaning of TRAP. -/
def execTintTrap (c : Nat) (g : BitVec 4) (code : BitVec 12) (s : State) : Host.Outcome State Fault Refusal :=
  onCore c (tintWord g 0x3b (code.toNat)) (fun _ _ =>
    .trap 0xC 0 0 code.toNat) s

end Sys2Proof.Machine
end

