-- ==== Sys2Proof/Machine/Dispatch.lean ====
section
/-! DEFINITION. Machine/Dispatch.lean: one arm per command, each one call of that command's meaning. -/

namespace Sys2Proof.Machine

def exec (i : Instr) (s : State) : Host.Outcome State Fault Refusal :=
  match i with
  | .untrustedFrame n raw => Sys2Proof.Machine.execUntrustedFrame n raw s
  | .tombstoneFrame m op => Sys2Proof.Machine.execTombstoneFrame m op s
  | .receiverNotReady m op => Sys2Proof.Machine.execReceiverNotReady m op s
  | .unclassified m op => Sys2Proof.Machine.execUnclassified m op s
  | .spoofDrop m op => Sys2Proof.Machine.execSpoofDrop m op s
  | .opcodeInvalid m op => Sys2Proof.Machine.execOpcodeInvalid m op s
  | .nop m => Sys2Proof.Machine.execNop m s
  | .read m => Sys2Proof.Machine.execRead m s
  | .write m => Sys2Proof.Machine.execWrite m s
  | .writeZeroes m => Sys2Proof.Machine.execWriteZeroes m s
  | .discard m => Sys2Proof.Machine.execDiscard m s
  | .strip m => Sys2Proof.Machine.execStrip m s
  | .flush m => Sys2Proof.Machine.execFlush m s
  | .abort m => Sys2Proof.Machine.execAbort m s
  | .getDeferred m => Sys2Proof.Machine.execGetDeferred m s
  | .volCreate m => Sys2Proof.Machine.execVolCreate m s
  | .volDelete m => Sys2Proof.Machine.execVolDelete m s
  | .volResize m => Sys2Proof.Machine.execVolResize m s
  | .volQuery m => Sys2Proof.Machine.execVolQuery m s
  | .snapCreate m => Sys2Proof.Machine.execSnapCreate m s
  | .snapDelete m => Sys2Proof.Machine.execSnapDelete m s
  | .cloneCreate m => Sys2Proof.Machine.execCloneCreate m s
  | .replOpen m => Sys2Proof.Machine.execReplOpen m s
  | .replClose m => Sys2Proof.Machine.execReplClose m s
  | .replRekey m => Sys2Proof.Machine.execReplRekey m s
  | .streamOpen m => Sys2Proof.Machine.execStreamOpen m s
  | .streamClose m => Sys2Proof.Machine.execStreamClose m s
  | .streamQuery m => Sys2Proof.Machine.execStreamQuery m s
  | .queryTime m => Sys2Proof.Machine.execQueryTime m s
  | .loadProgram m => Sys2Proof.Machine.execLoadProgram m s
  | .unloadProgram m => Sys2Proof.Machine.execUnloadProgram m s
  | .bindProgram m => Sys2Proof.Machine.execBindProgram m s
  | .unbindProgram m => Sys2Proof.Machine.execUnbindProgram m s
  | .scan m => Sys2Proof.Machine.execScan m s
  | .patternLoad m => Sys2Proof.Machine.execPatternLoad m s
  | .certGet m => Sys2Proof.Machine.execCertGet m s
  | .keyInstall m => Sys2Proof.Machine.execKeyInstall m s
  | .cryptoErase m => Sys2Proof.Machine.execCryptoErase m s
  | .attest m => Sys2Proof.Machine.execAttest m s
  | .keyPolicySet m => Sys2Proof.Machine.execKeyPolicySet m s
  | .ownerEnrol m => Sys2Proof.Machine.execOwnerEnrol m s
  | .debugUnlock m => Sys2Proof.Machine.execDebugUnlock m s
  | .winRead m => Sys2Proof.Machine.execWinRead m s
  | .winWrite m => Sys2Proof.Machine.execWinWrite m s
  | .tenantCreate m => Sys2Proof.Machine.execTenantCreate m s
  | .tenantBind m => Sys2Proof.Machine.execTenantBind m s
  | .tenantShares m => Sys2Proof.Machine.execTenantShares m s
  | .queueBind m => Sys2Proof.Machine.execQueueBind m s
  | .queueDelete m => Sys2Proof.Machine.execQueueDelete m s
  | .enableTenant m => Sys2Proof.Machine.execEnableTenant m s
  | .quiesceTenant m => Sys2Proof.Machine.execQuiesceTenant m s
  | .resetTenant m => Sys2Proof.Machine.execResetTenant m s
  | .removeTenant m => Sys2Proof.Machine.execRemoveTenant m s
  | .migrationLog m => Sys2Proof.Machine.execMigrationLog m s
  | .regRead m => Sys2Proof.Machine.execRegRead m s
  | .regWrite m => Sys2Proof.Machine.execRegWrite m s
  | .fwStage m => Sys2Proof.Machine.execFwStage m s
  | .fwActivate m => Sys2Proof.Machine.execFwActivate m s
  | .powerState m => Sys2Proof.Machine.execPowerState m s
  | .eventRead m => Sys2Proof.Machine.execEventRead m s
  | .thermalAck m => Sys2Proof.Machine.execThermalAck m s
  | .echo m => Sys2Proof.Machine.execEcho m s
  | .katRun m => Sys2Proof.Machine.execKatRun m s
  | .tmemScrub m => Sys2Proof.Machine.execTmemScrub m s
  | .bufferGrant pool => Sys2Proof.Machine.execBufferGrant pool s
  | .bufferRelease h => Sys2Proof.Machine.execBufferRelease h s
  | .ledgerAudit => Sys2Proof.Machine.execLedgerAudit s
  | .ledgerTest m v => Sys2Proof.Machine.execLedgerTest m v s
  | .rdmaReadResponse x data => Sys2Proof.Machine.execRdmaReadResponse x data s
  | .rdmaWriteAck x => Sys2Proof.Machine.execRdmaWriteAck x s
  | .transferFail x => Sys2Proof.Machine.execTransferFail x s
  | .ackTimeout qpn => Sys2Proof.Machine.execAckTimeout qpn s
  | .rnrNak qpn timer => Sys2Proof.Machine.execRnrNak qpn timer s
  | .rnrRetry qpn => Sys2Proof.Machine.execRnrRetry qpn s
  | .queuePairFailure qpn => Sys2Proof.Machine.execQueuePairFailure qpn s
  | .hazardRelease cmd => Sys2Proof.Machine.execHazardRelease cmd s
  | .fenceRelease cmd => Sys2Proof.Machine.execFenceRelease cmd s
  | .volumeBarrierRelease cmd => Sys2Proof.Machine.execVolumeBarrierRelease cmd s
  | .shareRelease cmd => Sys2Proof.Machine.execShareRelease cmd s
  | .journalWaitRelease cmd => Sys2Proof.Machine.execJournalWaitRelease cmd s
  | .tailWaitRelease cmd => Sys2Proof.Machine.execTailWaitRelease cmd s
  | .taskCreate cmd grain ask => Sys2Proof.Machine.execTaskCreate cmd grain ask s
  | .operandToken task gen slot t => Sys2Proof.Machine.execOperandToken task gen slot t s
  | .readyPendingPlace => Sys2Proof.Machine.execReadyPendingPlace s
  | .coreDispatch c => Sys2Proof.Machine.execCoreDispatch c s
  | .ecallReturn task => Sys2Proof.Machine.execEcallReturn task s
  | .delayWake c => Sys2Proof.Machine.execDelayWake c s
  | .taskDeadline task => Sys2Proof.Machine.execTaskDeadline task s
  | .selftest c pass => Sys2Proof.Machine.execSelftest c pass s
  | .coreStall c => Sys2Proof.Machine.execCoreStall c s
  | .coreRetire m v => Sys2Proof.Machine.execCoreRetire m v s
  | .histClear m v => Sys2Proof.Machine.execHistClear m v s
  | .selftestNow m v => Sys2Proof.Machine.execSelftestNow m v s
  | .alu c g rd ra rb fn => Sys2Proof.Machine.execAlu c g rd ra rb fn s
  | .addi c g rd ra imm => Sys2Proof.Machine.execAddi c g rd ra imm s
  | .andi c g rd ra imm => Sys2Proof.Machine.execAndi c g rd ra imm s
  | .ori c g rd ra imm => Sys2Proof.Machine.execOri c g rd ra imm s
  | .xori c g rd ra imm => Sys2Proof.Machine.execXori c g rd ra imm s
  | .shli c g rd ra imm => Sys2Proof.Machine.execShli c g rd ra imm s
  | .shri c g rd ra imm => Sys2Proof.Machine.execShri c g rd ra imm s
  | .srai c g rd ra imm => Sys2Proof.Machine.execSrai c g rd ra imm s
  | .movz c g rd imm => Sys2Proof.Machine.execMovz c g rd imm s
  | .movk1 c g rd imm => Sys2Proof.Machine.execMovk1 c g rd imm s
  | .movk2 c g rd imm => Sys2Proof.Machine.execMovk2 c g rd imm s
  | .movk3 c g rd imm => Sys2Proof.Machine.execMovk3 c g rd imm s
  | .cmp c g pd cond ra rb => Sys2Proof.Machine.execCmp c g pd cond ra rb s
  | .cmpi c g pd cond ra imm => Sys2Proof.Machine.execCmpi c g pd cond ra imm s
  | .pset c g pd pa pb lop ia ib => Sys2Proof.Machine.execPset c g pd pa pb lop ia ib s
  | .ld8u c g rd ra seg imm => Sys2Proof.Machine.execLd8u c g rd ra seg imm s
  | .ld16u c g rd ra seg imm => Sys2Proof.Machine.execLd16u c g rd ra seg imm s
  | .ld32u c g rd ra seg imm => Sys2Proof.Machine.execLd32u c g rd ra seg imm s
  | .ld64 c g rd ra seg imm => Sys2Proof.Machine.execLd64 c g rd ra seg imm s
  | .ld8s c g rd ra seg imm => Sys2Proof.Machine.execLd8s c g rd ra seg imm s
  | .ld16s c g rd ra seg imm => Sys2Proof.Machine.execLd16s c g rd ra seg imm s
  | .ld32s c g rd ra seg imm => Sys2Proof.Machine.execLd32s c g rd ra seg imm s
  | .st8 c g rs ra seg imm => Sys2Proof.Machine.execSt8 c g rs ra seg imm s
  | .st16 c g rs ra seg imm => Sys2Proof.Machine.execSt16 c g rs ra seg imm s
  | .st32 c g rs ra seg imm => Sys2Proof.Machine.execSt32 c g rs ra seg imm s
  | .st64 c g rs ra seg imm => Sys2Proof.Machine.execSt64 c g rs ra seg imm s
  | .amoadd c g rd ra rb seg => Sys2Proof.Machine.execAmoadd c g rd ra rb seg s
  | .amoswap c g rd ra rb seg => Sys2Proof.Machine.execAmoswap c g rd ra rb seg s
  | .amocas c g rd ra rb seg => Sys2Proof.Machine.execAmocas c g rd ra rb seg s
  | .tintFence c g => Sys2Proof.Machine.execTintFence c g s
  | .segn c g sd ss ra rb rights => Sys2Proof.Machine.execSegn c g sd ss ra rb rights s
  | .seglen c g rd seg => Sys2Proof.Machine.execSeglen c g rd seg s
  | .br c g imm => Sys2Proof.Machine.execBr c g imm s
  | .call c g imm => Sys2Proof.Machine.execCall c g imm s
  | .ret c g => Sys2Proof.Machine.execRet c g s
  | .jr c g ra => Sys2Proof.Machine.execJr c g ra s
  | .callr c g ra => Sys2Proof.Machine.execCallr c g ra s
  | .rpop c g rd => Sys2Proof.Machine.execRpop c g rd s
  | .rpush c g ra => Sys2Proof.Machine.execRpush c g ra s
  | .rsd c g rd => Sys2Proof.Machine.execRsd c g rd s
  | .ecallSha256 c g => Sys2Proof.Machine.execEcallSha256 c g s
  | .ecallHmac c g => Sys2Proof.Machine.execEcallHmac c g s
  | .ecallDecomp c g => Sys2Proof.Machine.execEcallDecomp c g s
  | .ecallStencil c g => Sys2Proof.Machine.execEcallStencil c g s
  | .ecallNow c g => Sys2Proof.Machine.execEcallNow c g s
  | .tintEnd c g => Sys2Proof.Machine.execTintEnd c g s
  | .tintDelay c g ra => Sys2Proof.Machine.execTintDelay c g ra s
  | .tintTrap c g code => Sys2Proof.Machine.execTintTrap c g code s
  | .compressionDescriptor src => Sys2Proof.Machine.execCompressionDescriptor src s
  | .compressionResult e => Sys2Proof.Machine.execCompressionResult e s
  | .cipherDescriptor src => Sys2Proof.Machine.execCipherDescriptor src s
  | .digestDescriptor src => Sys2Proof.Machine.execDigestDescriptor src s
  | .contextSave dig l pos => Sys2Proof.Machine.execContextSave dig l pos s
  | .laneYield dig l => Sys2Proof.Machine.execLaneYield dig l s
  | .laneMessageEnd dig l => Sys2Proof.Machine.execLaneMessageEnd dig l s
  | .maskReseed q => Sys2Proof.Machine.execMaskReseed q s
  | .maskDrbgLimit q => Sys2Proof.Machine.execMaskDrbgLimit q s
  | .parityCompute w => Sys2Proof.Machine.execParityCompute w s
  | .rowPadded g l => Sys2Proof.Machine.execRowPadded g l s
  | .journalProgramDone die => Sys2Proof.Machine.execJournalProgramDone die s
  | .mirrorAccept h seq => Sys2Proof.Machine.execMirrorAccept h seq s
  | .programComplete g l => Sys2Proof.Machine.execProgramComplete g l s
  | .programFail g l slot => Sys2Proof.Machine.execProgramFail g l slot s
  | .eraseComplete g segment slot ok => Sys2Proof.Machine.execEraseComplete g segment slot ok s
  | .waitRdyTimeout die => Sys2Proof.Machine.execWaitRdyTimeout die s
  | .flashReadDone read cw cap => Sys2Proof.Machine.execFlashReadDone read cw cap s
  | .ldpcDecode read cw result => Sys2Proof.Machine.execLdpcDecode read cw result s
  | .retraining n => Sys2Proof.Machine.execRetraining n s
  | .flpRetrainForce m v => Sys2Proof.Machine.execFlpRetrainForce m v s
  | .trainingDone n pass => Sys2Proof.Machine.execTrainingDone n pass s
  | .portgntHigh n ids => Sys2Proof.Machine.execPortgntHigh n ids s
  | .grantLost n => Sys2Proof.Machine.execGrantLost n s
  | .askTimeout n => Sys2Proof.Machine.execAskTimeout n s
  | .leavingDone n => Sys2Proof.Machine.execLeavingDone n s
  | .vccqSample n pm => Sys2Proof.Machine.execVccqSample n pm s
  | .guardRelease n => Sys2Proof.Machine.execGuardRelease n s
  | .secondCoat g => Sys2Proof.Machine.execSecondCoat g s
  | .scrape g => Sys2Proof.Machine.execScrape g s
  | .segmentErase g segment => Sys2Proof.Machine.execSegmentErase g segment s
  | .wearLevelling die => Sys2Proof.Machine.execWearLevelling die s
  | .sandingPass die block => Sys2Proof.Machine.execSandingPass die block s
  | .retentionTick => Sys2Proof.Machine.execRetentionTick s
  | .checkpointCycle => Sys2Proof.Machine.execCheckpointCycle s
  | .mapFault table page => Sys2Proof.Machine.execMapFault table page s
  | .pwrfailNFall => Sys2Proof.Machine.execPwrfailNFall s
  | .pwrfailNRise => Sys2Proof.Machine.execPwrfailNRise s
  | .resetNFall => Sys2Proof.Machine.execResetNFall s
  | .boot b => Sys2Proof.Machine.execBoot b s
  | .supplyDrop => Sys2Proof.Machine.execSupplyDrop s
  | .watchdog => Sys2Proof.Machine.execWatchdog s
  | .recoveryHello => Sys2Proof.Machine.execRecoveryHello s
  | .recoveryData mac offset total data => Sys2Proof.Machine.execRecoveryData mac offset total data s
  | .recoveryDone mac => Sys2Proof.Machine.execRecoveryDone mac s
  | .recoveryTimeout => Sys2Proof.Machine.execRecoveryTimeout s
  | .fwConfirm m v => Sys2Proof.Machine.execFwConfirm m v s
  | .lifeEstimate => Sys2Proof.Machine.execLifeEstimate s
  | .memberFault g slot => Sys2Proof.Machine.execMemberFault g slot s
  | .rebuild g => Sys2Proof.Machine.execRebuild g s
  | .groupRehome m v => Sys2Proof.Machine.execGroupRehome m v s
  | .groupCreate m v => Sys2Proof.Machine.execGroupCreate m v s
  | .groupDissolve m v => Sys2Proof.Machine.execGroupDissolve m v s
  | .groupResume m v => Sys2Proof.Machine.execGroupResume m v s
  | .groupRebuild m v => Sys2Proof.Machine.execGroupRebuild m v s
  | .cloneFill v => Sys2Proof.Machine.execCloneFill v s
  | .snapMerge v slot => Sys2Proof.Machine.execSnapMerge v slot s
  | .epochCompaction v => Sys2Proof.Machine.execEpochCompaction v s
  | .replCycle n => Sys2Proof.Machine.execReplCycle n s
  | .replHello net raw => Sys2Proof.Machine.execReplHello net raw s
  | .replGrains net raw => Sys2Proof.Machine.execReplGrains net raw s
  | .replCycleEnd net raw => Sys2Proof.Machine.execReplCycleEnd net raw s
  | .replAck net raw => Sys2Proof.Machine.execReplAck net raw s
  | .replFail net raw => Sys2Proof.Machine.execReplFail net raw s
  | .cycleFail n => Sys2Proof.Machine.execCycleFail n s
  | .deadlineMiss cmd => Sys2Proof.Machine.execDeadlineMiss cmd s
  | .atRiskClear n => Sys2Proof.Machine.execAtRiskClear n s
  | .drainEnd t => Sys2Proof.Machine.execDrainEnd t s
  | .tenBsel m v => Sys2Proof.Machine.execTenBsel m v s
  | .tenBctlWrite m v => Sys2Proof.Machine.execTenBctlWrite m v s
  | .stnLookup m v => Sys2Proof.Machine.execStnLookup m v s
  | .lookupStep m v => Sys2Proof.Machine.execLookupStep m v s
  | .stnBankAssign m v => Sys2Proof.Machine.execStnBankAssign m v s
  | .hotBanks m v => Sys2Proof.Machine.execHotBanks m v s
  | .heartbeatSend => Sys2Proof.Machine.execHeartbeatSend s
  | .heartbeat h state holds hbSeq => Sys2Proof.Machine.execHeartbeat h state holds hbSeq s
  | .partnerDead => Sys2Proof.Machine.execPartnerDead s
  | .isolatedMode => Sys2Proof.Machine.execIsolatedMode s
  | .mirrorData h g l data => Sys2Proof.Machine.execMirrorData h g l data s
  | .mirrorJrn h es => Sys2Proof.Machine.execMirrorJrn h es s
  | .mirrorMaplog h g first recs => Sys2Proof.Machine.execMirrorMaplog h g first recs s
  | .mirrorRelease h refs => Sys2Proof.Machine.execMirrorRelease h refs s
  | .linkControl h c => Sys2Proof.Machine.execLinkControl h c s
  | .linkRekey h ct => Sys2Proof.Machine.execLinkRekey h ct s
  | .linkAck seq => Sys2Proof.Machine.execLinkAck seq s
  | .retransmit => Sys2Proof.Machine.execRetransmit s
  | .pairHello h b => Sys2Proof.Machine.execPairHello h b s
  | .pairCert h device kem => Sys2Proof.Machine.execPairCert h device kem s
  | .linkAttest h body signature => Sys2Proof.Machine.execLinkAttest h body signature s
  | .pairKem h ct => Sys2Proof.Machine.execPairKem h ct s
  | .bootFetch h f => Sys2Proof.Machine.execBootFetch h f s
  | .laneFail lane => Sys2Proof.Machine.execLaneFail lane s
  | .handback m v => Sys2Proof.Machine.execHandback m v s
  | .acceptNew m v => Sys2Proof.Machine.execAcceptNew m v s
  | .peerCtlRekey m v => Sys2Proof.Machine.execPeerCtlRekey m v s
  | .wake w => Sys2Proof.Machine.execWake w s
  | .autoPoise => Sys2Proof.Machine.execAutoPoise s
  | .entryStep => Sys2Proof.Machine.execEntryStep s
  | .paceSample q mons mv centiA => Sys2Proof.Machine.execPaceSample q mons mv centiA s
  | .paceReload m v => Sys2Proof.Machine.execPaceReload m v s
  | .regulatorFault k silent => Sys2Proof.Machine.execRegulatorFault k silent s
  | .sensorSample k raw open_ => Sys2Proof.Machine.execSensorSample k raw open_ s
  | .throttleStage2 => Sys2Proof.Machine.execThrottleStage2 s
  | .tripPowerOff => Sys2Proof.Machine.execTripPowerOff s
  | .thermtripComparator k => Sys2Proof.Machine.execThermtripComparator k s
  | .thermalWatch => Sys2Proof.Machine.execThermalWatch s
  | .ptpSync p => Sys2Proof.Machine.execPtpSync p s
  | .ptpAnnounce p => Sys2Proof.Machine.execPtpAnnounce p s
  | .ptpFollowUp p => Sys2Proof.Machine.execPtpFollowUp p s
  | .ptpDelayResp p => Sys2Proof.Machine.execPtpDelayResp p s
  | .ptpPdelayReq p => Sys2Proof.Machine.execPtpPdelayReq p s
  | .syncTimeout => Sys2Proof.Machine.execSyncTimeout s
  | .holdoverExpiry => Sys2Proof.Machine.execHoldoverExpiry s
  | .timebaseUpdate => Sys2Proof.Machine.execTimebaseUpdate s
  | .residualLearn => Sys2Proof.Machine.execResidualLearn s
  | .timeSet m v => Sys2Proof.Machine.execTimeSet m v s
  | .timeCtlLock m v => Sys2Proof.Machine.execTimeCtlLock m v s
  | .ethCtlLock m v => Sys2Proof.Machine.execEthCtlLock m v s
  | .tmemCtlLock m v => Sys2Proof.Machine.execTmemCtlLock m v s
  | .pwrRailLock m v => Sys2Proof.Machine.execPwrRailLock m v s
  | .pwrAuxLock m v => Sys2Proof.Machine.execPwrAuxLock m v s
  | .thmCfgLock m v => Sys2Proof.Machine.execThmCfgLock m v s
  | .ethGcfgWrite m v => Sys2Proof.Machine.execEthGcfgWrite m v s
  | .groupDown g => Sys2Proof.Machine.execGroupDown g s
  | .addrWrite m v => Sys2Proof.Machine.execAddrWrite m v s
  | .cmConnect m v => Sys2Proof.Machine.execCmConnect m v s
  | .cmReq m => Sys2Proof.Machine.execCmReq m s
  | .cmRep m => Sys2Proof.Machine.execCmRep m s
  | .cmRtu m => Sys2Proof.Machine.execCmRtu m s
  | .cmRej m => Sys2Proof.Machine.execCmRej m s
  | .cmDreq m => Sys2Proof.Machine.execCmDreq m s
  | .cmDrep m => Sys2Proof.Machine.execCmDrep m s
  | .unboundTimeout qpn => Sys2Proof.Machine.execUnboundTimeout qpn s
  | .incomingRdma n => Sys2Proof.Machine.execIncomingRdma n s
  | .badFrame port => Sys2Proof.Machine.execBadFrame port s
  | .arpRequest port ip => Sys2Proof.Machine.execArpRequest port ip s
  | .icmpEcho port ip => Sys2Proof.Machine.execIcmpEcho port ip s
  | .neighbourDiscovery port ip => Sys2Proof.Machine.execNeighbourDiscovery port ip s
  | .congestionNotification qpn => Sys2Proof.Machine.execCongestionNotification qpn s
  | .rateIncrease qpn => Sys2Proof.Machine.execRateIncrease qpn s
  | .priorityPause port prio bytes => Sys2Proof.Machine.execPriorityPause port prio bytes s
  | .patrolScrub ch row found => Sys2Proof.Machine.execPatrolScrub ch row found s
  | .dramUncorrectable ch row owner => Sys2Proof.Machine.execDramUncorrectable ch row owner s
  | .dramRetrain ch temp => Sys2Proof.Machine.execDramRetrain ch temp s
  | .refresh ch => Sys2Proof.Machine.execRefresh ch s
  | .rowActivationLimit ch bank row prog => Sys2Proof.Machine.execRowActivationLimit ch bank row prog s
  | .tileParityError site => Sys2Proof.Machine.execTileParityError site s
  | .tileCopyDone tile => Sys2Proof.Machine.execTileCopyDone tile s
  | .tmemClaim m v => Sys2Proof.Machine.execTmemClaim m v s
  | .tmemTestWrite m v => Sys2Proof.Machine.execTmemTestWrite m v s
  | .tmemTestRead m v => Sys2Proof.Machine.execTmemTestRead m v s
  | .tmemInject m v => Sys2Proof.Machine.execTmemInject m v s
  | .tmemRelease m v => Sys2Proof.Machine.execTmemRelease m v s
  | .scrubStart m v => Sys2Proof.Machine.execScrubStart m v s
  | .scrubDone => Sys2Proof.Machine.execScrubDone s
  | .measExtend m v => Sys2Proof.Machine.execMeasExtend m v s
  | .digMeasDataRead m => Sys2Proof.Machine.execDigMeasDataRead m s
  | .loReadLatch m => Sys2Proof.Machine.execLoReadLatch m s
  | .entropySample v => Sys2Proof.Machine.execEntropySample v s
  | .nextTreeDone => Sys2Proof.Machine.execNextTreeDone s
  | .keyUnwrap fetch => Sys2Proof.Machine.execKeyUnwrap fetch s
  | .cardStatusSend qpn => Sys2Proof.Machine.execCardStatusSend qpn s
  | .peeraliveInChange => Sys2Proof.Machine.execPeeraliveInChange s
  | .jarelLinkUp lanes => Sys2Proof.Machine.execJarelLinkUp lanes s
  | .hostLinkChange port up => Sys2Proof.Machine.execHostLinkChange port up s
  | .entropyWaitTimeout cmd => Sys2Proof.Machine.execEntropyWaitTimeout cmd s
  | .bootFetchTimeout => Sys2Proof.Machine.execBootFetchTimeout s
  | .connectTimeout qpn => Sys2Proof.Machine.execConnectTimeout qpn s
  | .sendAcknowledged qpn => Sys2Proof.Machine.execSendAcknowledged qpn s
  | .sequenceErrorNak qpn => Sys2Proof.Machine.execSequenceErrorNak qpn s
  | .stencilBankCleared b => Sys2Proof.Machine.execStencilBankCleared b s
  | .jtagAccess ir => Sys2Proof.Machine.execJtagAccess ir s
  | .i3cEntdaa addr => Sys2Proof.Machine.execI3cEntdaa addr s
  | .i3cIbiServiced => Sys2Proof.Machine.execI3cIbiServiced s
  | .ppsPulse => Sys2Proof.Machine.execPpsPulse s
  | .ptpPdelayResp p => Sys2Proof.Machine.execPtpPdelayResp p s

end Sys2Proof.Machine
end

