-- ==== Sys2Proof/Machine/Tick.lean ====
section
/-! DEFINITION. What a tick of the block's clock does (DESIGN CHOICE: a step on an empty queue is one tick of 1 ns). -/

namespace Sys2Proof.Machine

/-- The clock and the timebase move on by one nanosecond (R695, R696). -/
def Dev.clock (d : Dev) : Dev :=
  { d with now := d.now + 1, time := { d.time with acc := d.time.acc + d.time.incr * 10 / 16 } }

/-- One nanosecond passes: the clock moves on, groups in VERIFYING leave it (R385), waits that no row of the table ends go on if they can, and frames held unparsed are
taken as far as credits allow (R240), paused priorities released (R241), and known-answer tests go on. Everything else that is driven by time is a
row. -/
def Dev.tick (d : Dev) : Dev :=
  let d := d.clock.endVerifying.passWaiters.resultWaiters
  let d := if d.cmds.any fun e => decide (e.2.hold = .kat) then d.katAll else d
  (Dev.takeHeld (d.eth.rx.length + 1) d).unpause

end Sys2Proof.Machine
end

