-- ==== Sys2Proof/Safety.lean ====
section
/-! DEFINITION. What a safe run is: every command waiting is well formed and has a meaning, so that no step stops. -/

namespace Sys2Proof.Machine

/-- A step that goes on. -/
def goesOn (s : State) : Prop := ∃ t, step s = .next t

/-- A state from which n steps go on. -/
def safeFor : Nat → State → Prop
  | 0, _ => True
  | n + 1, s => ∃ t, step s = .next t ∧ safeFor n t

end Sys2Proof.Machine
end

