-- ==== Sys2Proof/WellFormed.lean ====
section
/-! DEFINITION. Which commands are well formed: each operand within the range the specification gives what it names (a tint
core 0–135, R507; a flash port 0–63 and a die 0–2,047, R253; a group 0–255, R361; and so on). -/

namespace Sys2Proof

/-- A frame as Table 2-1 lays it out: with DCOUNT at most 16 it carries that many descriptors, otherwise exactly one (R75,
R76), and its inline data holds at most 8,192 bytes (R78). -/
def Msg.wf (m : Msg) : Bool :=
  (if m.dcount.toNat ≤ 16 then decide (m.descs.length = m.dcount.toNat) else decide (m.descs.length = 1)) &&
    decide (m.inl.length ≤ 8192)

/-- A source of engine work: a descriptor lies in tile memory. -/
def JobSrc.wf (x : JobSrc) : Bool :=
  match x with
  | .desc o => decide (o < 0x10000000)
  | .grain _ _ => true
  | .task _ => true
  | .session n => decide (n < 64)

/-- Whether a command is well formed. -/
def Instr.wf (i : Instr) : Bool :=
  match i with
  | .untrustedFrame _ _ => true
  | .tombstoneFrame m _ => m.wf
  | .receiverNotReady m _ => m.wf
  | .unclassified m _ => m.wf
  | .spoofDrop m _ => m.wf
  | .opcodeInvalid m _ => m.wf
  | .nop m => m.wf
  | .read m => m.wf
  | .write m => m.wf
  | .writeZeroes m => m.wf
  | .discard m => m.wf
  | .strip m => m.wf
  | .flush m => m.wf
  | .abort m => m.wf
  | .getDeferred m => m.wf
  | .volCreate m => m.wf
  | .volDelete m => m.wf
  | .volResize m => m.wf
  | .volQuery m => m.wf
  | .snapCreate m => m.wf
  | .snapDelete m => m.wf
  | .cloneCreate m => m.wf
  | .replOpen m => m.wf
  | .replClose m => m.wf
  | .replRekey m => m.wf
  | .streamOpen m => m.wf
  | .streamClose m => m.wf
  | .streamQuery m => m.wf
  | .queryTime m => m.wf
  | .loadProgram m => m.wf
  | .unloadProgram m => m.wf
  | .bindProgram m => m.wf
  | .unbindProgram m => m.wf
  | .scan m => m.wf
  | .patternLoad m => m.wf
  | .certGet m => m.wf
  | .keyInstall m => m.wf
  | .cryptoErase m => m.wf
  | .attest m => m.wf
  | .keyPolicySet m => m.wf
  | .ownerEnrol m => m.wf
  | .debugUnlock m => m.wf
  | .winRead m => m.wf
  | .winWrite m => m.wf
  | .tenantCreate m => m.wf
  | .tenantBind m => m.wf
  | .tenantShares m => m.wf
  | .queueBind m => m.wf
  | .queueDelete m => m.wf
  | .enableTenant m => m.wf
  | .quiesceTenant m => m.wf
  | .resetTenant m => m.wf
  | .removeTenant m => m.wf
  | .migrationLog m => m.wf
  | .regRead m => m.wf
  | .regWrite m => m.wf
  | .fwStage m => m.wf
  | .fwActivate m => m.wf
  | .powerState m => m.wf
  | .eventRead m => m.wf
  | .thermalAck m => m.wf
  | .echo m => m.wf
  | .katRun m => m.wf
  | .tmemScrub m => m.wf
  | .bufferGrant pool => decide (pool < 5)
  | .bufferRelease _ => true
  | .ledgerAudit => true
  | .ledgerTest m _ => m.wf
  | .rdmaReadResponse _ _ => true
  | .rdmaWriteAck _ => true
  | .transferFail _ => true
  | .ackTimeout qpn => decide (qpn < 16777216)
  | .rnrNak qpn timer => decide (qpn < 16777216) && decide (timer < 32)
  | .rnrRetry qpn => decide (qpn < 16777216)
  | .queuePairFailure qpn => decide (qpn < 16777216)
  | .hazardRelease _ => true
  | .fenceRelease _ => true
  | .volumeBarrierRelease _ => true
  | .shareRelease _ => true
  | .journalWaitRelease _ => true
  | .tailWaitRelease _ => true
  | .taskCreate _ _ ask => decide (ask.entry < 4)
  | .operandToken _ _ slot _ => decide (slot < 4)
  | .readyPendingPlace => true
  | .coreDispatch c => decide (c < 136)
  | .ecallReturn _ => true
  | .delayWake c => decide (c < 136)
  | .taskDeadline _ => true
  | .selftest c _ => decide (c < 136)
  | .coreStall c => decide (c < 136)
  | .coreRetire m _ => m.wf
  | .histClear m _ => m.wf
  | .selftestNow m _ => m.wf
  | .alu c _ _ _ _ _ => decide (c < 136)
  | .addi c _ _ _ _ => decide (c < 136)
  | .andi c _ _ _ _ => decide (c < 136)
  | .ori c _ _ _ _ => decide (c < 136)
  | .xori c _ _ _ _ => decide (c < 136)
  | .shli c _ _ _ _ => decide (c < 136)
  | .shri c _ _ _ _ => decide (c < 136)
  | .srai c _ _ _ _ => decide (c < 136)
  | .movz c _ _ _ => decide (c < 136)
  | .movk1 c _ _ _ => decide (c < 136)
  | .movk2 c _ _ _ => decide (c < 136)
  | .movk3 c _ _ _ => decide (c < 136)
  | .cmp c _ _ _ _ _ => decide (c < 136)
  | .cmpi c _ _ _ _ _ => decide (c < 136)
  | .pset c _ _ _ _ _ _ _ => decide (c < 136)
  | .ld8u c _ _ _ _ _ => decide (c < 136)
  | .ld16u c _ _ _ _ _ => decide (c < 136)
  | .ld32u c _ _ _ _ _ => decide (c < 136)
  | .ld64 c _ _ _ _ _ => decide (c < 136)
  | .ld8s c _ _ _ _ _ => decide (c < 136)
  | .ld16s c _ _ _ _ _ => decide (c < 136)
  | .ld32s c _ _ _ _ _ => decide (c < 136)
  | .st8 c _ _ _ _ _ => decide (c < 136)
  | .st16 c _ _ _ _ _ => decide (c < 136)
  | .st32 c _ _ _ _ _ => decide (c < 136)
  | .st64 c _ _ _ _ _ => decide (c < 136)
  | .amoadd c _ _ _ _ _ => decide (c < 136)
  | .amoswap c _ _ _ _ _ => decide (c < 136)
  | .amocas c _ _ _ _ _ => decide (c < 136)
  | .tintFence c _ => decide (c < 136)
  | .segn c _ _ _ _ _ _ => decide (c < 136)
  | .seglen c _ _ _ => decide (c < 136)
  | .br c _ _ => decide (c < 136)
  | .call c _ _ => decide (c < 136)
  | .ret c _ => decide (c < 136)
  | .jr c _ _ => decide (c < 136)
  | .callr c _ _ => decide (c < 136)
  | .rpop c _ _ => decide (c < 136)
  | .rpush c _ _ => decide (c < 136)
  | .rsd c _ _ => decide (c < 136)
  | .ecallSha256 c _ => decide (c < 136)
  | .ecallHmac c _ => decide (c < 136)
  | .ecallDecomp c _ => decide (c < 136)
  | .ecallStencil c _ => decide (c < 136)
  | .ecallNow c _ => decide (c < 136)
  | .tintEnd c _ => decide (c < 136)
  | .tintDelay c _ _ => decide (c < 136)
  | .tintTrap c _ _ => decide (c < 136)
  | .compressionDescriptor src => src.wf
  | .compressionResult e => decide (e < 16)
  | .cipherDescriptor src => src.wf
  | .digestDescriptor src => src.wf
  | .contextSave dig l _ => decide (l < if dig then 64 else 32)
  | .laneYield dig l => decide (l < if dig then 64 else 32)
  | .laneMessageEnd dig l => decide (l < if dig then 64 else 32)
  | .maskReseed q => decide (q < 4)
  | .maskDrbgLimit q => decide (q < 4)
  | .parityCompute _ => true
  | .rowPadded g _ => decide (g < 256)
  | .journalProgramDone die => decide (die < 2048)
  | .mirrorAccept _ _ => true
  | .programComplete g _ => decide (g < 256)
  | .programFail g _ slot => decide (g < 256) && decide (slot < 26)
  | .eraseComplete g _ slot _ => decide (g < 256) && decide (slot < 26)
  | .waitRdyTimeout die => decide (die < 2048)
  | .flashReadDone _ cw _ => decide (cw < 256)
  | .ldpcDecode _ cw _ => decide (cw < 256)
  | .retraining n => decide (n < 64)
  | .flpRetrainForce m _ => m.wf
  | .trainingDone n _ => decide (n < 64)
  | .portgntHigh n _ => decide (n < 64)
  | .grantLost n => decide (n < 64)
  | .askTimeout n => decide (n < 64)
  | .leavingDone n => decide (n < 64)
  | .vccqSample n _ => decide (n < 64)
  | .guardRelease n => decide (n < 64)
  | .secondCoat g => decide (g < 256)
  | .scrape g => decide (g < 256)
  | .segmentErase g _ => decide (g < 256)
  | .wearLevelling die => decide (die < 2048)
  | .sandingPass die _ => decide (die < 2048)
  | .retentionTick => true
  | .checkpointCycle => true
  | .mapFault table _ => decide (table < 5)
  | .pwrfailNFall => true
  | .pwrfailNRise => true
  | .resetNFall => true
  | .boot _ => true
  | .supplyDrop => true
  | .watchdog => true
  | .recoveryHello => true
  | .recoveryData _ _ _ _ => true
  | .recoveryDone _ => true
  | .recoveryTimeout => true
  | .fwConfirm m _ => m.wf
  | .lifeEstimate => true
  | .memberFault g slot => decide (g < 256) && decide (slot < 26)
  | .rebuild g => decide (g < 256)
  | .groupRehome m _ => m.wf
  | .groupCreate m _ => m.wf
  | .groupDissolve m _ => m.wf
  | .groupResume m _ => m.wf
  | .groupRebuild m _ => m.wf
  | .cloneFill v => decide (v < 32768)
  | .snapMerge v slot => decide (v < 32768) && decide (slot < 1024)
  | .epochCompaction v => decide (v < 32768)
  | .replCycle n => decide (n < 64)
  | .replHello _ _ => true
  | .replGrains _ _ => true
  | .replCycleEnd _ _ => true
  | .replAck _ _ => true
  | .replFail _ _ => true
  | .cycleFail n => decide (n < 64)
  | .deadlineMiss _ => true
  | .atRiskClear n => decide (n < 65535)
  | .drainEnd t => decide (t < 1024)
  | .tenBsel m _ => m.wf
  | .tenBctlWrite m _ => m.wf
  | .stnLookup m _ => m.wf
  | .lookupStep m _ => m.wf
  | .stnBankAssign m _ => m.wf
  | .hotBanks m _ => m.wf
  | .heartbeatSend => true
  | .heartbeat _ _ _ _ => true
  | .partnerDead => true
  | .isolatedMode => true
  | .mirrorData _ g _ _ => decide (g < 256)
  | .mirrorJrn _ _ => true
  | .mirrorMaplog _ g _ _ => decide (g < 256)
  | .mirrorRelease _ _ => true
  | .linkControl _ _ => true
  | .linkRekey _ _ => true
  | .linkAck _ => true
  | .retransmit => true
  | .pairHello _ _ => true
  | .pairCert _ _ _ => true
  | .linkAttest _ _ _ => true
  | .pairKem _ _ => true
  | .bootFetch _ _ => true
  | .laneFail lane => decide (lane < 17)
  | .handback m _ => m.wf
  | .acceptNew m _ => m.wf
  | .peerCtlRekey m _ => m.wf
  | .wake w => decide (w < 5)
  | .autoPoise => true
  | .entryStep => true
  | .paceSample q mons _ _ => decide (q < 4) && decide (mons.length = 8)
  | .paceReload m _ => m.wf
  | .regulatorFault k _ => decide (k < 8)
  | .sensorSample k _ _ => decide (k < 32)
  | .throttleStage2 => true
  | .tripPowerOff => true
  | .thermtripComparator k => decide (k < 32)
  | .thermalWatch => true
  | .ptpSync _ => true
  | .ptpAnnounce _ => true
  | .ptpFollowUp _ => true
  | .ptpDelayResp _ => true
  | .ptpPdelayReq _ => true
  | .syncTimeout => true
  | .holdoverExpiry => true
  | .timebaseUpdate => true
  | .residualLearn => true
  | .timeSet m _ => m.wf
  | .timeCtlLock m _ => m.wf
  | .ethCtlLock m _ => m.wf
  | .tmemCtlLock m _ => m.wf
  | .pwrRailLock m _ => m.wf
  | .pwrAuxLock m _ => m.wf
  | .thmCfgLock m _ => m.wf
  | .ethGcfgWrite m _ => m.wf
  | .groupDown g => decide (g < 4)
  | .addrWrite m _ => m.wf
  | .cmConnect m _ => m.wf
  | .cmReq _ => true
  | .cmRep _ => true
  | .cmRtu _ => true
  | .cmRej _ => true
  | .cmDreq _ => true
  | .cmDrep _ => true
  | .unboundTimeout qpn => decide (qpn < 16777216)
  | .incomingRdma _ => true
  | .badFrame port => decide (port < 17)
  | .arpRequest port _ => decide (port < 17)
  | .icmpEcho port _ => decide (port < 17)
  | .neighbourDiscovery port _ => decide (port < 17)
  | .congestionNotification qpn => decide (qpn < 16777216)
  | .rateIncrease qpn => decide (qpn < 16777216)
  | .priorityPause port prio _ => decide (port < 17) && decide (prio < 8)
  | .patrolScrub ch _ _ => decide (ch < 8)
  | .dramUncorrectable ch _ _ => decide (ch < 8)
  | .dramRetrain ch _ => decide (ch < 8)
  | .refresh ch => decide (ch < 8)
  | .rowActivationLimit ch bank _ _ => decide (ch < 8) && decide (bank < 16)
  | .tileParityError _ => true
  | .tileCopyDone tile => decide (tile < 512)
  | .tmemClaim m _ => m.wf
  | .tmemTestWrite m _ => m.wf
  | .tmemTestRead m _ => m.wf
  | .tmemInject m _ => m.wf
  | .tmemRelease m _ => m.wf
  | .scrubStart m _ => m.wf
  | .scrubDone => true
  | .measExtend m _ => m.wf
  | .digMeasDataRead m => m.wf
  | .loReadLatch m => m.wf
  | .entropySample _ => true
  | .nextTreeDone => true
  | .keyUnwrap fetch => match fetch.read with | some b => decide (b.length = 72) | none => true
  | .cardStatusSend qpn => decide (qpn < 16777216)
  | .peeraliveInChange => true
  | .jarelLinkUp _ => true
  | .hostLinkChange port _ => decide (port < 17)
  | .entropyWaitTimeout _ => true
  | .bootFetchTimeout => true
  | .connectTimeout qpn => decide (qpn < 16777216)
  | .sendAcknowledged qpn => decide (qpn < 16777216)
  | .sequenceErrorNak qpn => decide (qpn < 16777216)
  | .stencilBankCleared b => decide (b < 16)
  | .jtagAccess ir => decide (ir < 16)
  | .i3cEntdaa _ => true
  | .i3cIbiServiced => true
  | .ppsPulse => true
  | .ptpPdelayResp _ => true

end Sys2Proof
end

