-- ==== Sys2Proof/Certificates/Slice0/Obligations.lean ====
section
/-! DEFINITION. The statements about the block, by what they speak of: the queue of commands, registers, frames, opcodes, tint cores, engines,
transport, flash, map, pair, power, time and memories.  Claims holds the words the statements use. -/

namespace Sys2Proof.Claims

open Sys2Proof Sys2Proof.Machine

/-- State s with the part as d is: its queue of waiting commands as it was. -/
def withDev (s : State) (d : Dev) : State := { pending := s.pending, dev := d }

/-! ### The queue -/

/-- Every waiting command is well formed. -/
def QueueWf (s : State) : Prop := ∀ c ∈ s.pending, c.wf = true

/-- The part after commands taken one after the other, each with an empty queue behind it. -/
def fold : List Instr → Dev → Option Dev
  | [], d => some d
  | c :: r, d =>
    match exec c { pending := [], dev := d } with
    | .next t => fold r t.dev
    | _ => none

/-- n steps that all go on, from s to t. -/
def Steps : Nat → State → State → Prop
  | 0, s, t => s = t
  | n + 1, s, t => ∃ u, step s = .next u ∧ Steps n u t

end Sys2Proof.Claims

open Sys2Proof Sys2Proof.Machine Sys2Proof.Claims

/-- A step takes the command at the front of the queue and gives it its meaning with the queue's rest. The queue is the model's interface
(log entry 1), no rule of the spec. -/
def Obligations.StepTakesTheFront : Prop :=
  ∀ (c : Instr) (r : List Instr) (d : Dev), step { pending := c :: r, dev := d } = exec c { pending := r, dev := d }

/-- With no command waiting a step is one tick of the model's clock, and the queue stays empty; where no command record, no held frame, no
paused priority and no group in VERIFYING stands, a tick moves the clock by 1 ns and the timebase by its increment, and changes nothing else (DESIGN CHOICE, log entry 2). -/
def Obligations.EmptyQueueTicks : Prop :=
  (∀ d : Dev, step { pending := [], dev := d } = .next { pending := [], dev := d.tick }) ∧
    ∀ d : Dev, d.cmds = [] → d.eth.rx = [] → d.eth.paused = [] → (∀ e ∈ d.groups, e.2.state ≠ .verifying) →
      step { pending := [], dev := d } =
        .next { pending := [], dev := { d with now := d.now + 1, time := { d.time with acc := d.time.acc + d.time.incr * 10 / 16 } } }

/-- The table gives no row any bits: no word spells a command, and placing one changes nothing. -/
def Obligations.TableWordsSpellNothing : Prop :=
  ∀ (nbits w : Nat) (s : State), decodeTableWord nbits w = none ∧ s.withFetchWord nbits w = s

/-- Commands run in the order in which they wait, each once and none skipped: as many steps as commands wait ahead end with the rest of the
queue, and with the part as the commands' meanings leave it one after the other; no command puts one in the queue or takes one out. -/
def Obligations.FirstInFirstOut : Prop :=
  ∀ (cs r : List Instr) (d : Dev), ∃ e, fold cs d = some e ∧ Steps cs.length { pending := cs ++ r, dev := d } { pending := r, dev := e } ∧
    ∀ t, Steps cs.length { pending := cs ++ r, dev := d } t → t = { pending := r, dev := e }

/-- Invariant: every waiting command is well formed. Every step from such a state goes on, neither fault nor refusal, and keeps it; so
from such a state any number of steps goes on. -/
def Obligations.EveryStepGoesOn : Prop :=
  (∀ s, QueueWf s → ∃ t, step s = .next t ∧ QueueWf t ∧ t.pending = s.pending.tail) ∧
    ∀ (n : Nat) (s : State), QueueWf s → safeFor n s


namespace Sys2Proof.Claims

open Sys2Proof Sys2Proof.Machine

/-! ### The tint cores (chapter 12) -/

/-- The core and the word of a tint instruction (Tables 12-1 and 12-2); none for every other row. -/
def tintOf (i : Instr) : Option (Nat × Nat) :=
  match i with
  | .alu c g rd ra rb fn => some (c, tintWord g 0x00 (rd.toNat * 131072 + ra.toNat * 4096 + rb.toNat * 128 + fn.toNat))
  | .addi c g rd ra imm => some (c, tintWord g 0x1 (rd.toNat * 131072 + ra.toNat * 4096 + imm.toNat))
  | .andi c g rd ra imm => some (c, tintWord g 0x2 (rd.toNat * 131072 + ra.toNat * 4096 + imm.toNat))
  | .ori c g rd ra imm => some (c, tintWord g 0x3 (rd.toNat * 131072 + ra.toNat * 4096 + imm.toNat))
  | .xori c g rd ra imm => some (c, tintWord g 0x4 (rd.toNat * 131072 + ra.toNat * 4096 + imm.toNat))
  | .shli c g rd ra imm => some (c, tintWord g 0x5 (rd.toNat * 131072 + ra.toNat * 4096 + imm.toNat % 64))
  | .shri c g rd ra imm => some (c, tintWord g 0x6 (rd.toNat * 131072 + ra.toNat * 4096 + imm.toNat % 64))
  | .srai c g rd ra imm => some (c, tintWord g 0x7 (rd.toNat * 131072 + ra.toNat * 4096 + imm.toNat % 64))
  | .movz c g rd imm => some (c, tintWord g 0x8 (rd.toNat * 131072 + imm.toNat))
  | .movk1 c g rd imm => some (c, tintWord g 0x9 (rd.toNat * 131072 + imm.toNat))
  | .movk2 c g rd imm => some (c, tintWord g 0xa (rd.toNat * 131072 + imm.toNat))
  | .movk3 c g rd imm => some (c, tintWord g 0xb (rd.toNat * 131072 + imm.toNat))
  | .cmp c g pd cond ra rb => some (c, tintWord g 0x10 (pd.toNat * 524288 + cond.toNat * 32768 + ra.toNat * 1024 + rb.toNat * 32))
  | .cmpi c g pd cond ra imm => some (c, tintWord g 0x11 (pd.toNat * 524288 + cond.toNat * 32768 + ra.toNat * 1024 + imm.toNat))
  | .pset c g pd pa pb lop ia ib => some (c, tintWord g 0x12 (pd.toNat * 524288 + pa.toNat * 65536 + pb.toNat * 8192 + lop.toNat * 2048 + b2n ia * 1024 + b2n ib * 512))
  | .ld8u c g rd ra seg imm => some (c, tintWord g 0x18 (rd.toNat * 131072 + ra.toNat * 4096 + seg.toNat * 256 + imm.toNat))
  | .ld16u c g rd ra seg imm => some (c, tintWord g 0x19 (rd.toNat * 131072 + ra.toNat * 4096 + seg.toNat * 256 + imm.toNat))
  | .ld32u c g rd ra seg imm => some (c, tintWord g 0x1a (rd.toNat * 131072 + ra.toNat * 4096 + seg.toNat * 256 + imm.toNat))
  | .ld64 c g rd ra seg imm => some (c, tintWord g 0x1b (rd.toNat * 131072 + ra.toNat * 4096 + seg.toNat * 256 + imm.toNat))
  | .ld8s c g rd ra seg imm => some (c, tintWord g 0x1c (rd.toNat * 131072 + ra.toNat * 4096 + seg.toNat * 256 + imm.toNat))
  | .ld16s c g rd ra seg imm => some (c, tintWord g 0x1d (rd.toNat * 131072 + ra.toNat * 4096 + seg.toNat * 256 + imm.toNat))
  | .ld32s c g rd ra seg imm => some (c, tintWord g 0x1e (rd.toNat * 131072 + ra.toNat * 4096 + seg.toNat * 256 + imm.toNat))
  | .st8 c g rs ra seg imm => some (c, tintWord g 0x20 (rs.toNat * 131072 + ra.toNat * 4096 + seg.toNat * 256 + imm.toNat))
  | .st16 c g rs ra seg imm => some (c, tintWord g 0x21 (rs.toNat * 131072 + ra.toNat * 4096 + seg.toNat * 256 + imm.toNat))
  | .st32 c g rs ra seg imm => some (c, tintWord g 0x22 (rs.toNat * 131072 + ra.toNat * 4096 + seg.toNat * 256 + imm.toNat))
  | .st64 c g rs ra seg imm => some (c, tintWord g 0x23 (rs.toNat * 131072 + ra.toNat * 4096 + seg.toNat * 256 + imm.toNat))
  | .amoadd c g rd ra rb seg => some (c, tintWord g 0x24 (rd.toNat * 131072 + ra.toNat * 4096 + seg.toNat * 256 + rb.toNat * 8))
  | .amoswap c g rd ra rb seg => some (c, tintWord g 0x25 (rd.toNat * 131072 + ra.toNat * 4096 + seg.toNat * 256 + rb.toNat * 8))
  | .amocas c g rd ra rb seg => some (c, tintWord g 0x26 (rd.toNat * 131072 + ra.toNat * 4096 + seg.toNat * 256 + rb.toNat * 8))
  | .tintFence c g => some (c, tintWord g 0x27 (0))
  | .segn c g sd ss ra rb rights => some (c, tintWord g 0x28 (sd.toNat * 262144 + ss.toNat * 16384 + ra.toNat * 512 + rb.toNat * 16 + rights.toNat * 2))
  | .seglen c g rd seg => some (c, tintWord g 0x29 (rd.toNat * 131072 + seg.toNat))
  | .br c g imm => some (c, tintWord g 0x30 (imm.toNat))
  | .call c g imm => some (c, tintWord g 0x31 (imm.toNat))
  | .ret c g => some (c, tintWord g 0x32 (0))
  | .jr c g ra => some (c, tintWord g 0x33 (ra.toNat * 4096))
  | .callr c g ra => some (c, tintWord g 0x34 (ra.toNat * 4096))
  | .rpop c g rd => some (c, tintWord g 0x35 (rd.toNat * 131072))
  | .rpush c g ra => some (c, tintWord g 0x36 (ra.toNat * 4096))
  | .rsd c g rd => some (c, tintWord g 0x37 (rd.toNat * 131072))
  | .ecallSha256 c g => some (c, tintWord g 0x38 (1))
  | .ecallHmac c g => some (c, tintWord g 0x38 (2))
  | .ecallDecomp c g => some (c, tintWord g 0x38 (3))
  | .ecallStencil c g => some (c, tintWord g 0x38 (4))
  | .ecallNow c g => some (c, tintWord g 0x38 (5))
  | .tintEnd c g => some (c, tintWord g 0x39 (0))
  | .tintDelay c g ra => some (c, tintWord g 0x3a (ra.toNat * 4096))
  | .tintTrap c g code => some (c, tintWord g 0x3b (code.toNat))
  | _ => none

/-- Core c runs task ti, which is t, of program p. -/
def RunsOn (c ti : Nat) (t : Task) (p : Prog) (d : Dev) : Prop :=
  (d.core c).running = some ti ∧ d.task ti = some t ∧ tget d.progs t.prog = some p

/-- The word w at the task's pc uses nothing reserved and no engine call that Table 12-6 lacks. -/
def Legal (w : Nat) : Prop := tintReserved w = false ∧ (opcodeOf w = 0x38 → bits w 0 12 ≠ 0 ∧ bits w 0 12 ≤ 5)

/-- The instruction i stands at the pc of task ti on its core, with budget left and its guard true. -/
def Issues (i : Instr) (ti : Nat) (t : Task) (p : Prog) (d : Dev) : Prop :=
  ∃ c word w, tintOf i = some (c, word) ∧ RunsOn c ti t p d ∧ tintFetch t p = some w ∧ Legal w ∧ tintCanon w = word ∧ 1 ≤ t.budget ∧
    t.guard w = true

/-- The core of a tint instruction has issued now. -/
def issued (i : Instr) (d : Dev) : Dev :=
  match tintOf i with
  | some (c, _) => d.setCore c { (d.core c) with issuedAt := d.now }
  | none => d

/-- A task with one instruction less of its budget (R515). -/
def spend (t : Task) : Task := { t with budget := t.budget - 1 }

/-- The pc of the instruction that follows (R515). -/
def nextPc (t : Task) : Nat := (t.pc + 4) % 2 ^ 32

/-- The state in which task ti has become t' and its program p', at pc; nothing else differs but when its core last issued. -/
def goes (i : Instr) (ti prog : Nat) (t' : Task) (p' : Prog) (pc : Nat) (s : State) : State :=
  (withDev s ({ issued i s.dev with progs := tput (issued i s.dev).progs prog p' }.modTask ti fun _ => { t' with pc := pc }))

/-- Where i stands at the pc with budget left and its guard true, it completes: the task, with its budget spent, becomes f of it and goes on at
the instruction that follows; its program stays as it is. -/
def Completes (i : Instr) (f : Task → Task) : Prop :=
  ∀ (ti : Nat) (t : Task) (p : Prog) (s : State), Issues i ti t p s.dev →
    exec i s = .next (goes i ti t.prog (f (spend t)) p (nextPc t) s)

/-- The same where the next pc is `pc t p`, and under a condition on the task and its program. -/
def CompletesAt (i : Instr) (ok : Task → Prog → Prop) (f : Task → Prog → Task) (pc : Task → Prog → Nat) : Prop :=
  ∀ (ti : Nat) (t : Task) (p : Prog) (s : State), Issues i ti t p s.dev → ok t p →
    exec i s = .next (goes i ti t.prog (f (spend t) p) p (pc t p) s)

/-- Where i stands at the pc and the condition holds, the task ends with a trap of the cause, segment, offset and code (R531), and what the trap
releases follows. -/
def Traps (i : Instr) (ok : Task → Prog → Prop) (cause : Nat) (seg off code : Task → Nat) : Prop :=
  ∀ (ti : Nat) (t : Task) (p : Prog) (s : State), Issues i ti t p s.dev → ok t p →
    exec i s = .next (withDev s (((issued i s.dev).trapTask ti t cause (seg t) (off t) (code t)).settle))

/-- The offset a load or store of format M names: ra plus imm8 times the access size (Table 12-1). -/
def offM (ra : BitVec 5) (imm : BitVec 8) (size : Nat) (t : Task) : Nat :=
  (t.reg ra.toNat + imm.signExtend 64 * BitVec.ofNat 64 size).toNat

/-- The bytes at an offset of a segment, as a number. -/
def numAt (t : Task) (p : Prog) (seg off size : Nat) : Nat := fromLE (segRead t p seg off size)

/-- A load completes with f of the number in memory where R519 lets it; else it traps with the cause of the first check that fails. -/
def Loads (i : Instr) (rd ra : BitVec 5) (seg : BitVec 4) (imm : BitVec 8) (size : Nat) (f : Nat → Word64) : Prop :=
  CompletesAt i (fun t _ => segCheck t seg.toNat (offM ra imm size t) size size true false = none)
      (fun t p => t.setReg rd.toNat (f (numAt t p seg.toNat (offM ra imm size t) size))) (fun t _ => nextPc t) ∧
    ∀ cause, Traps i (fun t _ => segCheck t seg.toNat (offM ra imm size t) size size true false = some cause) cause (fun _ => seg.toNat)
      (offM ra imm size) (fun _ => 0)

/-- A store completes with the low bytes of rs in memory where R519 lets it; else it traps and changes no byte. -/
def Stores (i : Instr) (rs ra : BitVec 5) (seg : BitVec 4) (imm : BitVec 8) (size : Nat) : Prop :=
  (∀ (ti : Nat) (t : Task) (p : Prog) (s : State), Issues i ti t p s.dev →
      segCheck t seg.toNat (offM ra imm size t) size size false true = none →
      exec i s = .next (goes i ti t.prog (segWrite (spend t) p seg.toNat (offM ra imm size t) (toLE size (t.reg rs.toNat).toNat)).1
        (segWrite (spend t) p seg.toNat (offM ra imm size t) (toLE size (t.reg rs.toNat).toNat)).2 (nextPc t) s)) ∧
    ∀ cause, Traps i (fun t _ => segCheck t seg.toNat (offM ra imm size t) size size false true = some cause) cause (fun _ => seg.toNat)
      (offM ra imm size) (fun _ => 0)

/-- An atomic on the 64-bit word at offset ra completes where R519 lets it: f of the word found is stored, if any, and rd gets the word
found; else it traps. -/
def Atomic (i : Instr) (rd ra : BitVec 5) (seg : BitVec 4) (f : Task → Word64 → Option Word64) : Prop :=
  (∀ (ti : Nat) (t : Task) (p : Prog) (s : State), Issues i ti t p s.dev →
      segCheck t seg.toNat (t.reg ra.toNat).toNat 8 8 true true = none →
      let old := BitVec.ofNat 64 (numAt t p seg.toNat (t.reg ra.toNat).toNat 8)
      let x := match f t old with
        | some v => segWrite (spend t) p seg.toNat (t.reg ra.toNat).toNat (toLE 8 v.toNat)
        | none => (spend t, p)
      exec i s = .next (goes i ti t.prog (x.1.setReg rd.toNat old) x.2 (nextPc t) s)) ∧
    ∀ cause, Traps i (fun t _ => segCheck t seg.toNat (t.reg ra.toNat).toNat 8 8 true true = some cause) cause (fun _ => seg.toNat)
      (fun t => (t.reg ra.toNat).toNat) (fun _ => 0)

/-- The state in which the task of an engine call waits for its engine, its core free for another (R527). -/
def calls (i : Instr) (c ti fn : Nat) (t : Task) (s : State) : State :=
  (withDev s ((((issued i s.dev).modTask ti fun _ =>
      { spend t with pc := nextPc t, state := .ecall, call := some fn, ret := none }).coreIdle c).schedRegs))

/-- Every segment register of a task lies in the memory behind it. -/
def Fits (t : Task) (p : Prog) : Prop := ∀ n, (t.seg n).base + (t.seg n).limit ≤ (tmemOf t p (t.seg n).region).length

/-- Segment a is b or a part of it: the same memory and tag, no wider, no right that b lacks. -/
def Within (a b : TSeg) : Prop :=
  a.region = b.region ∧ a.tag = b.tag ∧ b.base ≤ a.base ∧ a.base + a.limit ≤ b.base + b.limit ∧ (a.r → b.r) ∧ (a.w → b.w) ∧ (a.x → b.x)

/-- What an instruction that goes on leaves of a task and its program: segments no wider than before, in memories as long as before; code and
input unchanged; the tenant unchanged. -/
def Keeps (t : Task) (p : Prog) (t' : Task) (p' : Prog) : Prop :=
  Fits t' p' ∧ (∀ n, n < 16 → ∃ m, m < 16 ∧ Within (t'.seg n) (t.seg m)) ∧ (t'.seg 0 = t.seg 0) ∧ t'.tenant = t.tenant ∧
    p'.code = p.code ∧ t'.input = t.input ∧ t'.stack.length = t.stack.length ∧ t'.output.length = t.output.length ∧
    p'.state.length = p.state.length

end Sys2Proof.Claims

/-- Table 12-2: ALU, ADDI, ANDI, ORI, XORI, SHLI, SHRI, SRAI, MOVZ and MOVK1 to MOVK3 write their result to rd and change nothing else of the task but
its budget and pc; a write to r0 is ignored, and r0 reads as zero (R511). -/
def Obligations.TintArithmetic : Prop :=
  (∀ (c : Nat) (g : BitVec 4) (rd ra rb : BitVec 5) (fn : BitVec 7), Completes (.alu c g rd ra rb fn) fun t => t.setReg rd.toNat (aluFn fn.toNat (t.reg ra.toNat) (t.reg rb.toNat))) ∧
  (∀ (c : Nat) (g : BitVec 4) (rd ra : BitVec 5) (imm : BitVec 12), Completes (.addi c g rd ra imm) fun t => t.setReg rd.toNat (t.reg ra.toNat + imm.signExtend 64)) ∧
  (∀ (c : Nat) (g : BitVec 4) (rd ra : BitVec 5) (imm : BitVec 12), Completes (.andi c g rd ra imm) fun t => t.setReg rd.toNat (t.reg ra.toNat &&& imm.signExtend 64)) ∧
  (∀ (c : Nat) (g : BitVec 4) (rd ra : BitVec 5) (imm : BitVec 12), Completes (.ori c g rd ra imm) fun t => t.setReg rd.toNat (t.reg ra.toNat ||| imm.signExtend 64)) ∧
  (∀ (c : Nat) (g : BitVec 4) (rd ra : BitVec 5) (imm : BitVec 12), Completes (.xori c g rd ra imm) fun t => t.setReg rd.toNat (t.reg ra.toNat ^^^ imm.signExtend 64)) ∧
  (∀ (c : Nat) (g : BitVec 4) (rd ra : BitVec 5) (imm : BitVec 12), Completes (.shli c g rd ra imm) fun t => t.setReg rd.toNat (t.reg ra.toNat <<< (imm.toNat % 64))) ∧
  (∀ (c : Nat) (g : BitVec 4) (rd ra : BitVec 5) (imm : BitVec 12), Completes (.shri c g rd ra imm) fun t => t.setReg rd.toNat (t.reg ra.toNat >>> (imm.toNat % 64))) ∧
  (∀ (c : Nat) (g : BitVec 4) (rd ra : BitVec 5) (imm : BitVec 12), Completes (.srai c g rd ra imm) fun t => t.setReg rd.toNat ((t.reg ra.toNat).sshiftRight (imm.toNat % 64))) ∧
  (∀ (c : Nat) (g : BitVec 4) (rd : BitVec 5) (imm : BitVec 16), Completes (.movz c g rd imm) fun t => t.setReg rd.toNat (imm.setWidth 64)) ∧
  (∀ (c : Nat) (g : BitVec 4) (rd : BitVec 5) (imm : BitVec 16), Completes (.movk1 c g rd imm) fun t => t.setReg rd.toNat (BitVec.ofNat 64 (setBits (t.reg rd.toNat).toNat 16 16 imm.toNat))) ∧
  (∀ (c : Nat) (g : BitVec 4) (rd : BitVec 5) (imm : BitVec 16), Completes (.movk2 c g rd imm) fun t => t.setReg rd.toNat (BitVec.ofNat 64 (setBits (t.reg rd.toNat).toNat 32 16 imm.toNat))) ∧
  (∀ (c : Nat) (g : BitVec 4) (rd : BitVec 5) (imm : BitVec 16), Completes (.movk3 c g rd imm) fun t => t.setReg rd.toNat (BitVec.ofNat 64 (setBits (t.reg rd.toNat).toNat 48 16 imm.toNat))) ∧
  (∀ (t : Task) (v : Word64), t.setReg 0 v = t ∧ t.reg 0 = 0 ∧ (∀ r q, r ≠ 0 → r < t.regs.length → (t.setReg r v).reg q = if q = r then v else t.reg q))

/-- Table 12-2: CMP, CMPI and PSET write a predicate; SEGLEN and RSD write rd; FENCE completes and changes nothing, since every store is visible
at once. A write to p0 is ignored, and p0 reads as true (R511). -/
def Obligations.TintPredicates : Prop :=
  (∀ (c : Nat) (g : BitVec 4) (pd : BitVec 3) (cond : BitVec 4) (ra rb : BitVec 5), Completes (.cmp c g pd cond ra rb) fun t => t.setPred pd.toNat (condFn cond.toNat (t.reg ra.toNat) (t.reg rb.toNat))) ∧
  (∀ (c : Nat) (g : BitVec 4) (pd : BitVec 3) (cond : BitVec 4) (ra : BitVec 5) (imm : BitVec 10), Completes (.cmpi c g pd cond ra imm) fun t => t.setPred pd.toNat (condFn cond.toNat (t.reg ra.toNat) (imm.signExtend 64))) ∧
  (∀ (c : Nat) (g : BitVec 4) (pd pa pb : BitVec 3) (lop : BitVec 2) (ia ib : Bool), Completes (.pset c g pd pa pb lop ia ib) fun t => t.setPred pd.toNat (match lop.toNat with
    | 0 => (t.pred pa.toNat != ia) && (t.pred pb.toNat != ib)
    | 1 => (t.pred pa.toNat != ia) || (t.pred pb.toNat != ib)
    | _ => (t.pred pa.toNat != ia) != (t.pred pb.toNat != ib))) ∧
  (∀ (c : Nat) (g : BitVec 4) (rd : BitVec 5) (seg : BitVec 4), Completes (.seglen c g rd seg) fun t => t.setReg rd.toNat (BitVec.ofNat 64 (t.seg seg.toNat).limit)) ∧
  (∀ (c : Nat) (g : BitVec 4) (rd : BitVec 5), Completes (.rsd c g rd) fun t => t.setReg rd.toNat (BitVec.ofNat 64 t.rstack.length)) ∧
  (∀ (c : Nat) (g : BitVec 4), Completes (.tintFence c g) fun t => t) ∧
  (∀ (t : Task) (v : Bool), t.setPred 0 v = t ∧ t.pred 0 = true ∧ ∀ q r, q ≠ 0 → q < 8 → r < 8 → (t.setPred q v).pred r = if r = q then v else t.pred r)

/-- Table 12-2 and R519: LD8U, LD16U, LD32U, LD64, LD8S, LD16S and LD32S write the segment bytes, zero-extended or sign-extended, to rd where every
check of R519 passes, and trap with the cause of the first that fails otherwise. -/
def Obligations.TintLoads : Prop :=
  (∀ (c : Nat) (g : BitVec 4) (rd ra : BitVec 5) (seg : BitVec 4) (imm : BitVec 8), Loads (.ld8u c g rd ra seg imm) rd ra seg imm 1 fun n => BitVec.ofNat 64 n) ∧
  (∀ (c : Nat) (g : BitVec 4) (rd ra : BitVec 5) (seg : BitVec 4) (imm : BitVec 8), Loads (.ld16u c g rd ra seg imm) rd ra seg imm 2 fun n => BitVec.ofNat 64 n) ∧
  (∀ (c : Nat) (g : BitVec 4) (rd ra : BitVec 5) (seg : BitVec 4) (imm : BitVec 8), Loads (.ld32u c g rd ra seg imm) rd ra seg imm 4 fun n => BitVec.ofNat 64 n) ∧
  (∀ (c : Nat) (g : BitVec 4) (rd ra : BitVec 5) (seg : BitVec 4) (imm : BitVec 8), Loads (.ld64 c g rd ra seg imm) rd ra seg imm 8 fun n => BitVec.ofNat 64 n) ∧
  (∀ (c : Nat) (g : BitVec 4) (rd ra : BitVec 5) (seg : BitVec 4) (imm : BitVec 8), Loads (.ld8s c g rd ra seg imm) rd ra seg imm 1 fun n => BitVec.ofInt 64 (signed 8 n)) ∧
  (∀ (c : Nat) (g : BitVec 4) (rd ra : BitVec 5) (seg : BitVec 4) (imm : BitVec 8), Loads (.ld16s c g rd ra seg imm) rd ra seg imm 2 fun n => BitVec.ofInt 64 (signed 16 n)) ∧
  (∀ (c : Nat) (g : BitVec 4) (rd ra : BitVec 5) (seg : BitVec 4) (imm : BitVec 8), Loads (.ld32s c g rd ra seg imm) rd ra seg imm 4 fun n => BitVec.ofInt 64 (signed 32 n))

/-- Table 12-2 and R519: ST8, ST16, ST32 and ST64 store the low bytes of rs, AMOADD, AMOSWAP and AMOCAS exchange one 64-bit word, where every check of
R519 passes; otherwise each traps. -/
def Obligations.TintStores : Prop :=
  (∀ (c : Nat) (g : BitVec 4) (rs ra : BitVec 5) (seg : BitVec 4) (imm : BitVec 8), Stores (.st8 c g rs ra seg imm) rs ra seg imm 1) ∧
  (∀ (c : Nat) (g : BitVec 4) (rs ra : BitVec 5) (seg : BitVec 4) (imm : BitVec 8), Stores (.st16 c g rs ra seg imm) rs ra seg imm 2) ∧
  (∀ (c : Nat) (g : BitVec 4) (rs ra : BitVec 5) (seg : BitVec 4) (imm : BitVec 8), Stores (.st32 c g rs ra seg imm) rs ra seg imm 4) ∧
  (∀ (c : Nat) (g : BitVec 4) (rs ra : BitVec 5) (seg : BitVec 4) (imm : BitVec 8), Stores (.st64 c g rs ra seg imm) rs ra seg imm 8) ∧
  (∀ (c : Nat) (g : BitVec 4) (rd ra rb : BitVec 5) (seg : BitVec 4), Atomic (.amoadd c g rd ra rb seg) rd ra seg fun t v => some (v + t.reg rb.toNat)) ∧
  (∀ (c : Nat) (g : BitVec 4) (rd ra rb : BitVec 5) (seg : BitVec 4), Atomic (.amoswap c g rd ra rb seg) rd ra seg fun t _ => some (t.reg rb.toNat)) ∧
  (∀ (c : Nat) (g : BitVec 4) (rd ra rb : BitVec 5) (seg : BitVec 4), Atomic (.amocas c g rd ra rb seg) rd ra seg fun t v => if v = t.reg rd.toNat then some (t.reg rb.toNat) else none)

/-- R521: SEGN sets sd to the sub-range of ss that starts at offset ra with length rb, with the rights of ss that the rights field keeps and the tag of
ss; it traps SEG_LIMIT where the range exceeds the limit of ss, else SEG_RIGHTS where sd is s0. -/
def Obligations.TintSegn : Prop :=
  (∀ (c : Nat) (g : BitVec 4) (sd ss : BitVec 4) (ra rb : BitVec 5) (rights : BitVec 3), CompletesAt (.segn c g sd ss ra rb rights) (fun t _ => (t.reg ra.toNat).toNat + (t.reg rb.toNat).toNat ≤ (t.seg ss.toNat).limit ∧ sd ≠ 0)
      (fun t _ => { t with segs := t.segs.set sd.toNat { (t.seg ss.toNat) with
        base := (t.seg ss.toNat).base + (t.reg ra.toNat).toNat, limit := (t.reg rb.toNat).toNat
        r := (t.seg ss.toNat).r && rights.getLsbD 2, w := (t.seg ss.toNat).w && rights.getLsbD 1, x := (t.seg ss.toNat).x && rights.getLsbD 0 } })
      (fun t _ => nextPc t)) ∧
  (∀ (c : Nat) (g : BitVec 4) (sd ss : BitVec 4) (ra rb : BitVec 5) (rights : BitVec 3), Traps (.segn c g sd ss ra rb rights) (fun t _ => (t.seg ss.toNat).limit < (t.reg ra.toNat).toNat + (t.reg rb.toNat).toNat) 0x3 (fun _ => ss.toNat)
      (fun t => (t.reg ra.toNat).toNat) fun _ => 0) ∧
  (∀ (c : Nat) (g : BitVec 4) (sd ss : BitVec 4) (ra rb : BitVec 5) (rights : BitVec 3), Traps (.segn c g sd ss ra rb rights) (fun t _ => (t.reg ra.toNat).toNat + (t.reg rb.toNat).toNat ≤ (t.seg ss.toNat).limit ∧ sd = 0) 0x4 (fun _ => ss.toNat)
      (fun t => (t.reg ra.toNat).toNat) fun _ => 0)

/-- Table 12-2, R523 and R524: BR and JR go to their target; CALL, CALLR and RPUSH push onto the 16-entry return stack, discarding the oldest entry where
it is full and RS_WRAP is set, and trapping RS_OVER where it is clear; RET and RPOP take the newest entry and trap RS_UNDER on an empty stack. -/
def Obligations.TintFlow : Prop :=
  (∀ (c : Nat) (g : BitVec 4) (imm : BitVec 22), CompletesAt (.br c g imm) (fun _ _ => True) (fun t _ => t) (fun t _ => branchTo t imm)) ∧
  (∀ (c : Nat) (g : BitVec 4) (ra : BitVec 5), CompletesAt (.jr c g ra) (fun _ _ => True) (fun t _ => t) (fun t _ => (t.reg ra.toNat).toNat % 2 ^ 32)) ∧
  (∀ (c : Nat) (g : BitVec 4) (imm : BitVec 22), CompletesAt (.call c g imm) (fun t _ => t.rstack.length < 16) (fun t _ => { t with rstack := BitVec.ofNat 64 (t.pc + 4) :: t.rstack }) (fun t _ => branchTo t imm)) ∧
  (∀ (c : Nat) (g : BitVec 4) (imm : BitVec 22), CompletesAt (.call c g imm) (fun t p => 16 ≤ t.rstack.length ∧ p.wraps.getD t.entry false = true) (fun t _ => { t with rstack := BitVec.ofNat 64 (t.pc + 4) :: t.rstack.take 15 }) (fun t _ => branchTo t imm)) ∧
  (∀ (c : Nat) (g : BitVec 4) (imm : BitVec 22), Traps (.call c g imm) (fun t p => 16 ≤ t.rstack.length ∧ p.wraps.getD t.entry false = false) 0x6 (fun _ => 0) (fun _ => 0) fun _ => 0) ∧
  (∀ (c : Nat) (g : BitVec 4) (ra : BitVec 5), CompletesAt (.callr c g ra) (fun t _ => t.rstack.length < 16) (fun t _ => { t with rstack := BitVec.ofNat 64 (t.pc + 4) :: t.rstack }) (fun t _ => (t.reg ra.toNat).toNat % 2 ^ 32)) ∧
  (∀ (c : Nat) (g : BitVec 4) (ra : BitVec 5), CompletesAt (.callr c g ra) (fun t p => 16 ≤ t.rstack.length ∧ p.wraps.getD t.entry false = true) (fun t _ => { t with rstack := BitVec.ofNat 64 (t.pc + 4) :: t.rstack.take 15 }) (fun t _ => (t.reg ra.toNat).toNat % 2 ^ 32)) ∧
  (∀ (c : Nat) (g : BitVec 4) (ra : BitVec 5), Traps (.callr c g ra) (fun t p => 16 ≤ t.rstack.length ∧ p.wraps.getD t.entry false = false) 0x6 (fun _ => 0) (fun _ => 0) fun _ => 0) ∧
  (∀ (c : Nat) (g : BitVec 4) (ra : BitVec 5), CompletesAt (.rpush c g ra) (fun t _ => t.rstack.length < 16) (fun t _ => { t with rstack := t.reg ra.toNat :: t.rstack }) (fun t _ => nextPc t)) ∧
  (∀ (c : Nat) (g : BitVec 4) (ra : BitVec 5), CompletesAt (.rpush c g ra) (fun t p => 16 ≤ t.rstack.length ∧ p.wraps.getD t.entry false = true) (fun t _ => { t with rstack := t.reg ra.toNat :: t.rstack.take 15 }) (fun t _ => nextPc t)) ∧
  (∀ (c : Nat) (g : BitVec 4) (ra : BitVec 5), Traps (.rpush c g ra) (fun t p => 16 ≤ t.rstack.length ∧ p.wraps.getD t.entry false = false) 0x6 (fun _ => 0) (fun _ => 0) fun _ => 0) ∧
  (∀ (c : Nat) (g : BitVec 4), CompletesAt (.ret c g) (fun t _ => t.rstack ≠ []) (fun t _ => { t with rstack := t.rstack.tail }) (fun t _ => (t.rstack.headD 0).toNat % 2 ^ 32)) ∧
  (∀ (c : Nat) (g : BitVec 4), Traps (.ret c g) (fun t _ => t.rstack = []) 0x7 (fun _ => 0) (fun _ => 0) fun _ => 0) ∧
  (∀ (c : Nat) (g : BitVec 4) (rd : BitVec 5), CompletesAt (.rpop c g rd) (fun t _ => t.rstack ≠ []) (fun t _ => { t with rstack := t.rstack.tail }.setReg rd.toNat (t.rstack.headD 0)) (fun t _ => nextPc t)) ∧
  (∀ (c : Nat) (g : BitVec 4) (rd : BitVec 5), Traps (.rpop c g rd) (fun t _ => t.rstack = []) 0x7 (fun _ => 0) (fun _ => 0) fun _ => 0)

/-- Table 12-6, R527 and R530: ECALL SHA256, HMAC and DECOMP with lengths in range and operands that R519 allows leave the task waiting for its engine;
STENCIL and NOW go on with r1 and r2; lengths out of range trap ECALL; END ends the task, DELAY parks it for min(ra, 1,000,000) µs, TRAP traps USER. -/
def Obligations.TintCalls : Prop :=
  (∀ (c : Nat) (g : BitVec 4) (ti : Nat) (t : Task) (p : Prog) (s : State), Issues (.ecallSha256 c g) ti t p s.dev →
    t.num 5 ≤ 262144 ∧ segCheck t (t.segReg 3) (t.num 4) (t.num 5) 1 true false = none ∧ segCheck t (t.segReg 6) (t.num 7) 32 1 false true = none →
    exec (.ecallSha256 c g) s = .next (calls (.ecallSha256 c g) c ti 1 t s)) ∧
  (∀ (c : Nat) (g : BitVec 4) (ti : Nat) (t : Task) (p : Prog) (s : State), Issues (.ecallHmac c g) ti t p s.dev →
    t.num 5 ≤ 262144 ∧ 1 ≤ t.num 10 ∧ t.num 10 ≤ 64 ∧ segCheck t (t.segReg 3) (t.num 4) (t.num 5) 1 true false = none ∧ segCheck t (t.segReg 8) (t.num 9) (t.num 10) 1 true false = none ∧ segCheck t (t.segReg 6) (t.num 7) 32 1 false true = none →
    exec (.ecallHmac c g) s = .next (calls (.ecallHmac c g) c ti 2 t s)) ∧
  (∀ (c : Nat) (g : BitVec 4) (ti : Nat) (t : Task) (p : Prog) (s : State), Issues (.ecallDecomp c g) ti t p s.dev →
    1 ≤ t.num 5 ∧ t.num 5 ≤ 262144 ∧ 1 ≤ t.num 8 ∧ t.num 8 ≤ 262144 ∧ segCheck t (t.segReg 3) (t.num 4) (t.num 5) 1 true false = none ∧ segCheck t (t.segReg 6) (t.num 7) (t.num 8) 1 false true = none →
    exec (.ecallDecomp c g) s = .next (calls (.ecallDecomp c g) c ti 3 t s)) ∧
  (∀ (c : Nat) (g : BitVec 4), Traps (.ecallSha256 c g) (fun t _ => 262144 < t.num 5) 0x9 (fun _ => 0) (fun _ => 0) fun _ => 0) ∧
  (∀ (c : Nat) (g : BitVec 4), Traps (.ecallHmac c g) (fun t _ => 262144 < t.num 5 ∨ t.num 10 < 1 ∨ 64 < t.num 10) 0x9 (fun _ => 0) (fun _ => 0) fun _ => 0) ∧
  (∀ (c : Nat) (g : BitVec 4), Traps (.ecallDecomp c g) (fun t _ => t.num 5 < 1 ∨ 262144 < t.num 5 ∨ t.num 8 < 1 ∨ 262144 < t.num 8) 0x9 (fun _ => 0) (fun _ => 0) fun _ => 0) ∧
  (∀ (c : Nat) (g : BitVec 4) (ti : Nat) (t : Task) (p : Prog) (s : State), Issues (.ecallStencil c g) ti t p s.dev →
    segCheck t (t.segReg 3) (t.num 4) 32 1 true false = none →
    exec (.ecallStencil c g) s = .next (withDev s ((issued (.ecallStencil c g) s.dev).modTask ti fun _ =>
      let e := (issued (.ecallStencil c g) s.dev).stencilCall t.tenant (BitVec.ofNat 256 (numAt t p (t.segReg 3) (t.num 4) 32))
      ({ spend t with pc := nextPc t }.setReg 1 (BitVec.ofNat 64 e.1)).setReg 2 (BitVec.ofNat 64 e.2)))) ∧
  (∀ (c : Nat) (g : BitVec 4) (ti : Nat) (t : Task) (p : Prog) (s : State), Issues (.ecallNow c g) ti t p s.dev →
    exec (.ecallNow c g) s = .next (withDev s ((issued (.ecallNow c g) s.dev).modTask ti fun _ =>
      { spend t with pc := nextPc t }.setReg 1 (BitVec.ofNat 64 (stampLow s.dev.stamp))))) ∧
  (∀ (c : Nat) (g : BitVec 4) (ti : Nat) (t : Task) (p : Prog) (s : State), Issues (.tintEnd c g) ti t p s.dev →
    exec (.tintEnd c g) s = .next (withDev s (((issued (.tintEnd c g) s.dev).endTask ti (spend t)).settle))) ∧
  (∀ (c : Nat) (g : BitVec 4) (ra : BitVec 5) (ti : Nat) (t : Task) (p : Prog) (s : State), Issues (.tintDelay c g ra) ti t p s.dev →
    let us := Nat.min (t.num ra.toNat) 1000000
    let d := (issued (.tintDelay c g ra) s.dev).modTask ti fun _ =>
      { spend t with pc := nextPc t, state := .delayed, wake := s.dev.now + us * 1000 }
    exec (.tintDelay c g ra) s = .next (withDev s (
      if us = 0 then ((d.coreIdle c).putReady c ti true).schedRegs
      else ((d.setCore c { (d.core c) with delay := delayPut (d.core c).delay (s.dev.now + us * 1000, ti) }).coreIdle c).schedRegs))) ∧
  (∀ (c : Nat) (g : BitVec 4) (code : BitVec 12), Traps (.tintTrap c g code) (fun _ _ => True) 0xC (fun _ => 0) (fun _ => 0) fun _ => code.toNat)

/-- R515 and R516, for all 48 tint instructions: one whose guard is false has no effect beyond the budget and goes on at the instruction that
follows; before any instruction, a pc that s0 does not hold traps FETCH, a reserved opcode, FN, cond or lop traps ILLEGAL whatever the guard, and a
spent budget traps BUDGET; an engine call that Table 12-6 lacks traps ECALL (R528). -/
def Obligations.TintIssue : Prop :=
  ∀ (i : Instr) (c word ti : Nat) (t : Task) (p : Prog) (s : State), tintOf i = some (c, word) → RunsOn c ti t p s.dev →
    (tintFetch t p = none →
      exec i s = .next (withDev s (((issued i s.dev).trapTask ti t 0x2 0 0 0).settle))) ∧
    (∀ w, tintFetch t p = some w → tintReserved w = true →
      exec i s = .next (withDev s (((issued i s.dev).trapTask ti t 0x1 0 0 0).settle))) ∧
    (∀ w, tintFetch t p = some w → Legal w → tintCanon w = word → t.budget < 1 →
      exec i s = .next (withDev s (((issued i s.dev).trapTask ti t 0x8 0 0 0).settle))) ∧
    (∀ w, tintFetch t p = some w → Legal w → tintCanon w = word → 1 ≤ t.budget → t.guard w = false →
      exec i s = .next (goes i ti t.prog (spend t) p (nextPc t) s)) ∧
    (∀ w, tintFetch t p = some w → opcodeOf w = 0x38 → (bits w 0 12 = 0 ∨ 5 < bits w 0 12) → 1 ≤ t.budget → t.guard w = true →
      exec i s = .next (withDev s (((issued i s.dev).trapTask ti t 0x9 0 0 0).settle))) ∧
    (∀ w, tintFetch t p = some w → Legal w → tintCanon w ≠ word → exec i s = .next s)

/-- Invariant of the tint cores (R518 to R521): whatever tint instruction runs, a task whose segments lie in the memories behind them ends by a
trap or by END, or goes on with segments no wider than the ones it had, each with the tag of one it had; no instruction changes code or input, nor
the length of any memory. -/
def Obligations.SegmentsNeverWiden : Prop :=
  ∀ (i : Instr) (c word ti : Nat) (t : Task) (p : Prog) (s s' : State), tintOf i = some (c, word) → RunsOn c ti t p s.dev → Fits t p →
    t.segs.length = 16 → exec i s = .next s' →
    s' = s ∨ (∃ cause seg off code, s'.dev = ((issued i s.dev).trapTask ti t cause seg off code).settle) ∨
      s'.dev = ((issued i s.dev).endTask ti (spend t)).settle ∨
      ∃ t' p', s'.dev.task ti = some t' ∧ tget s'.dev.progs t.prog = some p' ∧ Keeps t p t' p'

/-- What the ALU functions compute where R514 says it in words: sums, differences and products modulo 2^64, DIVU and REMU by zero, shifts by rb[5:0],
counts of zero. -/
def Obligations.AluCorners : Prop :=
  (∀ a b : Word64, aluFn 0x00 a b = BitVec.ofNat 64 (a.toNat + b.toNat) ∧
        aluFn 0x01 a b = BitVec.ofInt 64 ((a.toNat : Int) - b.toNat) ∧ aluFn 0x08 a b = BitVec.ofNat 64 (a.toNat * b.toNat)) ∧
    (∀ a : Word64, (aluFn 0x0A a 0).toNat = 2 ^ 64 - 1 ∧ aluFn 0x0B a 0 = a) ∧
    (∀ a b : Word64, aluFn 0x05 a b = a <<< (b &&& 63).toNat ∧ aluFn 0x06 a b = a >>> (b &&& 63).toNat ∧
      aluFn 0x07 a b = a.sshiftRight (b &&& 63).toNat) ∧
    (∀ b : Word64, aluFn 0x11 0 b = 64 ∧ aluFn 0x12 0 b = 64) ∧
    (∀ a b : Word64, b ≠ 0 → (aluFn 0x0A a b).toNat = a.toNat / b.toNat ∧ (aluFn 0x0B a b).toNat = a.toNat % b.toNat)

/-- Frame of a store (R519, R525): a store or atomic that completes changes, of the one memory behind its segment, the bytes it stores and no
other, and no byte of any other memory of the task and its program. -/
def Obligations.StoreFrame : Prop :=
  ∀ (t : Task) (p : Prog) (seg off : Nat) (b : Bytes), Fits t p → off + b.length ≤ (t.seg seg).limit →
    let x := segWrite t p seg off b
    (∀ region a, region ≤ 4 → (region = (t.seg seg).region → a < (t.seg seg).base + off ∨ (t.seg seg).base + off + b.length ≤ a) →
      (tmemOf x.1 x.2 region)[a]? = (tmemOf t p region)[a]?) ∧
    ((t.seg seg).region = 1 ∨ (t.seg seg).region = 3 ∨ (t.seg seg).region = 4 →
      ∀ k, k < b.length → (tmemOf x.1 x.2 (t.seg seg).region)[(t.seg seg).base + off + k]? = b[k]?) ∧
    x.1.regs = t.regs ∧ x.1.preds = t.preds ∧ x.1.segs = t.segs ∧ x.1.rstack = t.rstack ∧ x.1.pc = t.pc ∧ x.1.budget = t.budget

namespace Sys2Proof.Claims

open Sys2Proof Sys2Proof.Machine

/-! ### Frames (chapters 02 and 03) -/

/-- The part as a frame finds it: a congestion mark answered (R690), and the part woken (Table 20-1). -/
def woken (m : Msg) (d : Dev) : Dev := d.frameWakes m.net

/-- The part once a frame has taken its place in queue k, whose record is q: its sequence consumed and its tag in the history (R67, R71). -/
def taken (m : Msg) (k : Nat) (_q : Queue) (d : Dev) : Dev :=
  (woken m d).modQueue k fun x =>
    { x with nextSeq := (x.nextSeq + 1) % 2 ^ 32, tags := ((m.tag.toNat, x.nextSeq) :: x.tags).take 4097 }

/-- The record of a command that frame m of opcode op starts on queue k of tenant record t. -/
def recordOf (op : Op) (m : Msg) (k : Nat) (q : Queue) (t : Tenant) (d : Dev) : Cmd :=
  (taken m k q d).newCmd op m (d.rxOf op.value m) k q.nextSeq t.inc

/-- The number of that command. -/
def idOf (m : Msg) (k : Nat) (q : Queue) (d : Dev) : Nat := (taken m k q d).nextCmd

/-- The part with the command record filed: PRIO clamped (R90), its class taken (R180) and noted on the queue pair (R239), and what the opcode
takes at its parse. -/
def filed (op : Op) (m : Msg) (k : Nat) (q : Queue) (t : Tenant) (d : Dev) : Dev :=
  let a := taken m k q d
  let id := idOf m k q d
  let c := recordOf op m k q t d
  let b := { a with nextCmd := id + 1, cmds := tput a.cmds id c }.clampFrame id t.prioCeil
  let r := match c.streamId with
    | some i => b.streamClass i c.length
    | none => (b, Claim.G)
  ((r.1.modCmd id fun c => { c with claim := r.2 }).modQp c.qpn fun p => { p with classes := (r.2 :: p.classes).take 64 }).atParse id

/-- The part at the point where the command passes step 4: its tokens taken (R600), its space reserved (R357), committed unless it moves sectors
or is SNAP_CREATE or CLONE_CREATE (R44). -/
def passed (op : Op) (m : Msg) (k : Nat) (q : Queue) (t : Tenant) (d : Dev) : Dev :=
  let id := idOf m k q d
  let a := (filed op m k q t d).takeShare id
  match tget a.cmds id with
  | none => a
  | some c => (a.reserve id c).modCmd id fun x =>
      { x with stage := .exec, hold := .none, committed := !(c.op.edits || decide (c.op = .read) || decide (c.op = .snapCreate) || decide (c.op = .cloneCreate)) }

/-- Frame m of opcode op reaches queue k, whose record is q, of the tenant whose record is t; passes checks 1 to 14 of Table 2-7 and the comparison of
lengths; and nothing holds it or turns it away at step 4. Its descriptors are in the frame. -/
def Passes (op : Op) (m : Msg) (k : Nat) (q : Queue) (t : Tenant) (d : Dev) : Prop :=
  d.doorOf m = .queue k false ∧ tget (woken m d).queues k = some q ∧ tget (woken m d).tenants (k / 16) = some t ∧
  frameTruncated m = false ∧ m.seq.toNat = q.nextSeq ∧ m.queue.toNat = k % 16 ∧ t.life = .on ∧ (op.manager = true → k / 16 = 0) ∧
  (taken m k q d).tagBusy k m.tag.toNat = false ∧
  ((taken m k q d).fenced = true → op = .regRead ∨ op = .eventRead) ∧
  (taken m k q d).check (idOf m k q d) (recordOf op m k q t d) = none ∧ (recordOf op m k q t d).short = false ∧
  (∃ c, tget (filed op m k q t d).cmds (idOf m k q d) = some c ∧ c.stage = .gate ∧
    (filed op m k q t d).gateWhy (idOf m k q d) c = .none) ∧
  ∃ c, tget ((filed op m k q t d).takeShare (idOf m k q d)).cmds (idOf m k q d) = some c ∧ c.op = op ∧ c.msg = m ∧
    (if op.usesV then ((filed op m k q t d).takeShare (idOf m k q d)).badHandle c.tenant m.volume.toNat else none) = none ∧
    ((filed op m k q t d).takeShare (idOf m k q d)).gateCode c = none ∧ m.dcount.toNat ≤ 16

/-- A frame of opcode op that passes, in whose record c on the part as it then stands `ok` holds, has the effect f there; what follows by itself
follows. -/
def Runs (i : Msg → Instr) (op : Op) (ok : Dev → Nat → Cmd → Prop) (f : Dev → Nat → Cmd → Dev) : Prop :=
  ∀ (m : Msg) (k : Nat) (q : Queue) (t : Tenant) (c : Cmd) (s : State), Passes op m k q t s.dev →
    tget (passed op m k q t s.dev).cmds (idOf m k q s.dev) = some c → ok (passed op m k q t s.dev) (idOf m k q s.dev) c →
    exec (i m) s = .next (withDev s ((f (passed op m k q t s.dev) (idOf m k q s.dev) c).settle))

/-- Frame m of opcode op reaches queue k, whose record is q, of the tenant whose record is t, and passes checks 1 to 8 of Table 2-7 (R246). -/
def Reaches (op : Op) (m : Msg) (k : Nat) (q : Queue) (t : Tenant) (d : Dev) : Prop :=
  d.doorOf m = .queue k false ∧ tget (woken m d).queues k = some q ∧ tget (woken m d).tenants (k / 16) = some t ∧
  frameTruncated m = false ∧ m.seq.toNat = q.nextSeq ∧ m.queue.toNat = k % 16 ∧ t.life = .on ∧ (op.manager = true → k / 16 = 0) ∧
  (taken m k q d).tagBusy k m.tag.toNat = false ∧
  ((taken m k q d).fenced = true → op = .regRead ∨ op = .eventRead)

/-- Checks 9 to 12, and the handles of R144, find nothing wrong with command c on part d. -/
def Sound (d : Dev) (c : Cmd) : Prop :=
  (c.op.usesV = true → d.badHandle c.tenant c.msg.volume.toNat = none) ∧ (c.op.usesS = true → d.streamValid c = true) ∧ c.lengthOk = true ∧
  d.rangeOk c = true ∧ c.descsOk = true ∧ ¬(c.op.usesV = true ∧ c.snap.isSome = true ∧ c.op.onSnapshot.isSome = true)

/-- A frame of opcode op that is sound up to check 12, and of whose command `ok` holds, completes with a code at check 13 and starts nothing. -/
def TurnedAway (i : Msg → Instr) (op : Op) (ok : Dev → Cmd → Prop) (code : Code) : Prop :=
  ∀ (m : Msg) (k : Nat) (q : Queue) (t : Tenant) (s : State), Reaches op m k q t s.dev → Sound (taken m k q s.dev) (recordOf op m k q t s.dev) →
    ok (taken m k q s.dev) (recordOf op m k q t s.dev) →
    exec (i m) s = .next (withDev s ((taken m k q s.dev).reply k m.tag.toNat q.nextSeq code 0 false false))

/-- No condition. -/
def always (_ : Dev) (_ : Nat) (_ : Cmd) : Prop := True

/-- The command completes with a code and RETVAL, nothing else done. -/
def ends (code : Code) (retval : Dev → Cmd → Nat) (d : Dev) (id : Nat) (c : Cmd) : Dev := d.endCmd id code 0 (retval d c)

/-- Grains of a command at the start of their path. -/
def freshGrains (c : Cmd) : Tbl Grain := c.grainRange.map fun g => (g, Grain.fresh [])

/-- The command an ABORT names: of its queue, by TAG and SEQ, its status not yet sent. -/
def target (d : Dev) (id : Nat) (c : Cmd) : Option (Nat × Cmd) :=
  d.cmds.find? fun e => decide (e.2.qkey = c.qkey) && decide (e.2.seq = c.msg.par 0x2C 4) && decide (e.2.tag = c.msg.par 0x28 2) && !e.2.sent &&
    decide (e.1 ≠ id)

/-- Whether the queue's history knows the TAG and SEQ an ABORT names, no more than 4,096 commands ago (R116). -/
def knownTarget (d : Dev) (c : Cmd) : Bool :=
  (match tget d.queues c.qkey with | some q => q.tags.contains (c.msg.par 0x28 2, c.msg.par 0x2C 4) | none => false) &&
    decide (1 ≤ (c.seq + 2 ^ 32 - c.msg.par 0x2C 4) % 2 ^ 32) && decide ((c.seq + 2 ^ 32 - c.msg.par 0x2C 4) % 2 ^ 32 ≤ 4096)

/-- The data of an opcode that carries data is asked for once it passes: one buffer for its first 256 KiB (R208). -/
def Fetches (i : Msg → Instr) (op : Op) : Prop :=
  Runs i op (fun _ _ c => ¬(c.descs.isEmpty ∧ 16 < c.msg.dcount.toNat)) fun d id c =>
    (d.modCmd id fun c => { c with stage := .buffers }).request (Nat.min 262144 (c.length - c.num 7 * 262144)) 1 c.claim c.tenant (.payload id)

/-- With its data whole in tile memory, the opcode has the effect f where `ok` holds. -/
def WithData (op : Op) (ok : Dev → Nat → Cmd → Prop) (f : Dev → Nat → Cmd → Dev) : Prop :=
  ∀ (d : Dev) (id : Nat) (c : Cmd), tget d.cmds id = some c → c.op = op →
    ok (d.modCmd id fun c => { c with stage := .exec }) id { c with stage := .exec } →
    d.runWhole id = f (d.modCmd id fun c => { c with stage := .exec }) id { c with stage := .exec }

end Sys2Proof.Claims

/-- What becomes of a frame that starts no command: on a tombstone it gets TENANT_RESET there (R610); where its queue or the receive queue is full it
gets an RNR NAK (R64); where no classification entry matches it is dropped and counted (R590); where the spoof check fails it is dropped and counted
(R605); a truncated message or one whose header CRC fails completes with UNTRUSTED set and consumes its sequence (R88); an undefined opcode completes
OPCODE_INVALID (R121). -/
def Obligations.FramesThatStartNothing : Prop :=
  (∀ (m : Msg) (op : BitVec 16) (t : Nat) (s : State), s.dev.doorOf m = .tomb t → frameTruncated m = false →
    exec (.tombstoneFrame m op) s = .next (withDev s (
      (woken m s.dev).tombReply m.net.qpn.toNat t m.tag.toNat m.seq.toNat .tenantReset false))) ∧
  (∀ (m : Msg) (op : BitVec 16) (s : State), s.dev.doorOf m = .nak →
    exec (.receiverNotReady m op) s = .next (withDev s ((s.dev.ceSeen m.net).emit (.rnrNak m.net.qpn.toNat minRnrTimer)))) ∧
  (∀ (m : Msg) (op : BitVec 16) (s : State), s.dev.doorOf m = .stray →
    exec (.unclassified m op) s = .next (withDev s (s.dev.bump STN_STAT_UNCLASSIFIED))) ∧
  (∀ (m : Msg) (op : BitVec 16) (t : Nat) (s : State), s.dev.doorOf m = .spoof t →
    exec (.spoofDrop m op) s = .next (withDev s (s.dev.spoofDrop t))) ∧
  (∀ (n : Net) (raw : Bytes) (k : Nat) (q : Queue) (t : Tenant) (code : Code) (s : State),
    s.dev.door n raw.length false = .queue k false →
    tget (s.dev.frameWakes n).queues k = some q → tget (s.dev.frameWakes n).tenants (k / 16) = some t →
    (code = .frameTruncated ∧ rawTruncated raw = true ∨ code = .headerCrc ∧ rawTruncated raw = false ∧ rawCrcOk raw = false) →
    let tag := if raw.length < 8 then 0 else le raw 6 2
    exec (.untrustedFrame n raw) s = .next (withDev s (
      ((((s.dev.frameWakes n).modQueue k fun x =>
          { x with nextSeq := (x.nextSeq + 1) % 2 ^ 32, tags := ((tag, x.nextSeq) :: x.tags).take 4097 }).modQueue k fun x =>
          { x with hcrcErr := satAt 0xFFFF (x.hcrcErr + 1) })).reply k tag q.nextSeq code 0 true false))) ∧
  (∀ (m : Msg) (op : BitVec 16) (k : Nat) (q : Queue) (t : Tenant) (s : State), opOf op.toNat = none → s.dev.doorOf m = .queue k false →
    tget (woken m s.dev).queues k = some q → tget (woken m s.dev).tenants (k / 16) = some t → frameTruncated m = false →
    m.seq.toNat = q.nextSeq → m.queue.toNat = k % 16 → t.life = .on →
    exec (.opcodeInvalid m op) s = .next (withDev s ((taken m k q s.dev).reply k m.tag.toNat q.nextSeq .opcodeInvalid 0 false false)))

/-- Checks 3 to 7 of Table 2-7, in their order, for every opcode: SEQ out of
turn, QUEUE that is not the bound one, a tenant that is not ON, a manager's opcode from another tenant, a TAG in use; each frame consumes its queue's
sequence and completes with the code of the first that fails. -/
def Obligations.ChecksInOrder : Prop :=
  ∀ (op : Op) (m : Msg) (k : Nat) (q : Queue) (t : Tenant) (d : Dev), d.doorOf m = .queue k false →
    tget (woken m d).queues k = some q → tget (woken m d).tenants (k / 16) = some t → frameTruncated m = false →
    (m.seq.toNat ≠ q.nextSeq → d.receive op m =
      ((taken m k q d).modQueue k fun q => { q with seqErr := satAt 0xFFFF (q.seqErr + 1) }).reply k m.tag.toNat q.nextSeq .sequenceInvalid 0 false false) ∧
    (m.seq.toNat = q.nextSeq → m.queue.toNat ≠ k % 16 →
      d.receive op m = (taken m k q d).reply k m.tag.toNat q.nextSeq .queueMismatch 0 false false) ∧
    (m.seq.toNat = q.nextSeq → m.queue.toNat = k % 16 → t.life ≠ .on →
      d.receive op m = (taken m k q d).reply k m.tag.toNat q.nextSeq .tenantNotOn 0 false false) ∧
    (m.seq.toNat = q.nextSeq → m.queue.toNat = k % 16 → t.life = .on → op.manager = true → k / 16 ≠ 0 →
      d.receive op m = (taken m k q d).reply k m.tag.toNat q.nextSeq .managerOnly 0 false false) ∧
    (m.seq.toNat = q.nextSeq → m.queue.toNat = k % 16 → t.life = .on → (op.manager = true → k / 16 = 0) →
      (taken m k q d).tagBusy k m.tag.toNat = true →
      d.receive op m = (taken m k q d).reply k m.tag.toNat q.nextSeq .tagInUse 0 false false)

/-- I/O family (Tables 3-3 and 3-4): NOP completes; READ, WRITE, WRITE_ZEROES, DISCARD and STRIP put their grains at the start of the path, under the
hazard tracker, a WRITE asking for the buffers of its first piece; FLUSH waits for the writes it took at its parse; ABORT ends its target ABORTED where
it has not committed, else is TOO_LATE or NOT_FOUND; GET_DEFERRED sends the tenant's oldest records, RETVAL telling how many, how many are left and how
many were lost. -/
def Obligations.IoOpcodes : Prop :=
  Runs .nop .nop always (ends .success fun _ _ => 0) ∧
  Runs .read .read always (fun d id c => (d.modCmd id fun x => { x with stage := .path, grains := freshGrains c }).hazard id) ∧
  Runs .write .write (fun _ _ c => c.grainRange ≠ []) (fun d id c => ((d.modCmd id fun x => { x with stage := .path, grains := freshGrains c }).hazard id).askPiece id 0) ∧
  Runs .writeZeroes .writeZeroes (fun _ _ c => c.grainRange ≠ []) (fun d id c => (d.modCmd id fun x => { x with stage := .path, grains := freshGrains c }).hazard id) ∧
  Runs .discard .discard (fun _ _ c => c.grainRange ≠ []) (fun d id c => (d.modCmd id fun x => { x with stage := .path, grains := freshGrains c }).hazard id) ∧
  Runs .strip .strip (fun _ _ c => c.grainRange ≠ []) (fun d id c => (d.modCmd id fun x => { x with stage := .path, grains := freshGrains c }).hazard id) ∧
  Runs .discard .discard (fun _ _ c => c.grainRange = []) (fun d id _ => (d.modCmd id fun x => { x with committed := true }).endCmd id .success 0 0) ∧
  Runs .strip .strip (fun _ _ c => c.grainRange = []) (fun d id _ => (d.modCmd id fun x => { x with committed := true }).endCmd id .success 0 0) ∧
  Runs .flush .flush (fun d id c => c.waits.all (fun w => (d.modCmd id fun c => { c with hold := .flush }).onMedium w) = true)
    (fun d id c => (d.modCmd id fun c => { c with hold := .flush }).endCmd id .success 0 (c.num 22)) ∧
  Runs .flush .flush (fun d id c => c.waits.all (fun w => (d.modCmd id fun c => { c with hold := .flush }).onMedium w) = false)
    (fun d id _ => d.modCmd id fun c => { c with hold := .flush }) ∧
  Runs .abort .abort (fun d id c => ∃ e, target d id c = some e ∧ e.2.stage ≠ .done ∧ e.2.committed = false)
    (fun d id c => match target d id c with
      | some e => (d.endCmd e.1 .aborted 0 0).endCmd id .success 0 0
      | none => d) ∧
  Runs .abort .abort (fun d id c => ∃ e, target d id c = some e ∧ (e.2.stage = .done ∨ e.2.committed = true)) (ends .tooLate fun _ _ => 0) ∧
  Runs .abort .abort (fun d id c => target d id c = none ∧ knownTarget d c = true) (ends .tooLate fun _ _ => 0) ∧
  Runs .abort .abort (fun d id c => target d id c = none ∧ knownTarget d c = false) (ends .notFound fun _ _ => 0) ∧
  Runs .getDeferred .getDeferred (fun d _ c => (tget d.tenants c.tenant).isSome)
    (fun d id c => match tget d.tenants c.tenant with
      | some t =>
        let n := Nat.min t.deferred.length (c.length / 32)
        d.sendResult id ((t.deferred.take n).flatMap Deferred.bytes) (n + (t.deferred.length - n) * 2 ^ 16 + t.deferOvf * 2 ^ 32)
      | none => d)

namespace Sys2Proof.Claims

open Sys2Proof Sys2Proof.Machine

/-! ### What the opcodes leave (chapter 03) -/

/-- Whether VOL_CREATE's PARAM words are legal: the group is the tenant's, among its side's, and serves; the key domain 0–15 holds a key; GRAIN is
0 or 1; the capacity is a whole number of grains and fits the map. -/
def createOk (d : Dev) (c : Cmd) : Prop :=
  let g := c.msg.par 0x30 2
  let cap := c.msg.par 0x28 8
  let n := if c.msg.par 0x34 1 = 0 then 1 else 4
  (∃ t x, tget d.tenants c.tenant = some t ∧ t.groups.contains g = true ∧ d.group g = some x ∧
    (x.state = .normal ∨ x.state = .degraded ∨ x.state = .rebuilding)) ∧ d.groupInRange g = true ∧ c.msg.par 0x32 2 ≤ 15 ∧ c.tenant ≠ 0 ∧
    (d.recordAt (keyPlace c.tenant false (c.msg.par 0x32 2))).isSome ∧ c.msg.par 0x34 1 ≤ 1 ∧ cap ≠ 0 ∧ cap % n = 0 ∧
    d.entriesUsed + cap / n ≤ d.mapCeil

/-- The volume that VOL_CREATE makes under number v. -/
def newVol (d : Dev) (c : Cmd) (v : Nat) : Vol :=
  { vgen := (tget d.vgens v).getD firstGen, tenant := c.tenant, group := c.msg.par 0x30 2, keydom := c.msg.par 0x32 2
    grain16 := decide (c.msg.par 0x34 1 = 1), vflags := c.msg.par 0x36 2 % 16, capacity := c.msg.par 0x28 8, epoch := 1, map := [], snaps := []
    sgens := [], origin := none, fillTo := 0, filledAhead := [], dying := false, compacting := false, replBase := none }

/-- The item that VOL_QUERY selects of volume x (Table 3-9): capacity; grains mapped to content, and to zeros; bytes that the content takes; snapshots;
settings. -/
def volItem (d : Dev) (c : Cmd) (x : Vol) : Nat :=
  let es := d.grainEntries c.volume (d.readEpoch c)
  let stored := ((es.filter fun e => e.2.kind = 2).map (·.2.content)).eraseDups
  match c.msg.par 0x28 1 with
  | 0 => x.capacity
  | 1 => countP es fun e => decide (e.2.kind = 2)
  | 2 => countP es fun e => decide (e.2.kind = 1)
  | 3 => sumN (stored.map fun k => match tget d.crecs k with | some r => r.size | none => 0)
  | 4 => countP x.snaps fun s => !s.2.hidden
  | _ => x.settings

/-- Whether an open stream or a replication session uses a volume (R142). -/
def volBusy (d : Dev) (v : Nat) : Bool :=
  (d.streams.any fun e => e.2.isOpen && decide (e.2.volume = v)) || d.sessions.any fun e => decide (e.2.volume = v)

/-- A group that does not take writes. -/
def groupShut (d : Dev) (g : Nat) : Bool := match d.group g with | some x => decide (x.state = .readOnly) | none => true

/-- Whether queue pair n is up, in service and bound to nothing. -/
def freeQp (d : Dev) (n : Nat) : Bool :=
  match tget d.eth.qps n with
  | some q => q.up && !q.failed && decide (q.port < 16) && decide (q.use = .unbound)
  | none => false

/-- The session REPL_OPEN makes on volume x: the receiving end where REMOTE is 0, with the volume's own handle (R439, R440). -/
def newSess (d : Dev) (c : Cmd) (x : Vol) : Sess :=
  { receiver := decide (c.msg.par 0x30 8 = 0), tenant := c.tenant, volume := c.volume, qpn := c.msg.par 0x28 3, keyslot := c.msg.par 0x2C 2
    remote := if c.msg.par 0x30 8 = 0 then x.handle c.volume else c.msg.par 0x30 8, rate := clampN 1 190000 (c.msg.par 0x38 4), interval := clampN 100 86400000 (c.msg.par 0x3C 4)
    state := .opening, peer := 0, full := false, cycle := (x.replBase.map (·.2)).getD 0, base := x.replBase.map (·.1)
    baseCycle := (x.replBase.map (·.2)).getD 0, cand := none, nextGrain := 0, records := 0, unacked := [], lastAccepted := none
    startedAt := d.now - msNs (clampN 100 86400000 (c.msg.par 0x3C 4)), committedAt := x.replAt.getD d.now, rekeyDue := false, wrote := [], closer := none
    fetch := [], outbox := [], sealing := false, sentBytes := 0, endDue := none }

/-- Whether REPL_OPEN may open session n on volume x (R439): a volume, in no session, of a group that takes writes; a free queue pair; a GCM slot 0–7
with a key whose counter is not spent; room in the map for what two hidden snapshots reserve (R440). -/
def openOk (d : Dev) (c : Cmd) (x : Vol) (n : Nat) : Prop :=
  d.vol c.volume = some x ∧ c.snap = none ∧ (d.sessions.any fun e => decide (e.2.volume = c.volume)) = false ∧ groupShut d x.group = false ∧
    freeQp d (c.msg.par 0x28 3) = true ∧ c.msg.par 0x2C 2 ≤ 7 ∧ (d.keyAt (keyPlace c.tenant true (c.msg.par 0x2C 2))).isSome ∧
    (d.gcmAt (keyPlace c.tenant true (c.msg.par 0x2C 2))).counter < 2 ^ 48 - 1 ∧ d.sessions.length < 64 ∧
    d.snapEntries c.volume 2 = true ∧ (upTo 64).find? (fun i => !thas d.sessions i) = some n

/-- Session n open and its queue pair bound to it, classified to it on its port group. -/
def opened (d : Dev) (c : Cmd) (x : Vol) (n : Nat) : Dev :=
  let port := match tget d.eth.qps (c.msg.par 0x28 3) with | some q => q.port | none => 0
  ({ d with sessions := tput d.sessions n (newSess d c x) }.modQp (c.msg.par 0x28 3) fun q => { q with use := .session n }).addClass
    (c.msg.par 0x28 3) (port / 4) (classResult true c.tenant n)

/-- The stream STREAM_OPEN makes (R147, R183–R185). -/
def newStream (d : Dev) (c : Cmd) : Strm :=
  { tenant := c.tenant, volume := c.volume, cls := c.msg.par 0x28 1, dropLate := decide (c.msg.par 0x28 1 = 2) && bit (c.msg.par 0x29 1) 0
    rate := clampN 1 190000 (c.msg.par 0x2C 4), deadline := clampN 100 10000000 (c.msg.par 0x30 4), isOpen := true
    tokens := 2 * d.wmax * 1000, filledAt := d.now, overBytes := 0, bytes := 0, misses := 0, maxLate := 0, dropped := 0, atRisk := false
    clearSince := none, pLat := 0, unindexed := 0, index := [] }

/-- STREAM_OPEN's RATE and DEADLINE in range, no clamp to note. -/
def streamInRange (c : Cmd) : Prop :=
  1 ≤ c.msg.par 0x2C 4 ∧ c.msg.par 0x2C 4 ≤ 190000 ∧ 100 ≤ c.msg.par 0x30 4 ∧ c.msg.par 0x30 4 ≤ 10000000

/-- The reserve of a command's tenant. -/
def reserveOf (d : Dev) (c : Cmd) : Nat := match tget d.tenants c.tenant with | some x => x.reserve | none => 0

/-- What the admission test says of the stream (R188). -/
def admitted (d : Dev) (c : Cmd) : Bool :=
  (d.admits d.vset (d.vstream c.volume (newStream d c).rate (newStream d c).deadline) (d.vres c.tenant) (reserveOf d c)).isSome

/-- The tenant that TENANT names, where R128 lets the field stand and no REMOVE_TENANT has told the partner that it goes (the model's choice, log
entry 121). -/
def named (d : Dev) (c : Cmd) (x : Tenant) : Prop :=
  1 ≤ c.msg.par 0x28 2 ∧ c.msg.par 0x28 2 ≤ 1023 ∧ tget d.tenants (c.msg.par 0x28 2) = some x ∧ d.removing (c.msg.par 0x28 2) = false

/-- The legal range of a share that TENANT_SHARES sets, by SHARE (Table 3-9). -/
def shareRange (i : Nat) : Option (Nat × Nat) :=
  [(1, 190000), (1, 100000), (1, 192), (0, 190000), (0, 128), (0, 3)][i]?

/-- A tenant's share i set. -/
def setShare (i e : Nat) (x : Tenant) : Tenant :=
  match i with
  | 0 => { x with bandwidth := e }
  | 1 => { x with kiops := e }
  | 2 => { x with quota := e }
  | 3 => { x with reserve := e }
  | 4 => { x with cores := e }
  | _ => { x with prioCeil := e }

/-- Tokens no deeper than the buckets of a tenant's shares. -/
def capTokens (y : Tenant) : Tenant :=
  { y with byteTokens := if y.byteDepth < y.byteTokens then y.byteDepth else y.byteTokens, opTokens := satAt y.opDepth y.opTokens }

/-- A clamp noted where a value is not the one written (R13). -/
def noteIf (p : Bool) (d : Dev) (id : Nat) : Dev := if p then d.noteClamp id else d

end Sys2Proof.Claims

/-- Volume family (Tables 3-5 and 3-6): VOL_CREATE makes the volume under the lowest free number and returns its handle; VOL_DELETE removes one that no
open stream or session uses, or hides it while a clone still fills from it, and counts its snapshots; VOL_RESIZE sets the capacity, logging the removed range's grains as unmapped and showing them so from then on, and returns
the old one; VOL_QUERY returns the capacity; SNAP_DELETE drops the snapshot; each otherwise completes with the code its table gives. -/
def Obligations.VolumeOpcodes : Prop :=
  (∀ v, Runs .volCreate .volCreate (fun d _ c => createOk d c ∧ d.freshVol = some v) (fun d id c =>
    ({ d with vols := tput d.vols v (newVol d c v) }.logOwn (c.msg.par 0x30 2)
      [.volCreate v (newVol d c v).vgen (c.msg.par 0x28 8) (newVol d c v).settings c.tenant]).endCmd id .success 0 ((newVol d c v).handle v))) ∧
  Runs .volCreate .volCreate (fun d _ c => createOk d c ∧ d.freshVol = none) (ends .limit fun _ _ => 0) ∧
  (∀ x : Vol, Runs .volDelete .volDelete (fun d _ c => d.vol c.volume = some x ∧ volBusy d c.volume = false) (fun d id c =>
    let e := { d with bindings := d.bindings.filter fun b => decide (b.volume ≠ c.volume) }
    (if e.originOf c.volume then (e.modVol c.volume fun x => { x with dying := true }).logOwn x.group [.volDelete c.volume]
      else e.removeVol c.volume).endCmd id .success 0 (countP x.snaps fun s => !s.2.hidden))) ∧
  Runs .volDelete .volDelete (fun d _ c => (d.vol c.volume).isSome ∧ volBusy d c.volume = true) (ends .inUse fun _ _ => 0) ∧
  (∀ x : Vol, Runs .volResize .volResize (fun d _ c => d.vol c.volume = some x ∧ c.msg.par 0x28 8 ≠ 0 ∧ c.msg.par 0x28 8 % x.grainSectors = 0 ∧
      (x.capacity < c.msg.par 0x28 8 → d.entriesUsed + (c.msg.par 0x28 8 / x.grainSectors - x.grains) ≤ d.mapCeil)) (fun d id c =>
    let cap := c.msg.par 0x28 8
    let gone := (d.issued.grainEntries c.volume none).filter fun e => decide (cap / x.grainSectors ≤ e.1) && decide (e.2.kind ≠ 0)
    let recs := gone.flatMap fun e => d.issued.replace c.volume e.1 x.epoch { kind := 0, content := 0, epoch := x.epoch }
    let trim : List Rec := if cap < x.capacity then [.tidxTrim c.volume cap (x.capacity - cap)] else []
    let e := d.logBatch x.group (trim ++ recs ++ [.volResize c.volume cap]) (some id) 0 []
    let f := Dev.modCmd { e with nextOrder := e.nextOrder + 1 } id fun k =>
      { (k.setNum 2 (x.epoch + 1)).setNum 6 e.nextOrder with grains := gone.map fun q => (q.1, { Grain.fresh [] with step := 14, zero := true }) }
    (f.modVol c.volume fun x => { x with capacity := cap }).endCmd id .success 0 x.capacity)) ∧
  (∀ x : Vol, Runs .volQuery .volQuery (fun d _ c => d.vol c.volume = some x ∧ c.msg.par 0x28 1 < 6) (ends .success fun d c => volItem d c x)) ∧
  (∀ x : Vol, TurnedAway .volQuery .volQuery (fun d c => d.vol c.volume = some x ∧ 6 ≤ c.msg.par 0x28 1) .paramInvalid) ∧
  (∀ k, Runs .snapDelete .snapDelete (fun _ _ c => c.snap = some k) (fun d id c => (d.dropSnap c.volume k).endCmd id .success 0 0)) ∧
  TurnedAway .snapDelete .snapDelete (fun _ c => c.snap = none) .paramInvalid

/-- Snapshots, clones and replication sessions (Tables 3-5 and 3-6, R143, R432, R439, R450): SNAP_CREATE takes a snapshot at once where an epoch, a slot
and room are free, RETVAL its handle, and completes when its record is acknowledged; CLONE_CREATE of a snapshot makes a volume with that origin; REPL_OPEN
binds the queue pair to a new session; REPL_CLOSE of an idle one ends it; REPL_REKEY changes its key slot. -/
def Obligations.SnapshotsAndReplicationOpcodes : Prop :=
  (∀ (x : Vol) (e : Dev) (slot : Nat), Runs .snapCreate .snapCreate (fun d id c => d.vol c.volNo = some x ∧ d.epochFree c.volNo = true ∧
      d.snapsHeld < 131072 ∧ x.snaps.length < 1024 ∧ c.num 28 ≠ 1 ∧ d.snapTakes c.volNo (some id) ≤ d.entriesFree + c.num 27 ∧
      d.takeSnap c.volNo false (some id) = some (e, slot))
    (fun _ id c => e.modCmd id fun k => { k with
      committed := true, hold := .none, retval := match e.vol c.volNo with | some y => y.snapHandle c.volNo slot | none => 0 })) ∧
  (∀ (x : Vol), Runs .snapCreate .snapCreate (fun d _ c => d.vol c.volNo = some x ∧ d.epochFree c.volNo = false)
    (fun d id _ => d.modCmd id fun c => { c with hold := .snap })) ∧
  (∀ (x : Vol) (n k : Nat), Runs .cloneCreate .cloneCreate (fun d _ c => d.vol c.volNo = some x ∧ groupShut d x.group = false ∧ c.slotNo = some k ∧
      d.freshVol = some n ∧ d.entriesUsed + x.grains ≤ d.mapCeil) (fun d id c =>
    let y : Vol :=
      { x with vgen := (tget d.vgens n).getD firstGen, epoch := 1, map := [], snaps := [], sgens := [], origin := some (c.volNo, k), fillTo := 0
               filledAhead := [], dying := false, compacting := false, replBase := none, replAt := none }
    (({ d with vols := tput d.vols n y }.logOwn x.group [.clone n y.vgen c.volNo k]).modCmd id fun c => { c with committed := true }).endCmd id .success 0 (y.handle n))) ∧
  (∀ (x : Vol) (n k : Nat) (e : Dev), Runs .cloneCreate .cloneCreate (fun d _ c => d.vol c.volNo = some x ∧ groupShut d x.group = false ∧ c.slotNo = none ∧
      d.epochFree c.volNo = true ∧ d.freshVol = some n ∧ d.snapSlots c.volNo 1 = true ∧ d.entriesUsed + x.grains + d.snapNeed c.volNo ≤ d.mapCeil ∧
      d.takeSnap c.volNo true none = some (e, k)) (fun _ id c =>
    let y : Vol :=
      { x with vgen := (tget e.vgens n).getD firstGen, epoch := 1, map := [], snaps := [], sgens := [], origin := some (c.volNo, k), fillTo := 0
               filledAhead := [], dying := false, compacting := false, replBase := none, replAt := none }
    (({ e with vols := tput e.vols n y }.logOwn x.group [.clone n y.vgen c.volNo k]).modCmd id fun c => { c with committed := true }).endCmd id .success 0 (y.handle n))) ∧
  (∀ (x : Vol) (n : Nat), Runs .replOpen .replOpen (fun d _ c => openOk d c x n ∧ c.msg.par 0x30 8 = 0)
    (fun d id c => (opened d c x n).endCmd id .success 0 n)) ∧
  (∀ (x : Vol) (n : Nat), Runs .replOpen .replOpen (fun d _ c => openOk d c x n ∧ c.msg.par 0x30 8 ≠ 0 ∧ d.snapSlots c.volume 2 = true ∧
      1 ≤ c.msg.par 0x38 4 ∧ c.msg.par 0x38 4 ≤ 190000 ∧ 100 ≤ c.msg.par 0x3C 4 ∧ c.msg.par 0x3C 4 ≤ 86400000)
    (fun d id c => ((opened d c x n).replHello n).endCmd id .success 0 n)) ∧
  (∀ (n : Nat) (y : Sess), Runs .replClose .replClose (fun d _ c => n = c.msg.par 0x28 2 ∧ tget d.sessions n = some y ∧ y.tenant = c.tenant ∧
      (y.receiver = true ∨ y.state ≠ .sending ∧ y.state ≠ .waitAck)) (fun d id _ => ((d.delClass y.qpn).closeSession n).endCmd id .success 0 0)) ∧
  (∀ (n : Nat) (y : Sess), Runs .replClose .replClose (fun d _ c => n = c.msg.par 0x28 2 ∧ tget d.sessions n = some y ∧ y.tenant = c.tenant ∧
      y.receiver = false ∧ (y.state = .sending ∨ y.state = .waitAck))
    (fun d id _ => (d.modSess n fun s => { s with closer := some id }).holdFor id .session)) ∧
  (∀ (n : Nat) (y : Sess), Runs .replRekey .replRekey (fun d _ c => n = c.msg.par 0x28 2 ∧ tget d.sessions n = some y ∧ y.tenant = c.tenant ∧
      c.msg.par 0x2A 2 ≤ 7 ∧ (d.keyAt (keyPlace c.tenant true (c.msg.par 0x2A 2))).isSome ∧
      (d.gcmAt (keyPlace c.tenant true (c.msg.par 0x2A 2))).counter < 2 ^ 48 - 1 ∧ y.state ≠ .stopped)
    (fun d id c => (d.modSess n fun s => { s with keyslot := c.msg.par 0x2A 2, rekeyDue := false, sealing := false, lastAccepted := none }).endCmd id .success 0 0)) ∧
  (∀ (n : Nat) (y : Sess), Runs .replRekey .replRekey (fun d _ c => n = c.msg.par 0x28 2 ∧ tget d.sessions n = some y ∧ y.tenant = c.tenant ∧
      c.msg.par 0x2A 2 ≤ 7 ∧ (d.keyAt (keyPlace c.tenant true (c.msg.par 0x2A 2))).isSome ∧
      (d.gcmAt (keyPlace c.tenant true (c.msg.par 0x2A 2))).counter < 2 ^ 48 - 1 ∧ y.state = .stopped ∧ y.receiver = true)
    (fun d id c => ((d.modSess n fun s => { s with keyslot := c.msg.par 0x2A 2, rekeyDue := false, sealing := false, lastAccepted := none }).modSess n fun s =>
      { s with state := .idle }).endCmd id .success 0 0)) ∧
  (∀ (n : Nat) (y : Sess), Runs .replRekey .replRekey (fun d _ c => n = c.msg.par 0x28 2 ∧ tget d.sessions n = some y ∧ y.tenant = c.tenant ∧
      c.msg.par 0x2A 2 ≤ 7 ∧ (d.keyAt (keyPlace c.tenant true (c.msg.par 0x2A 2))).isNone) (ends .keyInvalid fun _ _ => 0))

/-- Stream family (Tables 3-7 and 3-8, R147–R151, R183): STREAM_OPEN of class 0 or 1, or of a vermilion stream that the admission test passes, opens the
lowest free stream; a vermilion one that fails gets the highest rate that passes; STREAM_CLOSE returns the bytes written; STREAM_QUERY an item; QUERY_TIME
sends the runs of a window. -/
def Obligations.StreamOpcodes : Prop :=
  (∀ i, Runs .streamOpen .streamOpen (fun d _ c => c.msg.par 0x28 1 ≤ 2 ∧ streamInRange c ∧ countP d.streams (fun e => e.2.isOpen) < 4096 ∧
      d.freshStream = some i ∧ (c.msg.par 0x28 1 = 2 → admitted d c = true))
    (fun d id c => (({ d with streams := tput d.streams i (newStream d c) }.readmit).reRisk).endCmd id .success 0 i)) ∧
  (∀ i, Runs .streamOpen .streamOpen (fun d _ c => c.msg.par 0x28 1 = 2 ∧ streamInRange c ∧ countP d.streams (fun e => e.2.isOpen) < 4096 ∧
      d.freshStream = some i ∧ admitted d c = false)
    (ends .admissionRefused fun d c => d.bestRate c.volume (c.msg.par 0x30 4) (d.vres c.tenant) (reserveOf d c))) ∧
  TurnedAway .streamOpen .streamOpen (fun _ c => 2 < c.msg.par 0x28 1) .paramInvalid ∧
  (∀ x : Strm, Runs .streamClose .streamClose (fun d _ c => tget d.streams c.msg.stream.toNat = some x ∧ x.isOpen = true)
    (fun d id c => (d.closeStream c.msg.stream.toNat).endCmd id .success 0 x.bytes)) ∧
  (∀ x : Strm, Runs .streamQuery .streamQuery (fun d _ c => tget d.streams c.msg.stream.toNat = some x ∧ c.msg.par 0x28 1 < 6) (ends .success fun _ c =>
    match c.msg.par 0x28 1 with
    | 0 => x.rate | 1 => x.deadline | 2 => x.bytes | 3 => x.misses | 4 => x.maxLate | _ => x.dropped)) ∧
  (∀ x : Strm, TurnedAway .streamQuery .streamQuery (fun d c => tget d.streams c.msg.stream.toNat = some x ∧ 6 ≤ c.msg.par 0x28 1) .paramInvalid) ∧
  (∀ x : Strm, Runs .queryTime .queryTime (fun d _ c => tget d.issued.streams c.msg.stream.toNat = some x ∧ c.msg.par 0x28 12 < c.msg.par 0x34 12) (fun d id c =>
    let rs := x.runs c.lba (c.msg.par 0x28 12) (c.msg.par 0x34 12)
    let n := Nat.min rs.length (c.length / 48)
    d.sendResult id ((rs.take n).flatMap TimeRun.bytes) (n + (rs.length - n) * 2 ^ 32))) ∧
  (∀ x : Strm, TurnedAway .queryTime .queryTime (fun d c => tget d.issued.streams c.msg.stream.toNat = some x ∧ c.msg.par 0x34 12 ≤ c.msg.par 0x28 12)
    .paramInvalid)

namespace Sys2Proof.Claims

open Sys2Proof Sys2Proof.Machine

/-! ### Programs, patterns and keys -/

/-- The image that LOAD_PROGRAM carried. -/
def imageIn (c : Cmd) : Bytes := c.payload.take c.length

/-- Whether STACK, OUT_MAX or a budget of an image lies outside its range (R537). -/
def imageClamped (b : Bytes) : Bool :=
  decide (clampN 1 64 (le b 0x14 2) ≠ le b 0x14 2) || decide (clampN 1 256 (le b 0x16 2) ≠ le b 0x16 2) ||
    ((upTo 4).map fun i => le b (0x2C + 2 * i) 2).any fun x => decide (x = 0)

/-- The program of an image, as LOAD_PROGRAM makes it for a tenant under a generation: resident, its state segment made from INIT. -/
def progFrom (b : Bytes) (tenant gen : Nat) : Prog :=
  { tenant := tenant, gen := gen, code := slice b 64 (le b 0x08 4), init := b.drop (64 + le b 0x08 4), stateLen := le b 0x0C 4
    stack := clampN 1 64 (le b 0x14 2), outMax := clampN 1 256 (le b 0x16 2)
    entries := (upTo 4).map fun i => (if le b (0x18 + 4 * i) 4 = 0xFFFFFFFF then none else some (le b (0x18 + 4 * i) 4))
    wraps := (upTo 4).map (fun i => bit (le b (0x28 + i) 1) 0), budgets := ((upTo 4).map fun i => le b (0x2C + 2 * i) 2).map (fun x => Nat.max 1 x)
    loaded := true, resident := true, state := padTo (le b 0x0C 4) (b.drop (64 + le b 0x08 4)), stateReset := false, traps := 0
    last := { cause := 0, entry := 0, seg := 0, code := 0, pc := 0, off := 0 }, misses := 0 }

/-- Whether a program of an image has room: 16 of a tenant, 1,024 in all, 4 GiB of memory in pages of 4 KiB (R152, R536). -/
def progRoom (d : Dev) (tenant : Nat) (b : Bytes) : Prop :=
  countP d.progs (fun e => decide (e.2.tenant = tenant)) < 16 ∧ d.progs.length < 1024 ∧
    d.progMem + (ceilDiv (le b 0x08 4) 4096 * 4096 + ceilDiv (le b 0x0C 4) 4096 * 4096) ≤ 2 ^ 32

/-- A part without the bindings that command id made early. -/
def unbound (d : Dev) (id : Nat) : Dev := { d with bindings := d.bindings.filter fun b => decide (b.binder ≠ some id) }

/-- Whether CORES of a BIND_PROGRAM is outside 1–128. -/
def coresClamped (c : Cmd) : Bool := decide (clampN 1 128 (c.msg.par 0x2E 2) ≠ c.msg.par 0x2E 2)

/-- The binding a BIND_PROGRAM makes. -/
def newBinding (d : Dev) (id n point : Nat) (c : Cmd) : Binding :=
  { prog := n, tenant := c.tenant, volume := c.volume, stream := c.bindStream, point := point
    cores := d.chooseCores (d.bindCores c) (d.volQuadrant c.volume), binder := none, since := id }

/-- Whether a binding is the one an UNBIND_PROGRAM names. -/
def boundHere (c : Cmd) (b : Binding) : Bool :=
  decide (b.volume = c.volume) && decide (b.stream = c.bindStream) && decide (b.point = c.msg.par 0x2C 1) && b.binder.isNone && b.ended.isNone

/-- What UNBIND_PROGRAM leaves of a binding: the one it names stays, ended, for the writes that have begun their step 8 under it (R154, log 150). -/
def afterUnbind (d : Dev) (c : Cmd) (b : Binding) : Option Binding :=
  if !boundHere c b then some b else if (d.begunUnder b).isEmpty then none else some { b with ended := some (d.begunUnder b) }

/-- Whether program n has entry k (2 SCAN, 3 FINISH). -/
def hasEntry (d : Dev) (n k : Nat) : Bool := match tget d.progs n with | some p => (p.entries.getD k none).isSome | none => false

/-- The grains a SCAN goes through: the mapped ones of its range where the program has SCAN. -/
def scanGrains (d : Dev) (n : Nat) (v : Vol) (c : Cmd) : Tbl Grain :=
  if hasEntry d n 2 then
    ((d.issued.grainEntries c.volume none).filter fun e => decide (e.2.kind ≠ 0) && decide (c.msg.par 0x30 8 < (e.1 + 1) * v.grainSectors) &&
      decide (e.1 * v.grainSectors < c.msg.par 0x30 8 + c.msg.par 0x38 8)).map fun e => (e.1, Grain.fresh [])
  else []

/-- Whether TIMEOUT of a SCAN is outside 1–3,600,000 ms. -/
def timeoutClamped (c : Cmd) : Bool := decide (clampN 1 3600000 (c.msg.par 0x2C 4) ≠ c.msg.par 0x2C 4)

/-- Whether PATTERN_LOAD's entries are one or two, and lie in banks that the tenant owns and that are not being cleared. -/
def patternsOwn (d : Dev) (c : Cmd) : Prop :=
  (c.msg.par 0x2C 1 = 1 ∨ c.msg.par 0x2C 1 = 2) ∧ c.msg.par 0x28 4 + c.msg.par 0x2C 1 ≤ 65536 ∧
    (upTo (c.msg.par 0x2C 1)).all (fun i => let b := d.stencil.bank ((c.msg.par 0x28 4 + i) / 4096)
      decide (b.kind = 3) && decide (b.tenant = c.tenant) && b.next.isNone) = true

/-- The certificate or key that ITEM of a CERT_GET names (Table 17-2). -/
def certItem (d : Dev) (c : Cmd) : Option Bytes :=
  [Config.deviceCert, Config.kemCert, padTo 1568 Config.kemPublic, d.sec.ownerCert][c.msg.par 0x28 1]?

/-- The key that a KEY_INSTALL's payload unwraps to under the shared secret of its ciphertext and the context of tenant, kind and serial. -/
def keyGiven (c : Cmd) : Option Bytes :=
  unwrapKey (Config.kemDecaps (c.payload.take 1568)) (toLE 2 c.tenant ++ toLE 1 (c.msg.par 0x28 1) ++ serialBytes) (slice c.payload 1568 64)

/-- The most keys of a kind that a tenant may hold. -/
def mostKeys (d : Dev) (c : Cmd) (slot : Bool) : Nat :=
  match tget d.tenants c.tenant with | some x => if slot then x.maxSlots else x.maxDomains | none => 0

/-- A key put at index i, told to the partner, or owed to it in isolated mode; the command then waits for the partner, or completes. -/
def keyPut (d : Dev) (id i : Nat) (c : Cmd) (slot : Bool) (t r : Bytes) : Dev :=
  let place := keyPlace c.tenant slot i
  let k : KeyRec :=
    { rkind := c.msg.par 0x28 1 + 1, index := i, tenant := c.tenant, gen := ((tget d.sec.gens place).getD 0 + 1) % 2 ^ 32, t := t, r := r }
  let d := { d with sec := { d.sec with keys := tput d.sec.keys place k, gens := tdel d.sec.gens place, gcm := tdel d.sec.gcm place } }
  let d := if d.isolated then { d with peer := { d.peer with owed := d.peer.owed ++ [.key place k] } } else d
  let s := if d.linked then d.linkSend (.control (.key place k)) else (d, none)
  s.1.keyRegs.waitPartner id s.2 i

/-- No longer held. -/
def unheld (d : Dev) (id : Nat) : Dev := d.modCmd id fun c => { c with hold := .none }

/-- A CRYPTO_ERASE at its end: the volumes of its domain deleted, the sessions of its slot closed, what names them failing; RETVAL counts the volumes
and their snapshots, of this part (R158, R675, log 121). -/
def eraseEnd (d : Dev) (id : Nat) (c : Cmd) : Dev :=
  let k := c.msg.par 0x28 2
  let r := d.deleteVols fun v => decide (k < 16) && decide (v.tenant = c.tenant) && decide (v.keydom = k)
  (r.1.closeSessions fun s => decide (0x8000 ≤ k) && decide (s.tenant = c.tenant) && decide (s.keyslot = k - 0x8000)).endCmd id .success 0 (r.2.1 + r.2.2)

/-- What CRYPTO_ERASE does: the key at the place is destroyed; in a linked pair the rest waits for the partner's word that his is, else it follows at
once (R158, R675). -/
def erasedBy (d : Dev) (id place : Nat) (c : Cmd) : Dev :=
  let e := (d.random 80).1.destroyKey place
  if e.linked then e.modCmd id fun k => { (k.setNum 17 ((e.peer.txSeq + 2 ^ 32 - 1) % 2 ^ 32 + 1)) with hold := .partner, retval := 0 }
  else eraseEnd e id c

/-- Commands that wait for the partner's acknowledgement of a link frame. -/
def partnerWaits (d : Dev) : List Nat := tkeys d.cmds fun _ c => decide (c.hold = .partner) && decide (c.stage ≠ .done) && decide (c.num 17 ≠ 0)

/-- The link frames up to one with number seq acknowledged. -/
def linkAcked (d : Dev) (seq : Word32) : Dev :=
  { d with peer := { d.peer with unacked := d.peer.unacked.filter fun x => !decide ((seq.toNat + 2 ^ 32 - x.seq) % 2 ^ 32 < 2 ^ 31) } }

/-- Whether the pair no longer waits for the acknowledgement of the link frame that a command told the partner by. -/
def partnerKnows (d : Dev) (c : Cmd) : Prop := d.linked = false ∨ d.peer.unacked.any (fun x => decide (x.seq + 1 = c.num 17)) = false

/-- The parts of an OWNER_ENROL's payload: the new public key; what was signed; the signature by the new key; the one by the old. -/
def ownerPub (c : Cmd) : Bytes := slice (imageIn c) 16 (le (imageIn c) 0 4)
def ownerSaid (d : Dev) (c : Cmd) : Bytes := ownerText ++ toLE 1 (c.msg.par 0x28 1) ++ d.sideSerials ++ d.nonce ++ ownerPub c
def ownerSig (c : Cmd) : Bytes := slice (imageIn c) (16 + le (imageIn c) 0 4) (le (imageIn c) 4 4)
def ownerOldSig (c : Cmd) : Bytes := slice (imageIn c) (16 + le (imageIn c) 0 4 + le (imageIn c) 4 4) (le (imageIn c) 8 4)

/-- Whether OWNER_ENROL's lengths and key are legal and its action fits the owner that stands (R663, R664). -/
def ownerFits (d : Dev) (c : Cmd) : Prop :=
  16 ≤ c.length ∧ c.length ≤ 65536 ∧ c.length = 16 + le (imageIn c) 0 4 + le (imageIn c) 4 4 + le (imageIn c) 8 4 ∧ le (imageIn c) 0 4 = 60 ∧
    ownerKeyOk (ownerPub c) = true ∧ d.isolated = false ∧
    (c.msg.par 0x28 1 = 0 ∧ d.sec.owner = none ∨ c.msg.par 0x28 1 = 1 ∧ d.sec.owner.isSome)

/-- Whether OWNER_ENROL is signed by the new key, and by the owner that stands where there is one. -/
def ownerSigned (d : Dev) (c : Cmd) : Bool :=
  hssOk (ownerPub c) (ownerSaid d c) (ownerSig c) &&
    (match d.sec.owner with | some k => hssOk k (ownerSaid d c) (ownerOldSig c) | none => true)

/-- The new owner stands: a leaf spent, a certificate issued (its bytes a free value), SEC_NONCE replaced, the partner told (R664). -/
def ownerSet (d : Dev) (id : Nat) (c : Cmd) : Dev :=
  let d := d.spendLeaf.1
  let d := { d with sec := { d.sec with owner := some (ownerPub c), ownerCert := Config.freeBytes d.draws 0 }, draws := d.draws + 1 }
  let d := (d.wr SEC_STAT_OWNER 1).newNonce.event 0x0F00 0 0 0 [0x0664]
  let s := if d.linked then d.linkSend (.control (.owner (ownerPub c))) else (d, none)
  s.1.waitPartner id s.2 0

/-- Whether a debug token is good: MAGIC, the part's serial, SEC_NONCE, the vendor's signature and the owner's (R682). -/
def tokenGood (d : Dev) (b : Bytes) : Bool :=
  decide (le b 0 4 = 0x42445A51) && decide (le b 8 8 % 2 ^ 48 = fromLE serialBytes) && decide (slice b 16 16 = d.nonce) &&
    hssOk Config.vendorRoot (b.take 64) (slice b 64 (le b 0x20 4)) && d.ownerOk (b.take 64) (slice b (64 + le b 0x20 4) (le b 0x24 4))

/-- Whether a debug token's lengths agree. -/
def tokenWhole (c : Cmd) : Prop := 64 ≤ c.length ∧ c.length = 64 + le (imageIn c) 0x20 4 + le (imageIn c) 0x24 4

/-- What a good debug token does: measurement 15 extended; the boundary scan opened by scope bit 0; by bit 1 the part fenced, its keys sealed,
debug opened (R682, R683). -/
def debugOpened (d : Dev) (b : Bytes) : Dev :=
  let d := d.extend 15 (sha256 b)
  let d := if bit (le b 6 2) 0 then d.wr TOP_DEBUG_BOUNDARY 1 else d
  if bit (le b 6 2) 1 then ((d.fence 0x0F00 0 0 [0x0683]).sealKeys).wr TOP_DEBUG_DEBUG 1 else d

end Sys2Proof.Claims

/-- Compute family (Tables 3-10 and 3-11, R152–R156, R535–R541, R556, R557): LOAD_PROGRAM fetches its image and makes a program of it under the lowest
free index; UNLOAD_PROGRAM drops one that nothing uses; BIND_PROGRAM binds it at its point to the cores it is given and returns how many; UNBIND_PROGRAM
undoes that, but for the writes that have begun under the binding (log 150); SCAN goes through the mapped grains of its range; PATTERN_LOAD writes its entries. -/
def Obligations.ComputeOpcodes : Prop :=
  Fetches .loadProgram .loadProgram ∧
  (∀ n, WithData .loadProgram (fun d id c => tintImageOk (imageIn c) c.length = true ∧
      progRoom (noteIf (imageClamped (imageIn c)) d id) c.tenant (imageIn c) ∧
      ((upTo 1024).find? fun n => !thas (noteIf (imageClamped (imageIn c)) d id).progs n) = some n) (fun d id c =>
    let e := noteIf (imageClamped (imageIn c)) d id
    let gen := (tget e.progGens n).getD firstGen
    { e with progs := tput e.progs n (progFrom (imageIn c) c.tenant gen) }.endCmd id .success 0 (n + gen * 65536))) ∧
  WithData .loadProgram (fun _ _ c => tintImageOk (imageIn c) c.length = false) (ends .programInvalid fun _ _ => 0) ∧
  (∀ n, Runs .unloadProgram .unloadProgram (fun d _ c => d.progOf c.tenant (c.msg.par 0x28 4) = some n ∧
      (d.bindings.any fun b => decide (b.prog = n) && d.bindingLive b) = false ∧
      d.progRuns n = false)
    (fun d id _ => (d.dropProg n).endCmd id .success 0 0)) ∧
  (∀ n, Runs .unloadProgram .unloadProgram (fun d _ c => d.progOf c.tenant (c.msg.par 0x28 4) = some n ∧
      ((d.bindings.any fun b => decide (b.prog = n) && d.bindingLive b) = true ∨ d.progRuns n = true)) (ends .inUse fun _ _ => 0)) ∧
  (∀ n point, Runs .bindProgram .bindProgram (fun d id c => (unbound d id).bindTarget c = some (n, point) ∧
      (noteIf (coresClamped c) (unbound d id) id).pointTaken c.volume c.bindStream point = false) (fun d id c =>
    let e := noteIf (coresClamped c) (unbound d id) id
    ({ e with bindings := e.bindings ++ [newBinding e id n point c] }.slotFloor.reRisk).endCmd id .success 0 (e.bindCores c))) ∧
  Runs .unbindProgram .unbindProgram (fun d _ c => (c.msg.par 0x2C 1 = 1 ∨ c.msg.par 0x2C 1 = 2) ∧ d.bindings.any (boundHere c) = true)
    (fun d id c => ({ d with bindings := d.bindings.filterMap (afterUnbind d c) }.slotFloor.reRisk).endCmd id .success 0 0) ∧
  (∀ n v, Runs .scan .scan (fun d _ c => d.progOf c.tenant (c.msg.par 0x28 4) = some n ∧ d.vol c.volume = some v ∧
      (hasEntry d n 2 = true ∨ hasEntry d n 3 = true) ∧ c.msg.par 0x30 8 + c.msg.par 0x38 8 ≤ v.capacity) (fun d id c =>
    let e := noteIf (timeoutClamped c) d id
    (e.modCmd id fun x => { (((x.setNum 0 v.grainBytes).setNum 13 n).setNum 14 (x.arrived + msNs (clampN 1 3600000 (c.msg.par 0x2C 4)))) with
      stage := .path, grains := scanGrains e n v c }).scanStep id)) ∧
  Fetches .patternLoad .patternLoad ∧
  WithData .patternLoad (fun d _ c => patternsOwn d c) (fun d id c =>
    ((upTo (c.msg.par 0x2C 1)).foldl (fun (d : Dev) i => d.setEntry (c.msg.par 0x28 4 + i) (entryOf (slice c.payload (80 * i) 80))) d).endCmd
      id .success 0 0) ∧
  WithData .patternLoad (fun d _ c => ¬patternsOwn d c) (ends .paramInvalid fun _ _ => 0)

/-- Security family (Tables 3-12 and 3-13, R157–R160, R663–R668, R672–R675, R681–R683): CERT_GET and ATTEST send their result, or tell the size it
needs; KEY_INSTALL puts the unwrapped key at the lowest free index; CRYPTO_ERASE destroys a key and what it protects; KEY_POLICY_SET sets a tenant's
limits; OWNER_ENROL sets the owner; DEBUG_UNLOCK opens what its token's scope names. What waits for entropy waits while the source does not deliver. -/
def Obligations.SecurityOpcodes : Prop :=
  (∀ b, Runs .certGet .certGet (fun d _ c => certItem d c = some b ∧ (b.length ≤ c.length ∨ c.msg.par 0x28 1 = 3))
    (fun d id c => d.sendResult id (b.take c.length) b.length)) ∧
  (∀ b, Runs .certGet .certGet (fun d _ c => certItem d c = some b ∧ c.length < b.length ∧ c.msg.par 0x28 1 ≠ 3) (ends .bufferSmall fun _ _ => b.length)) ∧
  Runs .attest .attest (fun d _ c => attestLen (c.msg.par 0x38 4 % 8) + 4 + 5716 ≤ c.length ∧ d.sec.leaf < 2 ^ 40 ∧ d.leafReady = true) (fun d id c =>
    let r := (unheld d id).attestReport (c.msg.parBytes 0x28 16) (c.msg.par 0x38 4) c.tenant
    r.1.sendResult id (r.2.1 ++ toLE 4 5716 ++ r.2.2) (attestLen (c.msg.par 0x38 4 % 8) + 4 + 5716)) ∧
  Runs .attest .attest (fun _ _ c => c.length < attestLen (c.msg.par 0x38 4 % 8) + 4 + 5716)
    (ends .bufferSmall fun _ c => attestLen (c.msg.par 0x38 4 % 8) + 4 + 5716) ∧
  Fetches .keyInstall .keyInstall ∧
  (∀ t i, WithData .keyInstall (fun d _ c => c.msg.par 0x28 1 = 1 ∧ keyGiven c = some t ∧ d.freeKey c.tenant true = some i ∧ c.tenant ≠ 0 ∧
      (d.keysOf c.tenant true).length < mostKeys d c true) (fun d id c => keyPut d id i c true t (zeros 32))) ∧
  (∀ t i, WithData .keyInstall (fun d _ c => c.msg.par 0x28 1 = 0 ∧ keyGiven c = some t ∧ d.freeKey c.tenant false = some i ∧ c.tenant ≠ 0 ∧
      (d.keysOf c.tenant false).length < mostKeys d c false ∧ d.entropyOk = true)
    (fun d id c => keyPut ((unheld d id).random 32).1 id i c false t ((unheld d id).random 32).2)) ∧
  WithData .keyInstall (fun _ _ c => c.msg.par 0x28 1 ≤ 1 ∧ keyGiven c = none) (ends .keyInvalid fun _ _ => 0) ∧
  (∀ p, Runs .cryptoErase .cryptoErase (fun d _ c => d.erasePlace c = some p ∧ d.entropyOk = true) (fun d id c => erasedBy (unheld d id) id p c)) ∧
  (∀ p, Runs .cryptoErase .cryptoErase (fun d _ c => d.erasePlace c = some p ∧ d.entropyOk = false)
    (fun d id _ => d.modCmd id fun c => if c.hold = .entropy then c else { (c.setNum 23 d.now) with hold := .entropy })) ∧
  TurnedAway .cryptoErase .cryptoErase (fun d c => d.erasePlace c = none) .paramInvalid ∧
  (∀ x, Runs .keyPolicySet .keyPolicySet (fun d _ c => named d c x ∧ c.msg.par 0x2A 1 = 0) (fun d id c =>
    ((noteIf (decide (clampN 0 16 (c.msg.par 0x2C 4) ≠ c.msg.par 0x2C 4)) d id).modTenant (c.msg.par 0x28 2) fun x =>
      { x with maxDomains := clampN 0 16 (c.msg.par 0x2C 4) }).endCmd id .success 0 (clampN 0 16 (c.msg.par 0x2C 4)))) ∧
  (∀ x, Runs .keyPolicySet .keyPolicySet (fun d _ c => named d c x ∧ c.msg.par 0x2A 1 = 1) (fun d id c =>
    ((noteIf (decide (clampN 0 8 (c.msg.par 0x2C 4) ≠ c.msg.par 0x2C 4)) d id).modTenant (c.msg.par 0x28 2) fun x =>
      { x with maxSlots := clampN 0 8 (c.msg.par 0x2C 4) }).endCmd id .success 0 (clampN 0 8 (c.msg.par 0x2C 4)))) ∧
  Fetches .ownerEnrol .ownerEnrol ∧
  WithData .ownerEnrol (fun d id c => c.msg.par 0x28 1 ≤ 1 ∧ d.entropyOk = true ∧ ownerFits (unheld d id) c ∧ ownerSigned (unheld d id) c = true ∧
      (unheld d id).sec.leaf < 2 ^ 40 ∧ (unheld d id).leafReady = true) (fun d id c => ownerSet (unheld (unheld d id) id) id c) ∧
  WithData .ownerEnrol (fun d id c => c.msg.par 0x28 1 ≤ 1 ∧ d.entropyOk = true ∧ ownerFits (unheld d id) c ∧ ownerSigned (unheld d id) c = false)
    (fun d id _ => (unheld d id).newNonce.endCmd id .signatureInvalid 0 0) ∧
  Fetches .debugUnlock .debugUnlock ∧
  WithData .debugUnlock (fun d id c => d.entropyOk = true ∧ tokenWhole c ∧ tokenGood (unheld d id) (imageIn c) = true)
    (fun d id c => (debugOpened (unheld d id).newNonce (imageIn c)).endCmd id .success 0 0) ∧
  WithData .debugUnlock (fun d id c => d.entropyOk = true ∧ tokenWhole c ∧ tokenGood (unheld d id) (imageIn c) = false)
    (fun d id _ => (unheld d id).newNonce.endCmd id .signatureInvalid 0 0)

namespace Sys2Proof.Claims

open Sys2Proof Sys2Proof.Machine

/-! ### Tenants and the device -/

/-- A command waits for the partner, if a link frame was sent, else completes. -/
def told (id retval : Nat) (r : Dev × Option Nat) : Dev := r.1.waitPartner id r.2 retval

/-- TENANT_SHARES: share i set to e, the buckets filled and cut to the new depths. -/
def shareSet (d : Dev) (id t i e : Nat) (noted : Bool) : Dev :=
  ((noteIf noted d id).modTenant t fun x =>
    capTokens (setShare i e (x.fill (noteIf noted d id).now (noteIf noted d id).admitPct))).endCmd id .success 0 e

/-- Whether queue k can be bound to queue pair n: up, in service, of a host port, unbound, a tombstone or queue k's own. -/
def qpFree (d : Dev) (n k : Nat) : Prop :=
  ∃ p, tget d.eth.qps n = some p ∧ p.up = true ∧ p.failed = false ∧ p.port < 16 ∧ (p.use = .unbound ∨ p.use = .queue k ∨ ∃ t, p.use = .tomb t)

/-- Command records left for queue k (R63). -/
def recordsLeft (d : Dev) (k : Nat) : Nat :=
  d.recordsAll - (d.recordsUsed - (match tget d.queues k with | some q => q.depth | none => 0))

/-- Tenant t removed, RETVAL what went with it (R165); a part in isolated mode owes it to its partner (R598). -/
def removed (d : Dev) (id t : Nat) : Dev :=
  let r := d.removeTenant t true
  let e := if r.1.isolated then { r.1 with peer := { r.1.peer with owed := r.1.peer.owed ++ [.noTenant t] } } else r.1
  e.endCmd id .success 0 r.2

/-- Whether a queue is bound to a queue pair that serves it. -/
def queueServed (d : Dev) (k : Nat) : Bool := match tget d.queues k with | some q => q.qpn.isSome && !q.failed | none => false

/-- The number that TENANT of a command names. -/
def tenantNo (c : Cmd) : Nat := c.msg.par 0x28 2

/-- What a write of a register comes to for its command: clamps noted; LOCKED; a wait for the port group; or done once the partner has the change;
RETVAL is the word read back. -/
def writtenBack (id : Nat) (c : Cmd) (w : Written) : Dev :=
  let e := noteIf w.clamped w.dev id
  let back := (e.peek c.msg.address).getD 0
  if w.locked then e.endCmd id .locked 0 back
  else if w.group ≠ 0 then e.modCmd id fun c => { c with hold := .drain, retval := back, aux := (c.setNum 19 w.group).aux }
  else e.waitPartner id w.seq back

end Sys2Proof.Claims

/-- Tenant definition (Table 3-15, R161, R162, R595, R599–R601): TENANT_CREATE makes a tenant OFF with its shares at reset; TENANT_BIND sets a
binding of one that is OFF or QUIESCED; TENANT_SHARES sets a share, clamped, and returns it; QUEUE_BIND binds a queue with a depth clamped to the records
left; QUEUE_DELETE deletes one that is idle or failed. -/
def Obligations.TenantOpcodes : Prop :=
  Runs .tenantCreate .tenantCreate (fun d _ c => 1 ≤ tenantNo c ∧ tenantNo c ≤ 1023 ∧ tget d.tenants (tenantNo c) = none ∧ d.isolated = false)
    (fun d id c => told id 0 ({ d with tenants := tput d.tenants (tenantNo c) (Tenant.fresh (tenantNo c) d.now) }.tellTenant (tenantNo c))) ∧
  Runs .tenantCreate .tenantCreate (fun d _ c => 1 ≤ tenantNo c ∧ tenantNo c ≤ 1023 ∧ ((tget d.tenants (tenantNo c)).isSome ∨ d.isolated = true))
    (ends .stateConflict fun _ _ => 0) ∧
  (∀ x, Runs .tenantBind .tenantBind (fun d _ c => named d c x ∧ c.msg.par 0x2A 1 ≤ 3 ∧ c.msg.par 0x2B 1 ≤ 3 ∧ (x.life = .off ∨ x.life = .quiesced) ∧
      d.isolated = false) (fun d id c => told id 0 ((d.bindTenant (tenantNo c) (c.msg.par 0x2A 1 * 4 + c.msg.par 0x2B 1)
        (BitVec.ofNat 128 (c.msg.par 0x30 16))).tellTenant (tenantNo c)))) ∧
  (∀ x, Runs .tenantBind .tenantBind (fun d _ c => named d c x ∧ c.msg.par 0x2A 1 ≤ 3 ∧ c.msg.par 0x2B 1 ≤ 3 ∧ (x.life = .on ∨ x.life = .draining))
    (ends .stateConflict fun _ _ => 0)) ∧
  (∀ x i lo hi, Runs .tenantShares .tenantShares (fun d _ c => named d c x ∧ i = c.msg.par 0x2A 1 ∧ shareRange i = some (lo, hi)) (fun d id c =>
    shareSet d id (tenantNo c) i (clampN lo hi (c.msg.par 0x30 8)) (decide (clampN lo hi (c.msg.par 0x30 8) ≠ c.msg.par 0x30 8)))) ∧
  (∀ x, TurnedAway .tenantShares .tenantShares (fun d c => named d c x ∧ 6 ≤ c.msg.par 0x2A 1) .paramInvalid) ∧
  (∀ k, Runs .queueBind .queueBind (fun d _ c => d.queueNamed c = some k ∧ qpFree d (c.msg.par 0x2C 3) k ∧ queueServed d k = false ∧ recordsLeft d k ≠ 0)
    (fun d id c =>
      let e := satAt (recordsLeft d k) (clampN 1 4096 (c.msg.par 0x30 2))
      ((noteIf (decide (e ≠ c.msg.par 0x30 2)) d id).bindQueue k (c.msg.par 0x2C 3) e).endCmd id .success 0 e)) ∧
  (∀ k, Runs .queueBind .queueBind (fun d _ c => d.queueNamed c = some k ∧ qpFree d (c.msg.par 0x2C 3) k ∧ queueServed d k = true)
    (ends .stateConflict fun _ _ => 0)) ∧
  (∀ k q, Runs .queueDelete .queueDelete (fun d _ c => d.queueNamed c = some k ∧ tget d.queues k = some q ∧ (d.outstanding k = 0 ∨ q.failed = true))
    (fun d id _ => (d.deleteQueue k false).endCmd id .success 0 q.held.length)) ∧
  (∀ k q, Runs .queueDelete .queueDelete (fun d _ c => d.queueNamed c = some k ∧ tget d.queues k = some q ∧ d.outstanding k ≠ 0 ∧ q.failed = false)
    (ends .stateConflict fun _ _ => 0))

/-- Lifecycle of a tenant (Table 3-16, R163–R166, R607–R613, R618): each of ENABLE, QUIESCE and RESET_TENANT in each of the four states; REMOVE_TENANT
of a quiet tenant here, or once the partner has answered; MIGRATION_LOG on and off. -/
def Obligations.TenantLifecycle : Prop :=
  (∀ x, Runs .enableTenant .enableTenant (fun d _ c => named d c x ∧ x.life = .off ∧ x.bound 0 ≠ [] ∧ (x.bound 2 ≠ [] ∨ x.bound 3 ≠ []))
    (fun d id c => (d.tenantOn (tenantNo c) (x.inc + 1)).endCmd id .success 0 ((x.inc + 1) % 65536))) ∧
  (∀ x, Runs .enableTenant .enableTenant (fun d _ c => named d c x ∧ x.life = .off ∧ (x.bound 0 = [] ∨ x.bound 2 = [] ∧ x.bound 3 = []))
    (ends .stateConflict fun _ _ => 0)) ∧
  (∀ x, Runs .enableTenant .enableTenant (fun d _ c => named d c x ∧ x.life = .on) (ends .success fun _ _ => x.inc)) ∧
  (∀ x, Runs .enableTenant .enableTenant (fun d _ c => named d c x ∧ x.life = .draining) (fun d id c =>
    (d.modTenant (tenantNo c) fun x => { x with enableHeld := some id }).modCmd id fun c => { c with hold := .drain })) ∧
  (∀ x, Runs .enableTenant .enableTenant (fun d _ c => named d c x ∧ x.life = .quiesced)
    (fun d id c => (d.tenantOn (tenantNo c) x.inc).endCmd id .success 0 x.inc)) ∧
  (∀ x, Runs .quiesceTenant .quiesceTenant (fun d _ c => named d c x ∧ x.life = .off) (ends .stateConflict fun _ _ => 0)) ∧
  (∀ x, Runs .quiesceTenant .quiesceTenant (fun d _ c => named d c x ∧ x.life = .on) (fun d id c =>
    ((d.modTenant (tenantNo c) fun x => { x with life := .draining, quiesceHeld := x.quiesceHeld ++ [id] }).modCmd id
      fun c => { c with hold := .drain }).drainEnd (tenantNo c))) ∧
  (∀ x, Runs .quiesceTenant .quiesceTenant (fun d _ c => named d c x ∧ x.life = .draining) (fun d id c =>
    (d.modTenant (tenantNo c) fun x => { x with life := .draining, quiesceHeld := x.quiesceHeld ++ [id] }).modCmd id fun c => { c with hold := .drain })) ∧
  (∀ x, Runs .quiesceTenant .quiesceTenant (fun d _ c => named d c x ∧ x.life = .quiesced) (ends .success fun _ _ => 0)) ∧
  (∀ x, Runs .resetTenant .resetTenant (fun d _ c => named d c x ∧ x.life = .off) (ends .success fun _ _ => 0)) ∧
  (∀ x, Runs .resetTenant .resetTenant (fun d _ c => named d c x ∧ x.life = .quiesced)
    (fun d id c => ((d.tenantOff (tenantNo c)).endMigration (tenantNo c)).endCmd id .success 0 0)) ∧
  (∀ x, Runs .resetTenant .resetTenant (fun d _ c => named d c x ∧ (x.life = .on ∨ x.life = .draining)) (ends .notQuiesced fun _ _ => 0)) ∧
  (∀ x, Runs .removeTenant .removeTenant (fun d _ c => named d c x ∧ d.isolated = false ∧ (x.life = .off ∨ x.life = .quiesced) ∧ d.linked = false)
    (fun d id c => removed d id (tenantNo c))) ∧
  (∀ x, Runs .removeTenant .removeTenant (fun d _ c => named d c x ∧ d.isolated = false ∧ (x.life = .off ∨ x.life = .quiesced) ∧ d.linked = true)
    (fun d id c => (d.linkTell (.control (.askTenant (tenantNo c)))).modCmd id fun c => { c with hold := .partner })) ∧
  (∀ x, Runs .removeTenant .removeTenant (fun d _ c => named d c x ∧ d.isolated = false ∧ (x.life = .on ∨ x.life = .draining))
    (ends .notQuiesced fun _ _ => 0)) ∧
  (∀ x y r, Runs .migrationLog .migrationLog (fun d _ c => named d c x ∧ c.msg.par 0x2A 1 = 1 ∧ x.migr = none ∧ c.descs = y :: r ∧ c.msg.par 0x30 8 % 4096 = 0)
    (fun d id c => (d.modTenant (tenantNo c) fun x =>
      { x with migr := some { base := c.msg.par 0x30 8, length := c.length, desc := y, bits := [], issuer := c.qpn }, migrOut := 0 }).endCmd id .success 0 0)) ∧
  (∀ x g, Runs .migrationLog .migrationLog (fun d _ c => named d c x ∧ c.msg.par 0x2A 1 = 0 ∧ x.migr = some g ∧
      (d.xfers.any fun e => decide (e.2.load = Load.bitmap) && decide (e.2.qpn = g.issuer)) = false)
    (fun d id c => (d.modTenant (tenantNo c) fun x => { x with migr := none }).endCmd id .success 0 x.migrOut)) ∧
  (∀ x, Runs .migrationLog .migrationLog (fun d _ c => named d c x ∧ c.msg.par 0x2A 1 = 0 ∧ x.migr = none)
    (fun d id c => (d.modTenant (tenantNo c) fun x => { x with migr := none }).endCmd id .success 0 0))

/-- Device family (Tables 3-17 and 3-18, R7, R8, R20–R24, R168–R172, R735): REG_READ and WIN_READ return a word; REG_WRITE and WIN_WRITE write one and
read it back; an address that is no register is ADDRESS_INVALID; FW_STAGE stores a sound image in the slot that is not ACTIVE; FW_ACTIVATE without a
restart names the slot of the next boot; POWER_STATE starts to move; EVENT_READ sends the records it took at its parse; THERMAL_ACK acknowledges one. -/
def Obligations.DeviceOpcodes : Prop :=
  (∀ e w, Runs .regRead .regRead (fun d _ c => d.readReg c.qkey c.msg.address = some (e, w)) (fun _ id _ => e.succeed id w)) ∧
  TurnedAway .regRead .regRead (fun d c => d.readReg c.qkey c.msg.address = none) .addressInvalid ∧
  (∀ w, Runs .regWrite .regWrite (fun d _ c => d.writeReg c.msg.address c.msg.value = some w) (fun d id c => writtenBack id c w)) ∧
  TurnedAway .regWrite .regWrite (fun d c => d.writeReg c.msg.address c.msg.value = none) .addressInvalid ∧
  (∀ e w, Runs .winRead .winRead (fun d _ c => c.msg.address % 4 = 0 ∧ c.msg.address ≤ 0xBC ∧
    d.readReg c.qkey (windowBase c.tenant + c.msg.address) = some (e, w)) (fun _ id _ => e.succeed id w)) ∧
  TurnedAway .winRead .winRead (fun _ c => c.msg.address % 4 ≠ 0 ∨ 0xBC < c.msg.address) .addressInvalid ∧
  Runs .winWrite .winWrite (fun _ _ c => c.msg.address % 4 = 0 ∧ c.msg.address ≤ 0xBC) (fun d id c =>
    (d.writeWindow c.tenant c.msg.address c.msg.value false).succeed id
      (((d.writeWindow c.tenant c.msg.address c.msg.value false).peek (windowBase c.tenant + c.msg.address)).getD 0)) ∧
  TurnedAway .winWrite .winWrite (fun _ c => c.msg.address % 4 ≠ 0 ∨ 0xBC < c.msg.address) .addressInvalid ∧
  Fetches .fwStage .fwStage ∧
  (∀ x, WithData .fwStage (fun d _ c => d.updating = false ∧ imageOf c.payload = some x ∧ d.imageSound x = true ∧ d.boot.fuses ≤ imageSvn x ∧
      d.boot.record.pending ≠ some (1 - d.boot.record.active)) (fun d id _ =>
    let images := (upTo 2).map fun s => if s = 1 - d.boot.record.active then some x else d.boot.images.getD s none
    { d with boot := { d.boot with images := images } }.firmwareRegs.succeed id (imageVersion x))) ∧
  (∀ x, WithData .fwStage (fun d _ c => d.updating = false ∧ imageOf c.payload = some x ∧ d.imageSound x = false)
    (fun d id _ => d.complete id .signatureInvalid 0)) ∧
  (∀ x, WithData .fwStage (fun d _ c => d.updating = false ∧ imageOf c.payload = some x ∧ d.imageSound x = true ∧ imageSvn x < d.boot.fuses)
    (fun d id _ => d.complete id .rollback 0)) ∧
  (∀ x, Runs .fwActivate .fwActivate (fun d _ c => c.msg.par 0x28 1 ≤ 1 ∧ c.msg.par 0x29 1 = 0 ∧ d.slotImage (c.msg.par 0x28 1) = some x ∧
      c.msg.par 0x28 1 ≠ d.boot.record.active) (fun d id c =>
    ((d.writeRecord fun r => { r with pending := some (c.msg.par 0x28 1), tries := 0, update := r.update || false }).firmwareRegs).succeed id 0)) ∧
  TurnedAway .fwActivate .fwActivate (fun _ c => 1 < c.msg.par 0x28 1 ∨ 1 < c.msg.par 0x29 1) .paramInvalid ∧
  Runs .powerState .powerState (fun d _ c => c.msg.par 0x28 1 ≤ 4 ∧ d.isSet PWR_STAT_MOVING = false ∧ d.rd PWR_STAT_STATE < c.msg.par 0x28 1 ∧
      (d.streams.any fun e => e.2.isOpen && decide (e.2.cls = 2)) = false) (fun d id c =>
    let e := (d.wr PWR_STAT_TARGET (c.msg.par 0x28 1)).succeed id (d.rd PWR_STAT_STATE)
    let f := e.wr PWR_STAT_MOVING 1
    { f with power := { f.power with entering := some (c.msg.par 0x28 1), cmd := some id } }) ∧
  Runs .powerState .powerState (fun d _ c => c.msg.par 0x28 1 ≤ 4 ∧ d.isSet PWR_STAT_MOVING = true) (fun d id _ => d.complete id .stateConflict 0) ∧
  Runs .eventRead .eventRead always (fun d id c =>
    d.sendResult id c.payload (if c.payload.isEmpty then c.msg.par 0x28 8 else le c.payload (c.payload.length - 96) 8 + 1)) ∧
  (∀ r, Runs .thermalAck .thermalAck (fun d _ c => d.thermal.records[c.msg.par 0x28 1]? = some r) (fun d id c =>
    let recs := modAt d.thermal.records (c.msg.par 0x28 1) fun r => if r.rstate = 1 then { r with rstate := 2 } else r
    ({ d with thermal := { d.thermal with records := recs } }.recordRegs.succeed id 0).releaseHold)) ∧
  TurnedAway .thermalAck .thermalAck (fun d c => d.thermal.records[c.msg.par 0x28 1]? = none) .paramInvalid

/-- Diagnostics family (Tables 3-19 and 3-20, R173, R174): ECHO returns DATA; KAT_RUN tests what it names; TMEM_SCRUB queues its range. -/
def Obligations.DiagnosticOpcodes : Prop :=
  Runs .echo .echo always (ends .success fun _ c => c.msg.par 0x28 8) ∧
  Runs .katRun .katRun (fun _ _ c => c.msg.par 0x28 1 ≤ 4 ∧ (c.msg.par 0x29 1 = 0xFF ∨ c.msg.par 0x29 1 < katCount (c.msg.par 0x28 1))) (fun d id c =>
    (d.modCmd id fun x => { x with
      hold := .kat, waits := if c.msg.par 0x29 1 = 0xFF then upTo (katCount (c.msg.par 0x28 1)) else [c.msg.par 0x29 1] }).katAll) ∧
  TurnedAway .katRun .katRun (fun _ c => 4 < c.msg.par 0x28 1 ∨ c.msg.par 0x29 1 ≠ 0xFF ∧ katCount (c.msg.par 0x28 1) ≤ c.msg.par 0x29 1)
    .paramInvalid ∧
  Runs .tmemScrub .tmemScrub (fun _ _ c => c.msg.par 0x28 8 % 8 = 0 ∧ c.msg.par 0x30 8 % 8 = 0 ∧ c.msg.par 0x28 8 + c.msg.par 0x30 8 ≤ 0x10000000 ∧
      32 ≤ c.length) (fun d id c => d.queueScrub { first := c.msg.par 0x28 8, bytes := c.msg.par 0x30 8, cmd := some id }) ∧
  Runs .tmemScrub .tmemScrub (fun _ _ c => c.msg.par 0x28 8 % 8 = 0 ∧ c.msg.par 0x30 8 % 8 = 0 ∧ c.msg.par 0x28 8 + c.msg.par 0x30 8 ≤ 0x10000000 ∧
      c.length < 32) (ends .bufferSmall fun _ _ => 32)

namespace Sys2Proof.Claims

open Sys2Proof Sys2Proof.Machine

/-! ### Registers (chapter 00) -/

/-- Whether two fields share no bit. -/
def Apart (f g : Fld) : Prop := f.addr ≠ g.addr ∨ f.lo + f.width ≤ g.lo ∨ g.lo + g.width ≤ f.lo

/-- Whether a field lies within its word. -/
def Fits32 (f : Fld) : Prop := f.lo + f.width ≤ 32

/-- The fields of a word stored, each by its access code. -/
def stored (d : Dev) (sp : RegSpec) (j a v : Nat) : WriteAcc :=
  sp.order.foldl (WriteAcc.field d sp j a v) { dev := d, locked := false, clamped := false }

/-- The command of a register row done: what follows from the write follows, clamps are noted, and RETVAL is the word read back. -/
def rowDone (id a : Nat) (clamped : Bool) (d : Dev) : Dev :=
  let e := noteIf clamped d.settle id
  (e.endCmd id .success 0 ((e.peek a).getD 0)).settle

/-- Row i is a REG_WRITE of `val` to register `addr` (R7–R16): its frame being taken, and `ok` being so of the part and the word, its fields are stored
by their access codes and it has the effect `eff` of the part, the part before the write, the register's index and the word. -/
def RowRuns (i : Msg → Word32 → Instr) (addr : Msg → Nat) (val : Word32 → Nat) (ok : Dev → Nat → Prop) (eff : Dev → Dev → Nat → Nat → Dev) : Prop :=
  ∀ (m : Msg) (v : Word32) (k : Nat) (q : Queue) (t : Tenant) (c : Cmd) (sp : RegSpec) (j : Nat) (s : State),
    Passes .regWrite (regFrame m (addr m) (val v)) k q t s.dev →
    tget (passed .regWrite (regFrame m (addr m) (val v)) k q t s.dev).cmds (idOf (regFrame m (addr m) (val v)) k q s.dev) = some c →
    specAt (addr m) = some (sp, j) → ok (passed .regWrite (regFrame m (addr m) (val v)) k q t s.dev) (val v) →
    (stored (passed .regWrite (regFrame m (addr m) (val v)) k q t s.dev) sp j (addr m) (val v)).locked = false →
    let d := passed .regWrite (regFrame m (addr m) (val v)) k q t s.dev
    let x := stored d sp j (addr m) (val v)
    exec (i m v) s = .next (withDev s (rowDone (idOf (regFrame m (addr m) (val v)) k q s.dev) (addr m) x.clamped (eff x.dev d j (val v))))

/-- A register that is no array. -/
def at_ (a : Nat) (_ : Msg) : Nat := a

/-- The register of an array that a frame names. -/
def in_ (a stride n : Nat) (m : Msg) : Nat := rowAddr a stride n m.address

/-- The word with bit b set. -/
def withBit (b : Nat) (v : Word32) : Nat := setBits v.toNat b 1 1

/-- The word as it is. -/
def whole (v : Word32) : Nat := v.toNat

/-- Nothing further is asked, of the part and the word. -/
def free (_ : Dev) (_ : Nat) : Prop := True

/-- Nothing but what the access codes do. -/
def storedOnly (d _ : Dev) (_ _ : Nat) : Dev := d

/-- Only the row's own bit is set among those that start something (bits 0 to 4 of ARR_GRP_CTL, 0 to 2 of SCH_CCTL and PEER_CTL). -/
def alone (n b : Nat) (_ : Dev) (w : Nat) : Prop := ∀ i < n, i ≠ b → bit w i = false

end Sys2Proof.Claims

/-- The register file: a field written reads back as the value, its bits beyond the width dropped; every field that shares no bit with it reads as
before; the file keeps its canonical form, and a register nobody wrote reads as its reset word. -/
def Obligations.RegisterFileLaws : Prop :=
  (∀ (rf : RegFile) (f : Fld) (v : Nat), rf.wf = true → Fits32 f →
    (rf.setFld f v).wf = true ∧ (rf.setFld f v).fld f = v % 2 ^ f.width ∧
      ∀ g : Fld, Fits32 g → Apart f g → (rf.setFld f v).fld g = rf.fld g) ∧
    ∀ (a : Nat), RegFile.wf [] = true ∧ rawWord [] a = resetWord a

/-- Table 0-3, on one field of a REG_WRITE of w: RO stores nothing; RW stores; W1C clears the bits written as one and W1S sets them; RWC stores the
nearest legal value and notes the clamp (R13); RWL stores while its lock, judged as it stood before the write, is open, and else keeps the field and notes
a change (R15, R16). No other register changes. -/
def Obligations.AccessCodes : Prop :=
  ∀ (d : Dev) (sp : RegSpec) (i a w lo width : Nat) (rst : Nat → Nat) (x : WriteAcc), lo + width ≤ 32 → x.dev.regs.wf = true →
    let f : Fld := ⟨a, lo, width⟩
    let v := bits w lo width
    (x.field d sp i a w ⟨lo, width, .ro, rst⟩ = x) ∧
    (d.notStored a = false → (x.field d sp i a w ⟨lo, width, .rw, rst⟩).dev.rd f = v) ∧
    (∀ b < width, bit ((x.field d sp i a w ⟨lo, width, .w1c, rst⟩).dev.rd f) b = (bit (x.dev.rd f) b && !bit v b)) ∧
    (∀ b < width, bit ((x.field d sp i a w ⟨lo, width, .w1s, rst⟩).dev.rd f) b = (bit (x.dev.rd f) b || bit v b)) ∧
    (∀ l h, l ≤ h → h < 2 ^ width → let y := x.field d sp i a w ⟨lo, width, .rwc (.range l h), rst⟩
      y.dev.rd f = clampN l h v ∧ y.clamped = (x.clamped || decide (v < l ∨ h < v)) ∧ y.locked = x.locked) ∧
    (∀ lock : Nat → Fld, let y := x.field d sp i a w ⟨lo, width, .rwl lock, rst⟩
      (d.isSet (lock i) = false → y.dev.rd f = v ∧ y.locked = x.locked) ∧
      (d.isSet (lock i) = true → y.dev = x.dev ∧ y.locked = (x.locked || decide (d.rd f ≠ v)))) ∧
    ∀ (acc : Acc) (b : Nat), b ≠ a → rawWord (x.field d sp i a w ⟨lo, width, acc, rst⟩).dev.regs b = rawWord x.dev.regs b

/-- R8, R20–R24: an address that is no multiple of 4, or lies in no register and no window, or past the 48 words of the window of a tenant that exists, is
none to a read or a write, and every other is a register of both; a tenant's write to its window
reaches its own events and notes only, and the window of no tenant reads as zero and takes no write. -/
def Obligations.AddressesAndWindows : Prop :=
  (∀ (d : Dev) (src a v : Nat), a % 4 ≠ 0 ∨ windowOf a = none ∧ specAt a = none ∨
      (∃ t off, windowOf a = some (t, off) ∧ thas d.tenants t = true ∧ 0xBC < off) →
    d.peek a = none ∧ d.readReg src a = none ∧ d.writeReg a v = none) ∧
  (∀ (d : Dev) (src a v : Nat), a % 4 = 0 → windowOf a = none ∧ (specAt a).isSome ∨
      (∃ t off, windowOf a = some (t, off) ∧ (thas d.tenants t = true → off ≤ 0xBC)) →
    (d.peek a).isSome ∧ (d.readReg src a).isSome ∧ (d.writeReg a v).isSome) ∧
  (∀ (d : Dev) (t off v : Nat), tget d.tenants t = none → d.windowWord t off = 0 ∧ d.writeWindow t off v true = d) ∧
  (∀ (d : Dev) (t u off v : Nat) (mgr : Bool), t ≠ u → tget (d.writeWindow t off v mgr).tenants u = tget d.tenants u ∧
    ({ d.writeWindow t off v mgr with tenants := d.tenants } : Dev) = d) ∧
  (∀ (d : Dev) (t off v : Nat), off ≠ 0x20 → ¬(0xB8 ≤ off ∧ off < 0xC0) → d.writeWindow t off v false = d) ∧
  ∀ (d : Dev) (t v : Nat) (x : Tenant) (mgr : Bool), tget d.tenants t = some x →
    ∃ y, tget (d.writeWindow t 0x20 v mgr).tenants t = some y ∧ y = { x with events := x.events &&& ~~~ BitVec.ofNat 32 v }

/-- R17: reading the low word of a pair gives it and latches the high word for that source; the source's next read of the high word gives the word that
was latched, whatever it has come to since, and lets the latch go; the latch of every other pair and source is as it was; a read of a high word with no
latch gives the current word and takes none. -/
def Obligations.LatchedPairs : Prop :=
  (∀ (d : Dev) (src a w h : Nat), Tbl.rising d.latches = true → isLo a = true → d.peek a = some w → d.peek (a + 4) = some h →
    ∃ e, d.readReg src a = some (e, w) ∧ (∀ k, k ≠ latchKey src a → tget e.latches k = tget d.latches k) ∧
      (∀ f : Dev, Tbl.rising f.latches = true → tget f.latches (latchKey src a) = tget e.latches (latchKey src a) → (f.peek (a + 4)).isSome →
        ∃ g, f.readReg src (a + 4) = some (g, h % 2 ^ 32) ∧ tget g.latches (latchKey src a) = none ∧
          ∀ k, k ≠ latchKey src a → tget g.latches k = tget f.latches k)) ∧
  ∀ (d : Dev) (src a h : Nat), isLo a = true → d.peek (a + 4) = some h → tget d.latches (latchKey src a) = none →
    d.readReg src (a + 4) = some (d, h)

/-- The rows that write registers of the fault block, the scheduler, the flash ports, the firmware, the groups, the tenants and the stencil array: each
is a REG_WRITE that stores the register's fields and has the row's own effect (R251, R267, R363, R366, R381, R389, R402, R570, R574, R577, R578, R584). -/
def Obligations.RegisterRows : Prop :=
  RowRuns .ledgerTest (at_ 0x480104) (withBit 8) free (fun d _ _ w => d.ledgerTest w) ∧
  RowRuns .coreRetire (at_ 0x24011C) (withBit 0) (alone 3 0) (fun d _ _ _ => d.retireCore) ∧
  RowRuns .histClear (at_ 0x24011C) (withBit 1) (alone 3 1) (fun d _ _ _ => d.clearHist) ∧
  RowRuns .selftestNow (at_ 0x24011C) (withBit 2) (alone 3 2) (fun d _ _ _ => d.selftestNow) ∧
  RowRuns .flpRetrainForce (in_ 0x10000C 4096 64) (withBit 15) free (fun d _ j _ => d.modPort j fun p => { p with due := true }) ∧
  RowRuns .fwConfirm (at_ 0x3C) (withBit 0) free (fun d _ _ _ => d.confirm) ∧
  RowRuns .groupCreate (at_ 0x1C0018) (withBit 0) (alone 5 0) (fun d _ _ _ => d.createGroup) ∧
  RowRuns .groupDissolve (at_ 0x1C0018) (withBit 1) (alone 5 1) (fun d _ _ _ => d.dissolveGroup) ∧
  RowRuns .groupResume (at_ 0x1C0018) (withBit 2) (alone 5 2) (fun d _ _ _ => d.resumeGroup) ∧
  RowRuns .groupRebuild (at_ 0x1C0018) (withBit 3) (alone 5 3) (fun d _ _ _ => d.rebuildGroup) ∧
  RowRuns .groupRehome (at_ 0x1C0018) (withBit 4) (alone 5 4) (fun d _ _ _ => d.rehome (d.rd ARR_GSEL_GROUP)) ∧
  RowRuns .tenBsel (at_ 0x90210) whole free (fun d _ _ _ => d.loadBinding) ∧
  RowRuns .stnLookup (at_ 0x2C0120) (withBit 16) (fun _ w => bit w 17 = false) (fun d _ _ _ => d.lookup) ∧
  RowRuns .lookupStep (at_ 0x2C0120) (withBit 17) (fun _ w => bit w 16 = false) (fun d _ _ _ => d.lookStep) ∧
  RowRuns .stnBankAssign (in_ 0x2C0000 4 16) whole free (fun d _ j w => d.assignBank j (bit w 2) (bits w 4 10)) ∧
  RowRuns .hotBanks (at_ 0x180100) whole free (fun d d0 _ _ => d.moveHot (d0.rd MAP_DEDUP_CFG_HOT_BANKS) (d.rd MAP_DEDUP_CFG_HOT_BANKS)) ∧
  RowRuns .measExtend (at_ 0x380520) (withBit 8) (fun _ w => 16 ≤ bits w 0 5) (fun d _ _ w => d.extendByManager w) ∧
  (∀ (m : Msg) (k : Nat) (q : Queue) (t : Tenant) (c : Cmd) (s : State), Passes .regRead (regFrame m 0x380540 m.value) k q t s.dev →
    tget (passed .regRead (regFrame m 0x380540 m.value) k q t s.dev).cmds (idOf (regFrame m 0x380540 m.value) k q s.dev) = some c →
    let d := passed .regRead (regFrame m 0x380540 m.value) k q t s.dev
    let b := d.meas (d.rd DIG_MEAS_SEL_INDEX)
    exec (.digMeasDataRead m) s = .next (withDev s (
      (({ d with boot := { d.boot with measLatch := b } }).succeed (idOf (regFrame m 0x380540 m.value) k q s.dev) (le b 0 4)).settle))) ∧
  (∀ (m : Msg) (k : Nat) (q : Queue) (t : Tenant) (c : Cmd) (w : Nat) (s : State), isLo m.address = true → Passes .regRead m k q t s.dev →
    tget (passed .regRead m k q t s.dev).cmds (idOf m k q s.dev) = some c → (passed .regRead m k q t s.dev).peek m.address = some w →
    let d := passed .regRead m k q t s.dev
    exec (.loReadLatch m) s = .next (withDev s ((({ d with
      latches := tput d.latches (latchKey c.qkey m.address) (BitVec.ofNat 32 ((d.peek (m.address + 4)).getD 0)) }).succeed (idOf m k q s.dev) w).settle)))

/-- The rows that write registers of the pair, power, time, locks, Ethernet and tile memory (R15, R35, R628, R630, R651, R687, R688, R693, R703, R730, R731,
R733); those whose answer waits: TEN_BCTL_WRITE for the partner (R595, R621), ETH_GCFG_WRITE for its port group (R687). -/
def Obligations.RegisterRowsMore : Prop :=
  RowRuns .handback (at_ 0x80004) (withBit 0) (alone 3 0) (fun d _ _ _ => d.startHandback) ∧
  RowRuns .acceptNew (at_ 0x80004) (withBit 1) (alone 3 1) (fun d _ _ _ => d.acceptNew) ∧
  RowRuns .peerCtlRekey (at_ 0x80004) (withBit 2) (alone 3 2) (fun d _ _ _ => d.rekeyTx) ∧
  RowRuns .paceReload (in_ 0x10210 4 4) (withBit 31) free (fun d _ j _ => d.reloadLow j) ∧
  RowRuns .timeSet (at_ 0x3000C) (withBit 0) free (fun d _ _ _ => d.setTime) ∧
  RowRuns .timeCtlLock (at_ 0x3000C) (withBit 1) (fun _ w => bit w 0 = false) storedOnly ∧
  RowRuns .ethCtlLock (at_ 0x43000) (withBit 0) free storedOnly ∧
  RowRuns .tmemCtlLock (at_ 0x440000) (withBit 1) free storedOnly ∧
  RowRuns .pwrRailLock (in_ 0x10100 4 4) (withBit 7) free storedOnly ∧
  RowRuns .pwrAuxLock (in_ 0x10120 4 4) (withBit 7) free storedOnly ∧
  RowRuns .thmCfgLock (at_ 0x20200) (withBit 20) free (fun d _ _ _ => d.releaseHold) ∧
  RowRuns .addrWrite (at_ 0x42000) (withBit 6) (fun _ w => bit w 7 = false) (fun d _ _ _ => d.setAddress) ∧
  RowRuns .cmConnect (at_ 0x42000) (withBit 7) (fun _ w => bit w 6 = false) (fun d _ _ _ => d.connect) ∧
  RowRuns .tmemClaim (at_ 0x440004) (withBit 28) (fun _ w => bit w 29 = false) (fun d _ _ _ => d.testClaim) ∧
  RowRuns .tmemRelease (at_ 0x440010) (withBit 10) free (fun d _ _ _ => d.testRelease) ∧
  RowRuns .scrubStart (at_ 0x440028) (withBit 0) free (fun d _ _ _ => d.scrubStart) ∧
  (∀ (m : Msg) (v : Word32) (k : Nat) (q : Queue) (t : Tenant) (c : Cmd) (sp : RegSpec) (j : Nat) (s : State),
    Passes .regWrite (regFrame m 0x440004 (withBit 29 v)) k q t s.dev →
    tget (passed .regWrite (regFrame m 0x440004 (withBit 29 v)) k q t s.dev).cmds (idOf (regFrame m 0x440004 (withBit 29 v)) k q s.dev) = some c →
    specAt 0x440004 = some (sp, j) → bit (withBit 29 v) 28 = false →
    (stored (passed .regWrite (regFrame m 0x440004 (withBit 29 v)) k q t s.dev) sp j 0x440004 (withBit 29 v)).locked = false →
    let d := passed .regWrite (regFrame m 0x440004 (withBit 29 v)) k q t s.dev
    let x := stored d sp j 0x440004 (withBit 29 v)
    let t := rowDone (idOf (regFrame m 0x440004 (withBit 29 v)) k q s.dev) 0x440004 x.clamped x.dev.testAct
    (s.dev.rd TMEM_TPAR_OP = 0 → exec (.tmemTestWrite m v) s = .next (withDev s (t))) ∧
    (s.dev.rd TMEM_TPAR_OP = 1 → exec (.tmemTestRead m v) s = .next (withDev s (t))) ∧
    (s.dev.rd TMEM_TPAR_OP = 2 → exec (.tmemInject m v) s = .next (withDev s (t)))) ∧
  (∀ (m : Msg) (v : Word32) (k : Nat) (q : Queue) (t : Tenant) (c : Cmd) (sp : RegSpec) (j : Nat) (s : State),
    Passes .regWrite (regFrame m 0x90224 (withBit 0 v)) k q t s.dev →
    tget (passed .regWrite (regFrame m 0x90224 (withBit 0 v)) k q t s.dev).cmds (idOf (regFrame m 0x90224 (withBit 0 v)) k q s.dev) = some c →
    specAt 0x90224 = some (sp, j) →
    (stored (passed .regWrite (regFrame m 0x90224 (withBit 0 v)) k q t s.dev) sp j 0x90224 (withBit 0 v)).locked = false →
    let d := passed .regWrite (regFrame m 0x90224 (withBit 0 v)) k q t s.dev
    let x := stored d sp j 0x90224 (withBit 0 v)
    let w : Written := { dev := x.dev.writeBinding.1.settle, locked := false, clamped := x.clamped, seq := x.dev.writeBinding.2, group := 0 }
    exec (.tenBctlWrite m v) s = .next (withDev s ((writtenBack (idOf (regFrame m 0x90224 (withBit 0 v)) k q s.dev) c w).settle))) ∧
  ∀ (m : Msg) (v : Word32) (k : Nat) (q : Queue) (t : Tenant) (c : Cmd) (sp : RegSpec) (j : Nat) (s : State),
    let a := in_ 0x40000 64 4 m
    Passes .regWrite (regFrame m a (whole v)) k q t s.dev →
    tget (passed .regWrite (regFrame m a (whole v)) k q t s.dev).cmds (idOf (regFrame m a (whole v)) k q s.dev) = some c →
    specAt a = some (sp, j) → (stored (passed .regWrite (regFrame m a (whole v)) k q t s.dev) sp j a (whole v)).locked = false →
    let d := passed .regWrite (regFrame m a (whole v)) k q t s.dev
    let x := stored d sp j a (whole v)
    let e := x.dev.groupWritten j
    let w : Written :=
      { dev := e.settle, locked := false, clamped := x.clamped, seq := none, group := if bit (whole v) 2 && e.groupHeld j then j + 1 else 0 }
    exec (.ethGcfgWrite m v) s = .next (withDev s ((writtenBack (idOf (regFrame m a (whole v)) k q s.dev) c w).settle))

namespace Sys2Proof.Claims

open Sys2Proof Sys2Proof.Machine

/-! ### Commands that are no frames -/

/-- Command c, wherever `ok` holds of the part, leaves the part as f makes it, and the queue as it was. -/
def Does (c : Instr) (ok : Dev → Prop) (f : Dev → Dev) : Prop := ∀ s : State, ok s.dev → exec c s = .next (withDev s (f s.dev))

/-- No condition on the part. -/
def any (_ : Dev) : Prop := True

/-- Command c changes nothing where `ok` holds of the part. -/
def Idle (c : Instr) (ok : Dev → Prop) : Prop := Does c ok id

/-- Transfer x gone, and the RDMA READ of its queue pair gone out that had waited behind sixteen (Table 18-3). -/
def without (d : Dev) (x : Nat) : Dev := d.endXfer x

/-- A pool with waiting request i taken out. -/
def unqueued (d : Dev) (pool i : Nat) : Dev := d.modPool pool fun q => { q with waiting := q.waiting.eraseIdx i }

/-- Command cmd, held at step 4 for reason h, which is gone. -/
def heldFor (cmd : Nat) (h : Hold) (d : Dev) : Prop :=
  ∃ c, tget d.cmds cmd = some c ∧ c.stage = .gate ∧ c.hold = h ∧ d.gateWhy cmd c ≠ h

/-- Core c in use: a core that exists, is active and not being retired, and runs no task. -/
def freeCore (c : Nat) (d : Dev) : Prop := (d.core c).active = true ∧ (d.core c).retiring = false ∧ (d.core c).running = none ∧ c < 136

/-- Entries of core c's delay list whose wake time has passed, 64 at most. -/
def dueDelays (d : Dev) (c : Nat) : List (Nat × Nat) := ((d.core c).delay.filter fun e => e.1 ≤ d.now).take 64

/-- Whether core c's self-test is due. -/
def testDue (d : Dev) (c : Nat) : Bool := (d.core c).testNow || decide ((d.core c).testedAt + msNs (d.rd SCH_CFG_SELFTEST) ≤ d.now)

/-- Whether a producer that waits before this one waits for the same class. -/
def blocked (d : Dev) (me : Nat × Nat × Nat) (k : Claim) : Bool :=
  (d.sched.waiting.takeWhile (· ≠ me)).any fun w => match d.plan w.1 w.2.1 w.2.2 with | some r => decide (r.claim = k) | none => false

/-- The part where a producer waits. -/
def waitsFor (d : Dev) (me : Nat × Nat × Nat) : Dev :=
  if d.sched.waiting.contains me then d else { d with sched := { d.sched with waiting := d.sched.waiting ++ [me] } }

/-- The buffer of its grain that a task refers to (R228), FINISH having none. -/
def grainRef (c : Cmd) (grain entry : Nat) : Option Nat := if entry = 3 then none else (tget c.grains grain).bind (·.buf)

/-- The task a producer makes (R548): its slots empty, its regions as planned, priority of its command, or 3 for class V; a firmware post with the
start time given. -/
def newTask (d : Dev) (q : TaskPlan) (c : Cmd) (cmd grain entry ti : Nat) (start : Option Nat) (fromFloor : Bool) : Task :=
  { prog := q.prog, entry := entry, cmd := cmd, grain := grain, tenant := c.tenant, claim := q.claim
    level := if q.claim = .V then 3 else c.prio, cores := q.cores, core := none, gen := (tget d.sched.gens ti).getD 0
    slots := List.replicate (declaredSlots entry) none, ret := none, call := none, state := .filling, started := false
    readyAt := d.now, wake := start.getD 0, deadline := q.deadline, missed := false, pc := 0, regs := [], preds := 1, segs := []
    rstack := [], budget := 0, stack := [], input := q.input, output := zeros q.output
    params := q.params.map fun n => BitVec.ofNat 64 n, fromFloor := fromFloor, refs := (grainRef c grain entry).toList }

/-- What the task's making does to its command: its grain at the filter, the hook or the scan; FINISH begun. -/
def taskMade (d : Dev) (cmd grain entry : Nat) : Dev :=
  match entry with
  | 0 => d.modGrain cmd grain fun x => { x with step := 75 }
  | 1 => d.modGrain cmd grain fun x => { x with step := 19 }
  | 2 => d.modGrain cmd grain fun x => { x with step := 15 }
  | _ => d.modCmd cmd fun c => c.setNum 16 1

/-- A token that is not for its task: counted, its handle released (R551). -/
def staleToken (d : Dev) (t : Token) : Dev :=
  match t.handle with | some h => (d.bump SCH_PENDING_STALE).release h.toNat | none => d.bump SCH_PENDING_STALE

/-- A miss of task t counted, at its core and its program (R569). -/
def missed (d : Dev) (task : Nat) (t : Task) : Dev :=
  let d := d.modTask task fun t => { t with missed := true }
  let d := match t.core with | some c => d.setCore c { (d.core c) with misses := sat32 ((d.core c).misses + 1) } | none => d
  { d with progs := tmod d.progs t.prog fun p => { p with misses := sat32 (p.misses + 1) } }

end Sys2Proof.Claims

/-- Buffers and transfers (R48, R77, R97, R139, R214, R229, R237, R239, R244): a grant takes the first request that can have its buffers and lets what asked go
on; a release lowers a count, and credits that were withheld go out where it can let them (R239); an audit compares each pool's map; data that arrives goes to its place, the command going on when all of a piece or chunk is
there; the last acknowledgement completes a result; a failed transfer fails its command, but not for a bitmap word. A transfer that has not gone out, its
queue pair having sixteen RDMA READs outstanding before it (Table 18-3), can neither be answered nor fail. -/
def Obligations.TransferCommands : Prop :=
  (∀ pool i r f, Does (.bufferGrant pool) (fun d => d.nextGrant pool = some (i, r, f)) (fun d =>
    let x := (unqueued d pool i).takeBuffers pool r.count f r.tenant r.use.owner
    (((x.1.granted r (x.2.map (handleOf pool))).countQuota pool).countWaits pool).settle)) ∧
  (∀ pool, Does (.bufferGrant pool) (fun d => d.nextGrant pool = none) (fun d => (d.countQuota pool).countWaits pool)) ∧
  (∀ h, Does (.bufferRelease h) any (fun d => (d.release h.toNat).advertise)) ∧
  Does .ledgerAudit (fun d => ∀ p < 5, (d.pool p).audit p = true) (fun d => d.addWrap FLT_LEDGER_AUDIT_AUDITS 1) ∧
  (∀ x data t c, Does (.rdmaReadResponse x data) (fun d => tget d.xfers x = some t ∧ t.read = true ∧ d.posted x t = true ∧ d.dumping = false ∧
      tget d.cmds t.cmd = some c ∧ t.load = .list) (fun d => ((without d x).listArrived t.cmd data).settle)) ∧
  (∀ x data t c off, Does (.rdmaReadResponse x data) (fun d => tget d.xfers x = some t ∧ t.read = true ∧ d.posted x t = true ∧ d.dumping = false ∧
      tget d.cmds t.cmd = some c ∧ t.load = .data off ∧ c.op = .write ∧
      ((without d x).putData t.cmd off (c.pieceBytes c.pieceGrains).1 t.length data).fetching t.cmd = true)
    (fun d => (without d x).putData t.cmd off (c.pieceBytes c.pieceGrains).1 t.length data)) ∧
  (∀ x data t c off, Does (.rdmaReadResponse x data) (fun d => tget d.xfers x = some t ∧ t.read = true ∧ d.posted x t = true ∧ d.dumping = false ∧
      tget d.cmds t.cmd = some c ∧ t.load = .data off ∧ c.op = .write ∧
      ((without d x).putData t.cmd off (c.pieceBytes c.pieceGrains).1 t.length data).fetching t.cmd = false)
    (fun d => (((without d x).putData t.cmd off (c.pieceBytes c.pieceGrains).1 t.length data).pieceArrived t.cmd).settle)) ∧
  (∀ x data t c off, Does (.rdmaReadResponse x data) (fun d => tget d.xfers x = some t ∧ t.read = true ∧ d.posted x t = true ∧ d.dumping = false ∧
      tget d.cmds t.cmd = some c ∧ t.load = .data off ∧ c.op ≠ .write ∧ ((without d x).putData t.cmd off 0 t.length data).fetching t.cmd = false)
    (fun d => (((without d x).putData t.cmd off 0 t.length data).chunkDone t.cmd).settle)) ∧
  (∀ x t, Does (.rdmaWriteAck x) (fun d => tget d.xfers x = some t ∧ t.read = false)
    (fun d => (((without d x).resultDone t.cmd).bitmapWaiters).settle)) ∧
  (∀ x t, Does (.transferFail x) (fun d => tget d.xfers x = some t ∧ d.posted x t = true ∧ t.load ≠ .bitmap) (fun d => ((without d x).transferFailed t.cmd).settle)) ∧
  (∀ x t, Does (.transferFail x) (fun d => tget d.xfers x = some t ∧ d.posted x t = true ∧ t.load = .bitmap)
    (fun d => (((without d x).resultDone t.cmd).bitmapWaiters).settle)) ∧
  (∀ x data, Idle (.rdmaReadResponse x data) fun d => tget d.xfers x = none) ∧ (∀ x, Idle (.rdmaWriteAck x) fun d => tget d.xfers x = none) ∧
  (∀ x, Idle (.transferFail x) fun d => tget d.xfers x = none) ∧
  (∀ x t data, Idle (.rdmaReadResponse x data) fun d => tget d.xfers x = some t ∧ d.posted x t = false) ∧
  ∀ x t, Idle (.transferFail x) fun d => tget d.xfers x = some t ∧ d.posted x t = false

/-- Waits that end (R100, R103, R131, R320, R379, R600): a command held at step 4 for one reason goes on from there once that reason is gone, and one held by
the hazard tracker once no earlier command is in its way; while the reason stands nothing changes. -/
def Obligations.ReleaseCommands : Prop :=
  (∀ (i : Nat → Instr) (h : Hold), (i, h) ∈ [(Instr.fenceRelease, Hold.fence), (Instr.volumeBarrierRelease, Hold.barrier), (Instr.shareRelease, Hold.share),
      (Instr.journalWaitRelease, Hold.journal), (Instr.tailWaitRelease, Hold.tail)] →
    ∀ cmd, Does (i cmd) (heldFor cmd h) (fun d => (d.tryPass cmd).settle) ∧ Idle (i cmd) fun d => ¬heldFor cmd h d) ∧
  ∀ cmd c, Does (.hazardRelease cmd) (fun d => tget d.cmds cmd = some c ∧ c.hold = .hazard ∧ d.hazardFree cmd c = true) (fun d => (d.hazard cmd).settle) ∧
    Idle (.hazardRelease cmd) fun d => tget d.cmds cmd = some c ∧ (c.hold ≠ .hazard ∨ d.hazardFree cmd c = false)

/-- The task scheduler (R228, R230, R548, R551, R560–R562, R565, R566, R569, R570): a task is made, with a reference on its grain's buffer, when its slots
and the reference can be had and no earlier producer of its class waits, nor, for a firmware post, an earlier post, else its producer waits, a wait for
the reference being counted; a token fills its empty slot, and a stale one is counted; a pending task is placed; a core takes its next task; a task that has its
answer, or whose delay is over, goes back to its core; a deadline that passes is counted once; a self-test that fails, and a core that stalls for 100 µs,
go out of service. -/
def Obligations.SchedulerCommands : Prop :=
  (∀ cmd grain entry start q c p b, Does (.taskCreate cmd grain ⟨entry, start⟩) (fun d => d.plan cmd grain entry = some q ∧ tget d.cmds cmd = some c ∧
      tget d.progs q.prog = some p ∧ p.loaded = true ∧ (p.entries.getD entry none).isSome ∧ blocked d (cmd, grain, entry) q.claim = false ∧
      (start = none ∨ d.sched.posts = []) ∧ d.maySlots (1 + declaredSlots entry) q.claim = some b ∧ (grainRef c grain entry).any d.refFull = false) (fun d =>
    let e := d.loadProg q.prog
    let ti := e.sched.freshTask
    let r := (grainRef c grain entry).elim e e.takeRef
    (taskMade { r with sched := { r.sched with
      tasks := tput r.sched.tasks ti (newTask e q c cmd grain entry ti start b), waiting := r.sched.waiting.filter (· ≠ (cmd, grain, entry))
      refWaits := r.sched.refWaits.filter (· ≠ (cmd, grain, entry)) } }
      cmd grain entry).schedRegs)) ∧
  (∀ cmd grain entry start q c p, Does (.taskCreate cmd grain ⟨entry, start⟩) (fun d => d.plan cmd grain entry = some q ∧ tget d.cmds cmd = some c ∧
      tget d.progs q.prog = some p ∧ p.loaded = true ∧ (p.entries.getD entry none).isSome ∧
      (blocked d (cmd, grain, entry) q.claim = true ∨ start.isSome ∧ d.sched.posts ≠ [] ∨ d.maySlots (1 + declaredSlots entry) q.claim = none))
    (fun d => waitsFor d (cmd, grain, entry))) ∧
  (∀ cmd grain entry start q c p b, Does (.taskCreate cmd grain ⟨entry, start⟩) (fun d => d.plan cmd grain entry = some q ∧ tget d.cmds cmd = some c ∧
      tget d.progs q.prog = some p ∧ p.loaded = true ∧ (p.entries.getD entry none).isSome ∧ blocked d (cmd, grain, entry) q.claim = false ∧
      (start = none ∨ d.sched.posts = []) ∧ d.maySlots (1 + declaredSlots entry) q.claim = some b ∧ (grainRef c grain entry).any d.refFull = true)
    (fun d => (waitsFor d (cmd, grain, entry)).taskRefWait (cmd, grain, entry))) ∧
  (∀ task gen slot t x, Does (.operandToken task gen slot t) (fun d => d.task task = some x ∧ x.gen = gen ∧ x.started = false ∧ x.slots[slot]? = some none ∧
      (x.slots.set slot (some t)).all (·.isSome) = true) (fun d =>
    (((d.modTask task fun _ => { x with slots := x.slots.set slot (some t), refs := x.refs ++ t.handle.toList.map (·.toNat) }).delivers 1).makeReady task).schedRegs)) ∧
  (∀ task gen slot t x, Does (.operandToken task gen slot t) (fun d => d.task task = some x ∧ x.gen = gen ∧ x.started = false ∧ x.slots[slot]? = some none ∧
      (x.slots.set slot (some t)).all (·.isSome) = false) (fun d =>
    ((d.modTask task fun _ => { x with slots := x.slots.set slot (some t), refs := x.refs ++ t.handle.toList.map (·.toNat) }).delivers 1).schedRegs)) ∧
  (∀ task gen slot t, Does (.operandToken task gen slot t) (fun d => d.task task = none ∨ ∃ x, d.task task = some x ∧ x.gen ≠ gen) (fun d => staleToken d t)) ∧
  (∀ ti c, Does .readyPendingPlace (fun d => d.nextPending = some (ti, c)) (fun d =>
    ({ d with sched := { d.sched with pending := d.sched.pending.filter (· ≠ ti) } }.putReady c ti false).schedRegs)) ∧
  (∀ c ti t p, Does (.coreDispatch c) (fun d => freeCore c d ∧ d.nextTask (d.core c) = some ti ∧ d.task ti = some t ∧ tget d.progs t.prog = some p) (fun d =>
    let t' := if t.started then t else t.start p
    let b := t.level * 16 + waitBucket (d.now - t.readyAt)
    (((d.modTask ti fun _ => { t' with state := .running, core := some c }).consumes (if t.started then 0 else t.filled)).setCore c { d.core c with
      ready := (d.core c).unlist ti, running := some ti, dispatches := (d.core c).dispatches + 1, issuedAt := d.now
      resident := if (d.core c).resident.contains ti then (d.core c).resident else (d.core c).resident ++ [ti]
      hist := tput (d.core c).hist b (sat32 ((tget (d.core c).hist b).getD 0 + 1)) }).schedRegs)) ∧
  (∀ task t a b c, Does (.ecallReturn task) (fun d => d.task task = some t ∧ t.state = .ecall ∧ t.ret = some (a, b) ∧ t.core = some c) (fun d =>
    (((d.modTask task fun t => { ((t.setReg 1 (BitVec.ofNat 64 a)).setReg 2 (BitVec.ofNat 64 b)) with ret := none, call := none }).consumes 1).putReady
      c task true).schedRegs)) ∧
  (∀ c, Does (.delayWake c) (fun d => dueDelays d c ≠ []) (fun d =>
    let e := d.setCore c { d.core c with
      delay := (d.core c).delay.filter (fun e => !(dueDelays d c).contains e)
      late := satAt 65535 ((d.core c).late + countP (dueDelays d c) fun e => decide (e.1 + 1000 < d.now)) }
    ((dueDelays d c).foldl (fun d x => d.putReady c x.2 (match e.task x.2 with | some t => t.started | none => false)) e).enterPosts)) ∧
  (∀ c, Idle (.delayWake c) fun d => dueDelays d c = []) ∧
  (∀ task t e, Does (.taskDeadline task) (fun d => d.task task = some t ∧ t.deadline = some e ∧ t.missed = false ∧ e ≤ d.now ∧ t.entry = 0) (fun d =>
    (missed d task t).modCmd t.cmd fun c => if c.missCause = 0xF then { c with missCause := 5 } else c)) ∧
  (∀ task t e, Does (.taskDeadline task) (fun d => d.task task = some t ∧ t.deadline = some e ∧ t.missed = false ∧ e ≤ d.now ∧ t.entry = 1)
    (fun d => missed d task t)) ∧
  (∀ task t e c, Does (.taskDeadline task) (fun d => d.task task = some t ∧ t.deadline = some e ∧ t.missed = false ∧ e ≤ d.now ∧ 2 ≤ t.entry ∧
      tget (missed d task t).cmds t.cmd = some c) (fun d => ((missed d task t).endCmd t.cmd .scanTimeout c.applied 0).settle)) ∧
  (∀ task t, Idle (.taskDeadline task) fun d => d.task task = some t ∧ (t.missed = true ∨ t.deadline = none)) ∧
  (∀ c, Does (.selftest c true) (fun d => (d.core c).active = true ∧ (d.core c).running = none ∧ testDue d c = true ∧ c < 136)
    (fun d => d.setCore c { d.core c with testedAt := d.now, testNow := false })) ∧
  (∀ c, Does (.selftest c false) (fun d => (d.core c).active = true ∧ (d.core c).running = none ∧ testDue d c = true ∧ c < 136) (fun d => d.failCore c)) ∧
  (∀ c ti t, Does (.coreStall c) (fun d => (d.core c).running = some ti ∧ d.task ti = some t ∧ (d.core c).issuedAt + usNs 100 ≤ d.now)
    (fun d => ((d.trapTask ti t 0xB 0 0 0).failCore c).settle)) ∧
  ∀ c, Idle (.coreStall c) fun d => (d.core c).running = none

namespace Sys2Proof.Claims

open Sys2Proof Sys2Proof.Machine

/-! ### Transport and Ethernet (chapters 02 and 18) -/

/-- Whether queue pair n may send: up, in service, not held by an RNR NAK; what stands first to be sent, which nothing must precede (R164). -/
def mayEmit (d : Dev) (n : Nat) (x : Send) (r : List Send) : Prop :=
  ∃ p, tget d.eth.qps n = some p ∧ p.failed = false ∧ p.up = true ∧ p.rnrUntil = none ∧ d.sendWaits n p = false ∧ p.queued = x :: r

/-- A frame gone out on queue pair n, its rest still to be sent. -/
def gone (d : Dev) (n : Nat) (x : Send) (r : List Send) : Dev :=
  let e := d.modQp n fun p => { p with queued := r, sent := p.sent ++ [x] }
  { e with power := { e.power with idleSince := d.now } }

/-- A part with so many bytes of frames not received whole at a priority of a port. -/
def inUse (d : Dev) (k bytes : Nat) : Dev :=
  { d with eth := { d.eth with occupancy := if bytes = 0 then tdel d.eth.occupancy k else tput d.eth.occupancy k bytes } }

/-- Bytes that a port's receive queue then holds at a priority: those, the frames held unparsed, and inline data that has not moved (R238, R689). -/
def queueBytes (d : Dev) (port prio bytes : Nat) : Nat :=
  let here (n : Net) : Bool := decide (n.port.val = port) && decide (n.pcp.toNat = prio)
  bytes + sumN (d.eth.rx.map fun x => if here x.net then x.raw.length + (match x.frame with | some m => m.size | none => 0) else 0) +
    sumN (d.cmds.map fun e => if here e.2.msg.net ∧ (e.2.stage = .gate ∨ e.2.stage = .buffers) then e.2.msg.inl.length else 0)

/-- Whether PFC is on for a priority of a host port. -/
def pfcOn (d : Dev) (port prio : Nat) : Prop := port < 16 ∧ prio < 8 ∧ bit (d.rd (ETH_GCFG_PFC_EN (port / 4))) prio = true

/-- Whether a REQ is taken: on the management port with no live queue pair, on a host port from a source that some tenant's bindings pass. -/
def reqOk (d : Dev) (m : CmMsg) : Bool :=
  if m.net.port.val = 16 then !d.mgmtLive else !d.fenced && d.tenants.any fun e => d.passes e.1 m.net

/-- Whether packet n draws a congestion notification: marked CE, on a queue pair that is up and has sent none for 50 µs (R690). -/
def answersMark (d : Dev) (n : Net) : Bool :=
  match tget d.eth.qps n.qpn.toNat with
  | some p => n.ce && !p.failed && p.up && (match p.cnpAt with | some t => decide (t + 50000 ≤ d.now) | none => true)
  | none => false

/-- Ports of a group. -/
def ofGroup (g p : Nat) : Bool := decide (p < 16) && decide (p / 4 = g)

end Sys2Proof.Claims

/-- The transport (R61, R62, R97, R107, R241, R690, R691): the first frame of a queue pair goes out, a status frame marking its command's record as
sent; an acknowledgement lets the oldest go; an RNR NAK holds the queue pair for its timer, after which all is sent again; a timeout or a sequence-error NAK
retries; a failure fails it; a congestion notification halves its rate, which rises by 1/64 after 55 µs; a priority crossing a PFC threshold pauses or
resumes; an incoming RDMA operation is refused, and one marked CE draws a congestion notification besides, at most one per queue pair per 50 µs. -/
def Obligations.TransportCommands : Prop :=
  (∀ n st r, Does (.cardStatusSend n) (fun d => mayEmit d n (.status st) r) (fun d =>
    (((((gone d n (.status st) r).emit (.status n st)).modCmd st.cmd fun c => { c with sent := true }).reapCmd st.cmd).advertise))) ∧
  (∀ n k m r, Does (.cardStatusSend n) (fun d => mayEmit d n (.repl k m) r) (fun d => (gone d n (.repl k m) r).emit (.repl n k m))) ∧
  (∀ n p, Idle (.cardStatusSend n) fun d => tget d.eth.qps n = some p ∧ (p.failed = true ∨ p.up = false ∨ p.rnrUntil.isSome ∨ d.sendWaits n p = true ∨ p.queued = [])) ∧
  (∀ n, Does (.sendAcknowledged n) any (fun d => d.modQp n fun p => { p with sent := p.sent.drop 1, retries := 0 })) ∧
  (∀ n t, Does (.rnrNak n t) any (fun d => d.modQp n fun p => if p.failed then p else { p with rnrUntil := some (d.now + rnrTimers.getD t 1 * 10000) })) ∧
  (∀ n p t, Does (.rnrRetry n) (fun d => tget d.eth.qps n = some p ∧ p.rnrUntil = some t ∧ t ≤ d.now)
    (fun d => (d.modQp n fun p => { p with rnrUntil := none }).resendAll n)) ∧
  (∀ n p t, Idle (.rnrRetry n) fun d => tget d.eth.qps n = some p ∧ p.rnrUntil = some t ∧ d.now < t) ∧
  (∀ n, Does (.ackTimeout n) any (fun d => d.retry n)) ∧ (∀ n, Does (.sequenceErrorNak n) any (fun d => d.retry n)) ∧
  (∀ n p, Does (.queuePairFailure n) (fun d => tget d.eth.qps n = some p ∧ p.failed = false) (fun d => d.failQp n)) ∧
  (∀ n p, Idle (.queuePairFailure n) fun d => tget d.eth.qps n = some p ∧ p.failed = true) ∧
  (∀ n, Does (.congestionNotification n) any (fun d => d.modQp n fun p => { p with rate := Nat.max 1000 (p.rate / 2), slowedAt := some d.now })) ∧
  (∀ n, Does (.rateIncrease n) any (fun d => d.modQp n fun p => match p.slowedAt with
    | some t =>
      if d.now < t + usNs 55 then p
      else if d.lineRate p.port ≤ p.rate + d.lineRate p.port / 64 then { p with rate := d.lineRate p.port, slowedAt := none }
      else { p with rate := p.rate + d.lineRate p.port / 64, slowedAt := some d.now }
    | none => p)) ∧
  (∀ port prio bytes, Does (.priorityPause port prio bytes) (fun d => pfcOn d port prio ∧ d.eth.paused.contains (port * 8 + prio) = false ∧
      d.rd (ETH_PFC_XOFF (port / 4)) * d.portLanes port * 1024 < queueBytes d port prio bytes) (fun d =>
    let e := inUse d (port * 8 + prio) bytes
    Dev.emit { e with eth := { e.eth with paused := e.eth.paused ++ [port * 8 + prio] } } (.pfc port prio true))) ∧
  (∀ port prio bytes, Does (.priorityPause port prio bytes) (fun d => pfcOn d port prio ∧ d.eth.paused.contains (port * 8 + prio) = true ∧
      queueBytes d port prio bytes < d.rd (ETH_PFC_XON (port / 4)) * d.portLanes port * 1024) (fun d =>
    let e := inUse d (port * 8 + prio) bytes
    Dev.emit { e with eth := { e.eth with paused := e.eth.paused.filter (· ≠ port * 8 + prio) } } (.pfc port prio false))) ∧
  (∀ n, Does (.incomingRdma n) (fun d => answersMark d n = false) (fun d =>
    Dev.emit { d with eth := { d.eth with remoteNaks := d.eth.remoteNaks + 1 } } (.accessNak n.qpn.toNat))) ∧
  ∀ n, Does (.incomingRdma n) (fun d => answersMark d n = true) (fun d =>
    let e := Dev.emit (d.modQp n.qpn.toNat fun p => { p with cnpAt := some d.now }) (.cnp n.qpn.toNat)
    Dev.emit { e with eth := { e.eth with remoteNaks := e.eth.remoteNaks + 1 } } (.accessNak n.qpn.toNat))

/-- Connections (R691–R693): a REQ from a source that passes gets a queue pair and a REP, any other a REJ; an RTU establishes it; a REP establishes the one
the device started, a REJ or a timeout fails it; a DREQ drops a queue pair and is answered, a DREP ends one that has failed; one left unbound for 10 s is
disconnected. -/
def Obligations.ConnectionCommands : Prop :=
  (∀ m n, Does (.cmReq m) (fun d => d.boot.phase = .running ∧ d.portUp m.net.port.val = true ∧ reqOk d m = true ∧ d.freshQpn = some n) (fun d =>
    (d.addQp n (Qp.fresh m.net.port.val (d.lineRate m.net.port.val) d.now m.net false)).emit (.cm m.net.port.val n 1))) ∧
  (∀ m, Does (.cmReq m) (fun d => d.boot.phase = .running ∧ d.portUp m.net.port.val = true ∧ (reqOk d m = false ∨ d.freshQpn = none))
    (fun d => d.emit (.cm m.net.port.val m.remote 3))) ∧
  (∀ m, Idle (.cmReq m) fun d => d.boot.phase ≠ .running ∨ d.portUp m.net.port.val = false) ∧
  (∀ m p, Does (.cmRtu m) (fun d => tget d.eth.qps m.qpn = some p ∧ p.started = false ∧ p.failed = false) (fun d => d.established m.qpn)) ∧
  (∀ m, Does (.cmRep m) (fun d => d.connectingTo m.qpn = true) (fun d =>
    (((Dev.modQp { d with eth := { d.eth with connecting := none } } m.qpn fun p => { p with mac := m.net.mac }).established m.qpn).wr ETH_CM_QPN_DONE 1).emit
      (.cm m.net.port.val m.qpn 2))) ∧
  (∀ m, Idle (.cmRep m) fun d => d.connectingTo m.qpn = false) ∧
  (∀ m, Does (.cmRej m) any (fun d => d.connectFail m.qpn)) ∧ (∀ n, Does (.connectTimeout n) any (fun d => d.connectFail n)) ∧
  (∀ m, Does (.cmDreq m) (fun d => thas d.eth.qps m.qpn = true) (fun d => (d.dropQp m.qpn).emit (.cm m.net.port.val m.qpn 5))) ∧
  (∀ m, Idle (.cmDreq m) fun d => thas d.eth.qps m.qpn = false) ∧
  (∀ m p, Does (.cmDrep m) (fun d => tget d.eth.qps m.qpn = some p ∧ p.failed = true) (fun d => d.dropQp m.qpn)) ∧
  (∀ n p, Does (.unboundTimeout n) (fun d => tget d.eth.qps n = some p ∧ p.up = true ∧ p.failed = false ∧ p.use = .unbound ∧ p.since + sNs 10 ≤ d.now)
    (fun d => (d.failQp n).emit (.cm p.port n 4))) ∧
  ∀ n p, Idle (.unboundTimeout n) fun d => tget d.eth.qps n = some p ∧ (p.use ≠ .unbound ∨ d.now < p.since + sNs 10)

/-- Ports (R687, R688): ARP, ICMP echo and neighbour discovery for an address a port has are answered and others are not; a bad frame is counted for its
group; a group that goes down loses its link once its transfers are done or 100 ms have passed, and its queue pairs fail; a link that comes up on an enabled
group shows in LINK, applying a pending mode, and one that goes down fails the group's queue pairs. -/
def Obligations.PortCommands : Prop :=
  (∀ port a, Does (.arpRequest port (.v4 a)) (fun d => d.portHas port (.v4 a) = true) (fun d => d.emit (.answer port 0)) ∧
    Idle (.arpRequest port (.v4 a)) fun d => d.portHas port (.v4 a) = false) ∧
  (∀ port ip, Does (.icmpEcho port ip) (fun d => d.portHas port ip = true) (fun d => d.emit (.answer port 1)) ∧
    Idle (.icmpEcho port ip) fun d => d.portHas port ip = false) ∧
  (∀ port a, Does (.neighbourDiscovery port (.v6 a)) (fun d => d.portHas port (.v6 a) = true) (fun d => d.emit (.answer port 2)) ∧
    Idle (.neighbourDiscovery port (.v6 a)) fun d => d.portHas port (.v6 a) = false) ∧
  (∀ port, port < 16 → Does (.badFrame port) any (fun d => d.bump (ETH_GSTAT_BAD_FRAMES (port / 4)))) ∧
  (∀ port, 16 ≤ port → Idle (.badFrame port) any) ∧
  (∀ g t, Does (.groupDown g) (fun d => (d.portGroup g).going = some t ∧ (d.groupMoving g = false ∨ t + msNs 100 ≤ d.now)) (fun d =>
    (((d.modPortGroup g fun x => { x with going := none }).wr (ETH_GSTAT_LINK g) 0).wr (ETH_GSTAT_DOWN g) 1).failPorts (ofGroup g))) ∧
  (∀ g t, Idle (.groupDown g) fun d => (d.portGroup g).going = some t ∧ d.groupMoving g = true ∧ d.now < t + msNs 100) ∧
  (∀ port, port < 16 → Does (.hostLinkChange port true) (fun d => (d.portGroup (port / 4)).going = none ∧ d.rd (ETH_GCFG_ENABLE (port / 4)) ≠ 0 ∧
      d.boot.phase = .running ∧ d.rd (ETH_GSTAT_DOWN (port / 4)) ≠ 1 ∧ modeLanes (d.portGroup (port / 4)).mode port ≠ 0) (fun d =>
    (d.wr (ETH_GSTAT_LINK (port / 4)) (d.rd (ETH_GSTAT_LINK (port / 4)) |||
      linkMask port (modeLanes (d.portGroup (port / 4)).mode port))).groupReplies (port / 4))) ∧
  (∀ port, port < 16 → Does (.hostLinkChange port true) (fun d => (d.portGroup (port / 4)).going = none ∧ d.rd (ETH_GCFG_ENABLE (port / 4)) ≠ 0 ∧
      d.boot.phase = .running ∧ d.rd (ETH_GSTAT_DOWN (port / 4)) = 1 ∧ modeLanes (d.rd (ETH_GCFG_MODE (port / 4))) port ≠ 0) (fun d =>
    let e := (d.modPortGroup (port / 4) fun x =>
      { x with mode := d.rd (ETH_GCFG_MODE (port / 4)), enableHeld := false, inc := x.inc + b2n x.enableHeld }).wr (ETH_GSTAT_DOWN (port / 4)) 0
    (e.wr (ETH_GSTAT_LINK (port / 4)) (e.rd (ETH_GSTAT_LINK (port / 4)) |||
      linkMask port (modeLanes (d.rd (ETH_GCFG_MODE (port / 4))) port))).groupReplies (port / 4))) ∧
  (∀ port, port < 16 → Does (.hostLinkChange port false) any (fun d =>
    (d.wr (ETH_GSTAT_LINK (port / 4)) (d.rd (ETH_GSTAT_LINK (port / 4)) &&& (15 - linkMask port (d.portLanes port) % 16))).failPorts (ofGroup (port / 4)))) ∧
  Does (.hostLinkChange 16 false) any (fun d => d.failPorts fun p => decide (p = 16)) ∧ Idle (.hostLinkChange 16 true) any

namespace Sys2Proof.Claims

open Sys2Proof Sys2Proof.Machine

/-! ### Engines (chapters 10 and 11) -/

/-- An engine that ends its job: counted, free, its known-answer test and its next job taken up. -/
def engineFree (d : Dev) (e : Nat) (j : CmpJob) : Dev :=
  (((d.countCmp e j j.run).setEngine e { (d.engine e) with running := none }).katAll).engineNext e

/-- Whether a lane's message waits for its key. -/
def laneWaits (d : Dev) (j : LaneJob) : Bool :=
  match j.key with | some p => (d.keyAt p).isSome && !d.cached p && !j.keyGone | none => false

/-- A lane that ends its message with a result. -/
def laneFree (d : Dev) (dig : Bool) (l : Nat) (j : LaneJob) (r : LaneOut) : Dev :=
  (((d.laneEffects dig l j r).setLane dig l { (d.lane dig l) with running := none }).katAll).laneNext dig l

/-- What a message whose command has ended before it ends with: DISCARDED. -/
def laneDiscarded : LaneOut := { result := 9, out := [], match_ := false, tag := [] }

/-- Requests that quadrant q's masking generator has served since it was seeded. -/
def maskCount (d : Dev) (q : Nat) : Nat := ((tget d.masks q).getD { requests := 0 }).requests

/-- Whether quadrant q's masking generator runs on an old seed. -/
def unseeded (d : Dev) (q : Nat) : Bool := bit (d.rd CIP_MASK_STAT_UNSEEDED) q

/-- The lanes of a quadrant, and what they hold. -/
def lanesOf (q : Nat) : List Nat := (upTo 8).map (· + 8 * q)
def workOf (d : Dev) (q : Nat) : List LaneJob :=
  (lanesOf q).flatMap fun l => let x := d.lane false l; x.running.toList ++ x.slots ++ x.queue

/-- The highest rank that waits at a lane. -/
def topRank (d : Dev) (dig : Bool) (l : Nat) : Nat := (d.lane dig l).queue.foldl (fun m j => Nat.max m j.rank) 0

end Sys2Proof.Claims

/-- Descriptors handed to the compression engines, the cipher lanes and the digest lanes (R466, R467, R473, R489): work of a grain, of a task's ECALL, of a
replication session or of a descriptor in tile memory goes to an engine or lane that takes it, a grain's compression once its output buffers are held
(R210, R459); while a source's work is under way nothing more is taken from
it; a cipher or digest descriptor that is malformed gets its result there, and a compression descriptor of a class, handle or length that R466 names goes to its engine with
the result CORRUPT. -/
def Obligations.DescriptorCommands : Prop :=
  (∀ id g j e, Does (.compressionDescriptor (.grain id g)) (fun d => d.cmpBusy (.grain id g) = false ∧ d.grainCmp id g = some j ∧
    d.outputHeld id g j = true ∧ d.submitCmp (d.grainQuadrant id g false) j = some e) (fun _ => e)) ∧
  (∀ ti j e, Does (.compressionDescriptor (.task ti)) (fun d => d.cmpBusy (.task ti) = false ∧ d.callCmp ti = some j ∧
    d.submitCmp (d.taskQuadrant ti) j = some e) (fun _ => e)) ∧
  (∀ a e, Does (.compressionDescriptor (.desc a)) (fun d => d.cmpBusy (.desc a) = false ∧
    d.submitCmp (bufQuadrant (d.tmem.num (a + 0x14) 4)) (d.descCmp a) = some e) (fun _ => e)) ∧
  (∀ (d : Dev) a, d.cmpCorrupt a = true → (d.descCmp a).bad = 3) ∧
  (∀ id g j e, Does (.cipherDescriptor (.grain id g)) (fun d => d.laneBusy (.grain id g) = false ∧ d.grainCipher id g = some j ∧
    d.submitLane false (d.grainQuadrant id g true) j = some e) (fun _ => e)) ∧
  (∀ n j e, Does (.cipherDescriptor (.session n)) (fun d => d.laneBusy (.session n) = false ∧ d.replJob n = some j ∧ d.submitLane false 0 j = some e)
    (fun _ => e.modSess n fun s => { s with sealing := true })) ∧
  (∀ a j e, Does (.cipherDescriptor (.desc a)) (fun d => d.laneBusy (.desc a) = false ∧ d.descCipher a = .inl j ∧
    d.submitLane false (bufQuadrant (d.tmem.num (a + 0x40) 4)) j = some e) (fun _ => e)) ∧
  (∀ a r, Does (.cipherDescriptor (.desc a)) (fun d => d.laneBusy (.desc a) = false ∧ d.descCipher a = .inr r) (fun d => d.laneRefuse false a r)) ∧
  (∀ id g c x e, Does (.digestDescriptor (.grain id g)) (fun d => d.laneBusy (.grain id g) = false ∧ tget d.cmds id = some c ∧ d.grain id g = some x ∧
    x.step = 9 ∧ c.op.edits = true ∧
    d.submitLane true (d.grainQuadrant id g false) (LaneJob.of (.grain id g) c.claim c.prio c.tenant .sha none x.data) = some e) (fun _ => e)) ∧
  (∀ ti j e, Does (.digestDescriptor (.task ti)) (fun d => d.laneBusy (.task ti) = false ∧ d.callLane ti = some j ∧ d.submitLane true (d.taskQuadrant ti) j = some e)
    (fun _ => e)) ∧
  (∀ a j e, Does (.digestDescriptor (.desc a)) (fun d => d.laneBusy (.desc a) = false ∧ d.descDigest a = .inl j ∧
    d.submitLane true (bufQuadrant (d.tmem.num (a + 0x40) 4)) j = some e) (fun _ => e)) ∧
  (∀ a r, Does (.digestDescriptor (.desc a)) (fun d => d.laneBusy (.desc a) = false ∧ d.descDigest a = .inr r) (fun d => d.laneRefuse true a r)) ∧
  (∀ src, Idle (.compressionDescriptor src) fun d => d.cmpBusy src = true) ∧
  (∀ id g j, Idle (.compressionDescriptor (.grain id g)) fun d => d.grainCmp id g = some j ∧ d.outputHeld id g j = false) ∧
  ∀ src, Idle (.cipherDescriptor src) (fun d => d.laneBusy src = true) ∧ Idle (.digestDescriptor src) fun d => d.laneBusy src = true

/-- Engines and lanes at work (R468, R488, R500–R502, R674): a job that ends frees its engine and hands its result to the grain, the task or the descriptor it came
from, one whose output buffers are still asked for staying on its engine; of a command that has ended it is discarded, and a descriptor is told so; a lane saves a message at a block boundary for one of higher rank, and yields to one of its own rank every 64 KiB; a masking generator reseeds after
2^20 requests while entropy lasts, and its lanes stop after 2^32; a key whose record unwraps enters the cache, and one whose record fails its integrity
check is lost, with its event (R670). -/
def Obligations.EngineCommands : Prop :=
  (∀ e j id g, Does (.compressionResult e) (fun d => (d.engine e).running = some j ∧ d.jobOrphan j.src j.serves = false ∧ j.src = .grain id g)
    (fun d => ((engineFree d e j).grainCmpDone id g j.run).settle)) ∧
  (∀ e j ti, Does (.compressionResult e) (fun d => (d.engine e).running = some j ∧ d.jobOrphan j.src j.serves = false ∧ j.src = .task ti)
    (fun d => ((engineFree d e j).callDone ti j.run.result j.run.out).settle)) ∧
  (∀ e j a f, Does (.compressionResult e) (fun d => (d.engine e).running = some j ∧ d.jobOrphan j.src j.serves = false ∧ j.src = .desc a ∧
      d.descCmpDone a j j.run = (f, true)) (fun _ => engineFree f e j)) ∧
  (∀ e j a f, Does (.compressionResult e) (fun d => (d.engine e).running = some j ∧ d.jobOrphan j.src j.serves = false ∧ j.src = .desc a ∧
      d.descCmpDone a j j.run = (f, false)) (fun _ => f)) ∧
  (∀ e j, Does (.compressionResult e) (fun d => (d.engine e).running = some j ∧ d.jobOrphan j.src j.serves = true ∧ ∀ a, j.src ≠ .desc a)
    (fun d => engineFree d e j)) ∧
  (∀ e j a, Does (.compressionResult e) (fun d => (d.engine e).running = some j ∧ d.jobOrphan j.src j.serves = true ∧ j.src = .desc a)
    (fun d => engineFree (d.descCmpDrop a j) e j)) ∧
  (∀ e, Idle (.compressionResult e) fun d => (d.engine e).running = none) ∧
  (∀ dig l j id g, Does (.laneMessageEnd dig l) (fun d => (d.lane dig l).running = some j ∧ laneWaits d j = false ∧ d.jobOrphan j.src j.serves = false ∧
      j.src = .grain id g) (fun d => ((laneFree d dig l j (d.laneResult j)).grainLaneDone id g (d.laneResult j)).settle)) ∧
  (∀ dig l j ti, Does (.laneMessageEnd dig l) (fun d => (d.lane dig l).running = some j ∧ laneWaits d j = false ∧ d.jobOrphan j.src j.serves = false ∧
      j.src = .task ti) (fun d => ((laneFree d dig l j (d.laneResult j)).callDone ti (d.laneResult j).result (d.laneResult j).out).settle)) ∧
  (∀ dig l j n, Does (.laneMessageEnd dig l) (fun d => (d.lane dig l).running = some j ∧ laneWaits d j = false ∧ d.jobOrphan j.src j.serves = false ∧
      j.src = .session n) (fun d => ((laneFree d dig l j (d.laneResult j)).replSealed n j (d.laneResult j)).settle)) ∧
  (∀ dig l j a, Does (.laneMessageEnd dig l) (fun d => (d.lane dig l).running = some j ∧ laneWaits d j = false ∧ d.jobOrphan j.src j.serves = false ∧
      j.src = .desc a) (fun d => (laneFree d dig l j (d.laneResult j)).descLaneDone dig a j (d.laneResult j))) ∧
  (∀ dig l j, Does (.laneMessageEnd dig l) (fun d => (d.lane dig l).running = some j ∧ laneWaits d j = false ∧ d.jobOrphan j.src j.serves = true ∧
      ∀ a, j.src ≠ .desc a) (fun d => laneFree d dig l j laneDiscarded)) ∧
  (∀ dig l j a, Does (.laneMessageEnd dig l) (fun d => (d.lane dig l).running = some j ∧ laneWaits d j = false ∧ d.jobOrphan j.src j.serves = true ∧
      j.src = .desc a) (fun d => (laneFree d dig l j laneDiscarded).descLaneDone dig a j laneDiscarded)) ∧
  (∀ dig l j, Idle (.laneMessageEnd dig l) fun d => (d.lane dig l).running = some j ∧ laneWaits d j = true) ∧
  (∀ dig l pos j k, Does (.contextSave dig l pos) (fun d => (d.lane dig l).running = some j ∧ pos % laneBlock dig = 0 ∧ j.done < pos ∧
      pos < j.aad.length + j.input.length ∧ j.rank < topRank d dig l ∧ (d.lane dig l).slots.length < 64 ∧
      oldest ((d.lane dig l).queue.filter fun k => k.rank = topRank d dig l) = some k) (fun d =>
    d.laneRun dig l { d.lane dig l with
      queue := (d.lane dig l).queue.filter (·.order ≠ k.order), slots := (d.lane dig l).slots ++ [{ j with done := pos }] } k)) ∧
  (∀ dig l pos j, Idle (.contextSave dig l pos) fun d => (d.lane dig l).running = some j ∧ topRank d dig l ≤ j.rank) ∧
  (∀ dig l j, Does (.laneYield dig l) (fun d => (d.lane dig l).running = some j ∧
      (j.done / 65536 + 1) * 65536 < j.aad.length + j.input.length ∧ (d.lane dig l).queue.any (fun k => k.rank = j.rank) = true ∧
      (d.lane dig l).slots.length < 64) (fun d =>
    (Dev.setLane { d with nextOrder := d.nextOrder + 1 } dig l { d.lane dig l with
      running := none, slots := (d.lane dig l).slots ++ [{ j with done := (j.done / 65536 + 1) * 65536, order := d.nextOrder }] }).laneNext dig l)) ∧
  (∀ q, q < 4 → Does (.maskReseed q) (fun d => 2 ^ 20 ≤ maskCount d q ∧ d.entropyOk = true) (fun d =>
    (Dev.drawn { d with masks := tput d.masks q { requests := 0 } }).wr CIP_MASK_STAT_UNSEEDED (setBits (d.rd CIP_MASK_STAT_UNSEEDED) q 1 0))) ∧
  (∀ q, q < 4 → Does (.maskReseed q) (fun d => 2 ^ 20 ≤ maskCount d q ∧ d.entropyOk = false ∧ unseeded d q = false) (fun d =>
    (d.wr CIP_MASK_STAT_UNSEEDED (setBits (d.rd CIP_MASK_STAT_UNSEEDED) q 1 1)).event 0x0701 2 0 q [1])) ∧
  (∀ q, Idle (.maskReseed q) fun d => maskCount d q < 2 ^ 20) ∧
  (∀ q, q < 4 → Does (.maskDrbgLimit q) (fun d => 2 ^ 32 ≤ maskCount d q ∧ unseeded d q = true) (fun d =>
    let e := (d.wr CIP_MASK_STAT_STOPPED (setBits (d.rd CIP_MASK_STAT_STOPPED) q 1 1)).event 0x0701 2 0 q [2]
    (workOf e q).foldl (fun d j => match d.submitLane false q { j with done := 0 } with
        | some d => d
        | none => d.setLane false (8 * q) { (d.lane false (8 * q)) with queue := (d.lane false (8 * q)).queue ++ [{ j with done := 0 }] })
      ((lanesOf q).foldl (fun d l => d.setLane false l { (d.lane false l) with queue := [], slots := [], running := none }) e))) ∧
  (∀ q, Idle (.maskDrbgLimit q) fun d => maskCount d q < 2 ^ 32) ∧
  (∀ p r k u, Does (.keyUnwrap ⟨p, r⟩) (fun d => d.isSet SEC_STAT_KEYS_SEALED = false ∧ d.keyAt p = some k ∧ d.cached p = false ∧ unwrapped k r = some u)
    (fun d => (Dev.cacheKey { d with sec := { d.sec with keys := tput d.sec.keys p u } } p).bump SEC_KCACHE_LOADS)) ∧
  (∀ p r k, Does (.keyUnwrap ⟨p, r⟩) (fun d => d.isSet SEC_STAT_KEYS_SEALED = false ∧ d.keyAt p = some k ∧ d.cached p = false ∧ unwrapped k r = none)
    (fun d => Dev.event { d with sec := { d.sec with lost := p :: d.sec.lost, wanted := d.sec.wanted.filter (· ≠ p) } } 0x0702 2 0 0 [p])) ∧
  ∀ p r, Idle (.keyUnwrap ⟨p, r⟩) fun d => d.isSet SEC_STAT_KEYS_SEALED = true ∨ d.keyAt p = none ∨ d.cached p = true

namespace Sys2Proof.Claims

open Sys2Proof Sys2Proof.Machine

/-! ### Flash ports, media and stripes (chapters 06 to 08) -/

/-- Whether a takeover waits for port n. -/
def seizing (d : Dev) (n : Nat) : Bool := match d.peer.takeover with | some t => t.waiting.contains n | none => false

/-- Port n owned, as PORTGNT finds it: its pins idle, every device reset, its training and mode gone, its dies identified, its time of disuse added. -/
def ownedNow (d : Dev) (n : Nat) (ids : List (Option DieId)) : Dev :=
  let d := ((d.modPort n fun p => { p with own := .owned }).showOwn n 2 true).wr (FLP_OWN_GNT_PIN n) 1
  let d := (upTo 8).foldl (fun (d : Dev) ce => d.emit (.flashReset n ce)) (d.emit (.portIdle n idleLevels))
  let d := d.emit (.portWp n (!d.isSet (FLP_GUARD_STAT_HELD n)))
  (((d.wr (FLP_STAT_TRAINED n) 0).wr (FLP_STAT_MODE_NOW n) 0).identify n ids).addOffTime n

/-- Port n freed after a grant that did not come in time. -/
def askFailed (d : Dev) (n : Nat) : Dev := ((d.freePort n).bump (FLP_OWN_GNT_TIMEOUTS n)).event 0x0403 0 0 n []

/-- What a sample of VCCQ and the temperatures show of port n; whether the supply has been a cause of the hold, and since when it has been within 4%. -/
def guardSeen (d : Dev) (n : Nat) (pm : Int) : Dev :=
  let e := (d.wr (FLP_GUARD_STAT_SUPPLY_OUT n) (b2n (decide (50 < pm.natAbs)))).wr (FLP_GUARD_STAT_TEMP_OUT n) (b2n (d.tempOut n))
  e.modPort n fun p => { p with
    supplyHold := p.supplyHold && e.isSet (FLP_GUARD_STAT_HELD n) || decide (50 < pm.natAbs)
    supplyGood := if pm.natAbs ≤ 40 then some (p.supplyGood.getD e.now) else none }

/-- The issued program that dumps the unit of a row on a slot (R338), on a port that is not in training. -/
def dumping (d : Dev) (g l slot : Nat) : Option FlashOp :=
  (d.dumpOps g l).find? fun (o : FlashOp) => o.issued && !d.busPaused o.die && decide (o.op = .dump (rowKey g l) slot)

/-- Whether an operation is a journal program. -/
def jrnOp (o : FlashOp) : Bool := match o.op with | .journal _ _ => true | _ => false

/-- Whether a row's time to be closed, or covered, has come: FILL_WAIT over, or what it holds urgent. -/
def rowDue (d : Dev) (g : Nat) (w : Row) (wait : Nat) : Bool := decide (w.since + usNs wait ≤ d.now) || d.rowUrgent g w

/-- The journal operation that runs on a die. -/
def journalOn (d : Dev) (die : Nat) : Option FlashOp :=
  d.flash.find? fun (o : FlashOp) => decide (o.die = die) && o.issued && (match o.op with | .journal _ _ => true | _ => false)

/-- FILL_WAIT of a row: 8 µs at most for class V (R372). -/
def fillWait (d : Dev) (w : Row) : Nat := if w.claim = .V ∧ 8 < d.rd ARR_CFG_FILL_WAIT then 8 else d.rd ARR_CFG_FILL_WAIT

/-- Whether the parity units are both out of service. -/
def noParity (d : Dev) : Bool := d.outOfService.contains 768 && d.outOfService.contains 769

/-- Whether the reconstruction of a rebuilt unit stands with a parity engine (R373). -/
def unitStands (d : Dev) (id : Nat) : Bool := d.parityWork.any fun k => decide (k.2 = .unit id)

/-- The operation that die is busy with, its port not in training. -/
def busyWith (d : Dev) (die : Nat) (o : FlashOp) : Prop :=
  d.flash.find? (fun (o : FlashOp) => decide (o.die = die) && o.issued) = some o ∧ d.busPaused die = false

/-- Die's device reset, and an operation taken off it. -/
def timedOut (d : Dev) (die : Nat) (o : FlashOp) : Dev := (d.emit (.flashReset (diePort die) (die % 32 / 4))).flashTake die o.op

end Sys2Proof.Claims

/-- Flash ports (R265, R267, R272, R290, R291): a training that ends leaves the port trained, or failed; a retraining that is due starts; a grant makes the port
owned, its dies identified, and trained, or taken as the survivor of a takeover finds it; a lost grant fences a part of a pair and faults a SOLO part's
dies; an ask unanswered for 20 µs is counted and told; a port that has left is free; a supply or, but for the dump (R297), a temperature outside its guard holds writes, and 1 ms of
good samples lets them go. -/
def Obligations.FlashPortCommands : Prop :=
  (∀ n r p, Does (.trainingDone n r) (fun d => tget d.ports n = some p ∧ p.training = true ∧ p.own = .owned ∧ p.passes r = true)
    (fun d => (d.trained n p.trainAt r).portsBack.portsChanged)) ∧
  (∀ n r p, Does (.trainingDone n r) (fun d => tget d.ports n = some p ∧ p.training = true ∧ p.own = .owned ∧ p.passes r = false)
    (fun d => (d.trainingFailed n p).portsBack.portsChanged)) ∧
  (∀ n r p, Idle (.trainingDone n r) fun d => tget d.ports n = some p ∧ (p.training = false ∨ p.own ≠ .owned)) ∧
  (∀ n p, Does (.retraining n) (fun d => tget d.ports n = some p ∧ p.profile.isSome ∧ d.portReady n = true ∧ d.retrainDue n p = true)
    (fun d => d.startTraining n (d.targetMode n))) ∧
  (∀ n p, Idle (.retraining n) fun d => tget d.ports n = some p ∧ d.retrainDue n p = false) ∧
  (∀ n ids p, Does (.portgntHigh n ids) (fun d => tget d.ports n = some p ∧ p.own = .ask ∧
      ((tget (ownedNow d n ids).ports n).bind (·.profile)).isSome = true ∧ seizing d n = false) (fun d =>
    (((ownedNow d n ids).startTraining n ((ownedNow d n ids).targetMode n)).seized n).portsBack.portsChanged)) ∧
  (∀ n ids p, Does (.portgntHigh n ids) (fun d => tget d.ports n = some p ∧ p.own = .ask ∧
      ((tget (ownedNow d n ids).ports n).bind (·.profile)).isSome = true ∧ seizing d n = true)
    (fun d => (((ownedNow d n ids).resumePort n).seized n).portsBack.portsChanged)) ∧
  (∀ n ids p, Does (.portgntHigh n ids) (fun d => tget d.ports n = some p ∧ p.own = .ask ∧
      ((tget (ownedNow d n ids).ports n).bind (·.profile)).isSome = false) (fun d => ((ownedNow d n ids).seized n).portsBack.portsChanged)) ∧
  (∀ n ids p, Idle (.portgntHigh n ids) fun d => tget d.ports n = some p ∧ p.own ≠ .ask) ∧
  (∀ n p, Does (.grantLost n) (fun d => tget d.ports n = some p ∧ p.own = .owned ∧ ((d.freePort n).bump (FLP_OWN_LOSSES n)).solo = true) (fun d =>
    (((((d.freePort n).bump (FLP_OWN_LOSSES n)).event 0x0402 2 0 n [1]).faultPort n).portsChanged))) ∧
  (∀ n p, Does (.grantLost n) (fun d => tget d.ports n = some p ∧ p.own = .owned ∧ ((d.freePort n).bump (FLP_OWN_LOSSES n)).solo = false)
    (fun d => (((d.freePort n).bump (FLP_OWN_LOSSES n)).fence 0x0402 0 n [1]).settle)) ∧
  (∀ n p, Idle (.grantLost n) fun d => tget d.ports n = some p ∧ p.own ≠ .owned) ∧
  (∀ n p, Does (.askTimeout n) (fun d => tget d.ports n = some p ∧ p.own = .ask ∧ p.askedAt + usNs 20 ≤ d.now ∧ seizing d n = true)
    (fun d => (askFailed d n).abandonTakeover.portsBack.portsChanged)) ∧
  (∀ n p, Does (.askTimeout n) (fun d => tget d.ports n = some p ∧ p.own = .ask ∧ p.askedAt + usNs 20 ≤ d.now ∧ seizing d n = false)
    (fun d => (if (askFailed d n).solo then (askFailed d n).faultPort n else askFailed d n).portsBack.portsChanged)) ∧
  (∀ n p, Idle (.askTimeout n) fun d => tget d.ports n = some p ∧ (p.own ≠ .ask ∨ d.now < p.askedAt + usNs 20)) ∧
  (∀ n p, Does (.leavingDone n) (fun d => tget d.ports n = some p ∧ p.own = .leaving ∧
      ¬((d.freePort n).rd PEER_STAT_STATE = 4 ∧ (d.freePort n).peer.handback = 5 ∧ (d.freePort n).homePorts.contains n = true)) (fun d => d.freePort n)) ∧
  (∀ n p pm, Does (.vccqSample n pm) (fun d => tget d.ports n = some p ∧ (50 < pm.natAbs ∨ (guardSeen d n pm).heatHolds n = true) ∧
      (guardSeen d n pm).isSet (FLP_GUARD_STAT_HELD n) = false) (fun d =>
    ((((((guardSeen d n pm).noteFlash fun k => decide (diePort k = n)).wr (FLP_GUARD_STAT_HELD n) 1).emit (.portWp n false)).modPort n fun p =>
      { p with heldAt := (guardSeen d n pm).now, reported := false, goodSince := none
               supplyHold := (guardSeen d n pm).isSet (FLP_GUARD_STAT_SUPPLY_OUT n) })).issueFlash)) ∧
  (∀ n p pm, Does (.vccqSample n pm) (fun d => tget d.ports n = some p ∧ pm.natAbs ≤ 50 ∧ (guardSeen d n pm).heatHolds n = false ∧
      (guardSeen d n pm).isSet (FLP_GUARD_STAT_HELD n) = false) (fun d => guardSeen d n pm)) ∧
  (∀ n p t, Does (.guardRelease n) (fun d => tget d.ports n = some p ∧ p.goodSince = some t ∧ t + msNs 1 ≤ d.now ∧
      d.isSet (FLP_GUARD_STAT_HELD n) = true ∧ p.own = .owned) (fun d =>
    (((((d.reportHold n p).wr (FLP_GUARD_STAT_HELD n) 0).modPort n fun p => { p with goodSince := none, supplyHold := false }).emit (.portWp n true)).issueFlash))) ∧
  ∀ n p, Idle (.guardRelease n) fun d => tget d.ports n = some p ∧ (p.goodSince = none ∨ d.isSet (FLP_GUARD_STAT_HELD n) = false)

/-- Flash media (R45, R263, R268, R277, R280, R296, R300, R318, R334, R338, R344, R372, R373, R377, R347): parity of a closed row that is next is computed, its
commands committing; a filling row is padded after FILL_WAIT, and a programmed one that pages of a row to come would disturb is covered; programs, the
dump's among them, erases, reads and journal writes that end, or fail at a CHECK, have their effects, a row being programmed once none of its programs is
left; an operation that does not end in time resets its device and counts as failed; on a port in training no end is seen. -/
def Obligations.MediaCommands : Prop :=
  (∀ g l x, Does (.parityCompute (.row g l)) (fun d => noParity d = false ∧ d.row g l = some x ∧ x.state = .closed ∧ d.parityReady g l x = true) (fun d =>
    ((x.cmds.foldl (fun d k => d.commit k) d).rowParity g l).settle)) ∧
  (∀ id cw others r y, Does (.parityCompute (.rebuild id cw others)) (fun d => noParity d = false ∧ unitStands d id = false ∧ d.cw id cw = some (r, y))
    (fun d => let e := d.reconstruct id cw others
      (e.1.rowFaults r.group r.segment e.2.1 e.2.2).settle)) ∧
  (∀ id cw others, Does (.parityCompute (.rebuild id cw others)) (fun d => noParity d = false ∧ unitStands d id = true)
    (fun d => (d.unitRebuilt id).settle)) ∧
  (∀ w, Idle (.parityCompute w) fun d => noParity d = true) ∧
  (∀ g l x, Idle (.parityCompute (.row g l)) fun d => d.row g l = some x ∧ (x.state ≠ .closed ∨ d.parityReady g l x = false)) ∧
  (∀ g l w, Does (.rowPadded g l) (fun d => d.row g l = some w ∧ w.state = .filling ∧ rowDue d g w (fillWait d w) = true)
    (fun d => (d.closeRow g l).settle)) ∧
  (∀ g l w, Does (.rowPadded g l) (fun d => d.row g l = some w ∧ w.state = .programmed ∧ d.rowCounts w = false ∧ rowDue d g w (fillWait d w) = true)
    (fun d => (d.coverRow g w).settle)) ∧
  (∀ g l w, Idle (.rowPadded g l) fun d => d.row g l = some w ∧
    (rowDue d g w (fillWait d w) = false ∨ w.state ≠ .filling ∧ w.state ≠ .programmed ∨ w.state = .programmed ∧ d.rowCounts w = true)) ∧
  (∀ die, Idle (.journalProgramDone die) fun d => journalOn d die = none ∨ d.busPaused die = true) ∧
  (∀ die o g seqs, Does (.journalProgramDone die) (fun d => journalOn d die = some o ∧ o.op = .journal g seqs ∧ d.busPaused die = false) (fun d =>
    (d.flashEnd die (.journal g seqs) statusPass).1.journalOver die g seqs o.pages (d.flashEnd die (.journal g seqs) statusPass).2)) ∧
  (∀ g l, Does (.programComplete g l) (fun d => (d.dumpOps g l).isEmpty = true ∧ (d.endable g l).isEmpty = false) (fun d =>
    ((((d.endable g l).foldl (fun d o => (d.flashEnd o.die o.op statusPass).1.programOver o (d.flashEnd o.die o.op statusPass).2) d).rowEnd g l).issueFlash).settle)) ∧
  (∀ g l, Does (.programComplete g l) (fun d => (d.dumpOps g l).isEmpty = false) (fun d => d.rowDumped g l)) ∧
  (∀ g l, Idle (.programComplete g l) fun d => (d.dumpOps g l).isEmpty = true ∧ (d.endable g l).isEmpty = true) ∧
  (∀ g l slot, Idle (.programFail g l slot) fun d => dumping d g l slot = none ∧ d.failing g l slot = none) ∧
  (∀ g l slot o, Does (.programFail g l slot) (fun d => dumping d g l slot = none ∧ d.failing g l slot = some o ∧ jrnOp o = false)
    (fun d => ((((d.flashEnd o.die o.op statusFail).1.programOver o true).rowEnd g l).issueFlash).settle)) ∧
  (∀ g l slot o a seqs, Does (.programFail g l slot) (fun d => dumping d g l slot = none ∧ d.failing g l slot = some o ∧ o.op = .journal a seqs)
    (fun d => (d.flashEnd o.die o.op statusFail).1.journalOver o.die g seqs o.pages true)) ∧
  (∀ g l slot o, Does (.programFail g l slot) (fun d => dumping d g l slot = some o) (fun d => d.dumpFailed o)) ∧
  (∀ g sg slot o, Does (.eraseComplete g sg slot true) (fun d => d.eraseOn g sg slot = some o ∧ d.busPaused o.die = false)
    (fun d => (d.flashEnd o.die o.op statusPass).1.eraseOver g sg slot o (!(d.flashEnd o.die o.op statusPass).2))) ∧
  (∀ g sg slot o, Does (.eraseComplete g sg slot false) (fun d => d.eraseOn g sg slot = some o ∧ d.busPaused o.die = false)
    (fun d => (d.flashEnd o.die o.op statusFail).1.eraseOver g sg slot o false)) ∧
  (∀ g sg slot ok, Idle (.eraseComplete g sg slot ok) fun d => d.eraseOn g sg slot = none ∨ ∃ o, d.eraseOn g sg slot = some o ∧ d.busPaused o.die = true) ∧
  (∀ g sg, Does (.segmentErase g sg) any (fun d => (d.eraseSegment g sg).settle)) ∧
  (∀ r cw cap, Does (.flashReadDone r cw cap) any (fun d => ((d.captured r cw cap).endSamples).settle)) ∧
  (∀ r cw x, Does (.ldpcDecode r cw x) any (fun d => (((d.decoded r cw x).katAll).endSamples).settle)) ∧
  (∀ die o g l slot, Does (.waitRdyTimeout die) (fun d => busyWith d die o ∧ o.op = .program g l slot)
    (fun d => ((((timedOut d die o).programOver o true).rowEnd g l).issueFlash).settle)) ∧
  (∀ die o g l a b c s, Does (.waitRdyTimeout die) (fun d => busyWith d die o ∧ o.op = .overlay g l a b c s)
    (fun d => ((((timedOut d die o).programOver o true).rowEnd g l).issueFlash).settle)) ∧
  (∀ die o g l s, Does (.waitRdyTimeout die) (fun d => busyWith d die o ∧ o.op = .rebuild g l s)
    (fun d => (((timedOut d die o).programOver o true).issueFlash).settle)) ∧
  (∀ die o g seqs, Does (.waitRdyTimeout die) (fun d => busyWith d die o ∧ o.op = .journal g seqs)
    (fun d => (timedOut d die o).journalOver die g seqs o.pages true)) ∧
  (∀ die o k slot, Does (.waitRdyTimeout die) (fun d => busyWith d die o ∧ o.op = .dump k slot)
    (fun d => (d.emit (.flashReset (diePort die) (die % 32 / 4))).dumpFailed o)) ∧
  (∀ die o id cw, Does (.waitRdyTimeout die) (fun d => busyWith d die o ∧ o.op = .read id cw)
    (fun d => ((((timedOut d die o).nextDecode id cw).issueFlash).settle))) ∧
  (∀ die o g sg b, Does (.waitRdyTimeout die) (fun d => busyWith d die o ∧ o.op = .erase g sg b)
    (fun d => (timedOut d die o).eraseOver g sg (d.eraseSlot g sg b o) o false)) ∧
  (∀ die, Idle (.waitRdyTimeout die) fun d => d.flash.find? (fun (o : FlashOp) => decide (o.die = die) && o.issued) = none ∨ d.busPaused die = true) ∧
  Does .retentionTick any (fun d => d.ageAll)

/-- Passes over the medium and the map (R319, R323, R327, R331, R342, R350, R389, R390): second coat, scrape, wear levelling, sanding and rebuild take one step of their
group, die or block where passes run, and wait where they do not; a checkpoint cycle, a map fault and a member fault have theirs. -/
def Obligations.PassCommands : Prop :=
  (∀ g, Does (.secondCoat g) (fun d => d.passesOn = true) (fun d => (d.fold g).settle)) ∧
  (∀ g, Does (.scrape g) (fun d => d.passesOn = true) (fun d => ((d.overlayTrim g).scrapeStep g).settle)) ∧
  (∀ die, Does (.wearLevelling die) (fun d => d.passesOn = true) (fun d => (d.level_ die).settle)) ∧
  (∀ die b, Does (.sandingPass die b) (fun d => d.passesOn = true ∧ d.tooOld die b = true) (fun d =>
    (((d.segsOn die b).foldl (fun d e => d.claim e.1 e.2 .media) d).sample die b).settle)) ∧
  (∀ die b, Does (.sandingPass die b) (fun d => d.passesOn = true ∧ d.tooOld die b = false) (fun d => (d.sample die b).settle)) ∧
  (∀ g, Does (.rebuild g) (fun d => d.passesOn = true) (fun d => (d.rebuildStep g).settle)) ∧
  (∀ g die b, Idle (.secondCoat g) (fun d => d.passesOn = false) ∧ Idle (.scrape g) (fun d => d.passesOn = false) ∧
    Idle (.wearLevelling die) (fun d => d.passesOn = false) ∧ Idle (.sandingPass die b) (fun d => d.passesOn = false) ∧
    Idle (.rebuild g) fun d => d.passesOn = false) ∧
  (∀ g slot, Does (.memberFault g slot) any (fun d => (d.faultMember g slot).settle)) ∧
  Does .checkpointCycle any (fun d => d.checkpoint.settle) ∧ ∀ t p, Does (.mapFault t p) any (fun d => (d.loadPage t p).settle)

namespace Sys2Proof.Claims

open Sys2Proof Sys2Proof.Machine

/-! ### What the passes do (chapters 07 and 08) -/

/-- Segment s of group g claimed by second coat, the buffers of what it reads asked for under its class (R212). -/
def coating (d : Dev) (g s : Nat) : Dev := ((d.claim g s .fold).sourceFor g s).1

/-- Whether those buffers are held. -/
def coatReady (d : Dev) (g s : Nat) : Bool := ((d.claim g s .fold).sourceFor g s).2

/-- Whether a log stripe holds at least FOLD_MIN_LIVE percent of live payload (R327). -/
def liveEnough (d : Dev) (k : Slot) : Prop := d.rd MAP_PRIMER_CFG_FOLD_MIN_LIVE * 1048576 ≤ k.live * 100

/-- Whether nothing in log stripe i of group g lives, of content or of the system. -/
def noneLive (d : Dev) (g i : Nat) : Bool := (d.liveIn g [i]).isEmpty && (d.systemIn g [i]).isEmpty

/-- The copies of segment s begun, its buffers being held: log stripes whole, or their live fragments (R332). -/
def copies (d : Dev) (g s : Nat) (whole : Bool) : Dev :=
  let e := (d.sourceFor g s).1.modSeg g s fun x => { x with evacuated := true, moves := [] }
  if whole then (d.slotsIn g s).foldl (fun d i => (d.startRead (.stripe i) g i 0 stripeBytes .S).1) e else e.readLive g s (d.slotsIn g s)

/-- The pass under which scrape takes a victim: urgent where the group's room says so (Table 7-9). -/
def scrapeAs (d : Dev) (g : Nat) : Pass := if d.urgent g then .urgent else .scrape

/-- Segments of a die that hold one of its lowest-counted sealed blocks, may be evacuated and are claimed by nothing (R342). -/
def levelFrom (d : Dev) (die : Nat) (x : Die) : List (Nat × Nat × Seg) :=
  (((tkeys x.blocks fun _ k => decide (k.erases = (d.wearSpan die).1) && decide (k.state = .sealed)).flatMap fun b => d.segsOn die b).filterMap
    fun e => (d.seg e.1 e.2).map fun s => (e.1, e.2, s)).filter fun e => decide (e.2.2.state = .sealed) && e.2.2.claim.isNone

/-- Group g as scrape finds it: full overlay blocks with nothing live sent to ERASING, its state brought up to date. -/
def scraping (d : Dev) (g : Nat) : Dev := (d.overlayTrim g).scrapeState g

/-- Group x of number g under rebuild of member `slot` on a spare, able to go on; blocks of the member that are still to be erased being erased. -/
def rebuilding (d : Dev) (g spare slot : Nat) (x : Group) : Prop :=
  d.passesOn = true ∧ d.group g = some x ∧ (∃ a b, x.rebuild = some (spare, slot, a, b)) ∧ x.state ≠ .verifying ∧ x.state ≠ .offline
abbrev onRebuild (d : Dev) (g slot : Nat) (x : Group) : Dev := d.eraseMember g x slot

/-- The segment that holds the block of the spare which a rebuild has filled, its SEG_FORM applied; and whether that record is still to be. -/
def blockIn (x : Group) (spare : Nat) : Option (Nat × Nat) :=
  x.rebuildBlock.bind fun b => (x.segs.find? fun e => e.2.blocks.contains (some (spare, b))).map fun e => (e.1, b)
def blockWaits (d : Dev) (g spare : Nat) (x : Group) : Bool := x.rebuildBlock.any fun b => formsWith d.batches g spare b

/-- No block of the spare filled and not yet counted. -/
def unplaced (d : Dev) (g spare slot : Nat) (x : Group) : Prop := blockIn x spare = none ∧ blockWaits (onRebuild d g slot x) g spare x = false

/-- The rows of a segment that are whole stripes: not those that power loss has left without one (R279). -/
def wholeRows (z : Seg) : List Nat := (upTo z.rows).filter fun r => !z.holes.any fun h => decide (h.1 = r)

/-- The next segment that a rebuild takes: of those sealed that no other pass has claimed, the one of oldest seal (R335, R390). -/
def nextRebuilt (x : Group) (slot : Nat) : Option (Nat × Seg) :=
  argMin (fun e => e.2.sealedAt) ((x.onMember slot).filter fun e => decide (e.2.state = .sealed) && e.2.claim.isNone)

/-- A group's member lost: it counts as failed, the reads of it are lost, what its die had under way is dropped, its erases are given up, and rows that
waited for no other program are programmed (R387, R393). -/
def memberLost (d : Dev) (g slot : Nat) (k : Member) : Dev :=
  let e := (d.noteFlash fun n => decide (n = k.die)).modMember g slot fun k => { k with failed := true, copy := false, jblocks := [] }
  let lose (r : FRead) : FRead :=
    { r with cws := tmap r.cws fun _ w => if w.die = k.die ∧ w.bytes.isNone then { w with stage := 6, lost := true } else w }
  let e := { e with freads := tmap e.freads fun _ r => if r.group = g then lose r else r }
  let e := Dev.erasesLeft { e with flash := e.flash.filter fun o => o.die ≠ k.die } g slot
  (e.groupRows g).foldl (fun d e => d.rowEnd g e.1) e

/-- A checkpoint cycle begun: it takes the tail as it stands, where each group's log stands, and the pages that are dirty, oldest first, the directory
pages that locate them last (R319, R321). -/
def cyclePages (d : Dev) : List (Nat × Nat) :=
  let pages := (d.ckpt.dirty.filter fun p => !isDir p).reverse
  pages ++ ((d.ckpt.dirty.filter isDir) ++ pages.map dirPage).eraseDups
def cycleBegun (d : Dev) : Dev :=
  { d with ckpt := { d.ckpt with cycle := some (d.ckpt.tail, (tkeys d.groups fun _ _ => true).map fun g => (g, d.ckptStart g)), todo := some (cyclePages d) } }

end Sys2Proof.Claims

/-- What each pass does where it runs, with the state it leaves. Second coat (R327) claims the next log stripe's segment and asks for its buffers; with
them it reads the stripe whole where enough of it lives, frees it where nothing does, and else reads what lives. Scrape (R330–R332) goes on with a claimed
segment, or takes its victim. Wear levelling (R342) evens the pools, and evacuates the segment of oldest seal that holds a lowest-counted block once the
counts spread. The sanding pass (R350) asks for the buffer of a sealed block's sample where one is due. A rebuild (R390) takes up the next segment once it
holds a buffer and a block of the spare, waits while units are read or programmed, logs the block's place
then, counts the segment done once that record is applied, and ends when none is left. A member fault (R387) loses the member, re-homes its journal and starts a rebuild under AUTO. A
checkpoint cycle (R319) starts past START; a map fault loads its page (R323), once. Where there is nothing to do, no more follows than what follows by
itself. -/
def Obligations.PassEffects : Prop :=
  (∀ g i k, Does (.secondCoat g) (fun d => d.passesOn = true ∧ d.foldNext g = some (i, k) ∧ coatReady d g k.segment = false)
    (fun d => (coating d g k.segment).settle)) ∧
  (∀ g i k, Does (.secondCoat g) (fun d => d.passesOn = true ∧ d.foldNext g = some (i, k) ∧ coatReady d g k.segment = true ∧
      liveEnough (coating d g k.segment) k) (fun d => ((coating d g k.segment).startRead (.stripe i) g i 0 stripeBytes .S).1.settle)) ∧
  (∀ g i k, Does (.secondCoat g) (fun d => d.passesOn = true ∧ d.foldNext g = some (i, k) ∧ coatReady d g k.segment = true ∧
      ¬liveEnough (coating d g k.segment) k ∧ noneLive (coating d g k.segment) g i = true)
    (fun d => (((coating d g k.segment).logOwn g [.mmapFree i] .O).finishMoves g k.segment).settle)) ∧
  (∀ g i k, Does (.secondCoat g) (fun d => d.passesOn = true ∧ d.foldNext g = some (i, k) ∧ coatReady d g k.segment = true ∧
      ¬liveEnough (coating d g k.segment) k ∧ noneLive (coating d g k.segment) g i = false)
    (fun d => ((coating d g k.segment).readLive g k.segment [i]).settle)) ∧
  (∀ g, Does (.secondCoat g) (fun d => d.passesOn = true ∧ d.foldNext g = none) (fun d => d.settle)) ∧
  (∀ g s p, Does (.scrape g) (fun d => d.passesOn = true ∧ (scraping d g).claimedNext g = some (s, p) ∧ ((scraping d g).sourceFor g s).2 = true)
    (fun d => ((copies (scraping d g) g s (decide (p = .media) || decide (p = .wear) || decide (p = .sand))).finishMoves g s).settle)) ∧
  (∀ g s p, Does (.scrape g) (fun d => d.passesOn = true ∧ (scraping d g).claimedNext g = some (s, p) ∧ ((scraping d g).sourceFor g s).2 = false)
    (fun d => (((scraping d g).sourceFor g s).1.finishMoves g s).settle)) ∧
  (∀ g s x, Does (.scrape g) (fun d => d.passesOn = true ∧ (scraping d g).claimedNext g = none ∧ (scraping d g).group g = some x ∧
      x.scrapeOn = true ∧ (scraping d g).victim g = some s ∧
      (((scraping d g).claim g s (scrapeAs (scraping d g) g)).sourceFor g s).2 = true)
    (fun d => ((copies ((scraping d g).claim g s (scrapeAs (scraping d g) g)) g s false).finishMoves g s).settle)) ∧
  (∀ g x, Does (.scrape g) (fun d => d.passesOn = true ∧ (scraping d g).claimedNext g = none ∧ (scraping d g).group g = some x ∧
      (x.scrapeOn = false ∨ (scraping d g).victim g = none)) (fun d => (scraping d g).settle)) ∧
  (∀ die x g s y, Does (.wearLevelling die) (fun d => let e := d.evenPools die
      d.passesOn = true ∧ e.rd MAP_WEAR_CFG_SPREAD < (e.wearSpan die).2 - (e.wearSpan die).1 ∧
      tget e.dies die = some x ∧ argMin (fun e => e.2.2.sealedAt) (levelFrom e die x) = some (g, s, y) ∧ ((e.claim g s .wear).sourceFor g s).2 = true)
    (fun d => ((copies ((d.evenPools die).claim g s .wear) g s true).finishMoves g s).settle)) ∧
  (∀ die, Does (.wearLevelling die) (fun d => let e := d.evenPools die
      d.passesOn = true ∧ (e.wearSpan die).2 - (e.wearSpan die).1 ≤ e.rd MAP_WEAR_CFG_SPREAD)
    (fun d => (d.evenPools die).settle)) ∧
  (∀ die b k, Does (.sandingPass die b) (fun d => d.passesOn = true ∧ d.tooOld die b = false ∧ d.blk die b = some k ∧ k.state = .sealed ∧
      d.sampleWanted die b k = true) (fun d => (d.ask (.sample die b) 16384 1 .G noTenant).settle)) ∧
  (∀ die b k, Does (.sandingPass die b) (fun d => d.passesOn = true ∧ d.tooOld die b = false ∧ d.blk die b = some k ∧
      (k.state ≠ .sealed ∨ d.sampleWanted die b k = false)) (fun d => d.settle)) ∧
  (∀ g spare slot x s b, Does (.rebuild g) (fun d => rebuilding d g spare slot x ∧ blockIn x spare = some (s, b))
    (fun d => ((onRebuild d g slot x).blockMoved g s spare b).settle)) ∧
  (∀ g spare slot x, Does (.rebuild g) (fun d => rebuilding d g spare slot x ∧ blockIn x spare = none ∧ blockWaits (onRebuild d g slot x) g spare x = true)
    (fun d => (onRebuild d g slot x).settle)) ∧
  (∀ g spare slot x s y, Does (.rebuild g) (fun d => let e := (onRebuild d g slot x).unitsRead g
      rebuilding d g spare slot x ∧ blockIn x spare = none ∧ blockWaits (onRebuild d g slot x) g spare x = false ∧
      (x.segs.find? fun e => e.2.claim = some .rebuild) = some (s, y) ∧ (e.unitsOf g).isEmpty = true ∧ e.unitsDue g = false)
    (fun d => (((onRebuild d g slot x).unitsRead g).moveBlock g s slot spare).settle)) ∧
  (∀ g spare slot x s y, Does (.rebuild g) (fun d => let e := (onRebuild d g slot x).unitsRead g
      rebuilding d g spare slot x ∧ blockIn x spare = none ∧ blockWaits (onRebuild d g slot x) g spare x = false ∧
      (x.segs.find? fun e => e.2.claim = some .rebuild) = some (s, y) ∧ ((e.unitsOf g).isEmpty = false ∨ e.unitsDue g = true))
    (fun d => ((onRebuild d g slot x).unitsRead g).settle)) ∧
  (∀ g spare slot x s y, Does (.rebuild g) (fun d => rebuilding d g spare slot x ∧ unplaced d g spare slot x ∧ (x.segs.find? fun e => e.2.claim = some .rebuild) = none ∧
      nextRebuilt x slot = some (s, y) ∧ (((onRebuild d g slot x).ask (.rebuild g) 262144 1 .O noTenant).handsOf (.rebuild g)).isEmpty = true)
    (fun d => ((onRebuild d g slot x).ask (.rebuild g) 262144 1 .O noTenant).settle)) ∧
  (∀ g spare slot x s y z b, Does (.rebuild g) (fun d => let e := (onRebuild d g slot x).ask (.rebuild g) 262144 1 .O noTenant
      rebuilding d g spare slot x ∧ unplaced d g spare slot x ∧ (x.segs.find? fun e => e.2.claim = some .rebuild) = none ∧
      nextRebuilt x slot = some (s, y) ∧ (e.handsOf (.rebuild g)).isEmpty = false ∧ e.seg g s = some z ∧ e.freeBlock spare z.slc false = some b) (fun d =>
    ((wholeRows z).foldl (fun d r => d.unitReads g s slot r (match x.member slot with | some k => k.copy | none => false) [])
      ((((((onRebuild d g slot x).ask (.rebuild g) 262144 1 .O noTenant).claim g s .rebuild).openBlock spare b z.slc).modGroup g
        fun x => { x with rebuildBlock := some b }).tellGroup g)).settle)) ∧
  (∀ g spare slot x, Does (.rebuild g) (fun d => rebuilding d g spare slot x ∧ unplaced d g spare slot x ∧ (x.segs.find? fun e => e.2.claim = some .rebuild) = none ∧
      x.onMember slot = [] ∧ (onRebuild d g slot x).forming g = false) (fun d => ((onRebuild d g slot x).rebuildDone g).settle)) ∧
  (∀ g slot x k, Does (.memberFault g slot) (fun d => d.group g = some x ∧ x.member slot = some k ∧ k.failed = false) (fun d =>
    let e := if x.jrnA = slot ∨ x.jrnB = slot then (memberLost d g slot k).rehome g else memberLost d g slot k
    let f := if e.isSet ARR_CFG_AUTO then e.startRebuild g slot false else e
    ((((f.settleState g).policyNow g).tellGroup g).reRisk).settle)) ∧
  (∀ g slot x k, Does (.memberFault g slot) (fun d => d.group g = some x ∧ x.member slot = some k ∧ k.failed = true) (fun d => d.settle)) ∧
  Does .checkpointCycle (fun d => d.ckpt.cycle = none ∧ d.groups ≠ [] ∧ d.rd MAP_CKPT_CFG_START * 1048576 < d.ckpt.tail)
    (fun d => (Dev.ckptStep (cyclePages d) (cycleBegun d)).settle) ∧
  Does .checkpointCycle (fun d => d.ckpt.cycle.isSome ∨ d.groups = [] ∨ d.ckpt.tail ≤ d.rd MAP_CKPT_CFG_START * 1048576) (fun d => d.settle) ∧
  (∀ t p, Does (.mapFault t p) (fun d => d.pageHeld (t, p) = false ∧ d.ckpt.wanted.contains (t, p) = false) (fun d =>
    ((Dev.bump { d with ckpt := { d.ckpt with wanted := (t, p) :: d.ckpt.wanted } } MAP_FAULTS_LOADS).loadOn (t, p)).settle)) ∧
  ∀ t p, Does (.mapFault t p) (fun d => d.pageHeld (t, p) = true ∨ d.ckpt.wanted.contains (t, p) = true) (fun d => d.settle)

/-- R70–R78, Table 2-1: the fields, direct descriptors and inline data of a frame are what its bytes hold, every field at every value; a frame with INLINE
has no descriptors and one without it no inline data. Its HCRC is right as it is laid out (R73). -/
def Obligations.FrameRoundTrip : Prop :=
  ∀ (op : BitVec 16) (m : Msg), m.wf = true → (bit m.flags.toNat 1 = true → m.dcount = 0) → (bit m.flags.toNat 1 = false → m.inl = []) →
    (frameOf m.net (frameBytes op m)).1 = op ∧ (frameOf m.net (frameBytes op m)).2 = m ∧ rawCrcOk (frameBytes op m) = true

namespace Sys2Proof.Claims

open Sys2Proof Sys2Proof.Machine

/-! ### Volumes, replication, streams (chapters 04 and 09) -/

/-- Grains that one CLONE_FILL goes through: 1 MiB of them at most, and none from the first that a committed change of the origin holds whose record has
not been issued (R434, R435). -/
def fillCount (d : Dev) (v : Nat) (x y : Vol) : Nat :=
  let n := Nat.min (oneMiB / x.grainBytes) (x.grains - y.fillTo)
  ((upTo n).find? fun i => !y.filled (y.fillTo + i) && d.originHas d.issued v (y.fillTo + i)).getD n

/-- The records one CLONE_FILL logs: for each grain of its range that the clone does not hold itself, the entry its origin shows, at epoch 0. -/
def fillRecs (d : Dev) (v : Nat) (x y : Vol) : List Rec :=
  ((Dev.grainKeys (d.vols.length + 1) d.issued v).filter fun g => decide (y.fillTo ≤ g) && decide (g < y.fillTo + fillCount d v x y) && !y.filled g).flatMap fun g =>
    let e := { d.issued.entryAt v none g with epoch := 0 }
    if e.kind = 0 then [] else [Rec.vmap v g e] ++ (if e.kind = 2 then [Rec.crecRef e.content 1] else [])

/-- The records a SNAP_MERGE logs: each entry of the deleted snapshot's delta goes to the snapshot below where that one needs it, and is dropped elsewhere. -/
def mergeRecs (v slot : Nat) (x : Vol) (k : Snap) : List Rec :=
  k.delta.flatMap fun e =>
    let drop : List Rec := [Rec.deltaDrop v slot e.1] ++ (if e.2.kind = 2 then [Rec.crecRef e.2.content (-1)] else [])
    match argMax (fun e => e.2.epoch) (x.snaps.filter fun e => !e.2.deleting && decide (e.2.epoch < k.epoch)) with
    | some b => if e.2.epoch ≤ b.2.epoch then [Rec.deltaMove v slot b.1 e.1] else drop
    | none => drop

/-- A replication message of kind k on a queue pair opens as one of session n. -/
def opens (d : Dev) (net : Net) (raw : Bytes) (k n : Nat) (e : Dev) (x : Sess) (h b : Bytes) : Prop := d.openRepl net raw k = (e, some (n, x, h, b))

/-- Whether a HELLO names the receiving end's volume, with its grain size and no more than its capacity. -/
def helloFits (v : Vol) (x : Sess) (h b : Bytes) : Prop := le h 0x10 8 = v.handle x.volume ∧ le b 0 8 = b2n v.grain16 ∧ le b 8 8 ≤ v.capacity

/-- A receiving session that a message of a cycle reaches: a cycle before it that was not committed is undone, and its own starts with its first message
(R445, R448). -/
def begun (e : Dev) (n : Nat) (h : Bytes) : Dev :=
  let late := match tget e.sessions n with | some x => x.midCycle && decide (x.cycle ≠ le h 4 4) | none => false
  let f := if late then e.rollBack n else e
  f.modSess n fun x => if x.midCycle then { x with state := .sending } else { x with state := .sending, cycle := le h 4 4, startedAt := f.now }

/-- Grains that the receiving session's cycle has entered, once its message has begun it. -/
def entered (e : Dev) (n : Nat) (h : Bytes) : Nat := match tget (begun e n h).sessions n with | some x => x.wrote.length | none => 0

/-- The epochs of a volume's snapshots renumbered from 1, and its entries with them (R429). -/
def renumber (x : Vol) : Nat → Nat := newEpoch (x.snaps.map (·.2.epoch))

/-- The part with volume v's epochs renumbered: in its map and snapshots, in the records still to be written, in the commands under way. -/
def renumbered (d : Dev) (v : Nat) (x : Vol) : Dev :=
  let conv (t : Tbl Entry) : Tbl Entry := tmap t fun _ e => { e with epoch := renumber x e.epoch }
  let a := d.modVol v fun y => { y with
    map := conv y.map, snaps := tmap y.snaps fun _ k => { k with epoch := renumber x k.epoch, delta := conv k.delta }
    epoch := x.snaps.length + 1, compacting := false }
  let b := { a with batches := a.batches.map fun (b : Batch) => { b with recs := b.recs.map fun (r : Sys2Proof.Rec) => Rec.renumber (renumber x) v r } }
  { b with cmds := tmap b.cmds fun _ c => if c.op.edits ∧ c.volume = v ∧ c.num 2 ≠ 0 then c.setNum 2 (renumber x (c.num 2 - 1) + 1) else c }

/-- The map pages of a volume's grains, those that its snapshots' deltas hold among them. -/
def epochPages (v : Nat) (x : Vol) : List Nat :=
  (((x.map.map (·.1)) ++ x.snaps.flatMap fun s => s.2.delta.map (·.1)).map fun g => (volPage v g).2).eraseDups

/-- Whether a session has a cycle under way. -/
def midway (x : Sess) : Bool := x.midCycle || x.cand.isSome

/-- Whether the queue pair of a session serves it. -/
def sessUp (d : Dev) (x : Sess) : Bool := match tget d.eth.qps x.qpn with | some q => q.up && !q.failed | none => false

end Sys2Proof.Claims

/-- Volumes in the background (R427, R429, R435): CLONE_FILL logs the next range of the origin's entries; SNAP_MERGE logs where a deleted snapshot's entries
go and its end; EPOCH_COMPACTION renumbers the epochs of a volume
whose epochs run high, or marks it while a snapshot is being deleted. -/
def Obligations.VolumeBackground : Prop :=
  (∀ v x y o, Does (.cloneFill v) (fun d => d.vol v = some x ∧ d.issued.vol v = some y ∧ x.origin = some o ∧ y.fillTo < x.grains ∧ fillCount d v x y ≠ 0)
    (fun d => (d.logOwn x.group (fillRecs d v x y ++ [.cloneFill v y.fillTo (fillCount d v x y)])).settle)) ∧
  (∀ v x y o, Idle (.cloneFill v) fun d => d.vol v = some x ∧ d.issued.vol v = some y ∧ x.origin = some o ∧ y.fillTo < x.grains ∧ fillCount d v x y = 0) ∧
  (∀ v x, Idle (.cloneFill v) fun d => d.vol v = some x ∧ x.origin = none) ∧
  (∀ v x y o, Idle (.cloneFill v) fun d => d.vol v = some x ∧ d.issued.vol v = some y ∧ x.origin = some o ∧ x.grains ≤ y.fillTo ∧ x.fillTo < x.grains) ∧
  (∀ v slot x k, Does (.snapMerge v slot) (fun d => d.issued.vol v = some x ∧ tget x.snaps slot = some k ∧ k.deleting = true)
    (fun d => (d.logOwn x.group (mergeRecs v slot x k ++ [.snapDelete v slot])).settle)) ∧
  (∀ v slot x k, Idle (.snapMerge v slot) fun d => d.issued.vol v = some x ∧ tget x.snaps slot = some k ∧ k.deleting = false) ∧
  (∀ v x, Does (.epochCompaction v) (fun d => d.vol v = some x ∧ 0xF000 ≤ x.epoch ∧ x.snaps.any (fun e => e.2.deleting) = true)
    (fun d => d.modVol v fun x => { x with compacting := true })) ∧
  (∀ v x, Does (.epochCompaction v) (fun d => d.vol v = some x ∧ 0xF000 ≤ x.epoch ∧ x.snaps.any (fun e => e.2.deleting) = false) (fun d =>
    ((renumbered d v x).logOwn x.group ((epochPages v x).map fun p => .compact v p (x.snaps.length + 1))).settle)) ∧
  ∀ v x, Idle (.epochCompaction v) fun d => d.vol v = some x ∧ x.epoch < 0xF000

/-- Replication (R443–R448): a cycle starts once its interval is over; a HELLO that fits makes the receiving end IDLE and answers, one that does not makes it
MISMATCH, and the sending end becomes IDLE; GRAINS are entered and acknowledged, or fail the cycle; CYCLE_END waits for its acknowledgement, where its
RECORDS are the grains entered; an ACK lets messages go and ends a cycle; a FAIL finds a mismatch, sends HELLO or the cycle's messages again, or fails it; a
queue pair that is gone fails what runs, also in STOPPED. -/
def Obligations.ReplicationCommands : Prop :=
  (∀ n x, Does (.replCycle n) (fun d => tget d.sessions n = some x ∧ x.receiver = false ∧ x.state = .idle ∧ x.closer = none ∧
      x.startedAt + msNs x.interval ≤ d.now) (fun d => (d.startCycle n).settle)) ∧
  (∀ n x, Idle (.replCycle n) fun d => tget d.sessions n = some x ∧ (x.receiver = true ∨ x.state ≠ .idle ∨ d.now < x.startedAt + msNs x.interval)) ∧
  (∀ net raw n e x h b v, Does (.replHello net raw) (fun d => opens d net raw 1 n e x h b ∧ e.vol x.volume = some v ∧ x.receiver = true ∧ helloFits v x h b)
    (fun _ => Dev.replHello (e.modSess n fun x => { x with
      state := if x.state = .opening then .idle else x.state, peer := le h 2 2, full := !(decide (le h 4 4 = x.baseCycle) && x.base.isSome) }) n)) ∧
  (∀ net raw n e x h b v, Does (.replHello net raw) (fun d => opens d net raw 1 n e x h b ∧ e.vol x.volume = some v ∧ x.receiver = true ∧ ¬helloFits v x h b)
    (fun _ => (e.modSess n fun x => { x with state := .mismatch, peer := le h 2 2 }).replAnswer n 5 (le h 8 8) 0x1011)) ∧
  (∀ net raw n e x h b v, Does (.replHello net raw) (fun d => opens d net raw 1 n e x h b ∧ e.vol x.volume = some v ∧ x.receiver = false ∧ x.state = .opening)
    (fun _ => e.modSess n fun x => { x with state := .idle, peer := le h 2 2, full := !(decide (le h 4 4 = x.baseCycle) && x.base.isSome) })) ∧
  (∀ net raw n e x h b v f, Does (.replGrains net raw) (fun d => opens d net raw 2 n e x h b ∧ e.vol x.volume = some v ∧ x.receiver = true ∧
      (x.state = .idle ∨ x.state = .sending) ∧ Dev.enterAll n v.grainBytes (le h 0x18 4) (begun e n h) b = .ok f)
    (fun _ => (f.replAnswer n 4 (le h 8 8) 0).settle)) ∧
  (∀ net raw n e x h b v f, Does (.replGrains net raw) (fun d => opens d net raw 2 n e x h b ∧ e.vol x.volume = some v ∧ x.receiver = true ∧
      (x.state = .idle ∨ x.state = .sending) ∧ Dev.enterAll n v.grainBytes (le h 0x18 4) (begun e n h) b = .error f)
    (fun _ => ((begun e n h).receiverFail n f).settle)) ∧
  (∀ net raw n e x h b, Does (.replCycleEnd net raw) (fun d => opens d net raw 3 n e x h b ∧ x.receiver = true ∧ (x.state = .idle ∨ x.state = .sending) ∧
      tget e.sessions n ≠ none ∧ entered e n h = le h 0x18 4)
    (fun _ => ((begun e n h).modSess n fun x => { x with state := .waitAck, endDue := some (le h 8 8) }).settle)) ∧
  (∀ net raw n e x h b, Does (.replCycleEnd net raw) (fun d => opens d net raw 3 n e x h b ∧ x.receiver = true ∧ (x.state = .idle ∨ x.state = .sending) ∧
      tget e.sessions n ≠ none ∧ entered e n h ≠ le h 0x18 4) (fun _ => begun e n h)) ∧
  (∀ net raw n e x h b, Does (.replAck net raw) (fun d => opens d net raw 4 n e x h b ∧ x.receiver = false ∧ x.state = .sending)
    (fun _ => (e.modSess n fun y => { y with unacked := x.unacked.filter fun e => decide (le b 0 8 < e.1) }).settle)) ∧
  (∀ net raw n e x h b, Does (.replAck net raw) (fun d => opens d net raw 4 n e x h b ∧ x.receiver = false ∧ x.state = .waitAck ∧
      (∀ e ∈ x.unacked, e.1 ≤ le b 0 8) ∧ x.unacked ≠ [] ∧ x.outbox = [])
    (fun _ => ((e.modSess n fun y => { y with unacked := [] }).cycleDone n).settle)) ∧
  (∀ net raw n e x h b, Does (.replFail net raw) (fun d => opens d net raw 5 n e x h b ∧ x.receiver = false ∧ x.state = .opening ∧
      le b 8 8 = 0x1011) (fun _ => e.modSess n fun x => { x with state := .mismatch })) ∧
  (∀ net raw n e x h b, Does (.replFail net raw) (fun d => opens d net raw 5 n e x h b ∧ x.receiver = false ∧ x.state = .opening ∧
      le b 8 8 ≠ 0x1011) (fun _ => if x.outbox = [] then e.replHello n else e)) ∧
  (∀ net raw n e x h b, Does (.replFail net raw) (fun d => opens d net raw 5 n e x h b ∧ x.receiver = false ∧ (x.state = .sending ∨ x.state = .waitAck) ∧
      le b 8 8 = 0) (fun _ => (e.resendAfter n (some (le b 0 8))).settle)) ∧
  (∀ net raw n e x h b, Does (.replFail net raw) (fun d => opens d net raw 5 n e x h b ∧ x.receiver = false ∧ (x.state = .sending ∨ x.state = .waitAck) ∧
      le b 8 8 ≠ 0) (fun _ => (e.senderFail n).settle)) ∧
  (∀ n x, Does (.cycleFail n) (fun d => tget d.sessions n = some x ∧ sessUp d x = false ∧ x.receiver = true ∧ midway x = true)
    (fun d => ((d.rollBack n).replFailEvents n x.tenant).settle)) ∧
  (∀ n x, Does (.cycleFail n) (fun d => tget d.sessions n = some x ∧ sessUp d x = false ∧ x.receiver = false ∧ midway x = true)
    (fun d => (d.senderFail n).settle)) ∧
  ∀ n x, Idle (.cycleFail n) fun d => tget d.sessions n = some x ∧ (sessUp d x = true ∨ midway x = false)

/-- Streams and drains (R190, R194, R607): a vermilion write that is late is found late; AT_RISK clears after 1 s in which the guarantees held; a tenant's drain
that has come to its end leaves it QUIESCED, its QUIESCE_TENANTs completing, or ON under the next incarnation where an ENABLE_TENANT waits. -/
def Obligations.StreamAndDrainCommands : Prop :=
  (∀ cmd c, Does (.deadlineMiss cmd) (fun d => tget d.cmds cmd = some c ∧ c.stage ≠ .done ∧ c.claim = .V ∧ d.lateness c ≠ 0) (fun d => d.findLate cmd)) ∧
  (∀ cmd c, Idle (.deadlineMiss cmd) fun d => tget d.cmds cmd = some c ∧ (c.stage = .done ∨ c.claim ≠ .V ∨ d.lateness c = 0)) ∧
  (∀ i x t, Does (.atRiskClear i) (fun d => tget d.streams i = some x ∧ x.atRisk = true ∧ x.clearSince = some t ∧ t + sNs 1 ≤ d.now ∧
      d.guaranteesLost = false ∧ (d.slotMost < d.slotNeed → d.filtered i x.volume = false)) (fun d =>
    (((d.modStream i fun s => { s with atRisk := false, clearSince := none }).event 0x0202 0 x.tenant i [0]).admRegs))) ∧
  (∀ i x, Idle (.atRiskClear i) fun d => tget d.streams i = some x ∧ (x.atRisk = false ∨ x.clearSince = none ∨ d.guaranteesLost = true)) ∧
  (∀ t x, Does (.drainEnd t) (fun d => tget d.tenants t = some x ∧ x.life = .draining ∧ d.drained t = true ∧ d.drainHeld t .enableTenant = []) (fun d =>
    (d.drainHeld t .quiesceTenant).foldl (fun d id => d.endCmd id .success 0 0)
      (d.modTenant t fun x => { x with life := .quiesced, quiesceHeld := [] }))) ∧
  (∀ t x, Does (.drainEnd t) (fun d => tget d.tenants t = some x ∧ x.life = .draining ∧ d.drained t = true ∧ d.drainHeld t .enableTenant ≠ []) (fun d =>
    let q := d.drainHeld t .quiesceTenant
    let e := q.foldl (fun d id => d.endCmd id .success 0 0) d
    (d.drainHeld t .enableTenant).foldl
      (fun d id => (d.modCmd id fun c => { c with waits := q }).endCmd id .success 0 ((x.inc + 1) % 65536))
      (((e.tenantOff t).tenantOn t (x.inc + 1)).modTenant t fun x => { x with quiesceHeld := [] }))) ∧
  ∀ t x, Idle (.drainEnd t) fun d => tget d.tenants t = some x ∧ (x.life ≠ .draining ∨ d.drained t = false)

namespace Sys2Proof.Claims

open Sys2Proof Sys2Proof.Machine

/-! ### The pair (chapter 16) -/

/-- Whether the Jarel link of a paired part takes sealed frames. -/
def linkOpen (d : Dev) : Prop := d.solo = false ∧ d.fenced = false ∧ d.isSet PEER_LINK_UP = true ∧ d.boot.phase = .running ∧ d.peer.step = 6

/-- A sealed frame opens and is the next in order: the part is then e, its LINK_ACK sent. -/
def takesSealed (h : LinkHdr) (e : Dev) (d : Dev) : Prop := linkOpen d ∧ ∃ o, d.openSealed h = some o ∧ o.inOrder h = some e

/-- A pairing frame is taken at a step: the part is then e. -/
def takesClear (h : LinkHdr) (step : Nat) (e : Dev) (d : Dev) : Prop :=
  d.solo = false ∧ d.fenced = false ∧ d.isSet PEER_LINK_UP = true ∧ d.boot.phase = .running ∧ d.peer.step = step ∧
    d.isSet PEER_STAT_NEW_SERIAL = false ∧ d.inOrder h = some e

/-- Whether the acceptance of a frame is that of everything resent. -/
def resyncDone (d : Dev) (seq : Nat) : Prop := d.peer.resyncSeq.isSome ∧ seqBy d.peer.resyncSeq seq = true

/-- A mirrored map log with a batch at its end: one that is sent again takes the place of the former (R322). -/
def tailWith (m : Mirror) (g first : Nat) (recs : List Rec) : List (Nat × Nat × List Rec) :=
  (m.tail.filter fun b => decide (b.1 ≠ g) || decide (b.2.1 ≠ first)) ++ [(g, first, recs)]

/-- The batches of a mirrored map log that a new root makes past. -/
def tailKept (g : Nat) (recs : List Rec) (b : Nat × Nat × List Rec) : Bool :=
  match rootStart recs with
  | some start => decide (b.1 ≠ g) || decide (start < b.2.1 + b.2.2.length)
  | none => true

/-- The keys that pairing gives: from the secrets of both, side A's first (R629). -/
def pairKey (d : Dev) (his : Bytes) (side : Nat) : Bytes :=
  let hs := match d.peer.hello with | some b => b.serial.toNat | none => 0
  if d.side = 1 then jarelKey d.peer.mySecret his side Config.serial.toNat hs else jarelKey his d.peer.mySecret side hs Config.serial.toNat

/-- A heartbeat's content noted, with the beats missed before it (R641). -/
def beatNoted (d : Dev) (state : BitVec 8) (holds : Word64) : Dev :=
  let e := d.addSat PEER_HB_MISSED (if d.peer.hbAt = 0 then 0 else (d.now - d.peer.hbAt) / usNs 10 - 1)
  { e with peer := { e.peer with hbAt := d.now, hisState := state.toNat, hisHolds := holds.toNat } }

/-- Whether a heartbeat claims a home port that this part owns. -/
def claimsOurs (d : Dev) (holds : Word64) : Bool :=
  d.homePorts.any fun n => bit holds.toNat n && match tget d.ports n with | some p => decide (p.own = .owned) | none => false

/-- PEERALIVE_OUT toggled. -/
def toggled (d : Dev) : Dev := Dev.emit { d with peer := { d.peer with aliveOut := !d.peer.aliveOut } } (.pin 0 (!d.peer.aliveOut))

/-- Whether the partner counts as dead to a part that may act on it. -/
def mayAct (d : Dev) : Prop :=
  d.solo = false ∧ d.fenced = false ∧ d.boot.phase = .running ∧ d.partnerDead = true ∧ d.peer.takeover = none ∧ d.peer.sole = false

/-- The lanes that train, by a bit each, the others bad. -/
def lanesUp (d : Dev) (lanes : BitVec 17) : Dev := d.setLanes ((upTo 17).filter fun l => !bit lanes.toNat l)

/-- A link frame sent again where it is due, with a fresh counter and the time (R627). -/
def resend (d : Dev) (x : LinkTx) : Dev :=
  if d.now < x.sentAt + usNs 8 then { d with peer := { d.peer with unacked := d.peer.unacked ++ [x] } } else
  let c := if x.body.sealed_ then d.peer.txKey.counter else 0
  let key : LinkKey := if x.body.sealed_ then { d.peer.txKey with counter := c + 1 } else d.peer.txKey
  Dev.emit { d with peer := { d.peer with txKey := key, unacked := d.peer.unacked ++ [{ x with counter := c, sentAt := d.now }] } } (.link x.body.kind x.seq c)

end Sys2Proof.Claims

/-- Frames of a paired partner (R627, R628, R632–R636, R641): each that opens and is next in order is acknowledged and has its effect: mirror content is
stored and accepted; an acceptance lets what waited go on, and the last of a resynchronisation links the pair; RELEASE frees mirror data; a REKEY names
the next key; CONTROL and heartbeats have theirs, a heartbeat that claims a port of ours fencing the part; a LINK_ACK lets go what waits for it, a CRYPTO_ERASE coming to
its end (R158). One that does not open is counted; one out of
order has no effect. -/
def Obligations.LinkFrames : Prop :=
  (∀ h e g l data, Does (.mirrorData h g l data) (takesSealed h e) (fun _ =>
    (e.modMirror fun m => { m with data := tput m.data (rowKey g l) data }).acceptFrame h)) ∧
  (∀ h e es, Does (.mirrorJrn h es) (takesSealed h e) (fun _ =>
    (e.modMirror fun m => { m with journal := (m.journal ++ es).filter fun j => !jrnRetiredBy es j }).acceptFrame h)) ∧
  (∀ h e g first recs, Does (.mirrorMaplog h g first recs) (takesSealed h e) (fun _ => (e.modMirror fun m => { m with
    tail := (tailWith m g first recs).filter (tailKept g recs)
    past := m.past ++ (tailWith m g first recs).filter fun b => !tailKept g recs b }).acceptFrame h)) ∧
  (∀ h e refs, Does (.mirrorRelease h refs) (takesSealed h e) (fun _ =>
    e.modMirror fun m => { m with data := refs.foldl (fun (t : Tbl Bytes) r => tdel t (rowKey r.1 r.2)) m.data })) ∧
  (∀ h e (seq : Word32), Does (.mirrorAccept h seq) (fun d => takesSealed h e d ∧ resyncDone (e.accepted seq.toNat).settle seq.toNat ∧
      ((e.accepted seq.toNat).settle.rd PEER_STAT_STATE = 0 ∨ (e.accepted seq.toNat).settle.rd PEER_STAT_STATE = 2))
    (fun _ => (e.accepted seq.toNat).settle.enterLinked)) ∧
  (∀ h e (seq : Word32), Does (.mirrorAccept h seq) (fun d => takesSealed h e d ∧ ¬resyncDone (e.accepted seq.toNat).settle seq.toNat)
    (fun _ => (e.accepted seq.toNat).settle)) ∧
  (∀ h e ct, Does (.linkRekey h ct) (takesSealed h e) (fun _ =>
    { e with peer := { e.peer with rxKey := { e.peer.rxKey with next := some (Config.kemDecaps ct) } } })) ∧
  (∀ h e c, Does (.linkControl h c) (takesSealed h e) (fun _ => (e.control h c).settle)) ∧
  (∀ h e st holds (q : Word32), Does (.heartbeat h st holds q) (fun d => takesSealed h e d ∧ claimsOurs (beatNoted e st holds) holds = false)
    (fun _ => (beatNoted e st holds).paired)) ∧
  (∀ h e st holds (q : Word32), Does (.heartbeat h st holds q) (fun d => takesSealed h e d ∧ claimsOurs (beatNoted e st holds) holds = true)
    (fun _ => ((beatNoted e st holds).fence 0x0F00 0 0 [0x0641, q.toNat]).settle)) ∧
  (∀ (seq : Word32), Does (.linkAck seq) any (fun d => (linkAcked d seq).partnerDone.settle)) ∧
  (∀ (seq : Word32) id c, Does (.linkAck seq) (fun d => partnerWaits (linkAcked d seq) = [id] ∧ tget (linkAcked d seq).cmds id = some c ∧
      c.op = .cryptoErase ∧ partnerKnows (linkAcked d seq) c) (fun d => (eraseEnd (linkAcked d seq) id c).settle)) ∧
  (∀ h c, Does (.linkControl h c) (fun d => linkOpen d ∧ d.openSealed h = none) (fun d => d.bump PEER_LINK_AUTH_FAIL)) ∧
  (∀ h c o, Does (.linkControl h c) (fun d => linkOpen d ∧ d.openSealed h = some o ∧ o.inOrder h = none) (fun _ => o)) ∧
  (∀ h c, Idle (.linkControl h c) fun d => ¬linkOpen d) ∧
  Does .retransmit (fun d => d.isSet PEER_LINK_UP = true) (fun d => d.peer.unacked.foldl resend { d with peer := { d.peer with unacked := [] } }) ∧
  Idle .retransmit fun d => d.isSet PEER_LINK_UP = false

/-- Pairing (R629, R630, R631): HELLO, CERT, ATTEST and KEM, each at its step and in order, lead to the next or fail pairing at theirs; a HELLO with a serial
that is not recorded waits for ACCEPT_NEW; KEM gives the link keys and opens the link; a link that comes up starts pairing, or asks again for an image;
BOOT_FETCH frames are taken by the boot and answered by a running part. -/
def Obligations.PairingFrames : Prop :=
  (∀ h e b k, Does (.pairHello h b) (fun d => takesClear h 1 e d ∧ e.helloFails b = some k) (fun _ => e.pairFail k)) ∧
  (∀ h e b, Does (.pairHello h b) (fun d => takesClear h 1 e d ∧ e.helloFails b = none ∧ e.peer.partner = some b.serial.toNat)
    (fun _ => Dev.sendCerts { e with peer := { e.peer with hello := some b, hisUpdate := b.update, step := 2 } })) ∧
  (∀ h e b, Does (.pairHello h b) (fun d => takesClear h 1 e d ∧ e.helloFails b = none ∧ e.peer.partner ≠ some b.serial.toNat)
    (fun _ => ((Dev.wr { e with peer := { e.peer with hello := some b, hisUpdate := b.update, step := 2 } } PEER_STAT_NEW_SERIAL 1).pairFail 0))) ∧
  (∀ h e dc kc, Does (.pairCert h dc kc) (fun d => takesClear h 3 e d ∧ Config.certsValid dc kc = false) (fun _ => e.pairFail 3)) ∧
  (∀ h e dc kc, Does (.pairCert h dc kc) (fun d => takesClear h 3 e d ∧ Config.certsValid dc kc = true ∧ e.leafReady = true) (fun _ =>
    let m := (e.random 16).1
    let his := padTo 16 (Config.freeBytes m.draws 16)
    let f : Dev := m.drawn
    let r := Dev.attestReport { f with peer := { m.peer with step := 4, myNonce := (e.random 16).2, hisNonce := his, hisCert := dc, hisKem := kc } } his 7 0
    r.1.linkTell (.attest r.2.1 r.2.2))) ∧
  (∀ h e body sig b, Does (.linkAttest h body sig) (fun d => takesClear h 4 e d ∧ e.peer.hello = some b ∧
      hssOk (Config.certKey e.peer.hisCert) body sig = true ∧ slice body 0x18 16 = e.peer.myNonce ∧ le body 0x10 8 = b.serial.toNat) (fun _ =>
    let r := Config.kemEncaps e.peer.hisKem e.draws
    let f : Dev := e.drawn
    Dev.linkTell { f with peer := { e.peer with step := 5, mySecret := r.2 } } (.kem r.1))) ∧
  (∀ h e body sig, Does (.linkAttest h body sig) (fun d => takesClear h 4 e d ∧
      (hssOk (Config.certKey e.peer.hisCert) body sig = false ∨ slice body 0x18 16 ≠ e.peer.myNonce)) (fun _ => e.pairFail 4)) ∧
  (∀ h e ct, Does (.pairKem h ct) (takesClear h 5 e) (fun _ =>
    let f : Dev := { e with peer := { e.peer with
      step := 6, hisSecret := Config.kemDecaps ct, txKey := { secret := pairKey e (Config.kemDecaps ct) e.side, counter := 0, next := none }
      rxKey := { secret := pairKey e (Config.kemDecaps ct) e.partnerSide, counter := 0, next := none } } }
    let g := f.linkTell (.heartbeat (f.rd PEER_STAT_STATE) f.holdsWord f.peer.hbSeq)
    ((g.ports.filter fun x => decide (x.2.own = .owned) && g.isSet (FLP_STAT_TRAINED x.1)).foldl
      (fun (d : Dev) x => match x.2.results with
        | some r => d.linkTell (.control (.training x.1 (d.rd (FLP_STAT_MODE_NOW x.1)) r))
        | none => d) g).sendMetaKeys)) ∧
  (∀ lanes, Does (.jarelLinkUp lanes) (fun d => d.solo = false ∧ d.fenced = false ∧ (lanesUp d lanes).isSet PEER_LINK_UP = true ∧
      (lanesUp d lanes).boot.phase = .running ∧ (lanesUp d lanes).rd PEER_STAT_STATE ≠ 4 ∧ (lanesUp d lanes).peer.sole = false)
    (fun d => (lanesUp d lanes).startPairing)) ∧
  (∀ lanes, Does (.jarelLinkUp lanes) (fun d => d.solo = false ∧ d.fenced = false ∧ (lanesUp d lanes).isSet PEER_LINK_UP = false)
    (fun d => lanesUp d lanes)) ∧
  (∀ lanes, Idle (.jarelLinkUp lanes) fun d => d.solo = true ∨ d.fenced = true) ∧
  (∀ h f e, Does (.bootFetch h f) (fun d => d.solo = false ∧ d.fenced = false ∧ d.isSet PEER_LINK_UP = true ∧ d.inOrder h = some e ∧ e.boot.phase = .fetch)
    (fun _ => e.fetchFrame f)) ∧
  (∀ h f e, Does (.bootFetch h f) (fun d => d.solo = false ∧ d.fenced = false ∧ d.isSet PEER_LINK_UP = true ∧ d.inOrder h = some e ∧ e.boot.phase = .running)
    (fun _ => e.fetchAnswer f)) ∧
  ∀ h f, Idle (.bootFetch h f) fun d => d.solo = true ∨ d.fenced = true ∨ d.isSet PEER_LINK_UP = false ∨ d.inOrder h = none

/-- Life and death of the partner (R624, R639, R640, R648): a lane that fails is replaced, the pair isolated where the link is gone and the partner lives; a
heartbeat toggles PEERALIVE_OUT and, paired, sends its frame; a change of PEERALIVE_IN restarts its window; a dead partner of a linked pair is seized from, as
is one of an isolated pair, and one that never paired leaves the part isolated and accepting, a dump that it found discarded (R339); isolated mode is entered after 80 µs without a frame. -/
def Obligations.PartnerCommands : Prop :=
  (∀ l, l < 17 → Does (.laneFail l) (fun d => d.solo = false ∧ d.isSet PEER_LINK_UP = true ∧ bit (d.rd PEER_LINK_LANES) l = true ∧
      ¬((d.setLanes (l :: d.peer.lanesBad)).linked = true ∧ (d.setLanes (l :: d.peer.lanesBad)).isSet PEER_LINK_UP = false ∧
        (d.setLanes (l :: d.peer.lanesBad)).hisAlive = true)) (fun d => d.setLanes (l :: d.peer.lanesBad))) ∧
  (∀ l, l < 17 → Does (.laneFail l) (fun d => d.solo = false ∧ d.isSet PEER_LINK_UP = true ∧ bit (d.rd PEER_LINK_LANES) l = true ∧
      (d.setLanes (l :: d.peer.lanesBad)).linked = true ∧ (d.setLanes (l :: d.peer.lanesBad)).isSet PEER_LINK_UP = false ∧
        (d.setLanes (l :: d.peer.lanesBad)).hisAlive = true) (fun d => (d.setLanes (l :: d.peer.lanesBad)).isolate)) ∧
  (∀ l, Idle (.laneFail l) fun d => d.solo = true ∨ d.isSet PEER_LINK_UP = false ∨ bit (d.rd PEER_LINK_LANES) l = false) ∧
  Does .heartbeatSend (fun d => d.fenced = false ∧ d.boot.phase = .running ∧ d.thermal.tripped = none ∧ 3 ≤ (toggled d).rd PWR_STAT_STATE) toggled ∧
  Does .heartbeatSend (fun d => d.fenced = false ∧ d.boot.phase = .running ∧ d.thermal.tripped = none ∧ (toggled d).rd PWR_STAT_STATE < 3 ∧
      (toggled d).solo = false ∧ (toggled d).peer.step = 6) (fun d =>
    let e := toggled d
    let n := (e.peer.hbSeq + 1) % 2 ^ 32
    ((Dev.linkTell { e with peer := { e.peer with hbSeq := n } } (.heartbeat (e.rd PEER_STAT_STATE) e.holdsWord n)).handbackStep.activateStep.settle)) ∧
  Idle .heartbeatSend (fun d => d.fenced = true ∨ d.boot.phase ≠ .running ∨ d.thermal.tripped.isSome) ∧
  Does .peeraliveInChange (fun d => d.solo = false) (fun d => { d with peer := { d.peer with aliveIn := !d.peer.aliveIn, aliveAt := d.now } }) ∧
  Idle .peeraliveInChange (fun d => d.solo = true) ∧
  Does .partnerDead (fun d => mayAct d ∧ d.rd PEER_STAT_STATE = 1) (fun d => (d.seize false).settle) ∧
  Does .partnerDead (fun d => mayAct d ∧ d.rd PEER_STAT_STATE = 2) (fun d => (d.seize true).settle) ∧
  Does .partnerDead (fun d => mayAct d ∧ d.rd PEER_STAT_STATE = 0) (fun d => d.isolate.acceptUnpaired) ∧
  Does .partnerDead (fun d => mayAct d ∧ d.rd PEER_STAT_STATE = 4) (fun d =>
    let e : Dev := { d with peer := { d.peer with handback := 5 } }
    (e.homePorts.foldl (fun (d : Dev) n => d.askPort n) e).portsBack) ∧
  Idle .partnerDead (fun d => ¬mayAct d) ∧
  Does .isolatedMode (fun d => d.linked = true ∧ d.fenced = false ∧ d.hisAlive = true ∧ (d.peer.frameAt + usNs 80 ≤ d.now ∨ d.isSet PEER_LINK_UP = false))
    (fun d => d.isolate) ∧
  Idle .isolatedMode fun d => d.linked = false ∨ d.fenced = true ∨ d.hisAlive = false

namespace Sys2Proof.Claims

open Sys2Proof Sys2Proof.Machine

/-! ### Power, heat, boot and reset (chapters 20 and 21) -/

/-- Whether the status frame of the POWER_STATE that asked for an entry has been sent. -/
def entryTold (d : Dev) : Bool :=
  match d.power.cmd with | some id => (match tget d.cmds id with | some c => c.sent | none => true) | none => true

/-- A sample of a quadrant's rail and monitors taken, its pace and the lowest seen brought up to date. -/
def paceSeen (d : Dev) (q : Nat) (mons : List Nat) (mv centiA : Nat) : Dev :=
  let e := ((d.wr (PWR_VOUT_MV q) mv).wr (PWR_VOUT_CENTI_A q) centiA).judgeMonitors q mons
  let again := match tget e.power.reloaded q with | some t => decide (t / 4000 = e.now / 4000) | none => false
  e.wr (PWR_PACE_LOW_LOW q) (if again then e.rd (PWR_PACE_PACE q) else Nat.min (e.rd (PWR_PACE_PACE q)) (e.rd (PWR_PACE_LOW_LOW q)))

/-- A sensor's sample judged, and the write guard of the ports it watches (R290). -/
def sensed (d : Dev) (k : Nat) (raw : Int) (open_ : Bool) : Dev := (d.judgeSensor k raw (d.badSample k raw open_)).guardSensor k

/-- The remote sensors that the thermal watch reads. -/
def watchRemote (d : Dev) : List Nat := ((upTo 8).map (24 + ·)).filter fun k => !d.sensorFailed k && decide (d.rd (THM_THR_ENABLE k) ≠ 0)

/-- The sensor that the thermal watch finds at TRIP, of the remote ones r and of channels 0 to 5. -/
def watchTrips (r : List Nat) (d : Dev) : Option Nat :=
  (r ++ upTo 6).find? fun k => !d.sensorFailed k && decide (d.rd (THM_THR_ENABLE k) ≠ 0) && decide (d.threshold (THM_THR_TRIP k) ≤ d.sensor k)

/-- The part as the thermal watch leaves the highest reading it has recorded while powered off. -/
def watched (d : Dev) : Dev := if d.rd PWR_STAT_STATE = 4 then { d with boot := { d.boot with offTop := d.watchTop (watchRemote d) } } else d

/-- A recovery boot that has taken a DATA message: the sender kept, its bytes appended where they fit. -/
def recoveryTakes (d : Dev) (r : Recovery) (mac : Nat) (offset total : Nat) (data : Bytes) : Recovery :=
  let r := { r with mac := some mac, at_ := d.now, total := total }
  if decide (offset = r.bytes.length) && decide (1 ≤ data.length) && decide (data.length ≤ 8192) && decide (r.bytes.length + data.length ≤ r.total)
  then { r with bytes := r.bytes ++ data } else r

/-- A recovery boot that starts over. -/
def recoveryAgain (d : Dev) (r : Recovery) : Dev :=
  { d with boot := { d.boot with recovery := some { r with mac := none, bytes := [], at_ := d.now } } }

/-- The code a recovered image gets: its signatures, then its security version. -/
def recoveryCode (d : Dev) (x : Image) : Code :=
  if !d.imageSound x then .signatureInvalid else if imageSvn x < d.boot.fuses then .rollback else .success

/-- The image of a recovery boot, where all of it has come. -/
def recovered (r : Recovery) : Option Image := if r.bytes.length = r.total then imageOf r.bytes else none

end Sys2Proof.Claims

/-- Power and heat (R735, R737, R738, R743, R745, R748, R750–R752): a wake event wakes the part from the states it wakes; AUTO_POISE enters Poised after its
idle time; an entry takes one step when its conditions hold and ends at its target, the step to Stowed waiting for a checkpoint cycle that it starts (R319); a pace sample judges the monitors and lets the governor act in
Active; a regulator fault fences the part; a sensor's sample trips at TRIP and is judged else; stage 2 starts after 2 s at THROTTLE; 2 ms after a trip the
core regulators are turned off; the comparator asserts THERMTRIP_N at once; the thermal watch trips in Stowed and Standby. -/
def Obligations.PowerCommands : Prop :=
  (∀ w, Does (.wake w) (fun d => d.boot.phase = .running ∧ d.rd PWR_STAT_STATE ≠ 0 ∧ wakes (d.rd PWR_STAT_STATE) w = true) (fun d => d.wakeExit)) ∧
  (∀ w, w ≤ 4 → Does (.wake w) (fun d => d.boot.phase = .running ∧ d.rd PWR_STAT_STATE = 0 ∧ d.power.entering.isSome) (fun d => d.wakeExit)) ∧
  (∀ w, Idle (.wake w) fun d => d.boot.phase ≠ .running ∨ d.rd PWR_STAT_STATE ≠ 0 ∧ wakes (d.rd PWR_STAT_STATE) w = false) ∧
  Does .autoPoise (fun d => d.accepting = true ∧ d.isSet PWR_CFG_AUTO_POISE = true ∧ d.rd PWR_STAT_STATE = 0 ∧ d.power.entering = none ∧ d.atRest = true ∧
      d.power.idleSince + usNs (d.rd PWR_CFG_POISE_IDLE) ≤ d.now ∧ (d.streams.any fun e => e.2.isOpen && decide (e.2.cls = 2)) = false)
    (fun d => d.enterStep 1) ∧
  Does .autoPoise (fun d => d.accepting = true ∧ d.isSet PWR_CFG_AUTO_POISE = true ∧ d.rd PWR_STAT_STATE = 0 ∧ d.power.entering = none ∧ d.atRest = false)
    (fun d => { d with power := { d.power with idleSince := d.now } }) ∧
  Idle .autoPoise (fun d => d.isSet PWR_CFG_AUTO_POISE = false) ∧
  (∀ t, Does .entryStep (fun d => d.power.entering = some t ∧ entryTold d = true ∧ d.fenced = false ∧ d.mayEnter (d.rd PWR_STAT_STATE + 1) = true ∧ d.rd PWR_STAT_STATE + 1 < t)
    (fun d => d.enterStep (d.rd PWR_STAT_STATE + 1))) ∧
  (∀ t, Does .entryStep (fun d => d.power.entering = some t ∧ entryTold d = true ∧ d.fenced = false ∧ d.mayEnter (d.rd PWR_STAT_STATE + 1) = true ∧ t ≤ d.rd PWR_STAT_STATE + 1)
    (fun d =>
      let e := d.enterStep (d.rd PWR_STAT_STATE + 1)
      { (e.wr PWR_STAT_MOVING 0) with power := { e.power with entering := none, cmd := none } })) ∧
  (∀ t, Does .entryStep (fun d => d.power.entering = some t ∧ entryTold d = true ∧ d.fenced = false ∧ d.mayEnter (d.rd PWR_STAT_STATE + 1) = false ∧ d.rd PWR_STAT_STATE = 2)
    (fun d => d.stowCheckpoint.settle)) ∧
  Idle .entryStep (fun d => d.power.entering = none ∨ entryTold d = false ∨ d.fenced = true ∨
    d.mayEnter (d.rd PWR_STAT_STATE + 1) = false ∧ d.rd PWR_STAT_STATE ≠ 2) ∧
  (∀ q mons mv ca, q < 4 → Does (.paceSample q mons mv ca) (fun d => d.boot.phase = .running ∧ d.rd PWR_STAT_STATE < 2 ∧
      (paceSeen d q mons mv ca).rd PWR_STAT_STATE = 0) (fun d => ((paceSeen d q mons mv ca).govern q).notePace.admRegs.reRisk)) ∧
  (∀ q mons mv ca, q < 4 → Does (.paceSample q mons mv ca) (fun d => d.boot.phase = .running ∧ d.rd PWR_STAT_STATE < 2 ∧
      (paceSeen d q mons mv ca).rd PWR_STAT_STATE ≠ 0) (fun d => (paceSeen d q mons mv ca).notePace.admRegs.reRisk)) ∧
  (∀ k silent, k < 8 → (silent = true → k < 4) → Does (.regulatorFault k silent) (fun d => d.boot.phase = .running)
    (fun d => d.drawn.fence 0x0902 0 k [Config.freeNat d.draws % 65536])) ∧
  (∀ k raw op, k < 32 → Does (.sensorSample k raw op) (fun d => d.boot.phase ≠ .reset ∧ d.boot.phase ≠ .test ∧ (sensed d k raw op).sensorFailed k = false ∧
      (sensed d k raw op).rd (THM_THR_ENABLE k) ≠ 0 ∧ (sensed d k raw op).threshold (THM_THR_TRIP k) ≤ raw ∧ (sensed d k raw op).rd PWR_STAT_STATE < 3)
    (fun d => ((sensed d k raw op).judgeHeat k raw).trip k 0)) ∧
  (∀ k raw op, k < 32 → Does (.sensorSample k raw op) (fun d => d.boot.phase ≠ .reset ∧ d.boot.phase ≠ .test ∧ (sensed d k raw op).sensorFailed k = false ∧
      (sensed d k raw op).rd (THM_THR_ENABLE k) ≠ 0 ∧ raw < (sensed d k raw op).threshold (THM_THR_TRIP k))
    (fun d => ((sensed d k raw op).judgeHeat k raw).releaseHold)) ∧
  (∀ e, Does .throttleStage2 (fun d => d.rd PWR_STAT_THROTTLE = 1 ∧
      (d.thermal.atThrottle.find? fun e => decide (e.2.1 + sNs 2 ≤ d.now) && decide (e.2.2 < d.sensor e.1)) = some e) (fun d => d.setThrottle e.1 2)) ∧
  Idle .throttleStage2 (fun d => d.rd PWR_STAT_THROTTLE ≠ 1) ∧
  (∀ t, Does .tripPowerOff (fun d => d.thermal.tripped = some t ∧ t + msNs 2 ≤ d.now)
    (fun d => (upTo 4).foldl (fun (d : Dev) q => d.emit (.pmbus (d.rd (PWR_RAIL_ADDR q)) pmOperation 0)) d)) ∧
  (∀ t, Idle .tripPowerOff fun d => d.thermal.tripped = some t ∧ d.now < t + msNs 2) ∧
  (∀ k, k < 24 → Does (.thermtripComparator k) (fun d => d.rd (THM_THR_ENABLE k) ≠ 0) (fun d => d.assertTrip.trip k 1)) ∧
  (∀ k, Does .thermalWatch (fun d => 3 ≤ d.rd PWR_STAT_STATE ∧ d.thermal.tripped = none ∧ watchTrips (watchRemote d) (watched d) = some k) (fun d =>
    let e := ((watched d).recordTrip k 2).assertTrip
    { e with thermal := { e.thermal with tripped := some e.now } })) ∧
  Idle .thermalWatch (fun d => d.rd PWR_STAT_STATE < 3 ∨ d.thermal.tripped.isSome)

/-- Boot, recovery, reset and power loss (R337, R762–R766, R776, R806, R808, R809): the boot runs from the reset phase only; a fetch unanswered for 1 s
leads to recovery, which tells itself, takes bytes in order from one sender, checks and installs the image that they make, and starts over after 10 s of
silence; PWRFAIL_N falling dumps what must last, its rise restarts a part that has dumped; RESET_N resets; a supply that drops loses what is not kept; the
watchdog restarts after 30 s; life is estimated from what remains. -/
def Obligations.BootCommands : Prop :=
  (∀ b, Does (.boot b) (fun d => d.boot.phase = .reset) (fun d => d.bootWith b)) ∧ (∀ b, Idle (.boot b) fun d => d.boot.phase ≠ .reset) ∧
  (∀ a b c t, Does .bootFetchTimeout (fun d => d.boot.phase = .fetch ∧ d.boot.fetch = some (a, b, c, t) ∧ t + sNs 1 ≤ d.now) (fun d => d.enterRecovery 1)) ∧
  (∀ a b c t, Idle .bootFetchTimeout fun d => d.boot.phase = .fetch ∧ d.boot.fetch = some (a, b, c, t) ∧ d.now < t + sNs 1) ∧
  (∀ r, Does .recoveryHello (fun d => d.recovering = some r) (fun d => d.emit (.recovery 1 r.cause))) ∧ Idle .recoveryHello (fun d => d.recovering = none) ∧
  (∀ mac (o t : Word32) data r, Does (.recoveryData mac o t data) (fun d => d.recovering = some r ∧ (r.mac = none ∨ r.mac = some mac.toNat)) (fun d =>
    Dev.emit { d with boot := { d.boot with recovery := some (recoveryTakes d r mac.toNat o.toNat t.toNat data) } }
      (.recovery 3 (recoveryTakes d r mac.toNat o.toNat t.toNat data).bytes.length))) ∧
  (∀ mac (o t : Word32) data r m, Idle (.recoveryData mac o t data) fun d => d.recovering = some r ∧ r.mac = some m ∧ m ≠ mac.toNat) ∧
  (∀ mac r, Does (.recoveryDone mac) (fun d => d.recovering = some r ∧ r.mac = some mac.toNat ∧ recovered r = none)
    (fun d => (recoveryAgain d r).emit (.recovery 5 (Code.lengthInvalid.value % 256)))) ∧
  (∀ mac r x, Does (.recoveryDone mac) (fun d => d.recovering = some r ∧ r.mac = some mac.toNat ∧ recovered r = some x ∧ recoveryCode d x ≠ .success)
    (fun d => recoveryAgain (d.emit (.recovery 5 ((recoveryCode d x).value % 256))) r)) ∧
  (∀ mac r x, Does (.recoveryDone mac) (fun d => d.recovering = some r ∧ r.mac = some mac.toNat ∧ recovered r = some x ∧ recoveryCode d x = .success ∧
      r.cause ≠ 1) (fun d =>
    let e := d.emit (.recovery 5 (Code.success.value % 256))
    let f := Dev.writeRecord { e with boot := { e.boot with images := [some x, e.boot.images.getD 1 none] } }
      fun b => { b with active := 0, pending := none, tries := 0 }
    { f with boot := { f.boot with recovery := none } })) ∧
  (∀ mac r x, Does (.recoveryDone mac) (fun d => d.recovering = some r ∧ r.mac = some mac.toNat ∧ recovered r = some x ∧ recoveryCode d x = .success ∧
      r.cause = 1) (fun d =>
    let e := d.emit (.recovery 5 (Code.success.value % 256))
    let f := Dev.writeRecord { e with boot := { e.boot with images := [some x, e.boot.images.getD 1 none] } }
      fun b => { b with active := 0, pending := none, tries := 0 }
    Dev.startFirmware { f with boot := { f.boot with firstSlot := 0 } } 0 x 2)) ∧
  (∀ r, Does .recoveryTimeout (fun d => d.recovering = some r ∧ r.mac.isSome ∧ r.at_ + sNs 10 ≤ d.now) (fun d =>
    { d with boot := { d.boot with recovery := some { r with mac := none, bytes := [], total := 0, at_ := d.now } } })) ∧
  Idle .recoveryTimeout (fun d => d.recovering = none) ∧
  Does .pwrfailNFall (fun d => d.boot.phase ≠ .reset ∧ d.boot.phase ≠ .parked ∧ d.boot.phase ≠ .test) (fun d =>
    (Dev.dump { d with pins := { d.pins with pwrfail := true } }).lastReadings) ∧
  Does .pwrfailNRise (fun d => d.boot.phase = .parked ∧ Dev.dumpOver { d with pins := { d.pins with pwrfail := false } } = true) (fun d =>
    (Dev.emit { d with pins := { d.pins with pwrfail := false } } .restart).resetDumped) ∧
  Does .pwrfailNRise (fun d => d.boot.phase ≠ .parked ∨ Dev.dumpOver { d with pins := { d.pins with pwrfail := false } } = false) (fun d => { d with pins := { d.pins with pwrfail := false } }) ∧
  Does .resetNFall (fun d => d.boot.phase ≠ .reset) (fun d => d.resetClean) ∧ Idle .resetNFall (fun d => d.boot.phase = .reset) ∧
  Does .supplyDrop any (fun d => d.losePower) ∧
  (∀ t, Does .watchdog (fun d => d.boot.watchdog = some t ∧ t + sNs 30 ≤ d.now) (fun d => (d.emit .restart).resetNow false)) ∧
  Idle .watchdog (fun d => d.boot.watchdog = none) ∧
  Does .lifeEstimate any (fun d =>
    let now := d.sparesLeft
    let old := (d.life.used.drop 89).headD (d.life.used.getLastD now)
    let best := argMin (fun (e : Nat × Nat) => e.2) ((upTo 9).filterMap fun k =>
      if old.getD k 0 - now.getD k 0 = 0 then none else some (k, satAt 65535 (now.getD k 0 * 90 / (old.getD k 0 - now.getD k 0))))
    let days := match best with | some e => e.2 | none => 65535
    let kind := match best with | some e => e.1 | none => 15
    let low := decide (days < d.rd TOP_LIFE_CFG_WARN_DAYS)
    let e := ((d.wr TOP_LIFE_DAYS days).wr TOP_LIFE_KIND kind).wr TOP_LIFE_WARN (b2n low)
    let f : Dev := { e with life := { used := (now :: e.life.used).take 91 } }
    if low ∧ d.isSet TOP_LIFE_WARN = false then f.event 0x0904 0 0 0 [days, kind] else f)

namespace Sys2Proof.Claims

open Sys2Proof Sys2Proof.Machine

/-! ### Time (chapter 18) -/

/-- Whether a Sync of the master is one the servo takes: its interval 2^−7 to 1 s. -/
def syncTaken (d : Dev) (p : PtpMsg) : Prop := d.fromMaster p = true ∧ -7 ≤ p.logIvl ∧ p.logIvl ≤ 0

/-- The part as a Sync of the master leaves its timeout. -/
def syncSeen (d : Dev) (p : PtpMsg) : Dev := { d with time := { d.time with syncAt := d.now, syncIvl := ivlNs p.logIvl } }

/-- Whether an Announce is one the part listens to. -/
def announceFits (d : Dev) (p : PtpMsg) : Prop :=
  p.domain = d.rd TIME_CFG_DOMAIN ∧ (d.rd TIME_CFG_PTP_PORT = 31 ∨ d.rd TIME_CFG_PTP_PORT = p.port) ∧ p.port ≤ 16

/-- The part as an Announce of its master leaves it. -/
def heard (d : Dev) (p : PtpMsg) : Dev :=
  Dev.wr { d with time := { d.time with announceAt := d.now, announceIvl := ivlNs p.logIvl } } TIME_STAT_UTC_OFFSET p.utcOffset

/-- The sender of an Announce selected as master. -/
def selected (d : Dev) (p : PtpMsg) : Dev :=
  let e := (heard d p).acquire p.source p.rank p.port
  { e with time := { e.time with syncAt := (heard d p).now, syncIvl := ivlNs 0 } }

/-- PPS_OUT set. -/
def ppsSet (d : Dev) (high : Bool) : Dev :=
  Dev.emit { d with time := { d.time with ppsHigh := high, ppsAt := if high then stampSec d.stamp else d.time.ppsAt } } (.pin 2 high)

/-! ### Memories (chapter 19) -/

/-- The correctable errors of a DRAM row in the last 24 h, with one more now. -/
def recentCes (d : Dev) (key : Nat) : List Nat := d.now :: (((tget d.dram.ces key).getD []).filter fun t => d.now < t + sNs 86400)

/-- A patrol step, and one that corrects a word of a row. -/
def patrolled (d : Dev) : Dev := { d with dram := { d.dram with patrol := d.dram.patrol + 1 } }
def corrected (d : Dev) (ch key : Nat) : Dev :=
  Dev.bump { patrolled d with dram := { (patrolled d).dram with ces := tput d.dram.ces key (recentCes d key) } } (DRC_CH_CE ch)

/-- Whether a channel's retraining is due: its interval is over, or its temperature has moved by more than TEMP_DELTA. -/
def retrainDue (d : Dev) (ch : Nat) (temp : Int) : Prop :=
  (tget d.dram.trainedAt ch).getD (ch * msNs (d.rd DRC_TRAIN_INTERVAL) / 8) + msNs (d.rd DRC_TRAIN_INTERVAL) ≤ d.now ∨
    ∃ t, tget d.dram.trainedTemp ch = some t ∧ (d.rd DRC_TRAIN_TEMP_DELTA : Int) < (temp - t).natAbs

/-- The scrub that waits next starts, or scrubbing is over. -/
def nextScrub (d : Dev) : Dev :=
  match d.tmem.scrubs with
  | [] => (d.setTmem { d.tmem with scrub := none }).wr TMEM_SCRUB_CTL_BUSY 0
  | y :: r => d.setTmem { d.tmem with scrub := some y, scrubs := r }

/-! ### Stencil array (chapter 14) -/

/-- Whether entry i of the array, x, is one that a search of a region for key k finds. -/
def found (s : Stencil) (region : Nat → Bool) (k : BitVec 256) (i : Nat) (x : SEntry) : Prop :=
  (i, x) ∈ s.entries ∧ region (i / 4096) = true ∧ (s.bank (i / 4096)).next = none ∧ x.hits k = true

/-- Whether (n, i) comes after (m, j) in STEP order: mask length descending, then index ascending. -/
def later (m j n i : Nat) : Prop := n < m ∨ n = m ∧ j < i

end Sys2Proof.Claims

/-- PTP and the timebase (R697, R698, R700, R703, R705, R793): the increment is set each 1 ms; a residual is learned after 60 s at one temperature; a master
that is silent is lost, and holdover expires; a Sync drives the servo, at once or with its Follow_Up; an Announce of a better master selects it; delay
answers set the delay; a Pdelay_Req is answered; PPS_OUT rises at the wrap of the nanoseconds and falls 100 ms later. -/
def Obligations.TimeCommands : Prop :=
  Does .timebaseUpdate (fun d => d.tcTemp = d.time.lockedTemp) (fun d => { d with time := { d.time with incr := d.increment } }) ∧
  Does .timebaseUpdate (fun d => d.tcTemp ≠ d.time.lockedTemp) (fun d =>
    { d with time := { d.time with incr := d.increment, lockedTemp := d.tcTemp, lockedSince := d.now } }) ∧
  Does .residualLearn (fun d => d.rd TIME_STAT_STATE = 2 ∧ d.tcTemp = d.time.lockedTemp ∧ d.time.lockedSince + sNs 60 ≤ d.now) (fun d =>
    { d with time := { d.time with residual := tput d.time.residual (curveInterval d.curve d.tcTemp) d.time.servo, lockedSince := d.now } }) ∧
  Idle .residualLearn (fun d => d.rd TIME_STAT_STATE ≠ 2 ∨ d.tcTemp ≠ d.time.lockedTemp ∨ d.now < d.time.lockedSince + sNs 60) ∧
  Does .syncTimeout (fun d => d.time.master.isSome ∧ (d.rd TIME_STAT_STATE = 1 ∨ d.rd TIME_STAT_STATE = 2) ∧
    (d.time.syncAt + 4 * d.time.syncIvl ≤ d.now ∨ d.time.announceAt + 3 * d.time.announceIvl ≤ d.now)) (fun d => d.loseMaster) ∧
  Idle .syncTimeout (fun d => d.time.master = none ∨
    d.now < d.time.syncAt + 4 * d.time.syncIvl ∧ d.now < d.time.announceAt + 3 * d.time.announceIvl) ∧
  Does .holdoverExpiry (fun d => d.rd TIME_STAT_STATE = 3 ∧ d.time.holdSince + sNs (3600 * d.rd TIME_CFG_HOLDOVER_MAX) < d.now) (fun d =>
    { d.wr TIME_STAT_STATE 0 with time := { d.time with hasTime := false, everLocked := false } }) ∧
  Idle .holdoverExpiry (fun d => d.rd TIME_STAT_STATE ≠ 3) ∧
  (∀ p, Does (.ptpSync p) (fun d => syncTaken d p ∧ p.twoStep = false)
    (fun d => (syncSeen d p).syncDone p.port ((syncSeen d p).rxStamp p.port) (p.origin + p.correction))) ∧
  (∀ p, Does (.ptpSync p) (fun d => syncTaken d p ∧ p.twoStep = true) (fun d =>
    let e := syncSeen d p
    { e with time := { e.time with twoStep := some (p.seq, (e.rxStamp p.port).toNat, p.correction) } })) ∧
  (∀ p, Idle (.ptpSync p) fun d => ¬syncTaken d p) ∧
  (∀ p q rx c, Does (.ptpFollowUp p) (fun d => d.time.twoStep = some (q, rx, c) ∧ d.fromMaster p = true ∧ q = p.seq) (fun d =>
    Dev.syncDone { d with time := { d.time with twoStep := none } } p.port rx (p.origin + p.correction + c))) ∧
  (∀ p, Idle (.ptpFollowUp p) fun d => d.time.twoStep = none ∨ d.fromMaster p = false) ∧
  (∀ p, Does (.ptpAnnounce p) (fun d => announceFits d p ∧ d.time.master = none) (fun d => selected d p)) ∧
  (∀ p m r, Does (.ptpAnnounce p) (fun d => announceFits d p ∧ d.time.master = some (m, r) ∧ m = p.source ∧ p.port = d.rd TIME_STAT_PORT) (fun d =>
    { heard d p with time := { (heard d p).time with master := some (m, p.rank) } })) ∧
  (∀ p m r, Does (.ptpAnnounce p) (fun d => announceFits d p ∧ d.time.master = some (m, r) ∧ m ≠ p.source ∧ p.rank < r) (fun d => selected d p)) ∧
  (∀ p m r, Idle (.ptpAnnounce p) fun d => d.time.master = some (m, r) ∧ m ≠ p.source ∧ r ≤ p.rank) ∧
  (∀ p, Does (.ptpDelayResp p) (fun d => d.isSet TIME_CFG_P2P = false ∧ p.mine = true ∧ d.fromMaster p = true) (fun d =>
    { d with time := { d.time with delay := (d.time.diff + (p.origin - p.correction - d.time.reqAt)) / 2 } })) ∧
  (∀ p, Does (.ptpPdelayResp p) (fun d => d.isSet TIME_CFG_P2P = true ∧ p.mine = true ∧ p.domain = d.rd TIME_CFG_DOMAIN ∧ p.port = d.rd TIME_STAT_PORT)
    (fun d => { d with time := { d.time with delay := (d.rxStamp p.port - d.time.reqAt - p.correction) / 2 } })) ∧
  (∀ p, Idle (.ptpDelayResp p) (fun d => d.isSet TIME_CFG_P2P = true) ∧ Idle (.ptpPdelayResp p) fun d => d.isSet TIME_CFG_P2P = false) ∧
  (∀ p, Does (.ptpPdelayReq p) (fun d => p.domain = d.rd TIME_CFG_DOMAIN) (fun d => d.emit (.ptp p.port 0)) ∧
    Idle (.ptpPdelayReq p) fun d => p.domain ≠ d.rd TIME_CFG_DOMAIN) ∧
  Does .ppsPulse (fun d => d.time.ppsHigh = false ∧ d.time.ppsAt < stampSec d.stamp) (fun d => ppsSet d true) ∧
  Does .ppsPulse (fun d => d.time.ppsHigh = true ∧ (d.time.ppsAt < stampSec d.stamp ∨ 100000000 ≤ stampNs d.stamp)) (fun d => ppsSet d false) ∧
  Idle .ppsPulse (fun d => d.time.ppsHigh = true ∧ stampSec d.stamp ≤ d.time.ppsAt ∧ stampNs d.stamp < 100000000) ∧
  Idle .ppsPulse fun d => d.time.ppsHigh = false ∧ stampSec d.stamp ≤ d.time.ppsAt

/-- Memories and the rest (R586, R662, R678, R681, R712, R716, R719–R721, R726, R728, R732, R788, R792, R795): a DRAM channel is scrubbed, repaired,
retrained and refreshed; a row over its activation limit is held; a tile parity error is counted and handled by what holds it, a stencil entry's by its row (R593); a tile copy ends; a scrub
ends and the next begins; a stencil bank is its new owner's; entropy samples pass or fail; what waited 100 ms for entropy fails; a next tree lets
signatures go on; the TAP answers, and the board controller's address and service are taken. -/
def Obligations.MemoryCommands : Prop :=
  (∀ ch row, ch < 8 → Does (.patrolScrub ch row 1) (fun d => (corrected d ch (ch * 2 ^ 32 + row)).rd DRC_PPR_CE_LIMIT ≤
      (recentCes d (ch * 2 ^ 32 + row)).length) (fun d => (corrected d ch (ch * 2 ^ 32 + row)).repairRow ch row)) ∧
  (∀ ch row, ch < 8 → Does (.patrolScrub ch row 1) (fun d => (recentCes d (ch * 2 ^ 32 + row)).length <
      (corrected d ch (ch * 2 ^ 32 + row)).rd DRC_PPR_CE_LIMIT) (fun d => corrected d ch (ch * 2 ^ 32 + row))) ∧
  (∀ ch row n, n ≠ 1 → Does (.patrolScrub ch row n) any patrolled) ∧
  (∀ ch row owner, ch < 8 → Does (.dramUncorrectable ch row owner) any (fun d => (((d.bump (DRC_CH_UE ch)).dramLost ch owner).repairRow ch row).settle)) ∧
  (∀ ch temp, ch < 8 → Does (.dramRetrain ch temp) (fun d => retrainDue d ch temp) (fun d =>
    Dev.addWrap { d with dram := { d.dram with trainedAt := tput d.dram.trainedAt ch d.now, trainedTemp := tput d.dram.trainedTemp ch temp } }
      (DRC_CH_RETRAINS ch) 1)) ∧
  (∀ ch temp, Idle (.dramRetrain ch temp) fun d => ¬retrainDue d ch temp) ∧
  (∀ ch, ch < 8 → Does (.refresh ch) any (fun d =>
    { d with dram := { d.dram with refreshed := tput d.dram.refreshed ch d.now, held := d.dram.held.filter fun k => k / 2 ^ 32 ≠ ch } })) ∧
  (∀ ch bank row, ch < 8 → Does (.rowActivationLimit ch bank row none) any (fun d =>
    Dev.bump { d with dram := { d.dram with held := (ch * 2 ^ 32 + bank * 2 ^ 20 + row % 2 ^ 20) :: d.dram.held } } DRC_RH_THROTTLES)) ∧
  (∀ ch bank row p, ch < 8 → Does (.rowActivationLimit ch bank row (some p)) any (fun d =>
    (Dev.bump { d with dram := { d.dram with held := (ch * 2 ^ 32 + bank * 2 ^ 20 + row % 2 ^ 20) :: d.dram.held } } DRC_RH_THROTTLES).eventLim
      0x0F00 0 0 p p (sNs 1) [2])) ∧
  (∀ o, o < 0x10000000 → Does (.tileParityError (.tile o)) any (fun d => ((d.bump TMEM_PERR_COUNT).tileError o).countRow o)) ∧
  (∀ e, e < 65536 → Does (.tileParityError (.stencil e)) any (fun d => d.stencilFault e)) ∧
  (∀ e, 65536 ≤ e → Idle (.tileParityError (.stencil e)) any) ∧
  (∀ c, c < 136 → Does (.tileParityError (.core c)) (fun d => (d.core c).active = true ∧ (d.core c).running = none) (fun d => d.failCore c)) ∧
  (∀ c t, c < 136 → Does (.tileParityError (.core c)) (fun d => (d.core c).active = true ∧ (d.core c).running = some t) (fun d =>
    if ((d.trap t 0xB 0 0 0).core c).active then (d.trap t 0xB 0 0 0).failCore c else d.trap t 0xB 0 0 0)) ∧
  (∀ t, Does (.tileCopyDone t) (fun d => d.tmem.copying.contains t = true) (fun d => d.setTmem { d.tmem with
    copying := d.tmem.copying.filter (· ≠ t), rowsUsed := tdel d.tmem.rowsUsed t
    rowErrs := d.tmem.rowErrs.filter fun e => decide (tileOf (e.1 * 128) ≠ t) })) ∧
  (∀ t, Idle (.tileCopyDone t) fun d => d.tmem.copying.contains t = false) ∧
  (∀ x, Does .scrubDone (fun d => d.tmem.scrub = some x ∧ x.cmd = none) (fun d =>
    let es := d.tmem.errors x.first x.bytes
    let e := (((d.wr TMEM_SCRUB_WORDS_VALUE (x.bytes / 8)).wr TMEM_SCRUB_ERRS_VALUE es.length).wr TMEM_SCRUB_FIRSTERR_VALUE
      (es.head?.getD 0xFFFFFFFF)).wr TMEM_SCRUB_LASTERR_VALUE (es.getLast?.getD 0xFFFFFFFF)
    nextScrub (es.foldl (fun d o => d.countRow o) e))) ∧
  (∀ x id, Does .scrubDone (fun d => d.tmem.scrub = some x ∧ x.cmd = some id ∧
      (d.cmds.any fun e => decide (e.1 = id) && decide (e.2.stage ≠ Stage.done)) = true) (fun d =>
    let es := d.tmem.errors x.first x.bytes
    nextScrub (es.foldl (fun d o => d.countRow o) (d.sendResult id (scrubSummary x.bytes es) 0)))) ∧
  Idle .scrubDone (fun d => d.tmem.scrub = none) ∧
  (∀ b k t, b < 16 → Does (.stencilBankCleared b) (fun d => (d.stencil.bank b).next = some (k, t))
    (fun d => d.setBank b { kind := k, tenant := t, next := none })) ∧
  (∀ b, Idle (.stencilBankCleared b) fun d => (d.stencil.bank b).next = none) ∧
  (∀ v, Does (.entropySample v) (fun d => d.isSet SEC_STAT_ES_FAILED = false ∧ (d.sec.entropy.take v.toNat).2 = true ∧
      ((d.sec.entropy.take v.toNat).1.startLeft ≠ 0 ∨ d.isSet SEC_STAT_ES_READY = true))
    (fun d => { d with sec := { d.sec with entropy := (d.sec.entropy.take v.toNat).1 } })) ∧
  (∀ v, Does (.entropySample v) (fun d => d.isSet SEC_STAT_ES_FAILED = false ∧ (d.sec.entropy.take v.toNat).2 = false ∧
      (d.sec.entropy.failed d.now).failures.length < 3)
    (fun d => Dev.wr { d with sec := { d.sec with entropy := d.sec.entropy.failed d.now } } SEC_STAT_ES_READY 0)) ∧
  (∀ v, Does (.entropySample v) (fun d => d.isSet SEC_STAT_ES_FAILED = false ∧ (d.sec.entropy.take v.toNat).2 = false ∧
      3 ≤ (d.sec.entropy.failed d.now).failures.length) (fun d =>
    ((Dev.wr { d with sec := { d.sec with entropy := d.sec.entropy.failed d.now } } SEC_STAT_ES_READY 0).wr SEC_STAT_ES_FAILED 1).event 0x0701 2 0 0 [0])) ∧
  (∀ v, Idle (.entropySample v) fun d => d.isSet SEC_STAT_ES_FAILED = true) ∧
  (∀ cmd c, Does (.entropyWaitTimeout cmd) (fun d => tget d.cmds cmd = some c ∧ c.hold = .entropy ∧ d.entropyOk = false ∧ c.num 23 + msNs 100 ≤ d.now)
    (fun d => (d.endCmd cmd .entropyFailed 0 0).settle)) ∧
  (∀ cmd c, Idle (.entropyWaitTimeout cmd) fun d => tget d.cmds cmd = some c ∧ (c.hold ≠ .entropy ∨ d.entropyOk = true ∨ d.now < c.num 23 + msNs 100)) ∧
  Does .nextTreeDone (fun d => d.sec.leaf < 2 ^ 40 ∧ 2 ^ 19 ≤ d.treeSpent ∧ d.isSet SEC_STAT_NEXT_TREE = false)
    (fun d => (d.wr SEC_STAT_NEXT_TREE 1).rerun .nextTree) ∧
  Idle .nextTreeDone (fun d => d.treeSpent < 2 ^ 19 ∨ d.isSet SEC_STAT_NEXT_TREE = true) ∧
  (∀ ir, Does (.jtagAccess ir) (fun d => d.jtagRun ir = 0) (fun d => Dev.emit { d with pins := { d.pins with ir := 0 } } (.jtag 0))) ∧
  (∀ ir, Does (.jtagAccess ir) (fun d => d.jtagRun ir ≠ 0) (fun d =>
    (Dev.drawn { d with pins := { d.pins with ir := d.jtagRun ir } }).emit (.jtag (Config.freeNat d.draws)))) ∧
  (∀ a, Does (.i3cEntdaa a) any (fun d => { d with pins := { d.pins with i3c := some a } })) ∧
  Does .i3cIbiServiced any fun d => { d with evt := { d.evt with ibi := none } }

/-- R577, R578: of the entries that a search finds, the winner has the greatest mask length and, among those, the lowest index; a search that finds
none has no winner; a STEP from a winner gives the first of what comes after it in that order, under the array as it is; and LOOKUP sets MULTI where
more than one entry matches. That a search or STEP that finds nothing sets END is DEDUCED from STN_LOOK_RES and the worked example. -/
def Obligations.SearchOrder : Prop :=
  (∀ (s : Stencil) (region : Nat → Bool) (k : BitVec 256) (n i : Nat) (r : BitVec 64), winner (s.matches region k) = some (n, i, r) →
    (∃ x, found s region k i x ∧ n = x.len ∧ r = x.result) ∧
      ∀ j y, found s region k j y → y.len < n ∨ y.len = n ∧ i ≤ j) ∧
  (∀ (s : Stencil) (region : Nat → Bool) (k : BitVec 256), winner (s.matches region k) = none ↔ ∀ j y, ¬found s region k j y) ∧
  (∀ (d : Dev) (m c n i : Nat) (r : BitVec 64), winner (d.lookMatches.filter fun x => after x.1 x.2.1 m c) = some (n, i, r) →
    later m c n i ∧ (n, i, r) ∈ d.lookMatches ∧ ∀ x ∈ d.lookMatches, later m c x.1 x.2.1 → x.1 < n ∨ x.1 = n ∧ i ≤ x.2.1) ∧
  (∀ (d : Dev) (n i : Nat) (r : BitVec 64), d.regs.wf = true → winner d.lookMatches = some (n, i, r) → n ≤ 256 → i < 65536 →
    d.lookup.stencil.cursor = some (n, i) ∧ d.lookup.isSet STN_LOOK_RES_HIT = true ∧ d.lookup.rd STN_LOOK_RES_INDEX = i % 4096 ∧
      d.lookup.rd STN_LOOK_RES_BANK = i / 4096 ∧ d.lookup.rd STN_LOOK_RES_MASKLEN = n ∧
      (d.lookup.isSet STN_LOOK_RES_MULTI = true ↔ 1 < d.lookMatches.length) ∧ d.lookup.isSet STN_LOOK_RES_END = false) ∧
  (∀ (d : Dev) (m c n i : Nat) (r : BitVec 64), d.regs.wf = true → d.stencil.cursor = some (m, c) → n ≤ 256 → i < 65536 →
    winner (d.lookMatches.filter fun x => after x.1 x.2.1 m c) = some (n, i, r) →
    d.lookStep.stencil.cursor = some (n, i) ∧ d.lookStep.isSet STN_LOOK_RES_HIT = true ∧ d.lookStep.rd STN_LOOK_RES_INDEX = i % 4096 ∧
      d.lookStep.rd STN_LOOK_RES_BANK = i / 4096 ∧ d.lookStep.rd STN_LOOK_RES_MASKLEN = n ∧ d.lookStep.isSet STN_LOOK_RES_END = false) ∧
  ∀ (d : Dev), d.regs.wf = true → winner d.lookMatches = none →
    d.lookup.stencil.cursor = none ∧ d.lookup.isSet STN_LOOK_RES_HIT = false ∧ d.lookup.isSet STN_LOOK_RES_END = true

/-- Tile memory (R724–R726, the model's canonical form, log entry of memory): bytes written read back, every byte outside them reads as before, the written
words' parity is good and the other words' as it was; the form is kept, and byte 0 is what an unlisted byte reads as. -/
def Obligations.TileMemoryLaws : Prop :=
  ∀ (m : Tmem) (o : Nat) (b : Bytes), m.wf = true →
    (m.write o b).wf = true ∧ (m.write o b).read o b.length = b ∧
      (∀ a, a < o ∨ o + b.length ≤ a → (m.write o b).byte a = m.byte a) ∧
      (∀ w, o / 8 ≤ w → w < ceilDiv (o + b.length) 8 → (m.write o b).badBits w = 0) ∧
      (∀ w, w < o / 8 ∨ ceilDiv (o + b.length) 8 ≤ w → (m.write o b).badBits w = m.badBits w) ∧
      ∀ v w, (m.setBad w v).wf = true ∧ (m.setBad w v).badBits w = v % 256 ∧ ∀ a, (m.setBad w v).byte a = m.byte a

/-- What reset leaves, where the spec gives it: no command waiting or under way, no volume and no open stream; banks 0, 1, 4, 8 and 12 CLASS and the first four of
the hot order HOT (Table 14-2); and the fields named here as their register tables give them. The state at reset keeps the invariants of queue, register file and
tile memory. -/
def Obligations.ResetLeaves : Prop :=
  QueueWf State.reset ∧ State.reset.pending = [] ∧ State.reset.dev.cmds = [] ∧ State.reset.dev.vols = [] ∧ State.reset.dev.streams = [] ∧
    State.reset.dev.regs.wf = true ∧ State.reset.dev.tmem.wf = true ∧
    (∀ b < 16, (State.reset.dev.stencil.bank b).kind =
      if b = 0 ∨ b = 1 ∨ b = 4 ∨ b = 8 ∨ b = 12 then 1 else if b = 3 ∨ b = 7 ∨ b = 11 ∨ b = 15 then 2 else 0) ∧
    rawWord State.reset.dev.regs 0x000000 = 0x51017180 ∧ State.reset.dev.rd MAP_DEDUP_CFG_HOT_BANKS = 4 ∧
    State.reset.dev.rd ARR_CFG_FILL_WAIT = 20 ∧ State.reset.dev.rd ARR_CFG_AUTO = 1 ∧ State.reset.dev.rd SCH_CFG_SELFTEST = 100 ∧
    State.reset.dev.rd STRM_ADM_CFG_VSHARE = 90 ∧ State.reset.dev.rd TEN_SPOOF_CFG_INTERVAL = 1000 ∧ State.reset.dev.rd PWR_STAT_STATE = 0 ∧
    State.reset.dev.rd PEER_STAT_STATE = 0 ∧ State.reset.dev.rd TIME_CFG_HOLDOVER_MAX = 24 ∧ State.reset.dev.rd CIP_CFG_FAIR = 16 ∧
    State.reset.dev.rd DRC_TRAIN_INTERVAL = 100 ∧
    (∀ g < 4, State.reset.dev.rd (ETH_PFC_XOFF g) = 64 ∧ State.reset.dev.rd (ETH_PFC_XON g) = 32 ∧ State.reset.dev.rd (ETH_GCFG_ACK_TMO g) = 14 ∧
      State.reset.dev.rd (TMEM_SPARE_TILES g) = 2) ∧
    (∀ p < 5, State.reset.dev.rd (BPM_WM_AMBER p) = 75 ∧ State.reset.dev.rd (BPM_WM_CRIMSON p) = 90) ∧
    ∀ k < 32, State.reset.dev.rd (THM_THR_WARN k) = (if k < 24 then 100 else 70) ∧ State.reset.dev.rd (THM_THR_TRIP k) = if k < 24 then 118 else 85
end

