-- ==== Sys2Proof/Laws/Exec.lean ====
section
/-! SUPPORT. Each arm of exec as an equation, so that no proof unfolds the whole dispatch; and what every meaning is: a change of the part
that leaves the queue alone. -/

namespace Sys2Proof.Machine

/-- What onDev answers. -/
@[simp] theorem onDev_next (f : Dev → Dev) (s : State) : onDev f s = .next { s with dev := f s.dev } := rfl

theorem exec_untrustedFrame (n : Net) (raw : Bytes) (s : State) : exec (.untrustedFrame n raw) s = execUntrustedFrame n raw s := rfl
theorem exec_tombstoneFrame (m : Msg) (op : BitVec 16) (s : State) : exec (.tombstoneFrame m op) s = execTombstoneFrame m op s := rfl
theorem exec_receiverNotReady (m : Msg) (op : BitVec 16) (s : State) : exec (.receiverNotReady m op) s = execReceiverNotReady m op s := rfl
theorem exec_unclassified (m : Msg) (op : BitVec 16) (s : State) : exec (.unclassified m op) s = execUnclassified m op s := rfl
theorem exec_spoofDrop (m : Msg) (op : BitVec 16) (s : State) : exec (.spoofDrop m op) s = execSpoofDrop m op s := rfl
theorem exec_opcodeInvalid (m : Msg) (op : BitVec 16) (s : State) : exec (.opcodeInvalid m op) s = execOpcodeInvalid m op s := rfl
theorem exec_nop (m : Msg) (s : State) : exec (.nop m) s = execNop m s := rfl
theorem exec_read (m : Msg) (s : State) : exec (.read m) s = execRead m s := rfl
theorem exec_write (m : Msg) (s : State) : exec (.write m) s = execWrite m s := rfl
theorem exec_writeZeroes (m : Msg) (s : State) : exec (.writeZeroes m) s = execWriteZeroes m s := rfl
theorem exec_discard (m : Msg) (s : State) : exec (.discard m) s = execDiscard m s := rfl
theorem exec_strip (m : Msg) (s : State) : exec (.strip m) s = execStrip m s := rfl
theorem exec_flush (m : Msg) (s : State) : exec (.flush m) s = execFlush m s := rfl
theorem exec_abort (m : Msg) (s : State) : exec (.abort m) s = execAbort m s := rfl
theorem exec_getDeferred (m : Msg) (s : State) : exec (.getDeferred m) s = execGetDeferred m s := rfl
theorem exec_volCreate (m : Msg) (s : State) : exec (.volCreate m) s = execVolCreate m s := rfl
theorem exec_volDelete (m : Msg) (s : State) : exec (.volDelete m) s = execVolDelete m s := rfl
theorem exec_volResize (m : Msg) (s : State) : exec (.volResize m) s = execVolResize m s := rfl
theorem exec_volQuery (m : Msg) (s : State) : exec (.volQuery m) s = execVolQuery m s := rfl
theorem exec_snapCreate (m : Msg) (s : State) : exec (.snapCreate m) s = execSnapCreate m s := rfl
theorem exec_snapDelete (m : Msg) (s : State) : exec (.snapDelete m) s = execSnapDelete m s := rfl
theorem exec_cloneCreate (m : Msg) (s : State) : exec (.cloneCreate m) s = execCloneCreate m s := rfl
theorem exec_replOpen (m : Msg) (s : State) : exec (.replOpen m) s = execReplOpen m s := rfl
theorem exec_replClose (m : Msg) (s : State) : exec (.replClose m) s = execReplClose m s := rfl
theorem exec_replRekey (m : Msg) (s : State) : exec (.replRekey m) s = execReplRekey m s := rfl
theorem exec_streamOpen (m : Msg) (s : State) : exec (.streamOpen m) s = execStreamOpen m s := rfl
theorem exec_streamClose (m : Msg) (s : State) : exec (.streamClose m) s = execStreamClose m s := rfl
theorem exec_streamQuery (m : Msg) (s : State) : exec (.streamQuery m) s = execStreamQuery m s := rfl
theorem exec_queryTime (m : Msg) (s : State) : exec (.queryTime m) s = execQueryTime m s := rfl
theorem exec_loadProgram (m : Msg) (s : State) : exec (.loadProgram m) s = execLoadProgram m s := rfl
theorem exec_unloadProgram (m : Msg) (s : State) : exec (.unloadProgram m) s = execUnloadProgram m s := rfl
theorem exec_bindProgram (m : Msg) (s : State) : exec (.bindProgram m) s = execBindProgram m s := rfl
theorem exec_unbindProgram (m : Msg) (s : State) : exec (.unbindProgram m) s = execUnbindProgram m s := rfl
theorem exec_scan (m : Msg) (s : State) : exec (.scan m) s = execScan m s := rfl
theorem exec_patternLoad (m : Msg) (s : State) : exec (.patternLoad m) s = execPatternLoad m s := rfl
theorem exec_certGet (m : Msg) (s : State) : exec (.certGet m) s = execCertGet m s := rfl
theorem exec_keyInstall (m : Msg) (s : State) : exec (.keyInstall m) s = execKeyInstall m s := rfl
theorem exec_cryptoErase (m : Msg) (s : State) : exec (.cryptoErase m) s = execCryptoErase m s := rfl
theorem exec_attest (m : Msg) (s : State) : exec (.attest m) s = execAttest m s := rfl
theorem exec_keyPolicySet (m : Msg) (s : State) : exec (.keyPolicySet m) s = execKeyPolicySet m s := rfl
theorem exec_ownerEnrol (m : Msg) (s : State) : exec (.ownerEnrol m) s = execOwnerEnrol m s := rfl
theorem exec_debugUnlock (m : Msg) (s : State) : exec (.debugUnlock m) s = execDebugUnlock m s := rfl
theorem exec_winRead (m : Msg) (s : State) : exec (.winRead m) s = execWinRead m s := rfl
theorem exec_winWrite (m : Msg) (s : State) : exec (.winWrite m) s = execWinWrite m s := rfl
theorem exec_tenantCreate (m : Msg) (s : State) : exec (.tenantCreate m) s = execTenantCreate m s := rfl
theorem exec_tenantBind (m : Msg) (s : State) : exec (.tenantBind m) s = execTenantBind m s := rfl
theorem exec_tenantShares (m : Msg) (s : State) : exec (.tenantShares m) s = execTenantShares m s := rfl
theorem exec_queueBind (m : Msg) (s : State) : exec (.queueBind m) s = execQueueBind m s := rfl
theorem exec_queueDelete (m : Msg) (s : State) : exec (.queueDelete m) s = execQueueDelete m s := rfl
theorem exec_enableTenant (m : Msg) (s : State) : exec (.enableTenant m) s = execEnableTenant m s := rfl
theorem exec_quiesceTenant (m : Msg) (s : State) : exec (.quiesceTenant m) s = execQuiesceTenant m s := rfl
theorem exec_resetTenant (m : Msg) (s : State) : exec (.resetTenant m) s = execResetTenant m s := rfl
theorem exec_removeTenant (m : Msg) (s : State) : exec (.removeTenant m) s = execRemoveTenant m s := rfl
theorem exec_migrationLog (m : Msg) (s : State) : exec (.migrationLog m) s = execMigrationLog m s := rfl
theorem exec_regRead (m : Msg) (s : State) : exec (.regRead m) s = execRegRead m s := rfl
theorem exec_regWrite (m : Msg) (s : State) : exec (.regWrite m) s = execRegWrite m s := rfl
theorem exec_fwStage (m : Msg) (s : State) : exec (.fwStage m) s = execFwStage m s := rfl
theorem exec_fwActivate (m : Msg) (s : State) : exec (.fwActivate m) s = execFwActivate m s := rfl
theorem exec_powerState (m : Msg) (s : State) : exec (.powerState m) s = execPowerState m s := rfl
theorem exec_eventRead (m : Msg) (s : State) : exec (.eventRead m) s = execEventRead m s := rfl
theorem exec_thermalAck (m : Msg) (s : State) : exec (.thermalAck m) s = execThermalAck m s := rfl
theorem exec_echo (m : Msg) (s : State) : exec (.echo m) s = execEcho m s := rfl
theorem exec_katRun (m : Msg) (s : State) : exec (.katRun m) s = execKatRun m s := rfl
theorem exec_tmemScrub (m : Msg) (s : State) : exec (.tmemScrub m) s = execTmemScrub m s := rfl
theorem exec_bufferGrant (pool : Nat) (s : State) : exec (.bufferGrant pool) s = execBufferGrant pool s := rfl
theorem exec_bufferRelease (h : Word32) (s : State) : exec (.bufferRelease h) s = execBufferRelease h s := rfl
theorem exec_ledgerAudit (s : State) : exec (.ledgerAudit) s = execLedgerAudit s := rfl
theorem exec_ledgerTest (m : Msg) (v : Word32) (s : State) : exec (.ledgerTest m v) s = execLedgerTest m v s := rfl
theorem exec_rdmaReadResponse (x : Nat) (data : Bytes) (s : State) : exec (.rdmaReadResponse x data) s = execRdmaReadResponse x data s := rfl
theorem exec_rdmaWriteAck (x : Nat) (s : State) : exec (.rdmaWriteAck x) s = execRdmaWriteAck x s := rfl
theorem exec_transferFail (x : Nat) (s : State) : exec (.transferFail x) s = execTransferFail x s := rfl
theorem exec_ackTimeout (qpn : Nat) (s : State) : exec (.ackTimeout qpn) s = execAckTimeout qpn s := rfl
theorem exec_rnrNak (qpn timer : Nat) (s : State) : exec (.rnrNak qpn timer) s = execRnrNak qpn timer s := rfl
theorem exec_rnrRetry (qpn : Nat) (s : State) : exec (.rnrRetry qpn) s = execRnrRetry qpn s := rfl
theorem exec_queuePairFailure (qpn : Nat) (s : State) : exec (.queuePairFailure qpn) s = execQueuePairFailure qpn s := rfl
theorem exec_hazardRelease (cmd : Nat) (s : State) : exec (.hazardRelease cmd) s = execHazardRelease cmd s := rfl
theorem exec_fenceRelease (cmd : Nat) (s : State) : exec (.fenceRelease cmd) s = execFenceRelease cmd s := rfl
theorem exec_volumeBarrierRelease (cmd : Nat) (s : State) : exec (.volumeBarrierRelease cmd) s = execVolumeBarrierRelease cmd s := rfl
theorem exec_shareRelease (cmd : Nat) (s : State) : exec (.shareRelease cmd) s = execShareRelease cmd s := rfl
theorem exec_journalWaitRelease (cmd : Nat) (s : State) : exec (.journalWaitRelease cmd) s = execJournalWaitRelease cmd s := rfl
theorem exec_tailWaitRelease (cmd : Nat) (s : State) : exec (.tailWaitRelease cmd) s = execTailWaitRelease cmd s := rfl
theorem exec_taskCreate (cmd grain : Nat) (ask : TaskAsk) (s : State) : exec (.taskCreate cmd grain ask) s = execTaskCreate cmd grain ask s := rfl
theorem exec_operandToken (task gen slot : Nat) (t : Token) (s : State) : exec (.operandToken task gen slot t) s = execOperandToken task gen slot t s := rfl
theorem exec_readyPendingPlace (s : State) : exec (.readyPendingPlace) s = execReadyPendingPlace s := rfl
theorem exec_coreDispatch (c : Nat) (s : State) : exec (.coreDispatch c) s = execCoreDispatch c s := rfl
theorem exec_ecallReturn (task : Nat) (s : State) : exec (.ecallReturn task) s = execEcallReturn task s := rfl
theorem exec_delayWake (c : Nat) (s : State) : exec (.delayWake c) s = execDelayWake c s := rfl
theorem exec_taskDeadline (task : Nat) (s : State) : exec (.taskDeadline task) s = execTaskDeadline task s := rfl
theorem exec_selftest (c : Nat) (pass : Bool) (s : State) : exec (.selftest c pass) s = execSelftest c pass s := rfl
theorem exec_coreStall (c : Nat) (s : State) : exec (.coreStall c) s = execCoreStall c s := rfl
theorem exec_coreRetire (m : Msg) (v : Word32) (s : State) : exec (.coreRetire m v) s = execCoreRetire m v s := rfl
theorem exec_histClear (m : Msg) (v : Word32) (s : State) : exec (.histClear m v) s = execHistClear m v s := rfl
theorem exec_selftestNow (m : Msg) (v : Word32) (s : State) : exec (.selftestNow m v) s = execSelftestNow m v s := rfl
theorem exec_alu (c : Nat) (g : BitVec 4) (rd ra rb : BitVec 5) (fn : BitVec 7) (s : State) : exec (.alu c g rd ra rb fn) s = execAlu c g rd ra rb fn s := rfl
theorem exec_addi (c : Nat) (g : BitVec 4) (rd ra : BitVec 5) (imm : BitVec 12) (s : State) : exec (.addi c g rd ra imm) s = execAddi c g rd ra imm s := rfl
theorem exec_andi (c : Nat) (g : BitVec 4) (rd ra : BitVec 5) (imm : BitVec 12) (s : State) : exec (.andi c g rd ra imm) s = execAndi c g rd ra imm s := rfl
theorem exec_ori (c : Nat) (g : BitVec 4) (rd ra : BitVec 5) (imm : BitVec 12) (s : State) : exec (.ori c g rd ra imm) s = execOri c g rd ra imm s := rfl
theorem exec_xori (c : Nat) (g : BitVec 4) (rd ra : BitVec 5) (imm : BitVec 12) (s : State) : exec (.xori c g rd ra imm) s = execXori c g rd ra imm s := rfl
theorem exec_shli (c : Nat) (g : BitVec 4) (rd ra : BitVec 5) (imm : BitVec 12) (s : State) : exec (.shli c g rd ra imm) s = execShli c g rd ra imm s := rfl
theorem exec_shri (c : Nat) (g : BitVec 4) (rd ra : BitVec 5) (imm : BitVec 12) (s : State) : exec (.shri c g rd ra imm) s = execShri c g rd ra imm s := rfl
theorem exec_srai (c : Nat) (g : BitVec 4) (rd ra : BitVec 5) (imm : BitVec 12) (s : State) : exec (.srai c g rd ra imm) s = execSrai c g rd ra imm s := rfl
theorem exec_movz (c : Nat) (g : BitVec 4) (rd : BitVec 5) (imm : BitVec 16) (s : State) : exec (.movz c g rd imm) s = execMovz c g rd imm s := rfl
theorem exec_movk1 (c : Nat) (g : BitVec 4) (rd : BitVec 5) (imm : BitVec 16) (s : State) : exec (.movk1 c g rd imm) s = execMovk1 c g rd imm s := rfl
theorem exec_movk2 (c : Nat) (g : BitVec 4) (rd : BitVec 5) (imm : BitVec 16) (s : State) : exec (.movk2 c g rd imm) s = execMovk2 c g rd imm s := rfl
theorem exec_movk3 (c : Nat) (g : BitVec 4) (rd : BitVec 5) (imm : BitVec 16) (s : State) : exec (.movk3 c g rd imm) s = execMovk3 c g rd imm s := rfl
theorem exec_cmp (c : Nat) (g : BitVec 4) (pd : BitVec 3) (cond : BitVec 4) (ra rb : BitVec 5) (s : State) : exec (.cmp c g pd cond ra rb) s = execCmp c g pd cond ra rb s := rfl
theorem exec_cmpi (c : Nat) (g : BitVec 4) (pd : BitVec 3) (cond : BitVec 4) (ra : BitVec 5) (imm : BitVec 10) (s : State) : exec (.cmpi c g pd cond ra imm) s = execCmpi c g pd cond ra imm s := rfl
theorem exec_pset (c : Nat) (g : BitVec 4) (pd pa pb : BitVec 3) (lop : BitVec 2) (ia ib : Bool) (s : State) : exec (.pset c g pd pa pb lop ia ib) s = execPset c g pd pa pb lop ia ib s := rfl
theorem exec_ld8u (c : Nat) (g : BitVec 4) (rd ra : BitVec 5) (seg : BitVec 4) (imm : BitVec 8) (s : State) : exec (.ld8u c g rd ra seg imm) s = execLd8u c g rd ra seg imm s := rfl
theorem exec_ld16u (c : Nat) (g : BitVec 4) (rd ra : BitVec 5) (seg : BitVec 4) (imm : BitVec 8) (s : State) : exec (.ld16u c g rd ra seg imm) s = execLd16u c g rd ra seg imm s := rfl
theorem exec_ld32u (c : Nat) (g : BitVec 4) (rd ra : BitVec 5) (seg : BitVec 4) (imm : BitVec 8) (s : State) : exec (.ld32u c g rd ra seg imm) s = execLd32u c g rd ra seg imm s := rfl
theorem exec_ld64 (c : Nat) (g : BitVec 4) (rd ra : BitVec 5) (seg : BitVec 4) (imm : BitVec 8) (s : State) : exec (.ld64 c g rd ra seg imm) s = execLd64 c g rd ra seg imm s := rfl
theorem exec_ld8s (c : Nat) (g : BitVec 4) (rd ra : BitVec 5) (seg : BitVec 4) (imm : BitVec 8) (s : State) : exec (.ld8s c g rd ra seg imm) s = execLd8s c g rd ra seg imm s := rfl
theorem exec_ld16s (c : Nat) (g : BitVec 4) (rd ra : BitVec 5) (seg : BitVec 4) (imm : BitVec 8) (s : State) : exec (.ld16s c g rd ra seg imm) s = execLd16s c g rd ra seg imm s := rfl
theorem exec_ld32s (c : Nat) (g : BitVec 4) (rd ra : BitVec 5) (seg : BitVec 4) (imm : BitVec 8) (s : State) : exec (.ld32s c g rd ra seg imm) s = execLd32s c g rd ra seg imm s := rfl
theorem exec_st8 (c : Nat) (g : BitVec 4) (rs ra : BitVec 5) (seg : BitVec 4) (imm : BitVec 8) (s : State) : exec (.st8 c g rs ra seg imm) s = execSt8 c g rs ra seg imm s := rfl
theorem exec_st16 (c : Nat) (g : BitVec 4) (rs ra : BitVec 5) (seg : BitVec 4) (imm : BitVec 8) (s : State) : exec (.st16 c g rs ra seg imm) s = execSt16 c g rs ra seg imm s := rfl
theorem exec_st32 (c : Nat) (g : BitVec 4) (rs ra : BitVec 5) (seg : BitVec 4) (imm : BitVec 8) (s : State) : exec (.st32 c g rs ra seg imm) s = execSt32 c g rs ra seg imm s := rfl
theorem exec_st64 (c : Nat) (g : BitVec 4) (rs ra : BitVec 5) (seg : BitVec 4) (imm : BitVec 8) (s : State) : exec (.st64 c g rs ra seg imm) s = execSt64 c g rs ra seg imm s := rfl
theorem exec_amoadd (c : Nat) (g : BitVec 4) (rd ra rb : BitVec 5) (seg : BitVec 4) (s : State) : exec (.amoadd c g rd ra rb seg) s = execAmoadd c g rd ra rb seg s := rfl
theorem exec_amoswap (c : Nat) (g : BitVec 4) (rd ra rb : BitVec 5) (seg : BitVec 4) (s : State) : exec (.amoswap c g rd ra rb seg) s = execAmoswap c g rd ra rb seg s := rfl
theorem exec_amocas (c : Nat) (g : BitVec 4) (rd ra rb : BitVec 5) (seg : BitVec 4) (s : State) : exec (.amocas c g rd ra rb seg) s = execAmocas c g rd ra rb seg s := rfl
theorem exec_tintFence (c : Nat) (g : BitVec 4) (s : State) : exec (.tintFence c g) s = execTintFence c g s := rfl
theorem exec_segn (c : Nat) (g : BitVec 4) (sd ss : BitVec 4) (ra rb : BitVec 5) (rights : BitVec 3) (s : State) : exec (.segn c g sd ss ra rb rights) s = execSegn c g sd ss ra rb rights s := rfl
theorem exec_seglen (c : Nat) (g : BitVec 4) (rd : BitVec 5) (seg : BitVec 4) (s : State) : exec (.seglen c g rd seg) s = execSeglen c g rd seg s := rfl
theorem exec_br (c : Nat) (g : BitVec 4) (imm : BitVec 22) (s : State) : exec (.br c g imm) s = execBr c g imm s := rfl
theorem exec_call (c : Nat) (g : BitVec 4) (imm : BitVec 22) (s : State) : exec (.call c g imm) s = execCall c g imm s := rfl
theorem exec_ret (c : Nat) (g : BitVec 4) (s : State) : exec (.ret c g) s = execRet c g s := rfl
theorem exec_jr (c : Nat) (g : BitVec 4) (ra : BitVec 5) (s : State) : exec (.jr c g ra) s = execJr c g ra s := rfl
theorem exec_callr (c : Nat) (g : BitVec 4) (ra : BitVec 5) (s : State) : exec (.callr c g ra) s = execCallr c g ra s := rfl
theorem exec_rpop (c : Nat) (g : BitVec 4) (rd : BitVec 5) (s : State) : exec (.rpop c g rd) s = execRpop c g rd s := rfl
theorem exec_rpush (c : Nat) (g : BitVec 4) (ra : BitVec 5) (s : State) : exec (.rpush c g ra) s = execRpush c g ra s := rfl
theorem exec_rsd (c : Nat) (g : BitVec 4) (rd : BitVec 5) (s : State) : exec (.rsd c g rd) s = execRsd c g rd s := rfl
theorem exec_ecallSha256 (c : Nat) (g : BitVec 4) (s : State) : exec (.ecallSha256 c g) s = execEcallSha256 c g s := rfl
theorem exec_ecallHmac (c : Nat) (g : BitVec 4) (s : State) : exec (.ecallHmac c g) s = execEcallHmac c g s := rfl
theorem exec_ecallDecomp (c : Nat) (g : BitVec 4) (s : State) : exec (.ecallDecomp c g) s = execEcallDecomp c g s := rfl
theorem exec_ecallStencil (c : Nat) (g : BitVec 4) (s : State) : exec (.ecallStencil c g) s = execEcallStencil c g s := rfl
theorem exec_ecallNow (c : Nat) (g : BitVec 4) (s : State) : exec (.ecallNow c g) s = execEcallNow c g s := rfl
theorem exec_tintEnd (c : Nat) (g : BitVec 4) (s : State) : exec (.tintEnd c g) s = execTintEnd c g s := rfl
theorem exec_tintDelay (c : Nat) (g : BitVec 4) (ra : BitVec 5) (s : State) : exec (.tintDelay c g ra) s = execTintDelay c g ra s := rfl
theorem exec_tintTrap (c : Nat) (g : BitVec 4) (code : BitVec 12) (s : State) : exec (.tintTrap c g code) s = execTintTrap c g code s := rfl
theorem exec_compressionDescriptor (src : JobSrc) (s : State) : exec (.compressionDescriptor src) s = execCompressionDescriptor src s := rfl
theorem exec_compressionResult (e : Nat) (s : State) : exec (.compressionResult e) s = execCompressionResult e s := rfl
theorem exec_cipherDescriptor (src : JobSrc) (s : State) : exec (.cipherDescriptor src) s = execCipherDescriptor src s := rfl
theorem exec_digestDescriptor (src : JobSrc) (s : State) : exec (.digestDescriptor src) s = execDigestDescriptor src s := rfl
theorem exec_contextSave (dig : Bool) (l pos : Nat) (s : State) : exec (.contextSave dig l pos) s = execContextSave dig l pos s := rfl
theorem exec_laneYield (dig : Bool) (l : Nat) (s : State) : exec (.laneYield dig l) s = execLaneYield dig l s := rfl
theorem exec_laneMessageEnd (dig : Bool) (l : Nat) (s : State) : exec (.laneMessageEnd dig l) s = execLaneMessageEnd dig l s := rfl
theorem exec_maskReseed (q : Nat) (s : State) : exec (.maskReseed q) s = execMaskReseed q s := rfl
theorem exec_maskDrbgLimit (q : Nat) (s : State) : exec (.maskDrbgLimit q) s = execMaskDrbgLimit q s := rfl
theorem exec_parityCompute (w : ParityWork) (s : State) : exec (.parityCompute w) s = execParityCompute w s := rfl
theorem exec_rowPadded (g l : Nat) (s : State) : exec (.rowPadded g l) s = execRowPadded g l s := rfl
theorem exec_journalProgramDone (die : Nat) (s : State) : exec (.journalProgramDone die) s = execJournalProgramDone die s := rfl
theorem exec_mirrorAccept (h : LinkHdr) (seq : Word32) (s : State) : exec (.mirrorAccept h seq) s = execMirrorAccept h seq s := rfl
theorem exec_programComplete (g l : Nat) (s : State) : exec (.programComplete g l) s = execProgramComplete g l s := rfl
theorem exec_programFail (g l slot : Nat) (s : State) : exec (.programFail g l slot) s = execProgramFail g l slot s := rfl
theorem exec_eraseComplete (g segment slot : Nat) (ok : Bool) (s : State) : exec (.eraseComplete g segment slot ok) s = execEraseComplete g segment slot ok s := rfl
theorem exec_waitRdyTimeout (die : Nat) (s : State) : exec (.waitRdyTimeout die) s = execWaitRdyTimeout die s := rfl
theorem exec_flashReadDone (read cw : Nat) (cap : Bytes) (s : State) : exec (.flashReadDone read cw cap) s = execFlashReadDone read cw cap s := rfl
theorem exec_ldpcDecode (read cw : Nat) (result : Option Bytes) (s : State) : exec (.ldpcDecode read cw result) s = execLdpcDecode read cw result s := rfl
theorem exec_retraining (n : Nat) (s : State) : exec (.retraining n) s = execRetraining n s := rfl
theorem exec_flpRetrainForce (m : Msg) (v : Word32) (s : State) : exec (.flpRetrainForce m v) s = execFlpRetrainForce m v s := rfl
theorem exec_trainingDone (n : Nat) (pass : Training) (s : State) : exec (.trainingDone n pass) s = execTrainingDone n pass s := rfl
theorem exec_portgntHigh (n : Nat) (ids : List (Option DieId)) (s : State) : exec (.portgntHigh n ids) s = execPortgntHigh n ids s := rfl
theorem exec_grantLost (n : Nat) (s : State) : exec (.grantLost n) s = execGrantLost n s := rfl
theorem exec_askTimeout (n : Nat) (s : State) : exec (.askTimeout n) s = execAskTimeout n s := rfl
theorem exec_leavingDone (n : Nat) (s : State) : exec (.leavingDone n) s = execLeavingDone n s := rfl
theorem exec_vccqSample (n : Nat) (pm : Int) (s : State) : exec (.vccqSample n pm) s = execVccqSample n pm s := rfl
theorem exec_guardRelease (n : Nat) (s : State) : exec (.guardRelease n) s = execGuardRelease n s := rfl
theorem exec_secondCoat (g : Nat) (s : State) : exec (.secondCoat g) s = execSecondCoat g s := rfl
theorem exec_scrape (g : Nat) (s : State) : exec (.scrape g) s = execScrape g s := rfl
theorem exec_segmentErase (g segment : Nat) (s : State) : exec (.segmentErase g segment) s = execSegmentErase g segment s := rfl
theorem exec_wearLevelling (die : Nat) (s : State) : exec (.wearLevelling die) s = execWearLevelling die s := rfl
theorem exec_sandingPass (die block : Nat) (s : State) : exec (.sandingPass die block) s = execSandingPass die block s := rfl
theorem exec_retentionTick (s : State) : exec (.retentionTick) s = execRetentionTick s := rfl
theorem exec_checkpointCycle (s : State) : exec (.checkpointCycle) s = execCheckpointCycle s := rfl
theorem exec_mapFault (table page : Nat) (s : State) : exec (.mapFault table page) s = execMapFault table page s := rfl
theorem exec_pwrfailNFall (s : State) : exec (.pwrfailNFall) s = execPwrfailNFall s := rfl
theorem exec_pwrfailNRise (s : State) : exec (.pwrfailNRise) s = execPwrfailNRise s := rfl
theorem exec_resetNFall (s : State) : exec (.resetNFall) s = execResetNFall s := rfl
theorem exec_boot (b : BootIn) (s : State) : exec (.boot b) s = execBoot b s := rfl
theorem exec_supplyDrop (s : State) : exec (.supplyDrop) s = execSupplyDrop s := rfl
theorem exec_watchdog (s : State) : exec (.watchdog) s = execWatchdog s := rfl
theorem exec_recoveryHello (s : State) : exec (.recoveryHello) s = execRecoveryHello s := rfl
theorem exec_recoveryData (mac : BitVec 48) (offset total : Word32) (data : Bytes) (s : State) : exec (.recoveryData mac offset total data) s = execRecoveryData mac offset total data s := rfl
theorem exec_recoveryDone (mac : BitVec 48) (s : State) : exec (.recoveryDone mac) s = execRecoveryDone mac s := rfl
theorem exec_recoveryTimeout (s : State) : exec (.recoveryTimeout) s = execRecoveryTimeout s := rfl
theorem exec_fwConfirm (m : Msg) (v : Word32) (s : State) : exec (.fwConfirm m v) s = execFwConfirm m v s := rfl
theorem exec_lifeEstimate (s : State) : exec (.lifeEstimate) s = execLifeEstimate s := rfl
theorem exec_memberFault (g slot : Nat) (s : State) : exec (.memberFault g slot) s = execMemberFault g slot s := rfl
theorem exec_rebuild (g : Nat) (s : State) : exec (.rebuild g) s = execRebuild g s := rfl
theorem exec_groupRehome (m : Msg) (v : Word32) (s : State) : exec (.groupRehome m v) s = execGroupRehome m v s := rfl
theorem exec_groupCreate (m : Msg) (v : Word32) (s : State) : exec (.groupCreate m v) s = execGroupCreate m v s := rfl
theorem exec_groupDissolve (m : Msg) (v : Word32) (s : State) : exec (.groupDissolve m v) s = execGroupDissolve m v s := rfl
theorem exec_groupResume (m : Msg) (v : Word32) (s : State) : exec (.groupResume m v) s = execGroupResume m v s := rfl
theorem exec_groupRebuild (m : Msg) (v : Word32) (s : State) : exec (.groupRebuild m v) s = execGroupRebuild m v s := rfl
theorem exec_cloneFill (v : Nat) (s : State) : exec (.cloneFill v) s = execCloneFill v s := rfl
theorem exec_snapMerge (v slot : Nat) (s : State) : exec (.snapMerge v slot) s = execSnapMerge v slot s := rfl
theorem exec_epochCompaction (v : Nat) (s : State) : exec (.epochCompaction v) s = execEpochCompaction v s := rfl
theorem exec_replCycle (n : Nat) (s : State) : exec (.replCycle n) s = execReplCycle n s := rfl
theorem exec_replHello (net : Net) (raw : Bytes) (s : State) : exec (.replHello net raw) s = execReplHello net raw s := rfl
theorem exec_replGrains (net : Net) (raw : Bytes) (s : State) : exec (.replGrains net raw) s = execReplGrains net raw s := rfl
theorem exec_replCycleEnd (net : Net) (raw : Bytes) (s : State) : exec (.replCycleEnd net raw) s = execReplCycleEnd net raw s := rfl
theorem exec_replAck (net : Net) (raw : Bytes) (s : State) : exec (.replAck net raw) s = execReplAck net raw s := rfl
theorem exec_replFail (net : Net) (raw : Bytes) (s : State) : exec (.replFail net raw) s = execReplFail net raw s := rfl
theorem exec_cycleFail (n : Nat) (s : State) : exec (.cycleFail n) s = execCycleFail n s := rfl
theorem exec_deadlineMiss (cmd : Nat) (s : State) : exec (.deadlineMiss cmd) s = execDeadlineMiss cmd s := rfl
theorem exec_atRiskClear (n : Nat) (s : State) : exec (.atRiskClear n) s = execAtRiskClear n s := rfl
theorem exec_drainEnd (t : Nat) (s : State) : exec (.drainEnd t) s = execDrainEnd t s := rfl
theorem exec_tenBsel (m : Msg) (v : Word32) (s : State) : exec (.tenBsel m v) s = execTenBsel m v s := rfl
theorem exec_tenBctlWrite (m : Msg) (v : Word32) (s : State) : exec (.tenBctlWrite m v) s = execTenBctlWrite m v s := rfl
theorem exec_stnLookup (m : Msg) (v : Word32) (s : State) : exec (.stnLookup m v) s = execStnLookup m v s := rfl
theorem exec_lookupStep (m : Msg) (v : Word32) (s : State) : exec (.lookupStep m v) s = execLookupStep m v s := rfl
theorem exec_stnBankAssign (m : Msg) (v : Word32) (s : State) : exec (.stnBankAssign m v) s = execStnBankAssign m v s := rfl
theorem exec_hotBanks (m : Msg) (v : Word32) (s : State) : exec (.hotBanks m v) s = execHotBanks m v s := rfl
theorem exec_heartbeatSend (s : State) : exec (.heartbeatSend) s = execHeartbeatSend s := rfl
theorem exec_heartbeat (h : LinkHdr) (state : BitVec 8) (holds : Word64) (hbSeq : Word32) (s : State) : exec (.heartbeat h state holds hbSeq) s = execHeartbeat h state holds hbSeq s := rfl
theorem exec_partnerDead (s : State) : exec (.partnerDead) s = execPartnerDead s := rfl
theorem exec_isolatedMode (s : State) : exec (.isolatedMode) s = execIsolatedMode s := rfl
theorem exec_mirrorData (h : LinkHdr) (g l : Nat) (data : Bytes) (s : State) : exec (.mirrorData h g l data) s = execMirrorData h g l data s := rfl
theorem exec_mirrorJrn (h : LinkHdr) (es : List Jrn) (s : State) : exec (.mirrorJrn h es) s = execMirrorJrn h es s := rfl
theorem exec_mirrorMaplog (h : LinkHdr) (g first : Nat) (recs : List Rec) (s : State) : exec (.mirrorMaplog h g first recs) s = execMirrorMaplog h g first recs s := rfl
theorem exec_mirrorRelease (h : LinkHdr) (refs : List (Nat × Nat)) (s : State) : exec (.mirrorRelease h refs) s = execMirrorRelease h refs s := rfl
theorem exec_linkControl (h : LinkHdr) (c : Ctl) (s : State) : exec (.linkControl h c) s = execLinkControl h c s := rfl
theorem exec_linkRekey (h : LinkHdr) (ct : Bytes) (s : State) : exec (.linkRekey h ct) s = execLinkRekey h ct s := rfl
theorem exec_linkAck (seq : Word32) (s : State) : exec (.linkAck seq) s = execLinkAck seq s := rfl
theorem exec_retransmit (s : State) : exec (.retransmit) s = execRetransmit s := rfl
theorem exec_pairHello (h : LinkHdr) (b : HelloBody) (s : State) : exec (.pairHello h b) s = execPairHello h b s := rfl
theorem exec_pairCert (h : LinkHdr) (device kem : Bytes) (s : State) : exec (.pairCert h device kem) s = execPairCert h device kem s := rfl
theorem exec_linkAttest (h : LinkHdr) (body signature : Bytes) (s : State) : exec (.linkAttest h body signature) s = execLinkAttest h body signature s := rfl
theorem exec_pairKem (h : LinkHdr) (ct : Bytes) (s : State) : exec (.pairKem h ct) s = execPairKem h ct s := rfl
theorem exec_bootFetch (h : LinkHdr) (f : FetchBody) (s : State) : exec (.bootFetch h f) s = execBootFetch h f s := rfl
theorem exec_laneFail (lane : Nat) (s : State) : exec (.laneFail lane) s = execLaneFail lane s := rfl
theorem exec_handback (m : Msg) (v : Word32) (s : State) : exec (.handback m v) s = execHandback m v s := rfl
theorem exec_acceptNew (m : Msg) (v : Word32) (s : State) : exec (.acceptNew m v) s = execAcceptNew m v s := rfl
theorem exec_peerCtlRekey (m : Msg) (v : Word32) (s : State) : exec (.peerCtlRekey m v) s = execPeerCtlRekey m v s := rfl
theorem exec_wake (w : Nat) (s : State) : exec (.wake w) s = execWake w s := rfl
theorem exec_autoPoise (s : State) : exec (.autoPoise) s = execAutoPoise s := rfl
theorem exec_entryStep (s : State) : exec (.entryStep) s = execEntryStep s := rfl
theorem exec_paceSample (q : Nat) (mons : List Nat) (mv centiA : Nat) (s : State) : exec (.paceSample q mons mv centiA) s = execPaceSample q mons mv centiA s := rfl
theorem exec_paceReload (m : Msg) (v : Word32) (s : State) : exec (.paceReload m v) s = execPaceReload m v s := rfl
theorem exec_regulatorFault (k : Nat) (silent : Bool) (s : State) : exec (.regulatorFault k silent) s = execRegulatorFault k silent s := rfl
theorem exec_sensorSample (k : Nat) (raw : Int) (open_ : Bool) (s : State) : exec (.sensorSample k raw open_) s = execSensorSample k raw open_ s := rfl
theorem exec_throttleStage2 (s : State) : exec (.throttleStage2) s = execThrottleStage2 s := rfl
theorem exec_tripPowerOff (s : State) : exec (.tripPowerOff) s = execTripPowerOff s := rfl
theorem exec_thermtripComparator (k : Nat) (s : State) : exec (.thermtripComparator k) s = execThermtripComparator k s := rfl
theorem exec_thermalWatch (s : State) : exec (.thermalWatch) s = execThermalWatch s := rfl
theorem exec_ptpSync (p : PtpMsg) (s : State) : exec (.ptpSync p) s = execPtpSync p s := rfl
theorem exec_ptpAnnounce (p : PtpMsg) (s : State) : exec (.ptpAnnounce p) s = execPtpAnnounce p s := rfl
theorem exec_ptpFollowUp (p : PtpMsg) (s : State) : exec (.ptpFollowUp p) s = execPtpFollowUp p s := rfl
theorem exec_ptpDelayResp (p : PtpMsg) (s : State) : exec (.ptpDelayResp p) s = execPtpDelayResp p s := rfl
theorem exec_ptpPdelayReq (p : PtpMsg) (s : State) : exec (.ptpPdelayReq p) s = execPtpPdelayReq p s := rfl
theorem exec_syncTimeout (s : State) : exec (.syncTimeout) s = execSyncTimeout s := rfl
theorem exec_holdoverExpiry (s : State) : exec (.holdoverExpiry) s = execHoldoverExpiry s := rfl
theorem exec_timebaseUpdate (s : State) : exec (.timebaseUpdate) s = execTimebaseUpdate s := rfl
theorem exec_residualLearn (s : State) : exec (.residualLearn) s = execResidualLearn s := rfl
theorem exec_timeSet (m : Msg) (v : Word32) (s : State) : exec (.timeSet m v) s = execTimeSet m v s := rfl
theorem exec_timeCtlLock (m : Msg) (v : Word32) (s : State) : exec (.timeCtlLock m v) s = execTimeCtlLock m v s := rfl
theorem exec_ethCtlLock (m : Msg) (v : Word32) (s : State) : exec (.ethCtlLock m v) s = execEthCtlLock m v s := rfl
theorem exec_tmemCtlLock (m : Msg) (v : Word32) (s : State) : exec (.tmemCtlLock m v) s = execTmemCtlLock m v s := rfl
theorem exec_pwrRailLock (m : Msg) (v : Word32) (s : State) : exec (.pwrRailLock m v) s = execPwrRailLock m v s := rfl
theorem exec_pwrAuxLock (m : Msg) (v : Word32) (s : State) : exec (.pwrAuxLock m v) s = execPwrAuxLock m v s := rfl
theorem exec_thmCfgLock (m : Msg) (v : Word32) (s : State) : exec (.thmCfgLock m v) s = execThmCfgLock m v s := rfl
theorem exec_ethGcfgWrite (m : Msg) (v : Word32) (s : State) : exec (.ethGcfgWrite m v) s = execEthGcfgWrite m v s := rfl
theorem exec_groupDown (g : Nat) (s : State) : exec (.groupDown g) s = execGroupDown g s := rfl
theorem exec_addrWrite (m : Msg) (v : Word32) (s : State) : exec (.addrWrite m v) s = execAddrWrite m v s := rfl
theorem exec_cmConnect (m : Msg) (v : Word32) (s : State) : exec (.cmConnect m v) s = execCmConnect m v s := rfl
theorem exec_cmReq (m : CmMsg) (s : State) : exec (.cmReq m) s = execCmReq m s := rfl
theorem exec_cmRep (m : CmMsg) (s : State) : exec (.cmRep m) s = execCmRep m s := rfl
theorem exec_cmRtu (m : CmMsg) (s : State) : exec (.cmRtu m) s = execCmRtu m s := rfl
theorem exec_cmRej (m : CmMsg) (s : State) : exec (.cmRej m) s = execCmRej m s := rfl
theorem exec_cmDreq (m : CmMsg) (s : State) : exec (.cmDreq m) s = execCmDreq m s := rfl
theorem exec_cmDrep (m : CmMsg) (s : State) : exec (.cmDrep m) s = execCmDrep m s := rfl
theorem exec_unboundTimeout (qpn : Nat) (s : State) : exec (.unboundTimeout qpn) s = execUnboundTimeout qpn s := rfl
theorem exec_incomingRdma (n : Net) (s : State) : exec (.incomingRdma n) s = execIncomingRdma n s := rfl
theorem exec_badFrame (port : Nat) (s : State) : exec (.badFrame port) s = execBadFrame port s := rfl
theorem exec_arpRequest (port : Nat) (ip : Ip) (s : State) : exec (.arpRequest port ip) s = execArpRequest port ip s := rfl
theorem exec_icmpEcho (port : Nat) (ip : Ip) (s : State) : exec (.icmpEcho port ip) s = execIcmpEcho port ip s := rfl
theorem exec_neighbourDiscovery (port : Nat) (ip : Ip) (s : State) : exec (.neighbourDiscovery port ip) s = execNeighbourDiscovery port ip s := rfl
theorem exec_congestionNotification (qpn : Nat) (s : State) : exec (.congestionNotification qpn) s = execCongestionNotification qpn s := rfl
theorem exec_rateIncrease (qpn : Nat) (s : State) : exec (.rateIncrease qpn) s = execRateIncrease qpn s := rfl
theorem exec_priorityPause (port prio bytes : Nat) (s : State) : exec (.priorityPause port prio bytes) s = execPriorityPause port prio bytes s := rfl
theorem exec_patrolScrub (ch row : Nat) (found : Nat) (s : State) : exec (.patrolScrub ch row found) s = execPatrolScrub ch row found s := rfl
theorem exec_dramUncorrectable (ch row : Nat) (owner : DramOwner) (s : State) : exec (.dramUncorrectable ch row owner) s = execDramUncorrectable ch row owner s := rfl
theorem exec_dramRetrain (ch : Nat) (temp : Int) (s : State) : exec (.dramRetrain ch temp) s = execDramRetrain ch temp s := rfl
theorem exec_refresh (ch : Nat) (s : State) : exec (.refresh ch) s = execRefresh ch s := rfl
theorem exec_rowActivationLimit (ch bank row : Nat) (prog : Option Nat) (s : State) : exec (.rowActivationLimit ch bank row prog) s = execRowActivationLimit ch bank row prog s := rfl
theorem exec_tileParityError (site : ParitySite) (s : State) : exec (.tileParityError site) s = execTileParityError site s := rfl
theorem exec_tileCopyDone (tile : Nat) (s : State) : exec (.tileCopyDone tile) s = execTileCopyDone tile s := rfl
theorem exec_tmemClaim (m : Msg) (v : Word32) (s : State) : exec (.tmemClaim m v) s = execTmemClaim m v s := rfl
theorem exec_tmemTestWrite (m : Msg) (v : Word32) (s : State) : exec (.tmemTestWrite m v) s = execTmemTestWrite m v s := rfl
theorem exec_tmemTestRead (m : Msg) (v : Word32) (s : State) : exec (.tmemTestRead m v) s = execTmemTestRead m v s := rfl
theorem exec_tmemInject (m : Msg) (v : Word32) (s : State) : exec (.tmemInject m v) s = execTmemInject m v s := rfl
theorem exec_tmemRelease (m : Msg) (v : Word32) (s : State) : exec (.tmemRelease m v) s = execTmemRelease m v s := rfl
theorem exec_scrubStart (m : Msg) (v : Word32) (s : State) : exec (.scrubStart m v) s = execScrubStart m v s := rfl
theorem exec_scrubDone (s : State) : exec (.scrubDone) s = execScrubDone s := rfl
theorem exec_measExtend (m : Msg) (v : Word32) (s : State) : exec (.measExtend m v) s = execMeasExtend m v s := rfl
theorem exec_digMeasDataRead (m : Msg) (s : State) : exec (.digMeasDataRead m) s = execDigMeasDataRead m s := rfl
theorem exec_loReadLatch (m : Msg) (s : State) : exec (.loReadLatch m) s = execLoReadLatch m s := rfl
theorem exec_entropySample (v : Byte) (s : State) : exec (.entropySample v) s = execEntropySample v s := rfl
theorem exec_nextTreeDone (s : State) : exec (.nextTreeDone) s = execNextTreeDone s := rfl
theorem exec_keyUnwrap (fetch : KeyFetch) (s : State) : exec (.keyUnwrap fetch) s = execKeyUnwrap fetch s := rfl
theorem exec_cardStatusSend (qpn : Nat) (s : State) : exec (.cardStatusSend qpn) s = execCardStatusSend qpn s := rfl
theorem exec_peeraliveInChange (s : State) : exec (.peeraliveInChange) s = execPeeraliveInChange s := rfl
theorem exec_jarelLinkUp (lanes : BitVec 17) (s : State) : exec (.jarelLinkUp lanes) s = execJarelLinkUp lanes s := rfl
theorem exec_hostLinkChange (port : Nat) (up : Bool) (s : State) : exec (.hostLinkChange port up) s = execHostLinkChange port up s := rfl
theorem exec_entropyWaitTimeout (cmd : Nat) (s : State) : exec (.entropyWaitTimeout cmd) s = execEntropyWaitTimeout cmd s := rfl
theorem exec_bootFetchTimeout (s : State) : exec (.bootFetchTimeout) s = execBootFetchTimeout s := rfl
theorem exec_connectTimeout (qpn : Nat) (s : State) : exec (.connectTimeout qpn) s = execConnectTimeout qpn s := rfl
theorem exec_sendAcknowledged (qpn : Nat) (s : State) : exec (.sendAcknowledged qpn) s = execSendAcknowledged qpn s := rfl
theorem exec_sequenceErrorNak (qpn : Nat) (s : State) : exec (.sequenceErrorNak qpn) s = execSequenceErrorNak qpn s := rfl
theorem exec_stencilBankCleared (b : Nat) (s : State) : exec (.stencilBankCleared b) s = execStencilBankCleared b s := rfl
theorem exec_jtagAccess (ir : Nat) (s : State) : exec (.jtagAccess ir) s = execJtagAccess ir s := rfl
theorem exec_i3cEntdaa (addr : BitVec 7) (s : State) : exec (.i3cEntdaa addr) s = execI3cEntdaa addr s := rfl
theorem exec_i3cIbiServiced (s : State) : exec (.i3cIbiServiced) s = execI3cIbiServiced s := rfl
theorem exec_ppsPulse (s : State) : exec (.ppsPulse) s = execPpsPulse s := rfl
theorem exec_ptpPdelayResp (p : PtpMsg) (s : State) : exec (.ptpPdelayResp p) s = execPtpPdelayResp p s := rfl

end Sys2Proof.Machine
end

