-- ==== Sys2Proof/Laws/Table.lean ====
section
/-! SUPPORT. Keyed tables: what a change leaves to be looked up, and that every change keeps the keys rising. -/

namespace Sys2Proof.Machine

variable {α : Type}

/-- Every key of the table lies above k. -/
def Tbl.above (k : Nat) (t : Tbl α) : Prop := ∀ e ∈ t, k < e.1

/-- A table's keys rise where its tail's do and lie above the first. -/
theorem rising_cons (k : Nat) (v : α) (t : Tbl α) : Tbl.rising ((k, v) :: t) = true ↔ Tbl.above k t ∧ Tbl.rising t = true := by
  induction t generalizing k v with
  | nil => simp [Tbl.rising, Tbl.above]
  | cons e r ih =>
    obtain ⟨j, w⟩ := e
    simp only [Tbl.rising, Bool.and_eq_true, decide_eq_true_eq]
    constructor
    · rintro ⟨h, hr⟩
      refine ⟨fun e he => ?_, hr⟩
      rcases List.mem_cons.1 he with rfl | he
      · exact h
      · exact Nat.lt_trans h ((ih j w).1 hr |>.1 e he)
    · rintro ⟨h, hr⟩
      exact ⟨h _ (List.mem_cons_self ..), hr⟩

/-- Nothing is found below the keys of a table. -/
theorem tget_of_above (k : Nat) (t : Tbl α) (h : Tbl.above k t) : tget t k = none := by
  cases t with
  | nil => rfl
  | cons e r =>
    have : k < e.1 := h e (List.mem_cons_self ..)
    simp [tget, this, Nat.ne_of_gt this]

/-- A value put at a key is found there; every other key is as it was. -/
theorem tget_tput (t : Tbl α) (k : Nat) (v : α) (j : Nat) : tget (tput t k v) j = if j = k then some v else tget t j := by
  induction t with
  | nil =>
    by_cases h : j = k
    · simp [tput, tget, h]
    · simp [tput, tget, h, Ne.symm h]
  | cons e r ih =>
    obtain ⟨i, w⟩ := e
    simp only [tput]
    split
    · subst i
      by_cases h : j = k
      · simp [tget, h]
      · simp [tget, h, Ne.symm h]
    · split
      · by_cases h : j = k
        · simp [tget, h]
        · simp only [tget, Ne.symm h, h, if_false]
          repeat' split
          all_goals first | rfl | omega
      · simp only [tget, ih]
        repeat' split
        all_goals first | rfl | omega

/-- A key taken out of a rising table is gone; every other key is as it was. -/
theorem tget_tdel (t : Tbl α) (k j : Nat) (h : Tbl.rising t = true) : tget (tdel t k) j = if j = k then none else tget t j := by
  induction t with
  | nil => simp [tdel, tget]
  | cons e r ih =>
    obtain ⟨i, w⟩ := e
    obtain ⟨ha, hr⟩ := (rising_cons i w r).1 h
    simp only [tdel]
    split
    · subst i
      by_cases hj : j = k
      · simp [hj, tget_of_above k r ha]
      · simp only [hj, if_false, tget, Ne.symm hj]
        split
        · exact tget_of_above j r fun e he => Nat.lt_trans ‹_› (ha e he)
        · rfl
    · split
      · by_cases hj : j = k
        · subst hj; simp [tget, *]
        · simp [hj]
      · simp only [tget, ih hr]
        repeat' split
        all_goals first | rfl | omega

/-- A change of the value at one key leaves every other key as it was. -/
theorem tget_tmod (t : Tbl α) (k : Nat) (f : α → α) (j : Nat) :
    tget (tmod t k f) j = if j = k then (tget t j).map f else tget t j := by
  induction t with
  | nil => simp [tmod, tget]
  | cons e r ih =>
    obtain ⟨i, w⟩ := e
    simp only [tmod]
    split
    · subst i
      by_cases hj : j = k
      · simp [tget, hj]
      · simp [tget, hj, Ne.symm hj]
    · split
      · by_cases hj : j = k
        · subst hj; simp [tget, *]
        · simp [hj]
      · simp only [tget, ih]
        repeat' split
        all_goals first | rfl | omega

theorem above_tput (k j : Nat) (v : α) (t : Tbl α) (h : Tbl.above k t) (hj : k < j) : Tbl.above k (tput t j v) := by
  induction t with
  | nil => intro e he; simp [tput] at he; subst he; exact hj
  | cons e r ih =>
    obtain ⟨i, w⟩ := e
    have hi : k < i := h (i, w) (List.mem_cons_self ..)
    have hr : Tbl.above k r := fun e he => h e (List.mem_cons_of_mem _ he)
    simp only [tput]
    split
    · intro e he
      rcases List.mem_cons.1 he with rfl | he
      exacts [hj, hr _ he]
    · split
      · intro e he
        rcases List.mem_cons.1 he with rfl | he
        exacts [hj, h _ he]
      · intro e he
        rcases List.mem_cons.1 he with rfl | he
        exacts [hi, ih hr e he]

/-- Keys rise after a put. -/
theorem rising_tput (t : Tbl α) (k : Nat) (v : α) (h : Tbl.rising t = true) : Tbl.rising (tput t k v) = true := by
  induction t with
  | nil => rfl
  | cons e r ih =>
    obtain ⟨i, w⟩ := e
    obtain ⟨ha, hr⟩ := (rising_cons i w r).1 h
    simp only [tput]
    split
    · subst i; exact (rising_cons k v r).2 ⟨ha, hr⟩
    · split
      · refine (rising_cons k v _).2 ⟨fun e he => ?_, h⟩
        rcases List.mem_cons.1 he with rfl | he
        · assumption
        · exact Nat.lt_trans ‹_› (ha e he)
      · exact (rising_cons i w _).2 ⟨above_tput i k v r ha (by omega), ih hr⟩

theorem mem_tdel (t : Tbl α) (k : Nat) (e : Nat × α) (h : e ∈ tdel t k) : e ∈ t := by
  induction t with
  | nil => simp [tdel] at h
  | cons x r ih =>
    obtain ⟨i, w⟩ := x
    simp only [tdel] at h
    split at h
    · exact List.mem_cons_of_mem _ h
    · split at h
      · exact h
      · rcases List.mem_cons.1 h with rfl | h
        · exact List.mem_cons_self ..
        · exact List.mem_cons_of_mem _ (ih h)

theorem mem_tput (t : Tbl α) (k : Nat) (v : α) (e : Nat × α) (h : e ∈ tput t k v) : e = (k, v) ∨ e ∈ t := by
  induction t with
  | nil => simpa [tput] using h
  | cons x r ih =>
    obtain ⟨i, w⟩ := x
    simp only [tput] at h
    split at h
    · rcases List.mem_cons.1 h with rfl | h
      exacts [.inl rfl, .inr (List.mem_cons_of_mem _ h)]
    · split at h
      · rcases List.mem_cons.1 h with rfl | h
        exacts [.inl rfl, .inr h]
      · rcases List.mem_cons.1 h with rfl | h
        · exact .inr (List.mem_cons_self ..)
        · exact (ih h).imp id (List.mem_cons_of_mem _)

/-- Keys rise after a key is taken out. -/
theorem rising_tdel (t : Tbl α) (k : Nat) (h : Tbl.rising t = true) : Tbl.rising (tdel t k) = true := by
  induction t with
  | nil => rfl
  | cons e r ih =>
    obtain ⟨i, w⟩ := e
    obtain ⟨ha, hr⟩ := (rising_cons i w r).1 h
    simp only [tdel]
    split
    · exact hr
    · split
      · exact h
      · exact (rising_cons i w _).2 ⟨fun e he => ha e (mem_tdel r k e he), ih hr⟩

/-- Keys rise after the entries that a test keeps are kept. -/
theorem rising_filter (t : Tbl α) (p : Nat × α → Bool) (h : Tbl.rising t = true) : Tbl.rising (α := α) (t.filter p) = true := by
  induction t with
  | nil => rfl
  | cons e r ih =>
    obtain ⟨i, w⟩ := e
    obtain ⟨ha, hr⟩ := (rising_cons i w r).1 h
    simp only [List.filter_cons]
    split
    · exact (rising_cons i w _).2 ⟨fun e he => ha e (List.mem_filter.1 he).1, ih hr⟩
    · exact ih hr

end Sys2Proof.Machine
end

