-- ==== Sys2Proof/Laws/Memory.lean ====
section
/-! SUPPORT. Tile memory and the register file: their canonical forms hold at reset and are kept by every operation; what one byte, one
parity word and one register read after a write of another. -/

namespace Sys2Proof.Machine

/-! ### Tile memory -/

/-- Tile memory's form, as a proposition. -/
theorem tmem_wf (m : Tmem) : m.wf = true ↔
    Tbl.rising m.mem = true ∧ (∀ e ∈ m.mem, e.2 ≠ 0) ∧ Tbl.rising m.bad = true ∧ ∀ e ∈ m.bad, e.2 ≠ 0 := by
  simp [Tmem.wf, and_assoc]

/-- Setting a byte keeps the form. -/
theorem tmem_set_wf (m : Tmem) (o : Nat) (v : Byte) (h : m.wf = true) : (m.set o v).wf = true := by
  obtain ⟨hr, hz, hb, hbz⟩ := (tmem_wf m).1 h
  by_cases hv : v = 0
  · exact (tmem_wf _).2 (by simpa [Tmem.set, hv] using ⟨rising_tdel _ _ hr, fun a b he => hz _ (mem_tdel _ _ _ he), hb, fun a b he => hbz _ he⟩)
  · refine (tmem_wf _).2 ⟨?_, fun e he => ?_, hb, hbz⟩
    · rw [Tmem.set, if_neg hv]; exact rising_tput _ _ _ hr
    · simp only [Tmem.set, hv, if_false] at he
      rcases mem_tput _ _ _ _ he with rfl | he
      exacts [hv, hz _ he]

/-- A byte after one byte is set. -/
theorem tmem_set_byte (m : Tmem) (o a : Nat) (v : Byte) (h : m.wf = true) : (m.set o v).byte a = if a = o then v else m.byte a := by
  have hr := ((tmem_wf m).1 h).1
  by_cases hv : v = 0
  · by_cases ha : a = o <;> simp [Tmem.set, Tmem.byte, hv, tget_tdel _ _ _ hr, ha]
  · rw [Tmem.set, if_neg hv]
    by_cases ha : a = o <;> simp [Tmem.byte, tget_tput, ha]

/-- Setting parity bits keeps the form. -/
theorem tmem_setBad_wf (m : Tmem) (w v : Nat) (h : m.wf = true) : (m.setBad w v).wf = true := by
  obtain ⟨hr, hz, hb, hbz⟩ := (tmem_wf m).1 h
  by_cases hv : v % 256 = 0
  · exact (tmem_wf _).2 (by simpa [Tmem.setBad, hv] using ⟨hr, fun a b he => hz _ he, rising_tdel _ _ hb, fun a b he => hbz _ (mem_tdel _ _ _ he)⟩)
  · refine (tmem_wf _).2 ⟨hr, hz, ?_, fun e he => ?_⟩
    · simpa [Tmem.setBad, hv] using rising_tput _ _ _ hb
    · simp only [Tmem.setBad, hv, if_false] at he
      rcases mem_tput _ _ _ _ he with rfl | he
      exacts [hv, hbz _ he]

/-- A run of bytes set one by one keeps the form. -/
theorem tmem_setAll_wf (l : List (Byte × Nat)) (o : Nat) (m : Tmem) (h : m.wf = true) :
    (l.foldl (fun m x => m.set (o + x.2) x.1) m).wf = true := by
  induction l generalizing m with
  | nil => exact h
  | cons x r ih => exact ih _ (tmem_set_wf m _ _ h)

/-- Dropping wrong parity words keeps the form. -/
theorem tmem_good_wf (m : Tmem) (p : Nat × Nat → Bool) (h : m.wf = true) : Tmem.wf { m with bad := m.bad.filter p } = true := by
  obtain ⟨hr, hz, hb, hbz⟩ := (tmem_wf m).1 h
  exact (tmem_wf _).2 ⟨hr, hz, rising_filter _ _ hb, fun e he => hbz e (List.mem_filter.1 he).1⟩

/-- The memory at reset is in its form. -/
theorem tmem_reset_wf : Tmem.reset.wf = true := rfl

/-- What setTmem leaves of the part. -/
@[simp] theorem setTmem_tmem (d : Dev) (m : Tmem) : (d.setTmem m).tmem = m := rfl
@[simp] theorem setTmem_regs (d : Dev) (m : Tmem) : (d.setTmem m).regs = d.regs := rfl

/-! ### The register file -/

/-- The register file's form, as a proposition. -/
theorem regFile_wf (rf : RegFile) : rf.wf = true ↔ Tbl.rising rf = true ∧ ∀ e ∈ rf, e.2 ≠ resetWord e.1 := by
  simp [RegFile.wf]

/-- Setting a word keeps the form. -/
theorem setWord_wf (rf : RegFile) (a : Nat) (v : Word32) (h : rf.wf = true) : (setWord rf a v).wf = true := by
  obtain ⟨hr, hz⟩ := (regFile_wf rf).1 h
  rw [regFile_wf]
  by_cases hv : v = resetWord a
  · rw [setWord, if_pos hv]; exact ⟨rising_tdel _ _ hr, fun e he => hz e (mem_tdel _ _ _ he)⟩
  · rw [setWord, if_neg hv]
    refine ⟨rising_tput _ _ _ hr, fun e he => ?_⟩
    rcases mem_tput _ _ _ _ he with rfl | he
    exacts [hv, hz e he]

/-- A word set reads back; every other word is as it was. -/
theorem rawWord_setWord (rf : RegFile) (a b : Nat) (v : Word32) (h : rf.wf = true) :
    rawWord (setWord rf a v) b = if b = a then v else rawWord rf b := by
  have hr := ((regFile_wf rf).1 h).1
  unfold setWord rawWord
  split
  · by_cases hb : b = a
    · subst hb; simp [tget_tdel _ _ _ hr, *]
    · simp [tget_tdel _ _ _ hr, hb]
  · by_cases hb : b = a <;> simp [tget_tput, hb]

/-- Writing a register field keeps the register file's form. -/
theorem wr_wf (d : Dev) (f : Fld) (v : Nat) (h : d.regs.wf = true) : (d.wr f v).regs.wf = true := setWord_wf _ _ _ h

end Sys2Proof.Machine
end

