-- ==== Sys2Proof/Laws/State.lean ====
section
/-! SUPPORT. What each basic change of the part leaves in each of its fields. -/

namespace Sys2Proof.Machine

@[simp] theorem withDev_pending (s : State) (d : Dev) : ({ s with dev := d } : State).pending = s.pending := rfl
@[simp] theorem withDev_dev (s : State) (d : Dev) : ({ s with dev := d } : State).dev = d := rfl

/-! ### wr -/

@[simp] theorem wr_now (d : Dev) (f : Fld) (v : Nat) : (d.wr f v).now = d.now := rfl
@[simp] theorem wr_draws (d : Dev) (f : Fld) (v : Nat) : (d.wr f v).draws = d.draws := rfl
@[simp] theorem wr_out (d : Dev) (f : Fld) (v : Nat) : (d.wr f v).out = d.out := rfl
@[simp] theorem wr_regs (d : Dev) (f : Fld) (v : Nat) : (d.wr f v).regs = d.regs.setFld f v := rfl
@[simp] theorem wr_latches (d : Dev) (f : Fld) (v : Nat) : (d.wr f v).latches = d.latches := rfl
@[simp] theorem wr_tenants (d : Dev) (f : Fld) (v : Nat) : (d.wr f v).tenants = d.tenants := rfl
@[simp] theorem wr_queues (d : Dev) (f : Fld) (v : Nat) : (d.wr f v).queues = d.queues := rfl
@[simp] theorem wr_cmds (d : Dev) (f : Fld) (v : Nat) : (d.wr f v).cmds = d.cmds := rfl
@[simp] theorem wr_nextCmd (d : Dev) (f : Fld) (v : Nat) : (d.wr f v).nextCmd = d.nextCmd := rfl
@[simp] theorem wr_pools (d : Dev) (f : Fld) (v : Nat) : (d.wr f v).pools = d.pools := rfl
@[simp] theorem wr_hands (d : Dev) (f : Fld) (v : Nat) : (d.wr f v).hands = d.hands := rfl
@[simp] theorem wr_xfers (d : Dev) (f : Fld) (v : Nat) : (d.wr f v).xfers = d.xfers := rfl
@[simp] theorem wr_nextXfer (d : Dev) (f : Fld) (v : Nat) : (d.wr f v).nextXfer = d.nextXfer := rfl
@[simp] theorem wr_eth (d : Dev) (f : Fld) (v : Nat) : (d.wr f v).eth = d.eth := rfl
@[simp] theorem wr_time (d : Dev) (f : Fld) (v : Nat) : (d.wr f v).time = d.time := rfl
@[simp] theorem wr_evt (d : Dev) (f : Fld) (v : Nat) : (d.wr f v).evt = d.evt := rfl
@[simp] theorem wr_streams (d : Dev) (f : Fld) (v : Nat) : (d.wr f v).streams = d.streams := rfl
@[simp] theorem wr_adm (d : Dev) (f : Fld) (v : Nat) : (d.wr f v).adm = d.adm := rfl
@[simp] theorem wr_vols (d : Dev) (f : Fld) (v : Nat) : (d.wr f v).vols = d.vols := rfl
@[simp] theorem wr_vgens (d : Dev) (f : Fld) (v : Nat) : (d.wr f v).vgens = d.vgens := rfl
@[simp] theorem wr_crecs (d : Dev) (f : Fld) (v : Nat) : (d.wr f v).crecs = d.crecs := rfl
@[simp] theorem wr_index (d : Dev) (f : Fld) (v : Nat) : (d.wr f v).index = d.index := rfl
@[simp] theorem wr_sessions (d : Dev) (f : Fld) (v : Nat) : (d.wr f v).sessions = d.sessions := rfl
@[simp] theorem wr_batches (d : Dev) (f : Fld) (v : Nat) : (d.wr f v).batches = d.batches := rfl
@[simp] theorem wr_groups (d : Dev) (f : Fld) (v : Nat) : (d.wr f v).groups = d.groups := rfl
@[simp] theorem wr_rows (d : Dev) (f : Fld) (v : Nat) : (d.wr f v).rows = d.rows := rfl
@[simp] theorem wr_overlay (d : Dev) (f : Fld) (v : Nat) : (d.wr f v).overlay = d.overlay := rfl
@[simp] theorem wr_journal (d : Dev) (f : Fld) (v : Nat) : (d.wr f v).journal = d.journal := rfl
@[simp] theorem wr_jpages (d : Dev) (f : Fld) (v : Nat) : (d.wr f v).jpages = d.jpages := rfl
@[simp] theorem wr_parityWork (d : Dev) (f : Fld) (v : Nat) : (d.wr f v).parityWork = d.parityWork := rfl
@[simp] theorem wr_nextJseq (d : Dev) (f : Fld) (v : Nat) : (d.wr f v).nextJseq = d.nextJseq := rfl
@[simp] theorem wr_ckpt (d : Dev) (f : Fld) (v : Nat) : (d.wr f v).ckpt = d.ckpt := rfl
@[simp] theorem wr_sysFrags (d : Dev) (f : Fld) (v : Nat) : (d.wr f v).sysFrags = d.sysFrags := rfl
@[simp] theorem wr_ports (d : Dev) (f : Fld) (v : Nat) : (d.wr f v).ports = d.ports := rfl
@[simp] theorem wr_dies (d : Dev) (f : Fld) (v : Nat) : (d.wr f v).dies = d.dies := rfl
@[simp] theorem wr_flash (d : Dev) (f : Fld) (v : Nat) : (d.wr f v).flash = d.flash := rfl
@[simp] theorem wr_levels (d : Dev) (f : Fld) (v : Nat) : (d.wr f v).levels = d.levels := rfl
@[simp] theorem wr_profiles (d : Dev) (f : Fld) (v : Nat) : (d.wr f v).profiles = d.profiles := rfl
@[simp] theorem wr_savedTraining (d : Dev) (f : Fld) (v : Nat) : (d.wr f v).savedTraining = d.savedTraining := rfl
@[simp] theorem wr_dumping (d : Dev) (f : Fld) (v : Nat) : (d.wr f v).dumping = d.dumping := rfl
@[simp] theorem wr_folded (d : Dev) (f : Fld) (v : Nat) : (d.wr f v).folded = d.folded := rfl
@[simp] theorem wr_freads (d : Dev) (f : Fld) (v : Nat) : (d.wr f v).freads = d.freads := rfl
@[simp] theorem wr_nextRead (d : Dev) (f : Fld) (v : Nat) : (d.wr f v).nextRead = d.nextRead := rfl
@[simp] theorem wr_offsets (d : Dev) (f : Fld) (v : Nat) : (d.wr f v).offsets = d.offsets := rfl
@[simp] theorem wr_learnedAt (d : Dev) (f : Fld) (v : Nat) : (d.wr f v).learnedAt = d.learnedAt := rfl
@[simp] theorem wr_engines (d : Dev) (f : Fld) (v : Nat) : (d.wr f v).engines = d.engines := rfl
@[simp] theorem wr_ciphers (d : Dev) (f : Fld) (v : Nat) : (d.wr f v).ciphers = d.ciphers := rfl
@[simp] theorem wr_digests (d : Dev) (f : Fld) (v : Nat) : (d.wr f v).digests = d.digests := rfl
@[simp] theorem wr_nextOrder (d : Dev) (f : Fld) (v : Nat) : (d.wr f v).nextOrder = d.nextOrder := rfl
@[simp] theorem wr_outOfService (d : Dev) (f : Fld) (v : Nat) : (d.wr f v).outOfService = d.outOfService := rfl
@[simp] theorem wr_ldpc (d : Dev) (f : Fld) (v : Nat) : (d.wr f v).ldpc = d.ldpc := rfl
@[simp] theorem wr_masks (d : Dev) (f : Fld) (v : Nat) : (d.wr f v).masks = d.masks := rfl
@[simp] theorem wr_progs (d : Dev) (f : Fld) (v : Nat) : (d.wr f v).progs = d.progs := rfl
@[simp] theorem wr_progGens (d : Dev) (f : Fld) (v : Nat) : (d.wr f v).progGens = d.progGens := rfl
@[simp] theorem wr_bindings (d : Dev) (f : Fld) (v : Nat) : (d.wr f v).bindings = d.bindings := rfl
@[simp] theorem wr_cores (d : Dev) (f : Fld) (v : Nat) : (d.wr f v).cores = d.cores := rfl
@[simp] theorem wr_sched (d : Dev) (f : Fld) (v : Nat) : (d.wr f v).sched = d.sched := rfl
@[simp] theorem wr_stencil (d : Dev) (f : Fld) (v : Nat) : (d.wr f v).stencil = d.stencil := rfl
@[simp] theorem wr_peer (d : Dev) (f : Fld) (v : Nat) : (d.wr f v).peer = d.peer := rfl
@[simp] theorem wr_sec (d : Dev) (f : Fld) (v : Nat) : (d.wr f v).sec = d.sec := rfl
@[simp] theorem wr_tmem (d : Dev) (f : Fld) (v : Nat) : (d.wr f v).tmem = d.tmem := rfl
@[simp] theorem wr_dram (d : Dev) (f : Fld) (v : Nat) : (d.wr f v).dram = d.dram := rfl
@[simp] theorem wr_power (d : Dev) (f : Fld) (v : Nat) : (d.wr f v).power = d.power := rfl
@[simp] theorem wr_thermal (d : Dev) (f : Fld) (v : Nat) : (d.wr f v).thermal = d.thermal := rfl
@[simp] theorem wr_boot (d : Dev) (f : Fld) (v : Nat) : (d.wr f v).boot = d.boot := rfl
@[simp] theorem wr_life (d : Dev) (f : Fld) (v : Nat) : (d.wr f v).life = d.life := rfl
@[simp] theorem wr_pins (d : Dev) (f : Fld) (v : Nat) : (d.wr f v).pins = d.pins := rfl

/-! ### emit -/

@[simp] theorem emit_now (d : Dev) (o : Out) : (d.emit o).now = d.now := rfl
@[simp] theorem emit_draws (d : Dev) (o : Out) : (d.emit o).draws = d.draws := rfl
@[simp] theorem emit_out (d : Dev) (o : Out) : (d.emit o).out = o :: d.out := rfl
@[simp] theorem emit_regs (d : Dev) (o : Out) : (d.emit o).regs = d.regs := rfl
@[simp] theorem emit_latches (d : Dev) (o : Out) : (d.emit o).latches = d.latches := rfl
@[simp] theorem emit_tenants (d : Dev) (o : Out) : (d.emit o).tenants = d.tenants := rfl
@[simp] theorem emit_queues (d : Dev) (o : Out) : (d.emit o).queues = d.queues := rfl
@[simp] theorem emit_cmds (d : Dev) (o : Out) : (d.emit o).cmds = d.cmds := rfl
@[simp] theorem emit_nextCmd (d : Dev) (o : Out) : (d.emit o).nextCmd = d.nextCmd := rfl
@[simp] theorem emit_pools (d : Dev) (o : Out) : (d.emit o).pools = d.pools := rfl
@[simp] theorem emit_hands (d : Dev) (o : Out) : (d.emit o).hands = d.hands := rfl
@[simp] theorem emit_xfers (d : Dev) (o : Out) : (d.emit o).xfers = d.xfers := rfl
@[simp] theorem emit_nextXfer (d : Dev) (o : Out) : (d.emit o).nextXfer = d.nextXfer := rfl
@[simp] theorem emit_eth (d : Dev) (o : Out) : (d.emit o).eth = d.eth := rfl
@[simp] theorem emit_time (d : Dev) (o : Out) : (d.emit o).time = d.time := rfl
@[simp] theorem emit_evt (d : Dev) (o : Out) : (d.emit o).evt = d.evt := rfl
@[simp] theorem emit_streams (d : Dev) (o : Out) : (d.emit o).streams = d.streams := rfl
@[simp] theorem emit_adm (d : Dev) (o : Out) : (d.emit o).adm = d.adm := rfl
@[simp] theorem emit_vols (d : Dev) (o : Out) : (d.emit o).vols = d.vols := rfl
@[simp] theorem emit_vgens (d : Dev) (o : Out) : (d.emit o).vgens = d.vgens := rfl
@[simp] theorem emit_crecs (d : Dev) (o : Out) : (d.emit o).crecs = d.crecs := rfl
@[simp] theorem emit_index (d : Dev) (o : Out) : (d.emit o).index = d.index := rfl
@[simp] theorem emit_sessions (d : Dev) (o : Out) : (d.emit o).sessions = d.sessions := rfl
@[simp] theorem emit_batches (d : Dev) (o : Out) : (d.emit o).batches = d.batches := rfl
@[simp] theorem emit_groups (d : Dev) (o : Out) : (d.emit o).groups = d.groups := rfl
@[simp] theorem emit_rows (d : Dev) (o : Out) : (d.emit o).rows = d.rows := rfl
@[simp] theorem emit_overlay (d : Dev) (o : Out) : (d.emit o).overlay = d.overlay := rfl
@[simp] theorem emit_journal (d : Dev) (o : Out) : (d.emit o).journal = d.journal := rfl
@[simp] theorem emit_jpages (d : Dev) (o : Out) : (d.emit o).jpages = d.jpages := rfl
@[simp] theorem emit_parityWork (d : Dev) (o : Out) : (d.emit o).parityWork = d.parityWork := rfl
@[simp] theorem emit_nextJseq (d : Dev) (o : Out) : (d.emit o).nextJseq = d.nextJseq := rfl
@[simp] theorem emit_ckpt (d : Dev) (o : Out) : (d.emit o).ckpt = d.ckpt := rfl
@[simp] theorem emit_sysFrags (d : Dev) (o : Out) : (d.emit o).sysFrags = d.sysFrags := rfl
@[simp] theorem emit_ports (d : Dev) (o : Out) : (d.emit o).ports = d.ports := rfl
@[simp] theorem emit_dies (d : Dev) (o : Out) : (d.emit o).dies = d.dies := rfl
@[simp] theorem emit_flash (d : Dev) (o : Out) : (d.emit o).flash = d.flash := rfl
@[simp] theorem emit_levels (d : Dev) (o : Out) : (d.emit o).levels = d.levels := rfl
@[simp] theorem emit_profiles (d : Dev) (o : Out) : (d.emit o).profiles = d.profiles := rfl
@[simp] theorem emit_savedTraining (d : Dev) (o : Out) : (d.emit o).savedTraining = d.savedTraining := rfl
@[simp] theorem emit_dumping (d : Dev) (o : Out) : (d.emit o).dumping = d.dumping := rfl
@[simp] theorem emit_folded (d : Dev) (o : Out) : (d.emit o).folded = d.folded := rfl
@[simp] theorem emit_freads (d : Dev) (o : Out) : (d.emit o).freads = d.freads := rfl
@[simp] theorem emit_nextRead (d : Dev) (o : Out) : (d.emit o).nextRead = d.nextRead := rfl
@[simp] theorem emit_offsets (d : Dev) (o : Out) : (d.emit o).offsets = d.offsets := rfl
@[simp] theorem emit_learnedAt (d : Dev) (o : Out) : (d.emit o).learnedAt = d.learnedAt := rfl
@[simp] theorem emit_engines (d : Dev) (o : Out) : (d.emit o).engines = d.engines := rfl
@[simp] theorem emit_ciphers (d : Dev) (o : Out) : (d.emit o).ciphers = d.ciphers := rfl
@[simp] theorem emit_digests (d : Dev) (o : Out) : (d.emit o).digests = d.digests := rfl
@[simp] theorem emit_nextOrder (d : Dev) (o : Out) : (d.emit o).nextOrder = d.nextOrder := rfl
@[simp] theorem emit_outOfService (d : Dev) (o : Out) : (d.emit o).outOfService = d.outOfService := rfl
@[simp] theorem emit_ldpc (d : Dev) (o : Out) : (d.emit o).ldpc = d.ldpc := rfl
@[simp] theorem emit_masks (d : Dev) (o : Out) : (d.emit o).masks = d.masks := rfl
@[simp] theorem emit_progs (d : Dev) (o : Out) : (d.emit o).progs = d.progs := rfl
@[simp] theorem emit_progGens (d : Dev) (o : Out) : (d.emit o).progGens = d.progGens := rfl
@[simp] theorem emit_bindings (d : Dev) (o : Out) : (d.emit o).bindings = d.bindings := rfl
@[simp] theorem emit_cores (d : Dev) (o : Out) : (d.emit o).cores = d.cores := rfl
@[simp] theorem emit_sched (d : Dev) (o : Out) : (d.emit o).sched = d.sched := rfl
@[simp] theorem emit_stencil (d : Dev) (o : Out) : (d.emit o).stencil = d.stencil := rfl
@[simp] theorem emit_peer (d : Dev) (o : Out) : (d.emit o).peer = d.peer := rfl
@[simp] theorem emit_sec (d : Dev) (o : Out) : (d.emit o).sec = d.sec := rfl
@[simp] theorem emit_tmem (d : Dev) (o : Out) : (d.emit o).tmem = d.tmem := rfl
@[simp] theorem emit_dram (d : Dev) (o : Out) : (d.emit o).dram = d.dram := rfl
@[simp] theorem emit_power (d : Dev) (o : Out) : (d.emit o).power = d.power := rfl
@[simp] theorem emit_thermal (d : Dev) (o : Out) : (d.emit o).thermal = d.thermal := rfl
@[simp] theorem emit_boot (d : Dev) (o : Out) : (d.emit o).boot = d.boot := rfl
@[simp] theorem emit_life (d : Dev) (o : Out) : (d.emit o).life = d.life := rfl
@[simp] theorem emit_pins (d : Dev) (o : Out) : (d.emit o).pins = d.pins := rfl

/-! ### drawn -/

@[simp] theorem drawn_now (d : Dev) : (d.drawn).now = d.now := rfl
@[simp] theorem drawn_draws (d : Dev) : (d.drawn).draws = d.draws + 1 := rfl
@[simp] theorem drawn_out (d : Dev) : (d.drawn).out = d.out := rfl
@[simp] theorem drawn_regs (d : Dev) : (d.drawn).regs = d.regs := rfl
@[simp] theorem drawn_latches (d : Dev) : (d.drawn).latches = d.latches := rfl
@[simp] theorem drawn_tenants (d : Dev) : (d.drawn).tenants = d.tenants := rfl
@[simp] theorem drawn_queues (d : Dev) : (d.drawn).queues = d.queues := rfl
@[simp] theorem drawn_cmds (d : Dev) : (d.drawn).cmds = d.cmds := rfl
@[simp] theorem drawn_nextCmd (d : Dev) : (d.drawn).nextCmd = d.nextCmd := rfl
@[simp] theorem drawn_pools (d : Dev) : (d.drawn).pools = d.pools := rfl
@[simp] theorem drawn_hands (d : Dev) : (d.drawn).hands = d.hands := rfl
@[simp] theorem drawn_xfers (d : Dev) : (d.drawn).xfers = d.xfers := rfl
@[simp] theorem drawn_nextXfer (d : Dev) : (d.drawn).nextXfer = d.nextXfer := rfl
@[simp] theorem drawn_eth (d : Dev) : (d.drawn).eth = d.eth := rfl
@[simp] theorem drawn_time (d : Dev) : (d.drawn).time = d.time := rfl
@[simp] theorem drawn_evt (d : Dev) : (d.drawn).evt = d.evt := rfl
@[simp] theorem drawn_streams (d : Dev) : (d.drawn).streams = d.streams := rfl
@[simp] theorem drawn_adm (d : Dev) : (d.drawn).adm = d.adm := rfl
@[simp] theorem drawn_vols (d : Dev) : (d.drawn).vols = d.vols := rfl
@[simp] theorem drawn_vgens (d : Dev) : (d.drawn).vgens = d.vgens := rfl
@[simp] theorem drawn_crecs (d : Dev) : (d.drawn).crecs = d.crecs := rfl
@[simp] theorem drawn_index (d : Dev) : (d.drawn).index = d.index := rfl
@[simp] theorem drawn_sessions (d : Dev) : (d.drawn).sessions = d.sessions := rfl
@[simp] theorem drawn_batches (d : Dev) : (d.drawn).batches = d.batches := rfl
@[simp] theorem drawn_groups (d : Dev) : (d.drawn).groups = d.groups := rfl
@[simp] theorem drawn_rows (d : Dev) : (d.drawn).rows = d.rows := rfl
@[simp] theorem drawn_overlay (d : Dev) : (d.drawn).overlay = d.overlay := rfl
@[simp] theorem drawn_journal (d : Dev) : (d.drawn).journal = d.journal := rfl
@[simp] theorem drawn_jpages (d : Dev) : (d.drawn).jpages = d.jpages := rfl
@[simp] theorem drawn_parityWork (d : Dev) : (d.drawn).parityWork = d.parityWork := rfl
@[simp] theorem drawn_nextJseq (d : Dev) : (d.drawn).nextJseq = d.nextJseq := rfl
@[simp] theorem drawn_ckpt (d : Dev) : (d.drawn).ckpt = d.ckpt := rfl
@[simp] theorem drawn_sysFrags (d : Dev) : (d.drawn).sysFrags = d.sysFrags := rfl
@[simp] theorem drawn_ports (d : Dev) : (d.drawn).ports = d.ports := rfl
@[simp] theorem drawn_dies (d : Dev) : (d.drawn).dies = d.dies := rfl
@[simp] theorem drawn_flash (d : Dev) : (d.drawn).flash = d.flash := rfl
@[simp] theorem drawn_levels (d : Dev) : (d.drawn).levels = d.levels := rfl
@[simp] theorem drawn_profiles (d : Dev) : (d.drawn).profiles = d.profiles := rfl
@[simp] theorem drawn_savedTraining (d : Dev) : (d.drawn).savedTraining = d.savedTraining := rfl
@[simp] theorem drawn_dumping (d : Dev) : (d.drawn).dumping = d.dumping := rfl
@[simp] theorem drawn_folded (d : Dev) : (d.drawn).folded = d.folded := rfl
@[simp] theorem drawn_freads (d : Dev) : (d.drawn).freads = d.freads := rfl
@[simp] theorem drawn_nextRead (d : Dev) : (d.drawn).nextRead = d.nextRead := rfl
@[simp] theorem drawn_offsets (d : Dev) : (d.drawn).offsets = d.offsets := rfl
@[simp] theorem drawn_learnedAt (d : Dev) : (d.drawn).learnedAt = d.learnedAt := rfl
@[simp] theorem drawn_engines (d : Dev) : (d.drawn).engines = d.engines := rfl
@[simp] theorem drawn_ciphers (d : Dev) : (d.drawn).ciphers = d.ciphers := rfl
@[simp] theorem drawn_digests (d : Dev) : (d.drawn).digests = d.digests := rfl
@[simp] theorem drawn_nextOrder (d : Dev) : (d.drawn).nextOrder = d.nextOrder := rfl
@[simp] theorem drawn_outOfService (d : Dev) : (d.drawn).outOfService = d.outOfService := rfl
@[simp] theorem drawn_ldpc (d : Dev) : (d.drawn).ldpc = d.ldpc := rfl
@[simp] theorem drawn_masks (d : Dev) : (d.drawn).masks = d.masks := rfl
@[simp] theorem drawn_progs (d : Dev) : (d.drawn).progs = d.progs := rfl
@[simp] theorem drawn_progGens (d : Dev) : (d.drawn).progGens = d.progGens := rfl
@[simp] theorem drawn_bindings (d : Dev) : (d.drawn).bindings = d.bindings := rfl
@[simp] theorem drawn_cores (d : Dev) : (d.drawn).cores = d.cores := rfl
@[simp] theorem drawn_sched (d : Dev) : (d.drawn).sched = d.sched := rfl
@[simp] theorem drawn_stencil (d : Dev) : (d.drawn).stencil = d.stencil := rfl
@[simp] theorem drawn_peer (d : Dev) : (d.drawn).peer = d.peer := rfl
@[simp] theorem drawn_sec (d : Dev) : (d.drawn).sec = d.sec := rfl
@[simp] theorem drawn_tmem (d : Dev) : (d.drawn).tmem = d.tmem := rfl
@[simp] theorem drawn_dram (d : Dev) : (d.drawn).dram = d.dram := rfl
@[simp] theorem drawn_power (d : Dev) : (d.drawn).power = d.power := rfl
@[simp] theorem drawn_thermal (d : Dev) : (d.drawn).thermal = d.thermal := rfl
@[simp] theorem drawn_boot (d : Dev) : (d.drawn).boot = d.boot := rfl
@[simp] theorem drawn_life (d : Dev) : (d.drawn).life = d.life := rfl
@[simp] theorem drawn_pins (d : Dev) : (d.drawn).pins = d.pins := rfl

/-! ### modTenant -/

@[simp] theorem modTenant_now (d : Dev) (t : Nat) (f : Tenant → Tenant) : (d.modTenant t f).now = d.now := rfl
@[simp] theorem modTenant_draws (d : Dev) (t : Nat) (f : Tenant → Tenant) : (d.modTenant t f).draws = d.draws := rfl
@[simp] theorem modTenant_out (d : Dev) (t : Nat) (f : Tenant → Tenant) : (d.modTenant t f).out = d.out := rfl
@[simp] theorem modTenant_regs (d : Dev) (t : Nat) (f : Tenant → Tenant) : (d.modTenant t f).regs = d.regs := rfl
@[simp] theorem modTenant_latches (d : Dev) (t : Nat) (f : Tenant → Tenant) : (d.modTenant t f).latches = d.latches := rfl
@[simp] theorem modTenant_tenants (d : Dev) (t : Nat) (f : Tenant → Tenant) : (d.modTenant t f).tenants = tmod d.tenants t f := rfl
@[simp] theorem modTenant_queues (d : Dev) (t : Nat) (f : Tenant → Tenant) : (d.modTenant t f).queues = d.queues := rfl
@[simp] theorem modTenant_cmds (d : Dev) (t : Nat) (f : Tenant → Tenant) : (d.modTenant t f).cmds = d.cmds := rfl
@[simp] theorem modTenant_nextCmd (d : Dev) (t : Nat) (f : Tenant → Tenant) : (d.modTenant t f).nextCmd = d.nextCmd := rfl
@[simp] theorem modTenant_pools (d : Dev) (t : Nat) (f : Tenant → Tenant) : (d.modTenant t f).pools = d.pools := rfl
@[simp] theorem modTenant_hands (d : Dev) (t : Nat) (f : Tenant → Tenant) : (d.modTenant t f).hands = d.hands := rfl
@[simp] theorem modTenant_xfers (d : Dev) (t : Nat) (f : Tenant → Tenant) : (d.modTenant t f).xfers = d.xfers := rfl
@[simp] theorem modTenant_nextXfer (d : Dev) (t : Nat) (f : Tenant → Tenant) : (d.modTenant t f).nextXfer = d.nextXfer := rfl
@[simp] theorem modTenant_eth (d : Dev) (t : Nat) (f : Tenant → Tenant) : (d.modTenant t f).eth = d.eth := rfl
@[simp] theorem modTenant_time (d : Dev) (t : Nat) (f : Tenant → Tenant) : (d.modTenant t f).time = d.time := rfl
@[simp] theorem modTenant_evt (d : Dev) (t : Nat) (f : Tenant → Tenant) : (d.modTenant t f).evt = d.evt := rfl
@[simp] theorem modTenant_streams (d : Dev) (t : Nat) (f : Tenant → Tenant) : (d.modTenant t f).streams = d.streams := rfl
@[simp] theorem modTenant_adm (d : Dev) (t : Nat) (f : Tenant → Tenant) : (d.modTenant t f).adm = d.adm := rfl
@[simp] theorem modTenant_vols (d : Dev) (t : Nat) (f : Tenant → Tenant) : (d.modTenant t f).vols = d.vols := rfl
@[simp] theorem modTenant_vgens (d : Dev) (t : Nat) (f : Tenant → Tenant) : (d.modTenant t f).vgens = d.vgens := rfl
@[simp] theorem modTenant_crecs (d : Dev) (t : Nat) (f : Tenant → Tenant) : (d.modTenant t f).crecs = d.crecs := rfl
@[simp] theorem modTenant_index (d : Dev) (t : Nat) (f : Tenant → Tenant) : (d.modTenant t f).index = d.index := rfl
@[simp] theorem modTenant_sessions (d : Dev) (t : Nat) (f : Tenant → Tenant) : (d.modTenant t f).sessions = d.sessions := rfl
@[simp] theorem modTenant_batches (d : Dev) (t : Nat) (f : Tenant → Tenant) : (d.modTenant t f).batches = d.batches := rfl
@[simp] theorem modTenant_groups (d : Dev) (t : Nat) (f : Tenant → Tenant) : (d.modTenant t f).groups = d.groups := rfl
@[simp] theorem modTenant_rows (d : Dev) (t : Nat) (f : Tenant → Tenant) : (d.modTenant t f).rows = d.rows := rfl
@[simp] theorem modTenant_overlay (d : Dev) (t : Nat) (f : Tenant → Tenant) : (d.modTenant t f).overlay = d.overlay := rfl
@[simp] theorem modTenant_journal (d : Dev) (t : Nat) (f : Tenant → Tenant) : (d.modTenant t f).journal = d.journal := rfl
@[simp] theorem modTenant_jpages (d : Dev) (t : Nat) (f : Tenant → Tenant) : (d.modTenant t f).jpages = d.jpages := rfl
@[simp] theorem modTenant_parityWork (d : Dev) (t : Nat) (f : Tenant → Tenant) : (d.modTenant t f).parityWork = d.parityWork := rfl
@[simp] theorem modTenant_nextJseq (d : Dev) (t : Nat) (f : Tenant → Tenant) : (d.modTenant t f).nextJseq = d.nextJseq := rfl
@[simp] theorem modTenant_ckpt (d : Dev) (t : Nat) (f : Tenant → Tenant) : (d.modTenant t f).ckpt = d.ckpt := rfl
@[simp] theorem modTenant_sysFrags (d : Dev) (t : Nat) (f : Tenant → Tenant) : (d.modTenant t f).sysFrags = d.sysFrags := rfl
@[simp] theorem modTenant_ports (d : Dev) (t : Nat) (f : Tenant → Tenant) : (d.modTenant t f).ports = d.ports := rfl
@[simp] theorem modTenant_dies (d : Dev) (t : Nat) (f : Tenant → Tenant) : (d.modTenant t f).dies = d.dies := rfl
@[simp] theorem modTenant_flash (d : Dev) (t : Nat) (f : Tenant → Tenant) : (d.modTenant t f).flash = d.flash := rfl
@[simp] theorem modTenant_levels (d : Dev) (t : Nat) (f : Tenant → Tenant) : (d.modTenant t f).levels = d.levels := rfl
@[simp] theorem modTenant_profiles (d : Dev) (t : Nat) (f : Tenant → Tenant) : (d.modTenant t f).profiles = d.profiles := rfl
@[simp] theorem modTenant_savedTraining (d : Dev) (t : Nat) (f : Tenant → Tenant) : (d.modTenant t f).savedTraining = d.savedTraining := rfl
@[simp] theorem modTenant_dumping (d : Dev) (t : Nat) (f : Tenant → Tenant) : (d.modTenant t f).dumping = d.dumping := rfl
@[simp] theorem modTenant_folded (d : Dev) (t : Nat) (f : Tenant → Tenant) : (d.modTenant t f).folded = d.folded := rfl
@[simp] theorem modTenant_freads (d : Dev) (t : Nat) (f : Tenant → Tenant) : (d.modTenant t f).freads = d.freads := rfl
@[simp] theorem modTenant_nextRead (d : Dev) (t : Nat) (f : Tenant → Tenant) : (d.modTenant t f).nextRead = d.nextRead := rfl
@[simp] theorem modTenant_offsets (d : Dev) (t : Nat) (f : Tenant → Tenant) : (d.modTenant t f).offsets = d.offsets := rfl
@[simp] theorem modTenant_learnedAt (d : Dev) (t : Nat) (f : Tenant → Tenant) : (d.modTenant t f).learnedAt = d.learnedAt := rfl
@[simp] theorem modTenant_engines (d : Dev) (t : Nat) (f : Tenant → Tenant) : (d.modTenant t f).engines = d.engines := rfl
@[simp] theorem modTenant_ciphers (d : Dev) (t : Nat) (f : Tenant → Tenant) : (d.modTenant t f).ciphers = d.ciphers := rfl
@[simp] theorem modTenant_digests (d : Dev) (t : Nat) (f : Tenant → Tenant) : (d.modTenant t f).digests = d.digests := rfl
@[simp] theorem modTenant_nextOrder (d : Dev) (t : Nat) (f : Tenant → Tenant) : (d.modTenant t f).nextOrder = d.nextOrder := rfl
@[simp] theorem modTenant_outOfService (d : Dev) (t : Nat) (f : Tenant → Tenant) : (d.modTenant t f).outOfService = d.outOfService := rfl
@[simp] theorem modTenant_ldpc (d : Dev) (t : Nat) (f : Tenant → Tenant) : (d.modTenant t f).ldpc = d.ldpc := rfl
@[simp] theorem modTenant_masks (d : Dev) (t : Nat) (f : Tenant → Tenant) : (d.modTenant t f).masks = d.masks := rfl
@[simp] theorem modTenant_progs (d : Dev) (t : Nat) (f : Tenant → Tenant) : (d.modTenant t f).progs = d.progs := rfl
@[simp] theorem modTenant_progGens (d : Dev) (t : Nat) (f : Tenant → Tenant) : (d.modTenant t f).progGens = d.progGens := rfl
@[simp] theorem modTenant_bindings (d : Dev) (t : Nat) (f : Tenant → Tenant) : (d.modTenant t f).bindings = d.bindings := rfl
@[simp] theorem modTenant_cores (d : Dev) (t : Nat) (f : Tenant → Tenant) : (d.modTenant t f).cores = d.cores := rfl
@[simp] theorem modTenant_sched (d : Dev) (t : Nat) (f : Tenant → Tenant) : (d.modTenant t f).sched = d.sched := rfl
@[simp] theorem modTenant_stencil (d : Dev) (t : Nat) (f : Tenant → Tenant) : (d.modTenant t f).stencil = d.stencil := rfl
@[simp] theorem modTenant_peer (d : Dev) (t : Nat) (f : Tenant → Tenant) : (d.modTenant t f).peer = d.peer := rfl
@[simp] theorem modTenant_sec (d : Dev) (t : Nat) (f : Tenant → Tenant) : (d.modTenant t f).sec = d.sec := rfl
@[simp] theorem modTenant_tmem (d : Dev) (t : Nat) (f : Tenant → Tenant) : (d.modTenant t f).tmem = d.tmem := rfl
@[simp] theorem modTenant_dram (d : Dev) (t : Nat) (f : Tenant → Tenant) : (d.modTenant t f).dram = d.dram := rfl
@[simp] theorem modTenant_power (d : Dev) (t : Nat) (f : Tenant → Tenant) : (d.modTenant t f).power = d.power := rfl
@[simp] theorem modTenant_thermal (d : Dev) (t : Nat) (f : Tenant → Tenant) : (d.modTenant t f).thermal = d.thermal := rfl
@[simp] theorem modTenant_boot (d : Dev) (t : Nat) (f : Tenant → Tenant) : (d.modTenant t f).boot = d.boot := rfl
@[simp] theorem modTenant_life (d : Dev) (t : Nat) (f : Tenant → Tenant) : (d.modTenant t f).life = d.life := rfl
@[simp] theorem modTenant_pins (d : Dev) (t : Nat) (f : Tenant → Tenant) : (d.modTenant t f).pins = d.pins := rfl

/-! ### modQueue -/

@[simp] theorem modQueue_now (d : Dev) (k : Nat) (f : Queue → Queue) : (d.modQueue k f).now = d.now := rfl
@[simp] theorem modQueue_draws (d : Dev) (k : Nat) (f : Queue → Queue) : (d.modQueue k f).draws = d.draws := rfl
@[simp] theorem modQueue_out (d : Dev) (k : Nat) (f : Queue → Queue) : (d.modQueue k f).out = d.out := rfl
@[simp] theorem modQueue_regs (d : Dev) (k : Nat) (f : Queue → Queue) : (d.modQueue k f).regs = d.regs := rfl
@[simp] theorem modQueue_latches (d : Dev) (k : Nat) (f : Queue → Queue) : (d.modQueue k f).latches = d.latches := rfl
@[simp] theorem modQueue_tenants (d : Dev) (k : Nat) (f : Queue → Queue) : (d.modQueue k f).tenants = d.tenants := rfl
@[simp] theorem modQueue_queues (d : Dev) (k : Nat) (f : Queue → Queue) : (d.modQueue k f).queues = tmod d.queues k f := rfl
@[simp] theorem modQueue_cmds (d : Dev) (k : Nat) (f : Queue → Queue) : (d.modQueue k f).cmds = d.cmds := rfl
@[simp] theorem modQueue_nextCmd (d : Dev) (k : Nat) (f : Queue → Queue) : (d.modQueue k f).nextCmd = d.nextCmd := rfl
@[simp] theorem modQueue_pools (d : Dev) (k : Nat) (f : Queue → Queue) : (d.modQueue k f).pools = d.pools := rfl
@[simp] theorem modQueue_hands (d : Dev) (k : Nat) (f : Queue → Queue) : (d.modQueue k f).hands = d.hands := rfl
@[simp] theorem modQueue_xfers (d : Dev) (k : Nat) (f : Queue → Queue) : (d.modQueue k f).xfers = d.xfers := rfl
@[simp] theorem modQueue_nextXfer (d : Dev) (k : Nat) (f : Queue → Queue) : (d.modQueue k f).nextXfer = d.nextXfer := rfl
@[simp] theorem modQueue_eth (d : Dev) (k : Nat) (f : Queue → Queue) : (d.modQueue k f).eth = d.eth := rfl
@[simp] theorem modQueue_time (d : Dev) (k : Nat) (f : Queue → Queue) : (d.modQueue k f).time = d.time := rfl
@[simp] theorem modQueue_evt (d : Dev) (k : Nat) (f : Queue → Queue) : (d.modQueue k f).evt = d.evt := rfl
@[simp] theorem modQueue_streams (d : Dev) (k : Nat) (f : Queue → Queue) : (d.modQueue k f).streams = d.streams := rfl
@[simp] theorem modQueue_adm (d : Dev) (k : Nat) (f : Queue → Queue) : (d.modQueue k f).adm = d.adm := rfl
@[simp] theorem modQueue_vols (d : Dev) (k : Nat) (f : Queue → Queue) : (d.modQueue k f).vols = d.vols := rfl
@[simp] theorem modQueue_vgens (d : Dev) (k : Nat) (f : Queue → Queue) : (d.modQueue k f).vgens = d.vgens := rfl
@[simp] theorem modQueue_crecs (d : Dev) (k : Nat) (f : Queue → Queue) : (d.modQueue k f).crecs = d.crecs := rfl
@[simp] theorem modQueue_index (d : Dev) (k : Nat) (f : Queue → Queue) : (d.modQueue k f).index = d.index := rfl
@[simp] theorem modQueue_sessions (d : Dev) (k : Nat) (f : Queue → Queue) : (d.modQueue k f).sessions = d.sessions := rfl
@[simp] theorem modQueue_batches (d : Dev) (k : Nat) (f : Queue → Queue) : (d.modQueue k f).batches = d.batches := rfl
@[simp] theorem modQueue_groups (d : Dev) (k : Nat) (f : Queue → Queue) : (d.modQueue k f).groups = d.groups := rfl
@[simp] theorem modQueue_rows (d : Dev) (k : Nat) (f : Queue → Queue) : (d.modQueue k f).rows = d.rows := rfl
@[simp] theorem modQueue_overlay (d : Dev) (k : Nat) (f : Queue → Queue) : (d.modQueue k f).overlay = d.overlay := rfl
@[simp] theorem modQueue_journal (d : Dev) (k : Nat) (f : Queue → Queue) : (d.modQueue k f).journal = d.journal := rfl
@[simp] theorem modQueue_jpages (d : Dev) (k : Nat) (f : Queue → Queue) : (d.modQueue k f).jpages = d.jpages := rfl
@[simp] theorem modQueue_parityWork (d : Dev) (k : Nat) (f : Queue → Queue) : (d.modQueue k f).parityWork = d.parityWork := rfl
@[simp] theorem modQueue_nextJseq (d : Dev) (k : Nat) (f : Queue → Queue) : (d.modQueue k f).nextJseq = d.nextJseq := rfl
@[simp] theorem modQueue_ckpt (d : Dev) (k : Nat) (f : Queue → Queue) : (d.modQueue k f).ckpt = d.ckpt := rfl
@[simp] theorem modQueue_sysFrags (d : Dev) (k : Nat) (f : Queue → Queue) : (d.modQueue k f).sysFrags = d.sysFrags := rfl
@[simp] theorem modQueue_ports (d : Dev) (k : Nat) (f : Queue → Queue) : (d.modQueue k f).ports = d.ports := rfl
@[simp] theorem modQueue_dies (d : Dev) (k : Nat) (f : Queue → Queue) : (d.modQueue k f).dies = d.dies := rfl
@[simp] theorem modQueue_flash (d : Dev) (k : Nat) (f : Queue → Queue) : (d.modQueue k f).flash = d.flash := rfl
@[simp] theorem modQueue_levels (d : Dev) (k : Nat) (f : Queue → Queue) : (d.modQueue k f).levels = d.levels := rfl
@[simp] theorem modQueue_profiles (d : Dev) (k : Nat) (f : Queue → Queue) : (d.modQueue k f).profiles = d.profiles := rfl
@[simp] theorem modQueue_savedTraining (d : Dev) (k : Nat) (f : Queue → Queue) : (d.modQueue k f).savedTraining = d.savedTraining := rfl
@[simp] theorem modQueue_dumping (d : Dev) (k : Nat) (f : Queue → Queue) : (d.modQueue k f).dumping = d.dumping := rfl
@[simp] theorem modQueue_folded (d : Dev) (k : Nat) (f : Queue → Queue) : (d.modQueue k f).folded = d.folded := rfl
@[simp] theorem modQueue_freads (d : Dev) (k : Nat) (f : Queue → Queue) : (d.modQueue k f).freads = d.freads := rfl
@[simp] theorem modQueue_nextRead (d : Dev) (k : Nat) (f : Queue → Queue) : (d.modQueue k f).nextRead = d.nextRead := rfl
@[simp] theorem modQueue_offsets (d : Dev) (k : Nat) (f : Queue → Queue) : (d.modQueue k f).offsets = d.offsets := rfl
@[simp] theorem modQueue_learnedAt (d : Dev) (k : Nat) (f : Queue → Queue) : (d.modQueue k f).learnedAt = d.learnedAt := rfl
@[simp] theorem modQueue_engines (d : Dev) (k : Nat) (f : Queue → Queue) : (d.modQueue k f).engines = d.engines := rfl
@[simp] theorem modQueue_ciphers (d : Dev) (k : Nat) (f : Queue → Queue) : (d.modQueue k f).ciphers = d.ciphers := rfl
@[simp] theorem modQueue_digests (d : Dev) (k : Nat) (f : Queue → Queue) : (d.modQueue k f).digests = d.digests := rfl
@[simp] theorem modQueue_nextOrder (d : Dev) (k : Nat) (f : Queue → Queue) : (d.modQueue k f).nextOrder = d.nextOrder := rfl
@[simp] theorem modQueue_outOfService (d : Dev) (k : Nat) (f : Queue → Queue) : (d.modQueue k f).outOfService = d.outOfService := rfl
@[simp] theorem modQueue_ldpc (d : Dev) (k : Nat) (f : Queue → Queue) : (d.modQueue k f).ldpc = d.ldpc := rfl
@[simp] theorem modQueue_masks (d : Dev) (k : Nat) (f : Queue → Queue) : (d.modQueue k f).masks = d.masks := rfl
@[simp] theorem modQueue_progs (d : Dev) (k : Nat) (f : Queue → Queue) : (d.modQueue k f).progs = d.progs := rfl
@[simp] theorem modQueue_progGens (d : Dev) (k : Nat) (f : Queue → Queue) : (d.modQueue k f).progGens = d.progGens := rfl
@[simp] theorem modQueue_bindings (d : Dev) (k : Nat) (f : Queue → Queue) : (d.modQueue k f).bindings = d.bindings := rfl
@[simp] theorem modQueue_cores (d : Dev) (k : Nat) (f : Queue → Queue) : (d.modQueue k f).cores = d.cores := rfl
@[simp] theorem modQueue_sched (d : Dev) (k : Nat) (f : Queue → Queue) : (d.modQueue k f).sched = d.sched := rfl
@[simp] theorem modQueue_stencil (d : Dev) (k : Nat) (f : Queue → Queue) : (d.modQueue k f).stencil = d.stencil := rfl
@[simp] theorem modQueue_peer (d : Dev) (k : Nat) (f : Queue → Queue) : (d.modQueue k f).peer = d.peer := rfl
@[simp] theorem modQueue_sec (d : Dev) (k : Nat) (f : Queue → Queue) : (d.modQueue k f).sec = d.sec := rfl
@[simp] theorem modQueue_tmem (d : Dev) (k : Nat) (f : Queue → Queue) : (d.modQueue k f).tmem = d.tmem := rfl
@[simp] theorem modQueue_dram (d : Dev) (k : Nat) (f : Queue → Queue) : (d.modQueue k f).dram = d.dram := rfl
@[simp] theorem modQueue_power (d : Dev) (k : Nat) (f : Queue → Queue) : (d.modQueue k f).power = d.power := rfl
@[simp] theorem modQueue_thermal (d : Dev) (k : Nat) (f : Queue → Queue) : (d.modQueue k f).thermal = d.thermal := rfl
@[simp] theorem modQueue_boot (d : Dev) (k : Nat) (f : Queue → Queue) : (d.modQueue k f).boot = d.boot := rfl
@[simp] theorem modQueue_life (d : Dev) (k : Nat) (f : Queue → Queue) : (d.modQueue k f).life = d.life := rfl
@[simp] theorem modQueue_pins (d : Dev) (k : Nat) (f : Queue → Queue) : (d.modQueue k f).pins = d.pins := rfl

/-! ### modCmd -/

@[simp] theorem modCmd_now (d : Dev) (id : Nat) (f : Cmd → Cmd) : (d.modCmd id f).now = d.now := rfl
@[simp] theorem modCmd_draws (d : Dev) (id : Nat) (f : Cmd → Cmd) : (d.modCmd id f).draws = d.draws := rfl
@[simp] theorem modCmd_out (d : Dev) (id : Nat) (f : Cmd → Cmd) : (d.modCmd id f).out = d.out := rfl
@[simp] theorem modCmd_regs (d : Dev) (id : Nat) (f : Cmd → Cmd) : (d.modCmd id f).regs = d.regs := rfl
@[simp] theorem modCmd_latches (d : Dev) (id : Nat) (f : Cmd → Cmd) : (d.modCmd id f).latches = d.latches := rfl
@[simp] theorem modCmd_tenants (d : Dev) (id : Nat) (f : Cmd → Cmd) : (d.modCmd id f).tenants = d.tenants := rfl
@[simp] theorem modCmd_queues (d : Dev) (id : Nat) (f : Cmd → Cmd) : (d.modCmd id f).queues = d.queues := rfl
@[simp] theorem modCmd_cmds (d : Dev) (id : Nat) (f : Cmd → Cmd) : (d.modCmd id f).cmds = tmod d.cmds id f := rfl
@[simp] theorem modCmd_nextCmd (d : Dev) (id : Nat) (f : Cmd → Cmd) : (d.modCmd id f).nextCmd = d.nextCmd := rfl
@[simp] theorem modCmd_pools (d : Dev) (id : Nat) (f : Cmd → Cmd) : (d.modCmd id f).pools = d.pools := rfl
@[simp] theorem modCmd_hands (d : Dev) (id : Nat) (f : Cmd → Cmd) : (d.modCmd id f).hands = d.hands := rfl
@[simp] theorem modCmd_xfers (d : Dev) (id : Nat) (f : Cmd → Cmd) : (d.modCmd id f).xfers = d.xfers := rfl
@[simp] theorem modCmd_nextXfer (d : Dev) (id : Nat) (f : Cmd → Cmd) : (d.modCmd id f).nextXfer = d.nextXfer := rfl
@[simp] theorem modCmd_eth (d : Dev) (id : Nat) (f : Cmd → Cmd) : (d.modCmd id f).eth = d.eth := rfl
@[simp] theorem modCmd_time (d : Dev) (id : Nat) (f : Cmd → Cmd) : (d.modCmd id f).time = d.time := rfl
@[simp] theorem modCmd_evt (d : Dev) (id : Nat) (f : Cmd → Cmd) : (d.modCmd id f).evt = d.evt := rfl
@[simp] theorem modCmd_streams (d : Dev) (id : Nat) (f : Cmd → Cmd) : (d.modCmd id f).streams = d.streams := rfl
@[simp] theorem modCmd_adm (d : Dev) (id : Nat) (f : Cmd → Cmd) : (d.modCmd id f).adm = d.adm := rfl
@[simp] theorem modCmd_vols (d : Dev) (id : Nat) (f : Cmd → Cmd) : (d.modCmd id f).vols = d.vols := rfl
@[simp] theorem modCmd_vgens (d : Dev) (id : Nat) (f : Cmd → Cmd) : (d.modCmd id f).vgens = d.vgens := rfl
@[simp] theorem modCmd_crecs (d : Dev) (id : Nat) (f : Cmd → Cmd) : (d.modCmd id f).crecs = d.crecs := rfl
@[simp] theorem modCmd_index (d : Dev) (id : Nat) (f : Cmd → Cmd) : (d.modCmd id f).index = d.index := rfl
@[simp] theorem modCmd_sessions (d : Dev) (id : Nat) (f : Cmd → Cmd) : (d.modCmd id f).sessions = d.sessions := rfl
@[simp] theorem modCmd_batches (d : Dev) (id : Nat) (f : Cmd → Cmd) : (d.modCmd id f).batches = d.batches := rfl
@[simp] theorem modCmd_groups (d : Dev) (id : Nat) (f : Cmd → Cmd) : (d.modCmd id f).groups = d.groups := rfl
@[simp] theorem modCmd_rows (d : Dev) (id : Nat) (f : Cmd → Cmd) : (d.modCmd id f).rows = d.rows := rfl
@[simp] theorem modCmd_overlay (d : Dev) (id : Nat) (f : Cmd → Cmd) : (d.modCmd id f).overlay = d.overlay := rfl
@[simp] theorem modCmd_journal (d : Dev) (id : Nat) (f : Cmd → Cmd) : (d.modCmd id f).journal = d.journal := rfl
@[simp] theorem modCmd_jpages (d : Dev) (id : Nat) (f : Cmd → Cmd) : (d.modCmd id f).jpages = d.jpages := rfl
@[simp] theorem modCmd_parityWork (d : Dev) (id : Nat) (f : Cmd → Cmd) : (d.modCmd id f).parityWork = d.parityWork := rfl
@[simp] theorem modCmd_nextJseq (d : Dev) (id : Nat) (f : Cmd → Cmd) : (d.modCmd id f).nextJseq = d.nextJseq := rfl
@[simp] theorem modCmd_ckpt (d : Dev) (id : Nat) (f : Cmd → Cmd) : (d.modCmd id f).ckpt = d.ckpt := rfl
@[simp] theorem modCmd_sysFrags (d : Dev) (id : Nat) (f : Cmd → Cmd) : (d.modCmd id f).sysFrags = d.sysFrags := rfl
@[simp] theorem modCmd_ports (d : Dev) (id : Nat) (f : Cmd → Cmd) : (d.modCmd id f).ports = d.ports := rfl
@[simp] theorem modCmd_dies (d : Dev) (id : Nat) (f : Cmd → Cmd) : (d.modCmd id f).dies = d.dies := rfl
@[simp] theorem modCmd_flash (d : Dev) (id : Nat) (f : Cmd → Cmd) : (d.modCmd id f).flash = d.flash := rfl
@[simp] theorem modCmd_levels (d : Dev) (id : Nat) (f : Cmd → Cmd) : (d.modCmd id f).levels = d.levels := rfl
@[simp] theorem modCmd_profiles (d : Dev) (id : Nat) (f : Cmd → Cmd) : (d.modCmd id f).profiles = d.profiles := rfl
@[simp] theorem modCmd_savedTraining (d : Dev) (id : Nat) (f : Cmd → Cmd) : (d.modCmd id f).savedTraining = d.savedTraining := rfl
@[simp] theorem modCmd_dumping (d : Dev) (id : Nat) (f : Cmd → Cmd) : (d.modCmd id f).dumping = d.dumping := rfl
@[simp] theorem modCmd_folded (d : Dev) (id : Nat) (f : Cmd → Cmd) : (d.modCmd id f).folded = d.folded := rfl
@[simp] theorem modCmd_freads (d : Dev) (id : Nat) (f : Cmd → Cmd) : (d.modCmd id f).freads = d.freads := rfl
@[simp] theorem modCmd_nextRead (d : Dev) (id : Nat) (f : Cmd → Cmd) : (d.modCmd id f).nextRead = d.nextRead := rfl
@[simp] theorem modCmd_offsets (d : Dev) (id : Nat) (f : Cmd → Cmd) : (d.modCmd id f).offsets = d.offsets := rfl
@[simp] theorem modCmd_learnedAt (d : Dev) (id : Nat) (f : Cmd → Cmd) : (d.modCmd id f).learnedAt = d.learnedAt := rfl
@[simp] theorem modCmd_engines (d : Dev) (id : Nat) (f : Cmd → Cmd) : (d.modCmd id f).engines = d.engines := rfl
@[simp] theorem modCmd_ciphers (d : Dev) (id : Nat) (f : Cmd → Cmd) : (d.modCmd id f).ciphers = d.ciphers := rfl
@[simp] theorem modCmd_digests (d : Dev) (id : Nat) (f : Cmd → Cmd) : (d.modCmd id f).digests = d.digests := rfl
@[simp] theorem modCmd_nextOrder (d : Dev) (id : Nat) (f : Cmd → Cmd) : (d.modCmd id f).nextOrder = d.nextOrder := rfl
@[simp] theorem modCmd_outOfService (d : Dev) (id : Nat) (f : Cmd → Cmd) : (d.modCmd id f).outOfService = d.outOfService := rfl
@[simp] theorem modCmd_ldpc (d : Dev) (id : Nat) (f : Cmd → Cmd) : (d.modCmd id f).ldpc = d.ldpc := rfl
@[simp] theorem modCmd_masks (d : Dev) (id : Nat) (f : Cmd → Cmd) : (d.modCmd id f).masks = d.masks := rfl
@[simp] theorem modCmd_progs (d : Dev) (id : Nat) (f : Cmd → Cmd) : (d.modCmd id f).progs = d.progs := rfl
@[simp] theorem modCmd_progGens (d : Dev) (id : Nat) (f : Cmd → Cmd) : (d.modCmd id f).progGens = d.progGens := rfl
@[simp] theorem modCmd_bindings (d : Dev) (id : Nat) (f : Cmd → Cmd) : (d.modCmd id f).bindings = d.bindings := rfl
@[simp] theorem modCmd_cores (d : Dev) (id : Nat) (f : Cmd → Cmd) : (d.modCmd id f).cores = d.cores := rfl
@[simp] theorem modCmd_sched (d : Dev) (id : Nat) (f : Cmd → Cmd) : (d.modCmd id f).sched = d.sched := rfl
@[simp] theorem modCmd_stencil (d : Dev) (id : Nat) (f : Cmd → Cmd) : (d.modCmd id f).stencil = d.stencil := rfl
@[simp] theorem modCmd_peer (d : Dev) (id : Nat) (f : Cmd → Cmd) : (d.modCmd id f).peer = d.peer := rfl
@[simp] theorem modCmd_sec (d : Dev) (id : Nat) (f : Cmd → Cmd) : (d.modCmd id f).sec = d.sec := rfl
@[simp] theorem modCmd_tmem (d : Dev) (id : Nat) (f : Cmd → Cmd) : (d.modCmd id f).tmem = d.tmem := rfl
@[simp] theorem modCmd_dram (d : Dev) (id : Nat) (f : Cmd → Cmd) : (d.modCmd id f).dram = d.dram := rfl
@[simp] theorem modCmd_power (d : Dev) (id : Nat) (f : Cmd → Cmd) : (d.modCmd id f).power = d.power := rfl
@[simp] theorem modCmd_thermal (d : Dev) (id : Nat) (f : Cmd → Cmd) : (d.modCmd id f).thermal = d.thermal := rfl
@[simp] theorem modCmd_boot (d : Dev) (id : Nat) (f : Cmd → Cmd) : (d.modCmd id f).boot = d.boot := rfl
@[simp] theorem modCmd_life (d : Dev) (id : Nat) (f : Cmd → Cmd) : (d.modCmd id f).life = d.life := rfl
@[simp] theorem modCmd_pins (d : Dev) (id : Nat) (f : Cmd → Cmd) : (d.modCmd id f).pins = d.pins := rfl

/-! ### modVol -/

@[simp] theorem modVol_now (d : Dev) (v : Nat) (f : Vol → Vol) : (d.modVol v f).now = d.now := rfl
@[simp] theorem modVol_draws (d : Dev) (v : Nat) (f : Vol → Vol) : (d.modVol v f).draws = d.draws := rfl
@[simp] theorem modVol_out (d : Dev) (v : Nat) (f : Vol → Vol) : (d.modVol v f).out = d.out := rfl
@[simp] theorem modVol_regs (d : Dev) (v : Nat) (f : Vol → Vol) : (d.modVol v f).regs = d.regs := rfl
@[simp] theorem modVol_latches (d : Dev) (v : Nat) (f : Vol → Vol) : (d.modVol v f).latches = d.latches := rfl
@[simp] theorem modVol_tenants (d : Dev) (v : Nat) (f : Vol → Vol) : (d.modVol v f).tenants = d.tenants := rfl
@[simp] theorem modVol_queues (d : Dev) (v : Nat) (f : Vol → Vol) : (d.modVol v f).queues = d.queues := rfl
@[simp] theorem modVol_cmds (d : Dev) (v : Nat) (f : Vol → Vol) : (d.modVol v f).cmds = d.cmds := rfl
@[simp] theorem modVol_nextCmd (d : Dev) (v : Nat) (f : Vol → Vol) : (d.modVol v f).nextCmd = d.nextCmd := rfl
@[simp] theorem modVol_pools (d : Dev) (v : Nat) (f : Vol → Vol) : (d.modVol v f).pools = d.pools := rfl
@[simp] theorem modVol_hands (d : Dev) (v : Nat) (f : Vol → Vol) : (d.modVol v f).hands = d.hands := rfl
@[simp] theorem modVol_xfers (d : Dev) (v : Nat) (f : Vol → Vol) : (d.modVol v f).xfers = d.xfers := rfl
@[simp] theorem modVol_nextXfer (d : Dev) (v : Nat) (f : Vol → Vol) : (d.modVol v f).nextXfer = d.nextXfer := rfl
@[simp] theorem modVol_eth (d : Dev) (v : Nat) (f : Vol → Vol) : (d.modVol v f).eth = d.eth := rfl
@[simp] theorem modVol_time (d : Dev) (v : Nat) (f : Vol → Vol) : (d.modVol v f).time = d.time := rfl
@[simp] theorem modVol_evt (d : Dev) (v : Nat) (f : Vol → Vol) : (d.modVol v f).evt = d.evt := rfl
@[simp] theorem modVol_streams (d : Dev) (v : Nat) (f : Vol → Vol) : (d.modVol v f).streams = d.streams := rfl
@[simp] theorem modVol_adm (d : Dev) (v : Nat) (f : Vol → Vol) : (d.modVol v f).adm = d.adm := rfl
@[simp] theorem modVol_vols (d : Dev) (v : Nat) (f : Vol → Vol) : (d.modVol v f).vols = tmod d.vols v f := rfl
@[simp] theorem modVol_vgens (d : Dev) (v : Nat) (f : Vol → Vol) : (d.modVol v f).vgens = d.vgens := rfl
@[simp] theorem modVol_crecs (d : Dev) (v : Nat) (f : Vol → Vol) : (d.modVol v f).crecs = d.crecs := rfl
@[simp] theorem modVol_index (d : Dev) (v : Nat) (f : Vol → Vol) : (d.modVol v f).index = d.index := rfl
@[simp] theorem modVol_sessions (d : Dev) (v : Nat) (f : Vol → Vol) : (d.modVol v f).sessions = d.sessions := rfl
@[simp] theorem modVol_batches (d : Dev) (v : Nat) (f : Vol → Vol) : (d.modVol v f).batches = d.batches := rfl
@[simp] theorem modVol_groups (d : Dev) (v : Nat) (f : Vol → Vol) : (d.modVol v f).groups = d.groups := rfl
@[simp] theorem modVol_rows (d : Dev) (v : Nat) (f : Vol → Vol) : (d.modVol v f).rows = d.rows := rfl
@[simp] theorem modVol_overlay (d : Dev) (v : Nat) (f : Vol → Vol) : (d.modVol v f).overlay = d.overlay := rfl
@[simp] theorem modVol_journal (d : Dev) (v : Nat) (f : Vol → Vol) : (d.modVol v f).journal = d.journal := rfl
@[simp] theorem modVol_jpages (d : Dev) (v : Nat) (f : Vol → Vol) : (d.modVol v f).jpages = d.jpages := rfl
@[simp] theorem modVol_parityWork (d : Dev) (v : Nat) (f : Vol → Vol) : (d.modVol v f).parityWork = d.parityWork := rfl
@[simp] theorem modVol_nextJseq (d : Dev) (v : Nat) (f : Vol → Vol) : (d.modVol v f).nextJseq = d.nextJseq := rfl
@[simp] theorem modVol_ckpt (d : Dev) (v : Nat) (f : Vol → Vol) : (d.modVol v f).ckpt = d.ckpt := rfl
@[simp] theorem modVol_sysFrags (d : Dev) (v : Nat) (f : Vol → Vol) : (d.modVol v f).sysFrags = d.sysFrags := rfl
@[simp] theorem modVol_ports (d : Dev) (v : Nat) (f : Vol → Vol) : (d.modVol v f).ports = d.ports := rfl
@[simp] theorem modVol_dies (d : Dev) (v : Nat) (f : Vol → Vol) : (d.modVol v f).dies = d.dies := rfl
@[simp] theorem modVol_flash (d : Dev) (v : Nat) (f : Vol → Vol) : (d.modVol v f).flash = d.flash := rfl
@[simp] theorem modVol_levels (d : Dev) (v : Nat) (f : Vol → Vol) : (d.modVol v f).levels = d.levels := rfl
@[simp] theorem modVol_profiles (d : Dev) (v : Nat) (f : Vol → Vol) : (d.modVol v f).profiles = d.profiles := rfl
@[simp] theorem modVol_savedTraining (d : Dev) (v : Nat) (f : Vol → Vol) : (d.modVol v f).savedTraining = d.savedTraining := rfl
@[simp] theorem modVol_dumping (d : Dev) (v : Nat) (f : Vol → Vol) : (d.modVol v f).dumping = d.dumping := rfl
@[simp] theorem modVol_folded (d : Dev) (v : Nat) (f : Vol → Vol) : (d.modVol v f).folded = d.folded := rfl
@[simp] theorem modVol_freads (d : Dev) (v : Nat) (f : Vol → Vol) : (d.modVol v f).freads = d.freads := rfl
@[simp] theorem modVol_nextRead (d : Dev) (v : Nat) (f : Vol → Vol) : (d.modVol v f).nextRead = d.nextRead := rfl
@[simp] theorem modVol_offsets (d : Dev) (v : Nat) (f : Vol → Vol) : (d.modVol v f).offsets = d.offsets := rfl
@[simp] theorem modVol_learnedAt (d : Dev) (v : Nat) (f : Vol → Vol) : (d.modVol v f).learnedAt = d.learnedAt := rfl
@[simp] theorem modVol_engines (d : Dev) (v : Nat) (f : Vol → Vol) : (d.modVol v f).engines = d.engines := rfl
@[simp] theorem modVol_ciphers (d : Dev) (v : Nat) (f : Vol → Vol) : (d.modVol v f).ciphers = d.ciphers := rfl
@[simp] theorem modVol_digests (d : Dev) (v : Nat) (f : Vol → Vol) : (d.modVol v f).digests = d.digests := rfl
@[simp] theorem modVol_nextOrder (d : Dev) (v : Nat) (f : Vol → Vol) : (d.modVol v f).nextOrder = d.nextOrder := rfl
@[simp] theorem modVol_outOfService (d : Dev) (v : Nat) (f : Vol → Vol) : (d.modVol v f).outOfService = d.outOfService := rfl
@[simp] theorem modVol_ldpc (d : Dev) (v : Nat) (f : Vol → Vol) : (d.modVol v f).ldpc = d.ldpc := rfl
@[simp] theorem modVol_masks (d : Dev) (v : Nat) (f : Vol → Vol) : (d.modVol v f).masks = d.masks := rfl
@[simp] theorem modVol_progs (d : Dev) (v : Nat) (f : Vol → Vol) : (d.modVol v f).progs = d.progs := rfl
@[simp] theorem modVol_progGens (d : Dev) (v : Nat) (f : Vol → Vol) : (d.modVol v f).progGens = d.progGens := rfl
@[simp] theorem modVol_bindings (d : Dev) (v : Nat) (f : Vol → Vol) : (d.modVol v f).bindings = d.bindings := rfl
@[simp] theorem modVol_cores (d : Dev) (v : Nat) (f : Vol → Vol) : (d.modVol v f).cores = d.cores := rfl
@[simp] theorem modVol_sched (d : Dev) (v : Nat) (f : Vol → Vol) : (d.modVol v f).sched = d.sched := rfl
@[simp] theorem modVol_stencil (d : Dev) (v : Nat) (f : Vol → Vol) : (d.modVol v f).stencil = d.stencil := rfl
@[simp] theorem modVol_peer (d : Dev) (v : Nat) (f : Vol → Vol) : (d.modVol v f).peer = d.peer := rfl
@[simp] theorem modVol_sec (d : Dev) (v : Nat) (f : Vol → Vol) : (d.modVol v f).sec = d.sec := rfl
@[simp] theorem modVol_tmem (d : Dev) (v : Nat) (f : Vol → Vol) : (d.modVol v f).tmem = d.tmem := rfl
@[simp] theorem modVol_dram (d : Dev) (v : Nat) (f : Vol → Vol) : (d.modVol v f).dram = d.dram := rfl
@[simp] theorem modVol_power (d : Dev) (v : Nat) (f : Vol → Vol) : (d.modVol v f).power = d.power := rfl
@[simp] theorem modVol_thermal (d : Dev) (v : Nat) (f : Vol → Vol) : (d.modVol v f).thermal = d.thermal := rfl
@[simp] theorem modVol_boot (d : Dev) (v : Nat) (f : Vol → Vol) : (d.modVol v f).boot = d.boot := rfl
@[simp] theorem modVol_life (d : Dev) (v : Nat) (f : Vol → Vol) : (d.modVol v f).life = d.life := rfl
@[simp] theorem modVol_pins (d : Dev) (v : Nat) (f : Vol → Vol) : (d.modVol v f).pins = d.pins := rfl

/-! ### modGroup -/

@[simp] theorem modGroup_now (d : Dev) (g : Nat) (f : Group → Group) : (d.modGroup g f).now = d.now := rfl
@[simp] theorem modGroup_draws (d : Dev) (g : Nat) (f : Group → Group) : (d.modGroup g f).draws = d.draws := rfl
@[simp] theorem modGroup_out (d : Dev) (g : Nat) (f : Group → Group) : (d.modGroup g f).out = d.out := rfl
@[simp] theorem modGroup_regs (d : Dev) (g : Nat) (f : Group → Group) : (d.modGroup g f).regs = d.regs := rfl
@[simp] theorem modGroup_latches (d : Dev) (g : Nat) (f : Group → Group) : (d.modGroup g f).latches = d.latches := rfl
@[simp] theorem modGroup_tenants (d : Dev) (g : Nat) (f : Group → Group) : (d.modGroup g f).tenants = d.tenants := rfl
@[simp] theorem modGroup_queues (d : Dev) (g : Nat) (f : Group → Group) : (d.modGroup g f).queues = d.queues := rfl
@[simp] theorem modGroup_cmds (d : Dev) (g : Nat) (f : Group → Group) : (d.modGroup g f).cmds = d.cmds := rfl
@[simp] theorem modGroup_nextCmd (d : Dev) (g : Nat) (f : Group → Group) : (d.modGroup g f).nextCmd = d.nextCmd := rfl
@[simp] theorem modGroup_pools (d : Dev) (g : Nat) (f : Group → Group) : (d.modGroup g f).pools = d.pools := rfl
@[simp] theorem modGroup_hands (d : Dev) (g : Nat) (f : Group → Group) : (d.modGroup g f).hands = d.hands := rfl
@[simp] theorem modGroup_xfers (d : Dev) (g : Nat) (f : Group → Group) : (d.modGroup g f).xfers = d.xfers := rfl
@[simp] theorem modGroup_nextXfer (d : Dev) (g : Nat) (f : Group → Group) : (d.modGroup g f).nextXfer = d.nextXfer := rfl
@[simp] theorem modGroup_eth (d : Dev) (g : Nat) (f : Group → Group) : (d.modGroup g f).eth = d.eth := rfl
@[simp] theorem modGroup_time (d : Dev) (g : Nat) (f : Group → Group) : (d.modGroup g f).time = d.time := rfl
@[simp] theorem modGroup_evt (d : Dev) (g : Nat) (f : Group → Group) : (d.modGroup g f).evt = d.evt := rfl
@[simp] theorem modGroup_streams (d : Dev) (g : Nat) (f : Group → Group) : (d.modGroup g f).streams = d.streams := rfl
@[simp] theorem modGroup_adm (d : Dev) (g : Nat) (f : Group → Group) : (d.modGroup g f).adm = d.adm := rfl
@[simp] theorem modGroup_vols (d : Dev) (g : Nat) (f : Group → Group) : (d.modGroup g f).vols = d.vols := rfl
@[simp] theorem modGroup_vgens (d : Dev) (g : Nat) (f : Group → Group) : (d.modGroup g f).vgens = d.vgens := rfl
@[simp] theorem modGroup_crecs (d : Dev) (g : Nat) (f : Group → Group) : (d.modGroup g f).crecs = d.crecs := rfl
@[simp] theorem modGroup_index (d : Dev) (g : Nat) (f : Group → Group) : (d.modGroup g f).index = d.index := rfl
@[simp] theorem modGroup_sessions (d : Dev) (g : Nat) (f : Group → Group) : (d.modGroup g f).sessions = d.sessions := rfl
@[simp] theorem modGroup_batches (d : Dev) (g : Nat) (f : Group → Group) : (d.modGroup g f).batches = d.batches := rfl
@[simp] theorem modGroup_groups (d : Dev) (g : Nat) (f : Group → Group) : (d.modGroup g f).groups = tmod d.groups g f := rfl
@[simp] theorem modGroup_rows (d : Dev) (g : Nat) (f : Group → Group) : (d.modGroup g f).rows = d.rows := rfl
@[simp] theorem modGroup_overlay (d : Dev) (g : Nat) (f : Group → Group) : (d.modGroup g f).overlay = d.overlay := rfl
@[simp] theorem modGroup_journal (d : Dev) (g : Nat) (f : Group → Group) : (d.modGroup g f).journal = d.journal := rfl
@[simp] theorem modGroup_jpages (d : Dev) (g : Nat) (f : Group → Group) : (d.modGroup g f).jpages = d.jpages := rfl
@[simp] theorem modGroup_parityWork (d : Dev) (g : Nat) (f : Group → Group) : (d.modGroup g f).parityWork = d.parityWork := rfl
@[simp] theorem modGroup_nextJseq (d : Dev) (g : Nat) (f : Group → Group) : (d.modGroup g f).nextJseq = d.nextJseq := rfl
@[simp] theorem modGroup_ckpt (d : Dev) (g : Nat) (f : Group → Group) : (d.modGroup g f).ckpt = d.ckpt := rfl
@[simp] theorem modGroup_sysFrags (d : Dev) (g : Nat) (f : Group → Group) : (d.modGroup g f).sysFrags = d.sysFrags := rfl
@[simp] theorem modGroup_ports (d : Dev) (g : Nat) (f : Group → Group) : (d.modGroup g f).ports = d.ports := rfl
@[simp] theorem modGroup_dies (d : Dev) (g : Nat) (f : Group → Group) : (d.modGroup g f).dies = d.dies := rfl
@[simp] theorem modGroup_flash (d : Dev) (g : Nat) (f : Group → Group) : (d.modGroup g f).flash = d.flash := rfl
@[simp] theorem modGroup_levels (d : Dev) (g : Nat) (f : Group → Group) : (d.modGroup g f).levels = d.levels := rfl
@[simp] theorem modGroup_profiles (d : Dev) (g : Nat) (f : Group → Group) : (d.modGroup g f).profiles = d.profiles := rfl
@[simp] theorem modGroup_savedTraining (d : Dev) (g : Nat) (f : Group → Group) : (d.modGroup g f).savedTraining = d.savedTraining := rfl
@[simp] theorem modGroup_dumping (d : Dev) (g : Nat) (f : Group → Group) : (d.modGroup g f).dumping = d.dumping := rfl
@[simp] theorem modGroup_folded (d : Dev) (g : Nat) (f : Group → Group) : (d.modGroup g f).folded = d.folded := rfl
@[simp] theorem modGroup_freads (d : Dev) (g : Nat) (f : Group → Group) : (d.modGroup g f).freads = d.freads := rfl
@[simp] theorem modGroup_nextRead (d : Dev) (g : Nat) (f : Group → Group) : (d.modGroup g f).nextRead = d.nextRead := rfl
@[simp] theorem modGroup_offsets (d : Dev) (g : Nat) (f : Group → Group) : (d.modGroup g f).offsets = d.offsets := rfl
@[simp] theorem modGroup_learnedAt (d : Dev) (g : Nat) (f : Group → Group) : (d.modGroup g f).learnedAt = d.learnedAt := rfl
@[simp] theorem modGroup_engines (d : Dev) (g : Nat) (f : Group → Group) : (d.modGroup g f).engines = d.engines := rfl
@[simp] theorem modGroup_ciphers (d : Dev) (g : Nat) (f : Group → Group) : (d.modGroup g f).ciphers = d.ciphers := rfl
@[simp] theorem modGroup_digests (d : Dev) (g : Nat) (f : Group → Group) : (d.modGroup g f).digests = d.digests := rfl
@[simp] theorem modGroup_nextOrder (d : Dev) (g : Nat) (f : Group → Group) : (d.modGroup g f).nextOrder = d.nextOrder := rfl
@[simp] theorem modGroup_outOfService (d : Dev) (g : Nat) (f : Group → Group) : (d.modGroup g f).outOfService = d.outOfService := rfl
@[simp] theorem modGroup_ldpc (d : Dev) (g : Nat) (f : Group → Group) : (d.modGroup g f).ldpc = d.ldpc := rfl
@[simp] theorem modGroup_masks (d : Dev) (g : Nat) (f : Group → Group) : (d.modGroup g f).masks = d.masks := rfl
@[simp] theorem modGroup_progs (d : Dev) (g : Nat) (f : Group → Group) : (d.modGroup g f).progs = d.progs := rfl
@[simp] theorem modGroup_progGens (d : Dev) (g : Nat) (f : Group → Group) : (d.modGroup g f).progGens = d.progGens := rfl
@[simp] theorem modGroup_bindings (d : Dev) (g : Nat) (f : Group → Group) : (d.modGroup g f).bindings = d.bindings := rfl
@[simp] theorem modGroup_cores (d : Dev) (g : Nat) (f : Group → Group) : (d.modGroup g f).cores = d.cores := rfl
@[simp] theorem modGroup_sched (d : Dev) (g : Nat) (f : Group → Group) : (d.modGroup g f).sched = d.sched := rfl
@[simp] theorem modGroup_stencil (d : Dev) (g : Nat) (f : Group → Group) : (d.modGroup g f).stencil = d.stencil := rfl
@[simp] theorem modGroup_peer (d : Dev) (g : Nat) (f : Group → Group) : (d.modGroup g f).peer = d.peer := rfl
@[simp] theorem modGroup_sec (d : Dev) (g : Nat) (f : Group → Group) : (d.modGroup g f).sec = d.sec := rfl
@[simp] theorem modGroup_tmem (d : Dev) (g : Nat) (f : Group → Group) : (d.modGroup g f).tmem = d.tmem := rfl
@[simp] theorem modGroup_dram (d : Dev) (g : Nat) (f : Group → Group) : (d.modGroup g f).dram = d.dram := rfl
@[simp] theorem modGroup_power (d : Dev) (g : Nat) (f : Group → Group) : (d.modGroup g f).power = d.power := rfl
@[simp] theorem modGroup_thermal (d : Dev) (g : Nat) (f : Group → Group) : (d.modGroup g f).thermal = d.thermal := rfl
@[simp] theorem modGroup_boot (d : Dev) (g : Nat) (f : Group → Group) : (d.modGroup g f).boot = d.boot := rfl
@[simp] theorem modGroup_life (d : Dev) (g : Nat) (f : Group → Group) : (d.modGroup g f).life = d.life := rfl
@[simp] theorem modGroup_pins (d : Dev) (g : Nat) (f : Group → Group) : (d.modGroup g f).pins = d.pins := rfl

end Sys2Proof.Machine
end

