-- ==== Sys2Proof/Tests/Slice0.lean ====
section
/-! SUPPORT. Tests: ill-formed commands that WellFormed refuses, single steps on small states with results worked out from the spec, and
witnesses that the hypotheses of the statements can be met. -/

namespace Sys2Proof.Tests

set_option Elab.async false

open Sys2Proof Sys2Proof.Machine Sys2Proof.Claims

/-! ### Small states -/

/-- The management port's sender. -/
def mgmtNet : Net := { qpn := 2, port := 16, mac := 0x020000000001, vlan := none, pcp := 0, ce := false, ip := .v4 0x0A000001 }

/-- Tenant 0 when it is ON. -/
def mgmtTenant : Tenant := { Tenant.fresh 0 0 with life := .on, groups := [] }

/-- Queue 0 of tenant 0, bound to queue pair 2. -/
def mgmtQueue : Queue :=
  { depth := 64, qpn := some 2, failed := false, nextSeq := 0, hcrcErr := 0, seqErr := 0, tags := [], held := [], oldSeq := 0, deferredNew := 0, overflowNew := false }

/-- The part running, with the management port's queue pair up and bound. -/
def mgmtDev : Dev :=
  { Dev.reset with
    boot := { Boot.reset with phase := .running }
    tenants := [(0, mgmtTenant)]
    queues := [(0, mgmtQueue)]
    eth := { Dev.reset.eth with qps := [(2, { Qp.fresh 16 1000 0 mgmtNet false with up := true, use := .queue 0 })] } }

/-- A frame on that queue with no operand set. -/
def mgmtMsg : Msg :=
  { net := mgmtNet, flags := 0, queue := 0, tag := 7, seq := 0, volume := 0, lba := 0, length := 0, dcount := 0, stream := 0, param := 0, descs := [], inl := [] }

/-- A state that holds a part and no waiting command. -/
def at_ (d : Dev) : State := { pending := [], dev := d }

/-- What a step on command i leaves of the part. -/
def after (i : Instr) (d : Dev) : Dev :=
  match exec i (at_ d) with
  | .next t => t.dev
  | _ => d

end Sys2Proof.Tests

namespace Sys2Proof.Tests

set_option Elab.async false

open Sys2Proof Sys2Proof.Machine Sys2Proof.Claims

/-! ### WellFormed refuses (one ill-formed term for each check) -/

/-- A link frame's header. -/
def hdr : LinkHdr := { seq := 0, counter := 0, newkey := false, tagOk := true }

/-- A frame with DCOUNT 2 and no descriptor. -/
def badMsg : Msg := { mgmtMsg with dcount := 2 }

/-- A frame with DCOUNT 17 and two descriptors, and one with more inline data than a frame holds. -/
theorem test_wf_frame : badMsg.wf = false ∧ Msg.wf { mgmtMsg with dcount := 17, descs := [] } = false ∧
    Msg.wf { mgmtMsg with inl := List.replicate 8193 0 } = false := by decide +kernel

theorem test_wf_opcodes : ([(.tombstoneFrame · 0), (.receiverNotReady · 0), (.unclassified · 0), (.spoofDrop · 0), (.opcodeInvalid · 0), .nop, .read, .write, .writeZeroes, .discard,
      .strip, .flush, .abort, .getDeferred, .volCreate, .volDelete, .volResize, .volQuery, .snapCreate, .snapDelete,
      .cloneCreate, .replOpen, .replClose, .replRekey, .streamOpen, .streamClose, .streamQuery, .queryTime, .loadProgram, .unloadProgram,
      .bindProgram, .unbindProgram, .scan, .patternLoad, .certGet, .keyInstall, .cryptoErase, .attest, .keyPolicySet, .ownerEnrol,
      .debugUnlock, .winRead, .winWrite, .tenantCreate, .tenantBind, .tenantShares, .queueBind, .queueDelete, .enableTenant, .quiesceTenant,
      .resetTenant, .removeTenant, .migrationLog, .regRead, .regWrite, .fwStage, .fwActivate, .powerState, .eventRead, .thermalAck,
      .echo, .katRun, .tmemScrub, (.ledgerTest · 0), (.coreRetire · 0), (.histClear · 0), (.selftestNow · 0), (.flpRetrainForce · 0), (.fwConfirm · 0), (.groupRehome · 0),
      (.groupCreate · 0), (.groupDissolve · 0), (.groupResume · 0), (.groupRebuild · 0), (.tenBsel · 0), (.tenBctlWrite · 0), (.stnLookup · 0), (.lookupStep · 0), (.stnBankAssign · 0), (.hotBanks · 0),
      (.handback · 0), (.acceptNew · 0), (.peerCtlRekey · 0), (.paceReload · 0), (.timeSet · 0), (.timeCtlLock · 0), (.ethCtlLock · 0), (.tmemCtlLock · 0), (.pwrRailLock · 0), (.pwrAuxLock · 0),
      (.thmCfgLock · 0), (.ethGcfgWrite · 0), (.addrWrite · 0), (.cmConnect · 0), (.tmemClaim · 0), (.tmemTestWrite · 0), (.tmemTestRead · 0), (.tmemInject · 0), (.tmemRelease · 0), (.scrubStart · 0),
      (.measExtend · 0), .digMeasDataRead, .loReadLatch] : List (Msg → Instr)).all (fun f => !(f badMsg).wf) = true := by decide +kernel

theorem test_wf_cores : ([.selftest 136 false, .alu 136 0 0 0 0 0, .addi 136 0 0 0 0, .andi 136 0 0 0 0, .ori 136 0 0 0 0, .xori 136 0 0 0 0,
      .shli 136 0 0 0 0, .shri 136 0 0 0 0, .srai 136 0 0 0 0, .movz 136 0 0 0, .movk1 136 0 0 0, .movk2 136 0 0 0, .movk3 136 0 0 0,
      .cmp 136 0 0 0 0 0, .cmpi 136 0 0 0 0 0, .pset 136 0 0 0 0 0 false false, .ld8u 136 0 0 0 0 0, .ld16u 136 0 0 0 0 0,
      .ld32u 136 0 0 0 0 0, .ld64 136 0 0 0 0 0, .ld8s 136 0 0 0 0 0, .ld16s 136 0 0 0 0 0, .ld32s 136 0 0 0 0 0, .st8 136 0 0 0 0 0,
      .st16 136 0 0 0 0 0, .st32 136 0 0 0 0 0, .st64 136 0 0 0 0 0, .amoadd 136 0 0 0 0 0, .amoswap 136 0 0 0 0 0, .amocas 136 0 0 0 0 0,
      .tintFence 136 0, .segn 136 0 0 0 0 0 0, .seglen 136 0 0 0, .br 136 0 0, .call 136 0 0, .ret 136 0, .jr 136 0 0, .callr 136 0 0,
      .rpop 136 0 0, .rpush 136 0 0, .rsd 136 0 0, .ecallSha256 136 0, .ecallHmac 136 0, .ecallDecomp 136 0, .ecallStencil 136 0,
      .ecallNow 136 0, .tintEnd 136 0, .tintDelay 136 0 0, .tintTrap 136 0 0] : List Instr).all (fun i => !i.wf) = true := by
  decide +kernel

theorem test_wf_rest0 : ([.bufferGrant 5, .ackTimeout 16777216, .rnrNak 16777216 0, .rnrNak 0 32, .rnrRetry 16777216, .queuePairFailure 16777216,
      .taskCreate 0 0 ⟨4, none⟩, .operandToken 0 0 4 ⟨0, none⟩, .coreDispatch 136, .delayWake 136, .coreStall 136,
      .compressionDescriptor (.desc 0x10000000), .compressionResult 16, .cipherDescriptor (.desc 0x10000000),
      .digestDescriptor (.desc 0x10000000), .contextSave true 64 0, .laneYield true 64, .laneMessageEnd true 64, .maskReseed 4,
      .maskDrbgLimit 4, .rowPadded 256 0, .journalProgramDone 2048, .programComplete 256 0, .programFail 256 0 0, .programFail 0 0 26,
      .eraseComplete 256 0 0 false, .eraseComplete 0 0 26 false, .waitRdyTimeout 2048, .flashReadDone 0 256 [], .ldpcDecode 0 256 none] : List Instr).all (fun i => !i.wf) = true := by
  decide +kernel

theorem test_wf_rest1 : ([.retraining 64, .trainingDone 64 { delays := [], vref := [], margins := [] }, .portgntHigh 64 [], .grantLost 64, .askTimeout 64, .leavingDone 64, .vccqSample 64 0,
      .guardRelease 64, .secondCoat 256, .scrape 256, .segmentErase 256 0, .wearLevelling 2048, .sandingPass 2048 0, .mapFault 5 0,
      .memberFault 256 0, .memberFault 0 26, .rebuild 256, .cloneFill 32768, .snapMerge 32768 0, .snapMerge 0 1024, .epochCompaction 32768,
      .replCycle 64, .cycleFail 64, .atRiskClear 65535, .drainEnd 1024, .mirrorData hdr 256 0 [], .mirrorMaplog hdr 256 0 [], .laneFail 17,
      .wake 5, .paceSample 4 [] 0 0] : List Instr).all (fun i => !i.wf) = true := by
  decide +kernel

theorem test_wf_rest2 : ([.regulatorFault 8 false, .sensorSample 32 0 false, .thermtripComparator 32, .groupDown 4, .unboundTimeout 16777216, .badFrame 17,
      .arpRequest 17 (.v4 0), .icmpEcho 17 (.v4 0), .neighbourDiscovery 17 (.v4 0), .congestionNotification 16777216,
      .rateIncrease 16777216, .priorityPause 17 0 0, .priorityPause 0 8 0, .patrolScrub 8 0 0, .dramUncorrectable 8 0 .firmware,
      .dramRetrain 8 0, .refresh 8, .rowActivationLimit 8 0 0 none, .rowActivationLimit 0 16 0 none, .tileCopyDone 512,
      .cardStatusSend 16777216, .hostLinkChange 17 false, .connectTimeout 16777216, .sendAcknowledged 16777216, .sequenceErrorNak 16777216,
      .stencilBankCleared 16, .jtagAccess 16, .paceSample 0 [] 0 0] : List Instr).all (fun i => !i.wf) = true := by
  decide +kernel

end Sys2Proof.Tests

namespace Sys2Proof.Tests

set_option Elab.async false

open Sys2Proof Sys2Proof.Machine Sys2Proof.Claims

/-! ### Worked examples of the spec, and test vectors of the standards it names -/

/-- Chapter 10, coding a short message: ABABABA codes to 41 84 04 1C 08 10 in five codes. -/
theorem test_coding : lzwCode [0x41, 0x42, 0x41, 0x42, 0x41, 0x42, 0x41] = ([0x41, 0x84, 0x04, 0x1C, 0x08, 0x10], 5) := by decide +kernel

/-- The same example decoded under LIMIT 7 and EXPECT 7. -/
theorem test_decoding : lzwDecode 7 7 [0x41, 0x84, 0x04, 0x1C, 0x08, 0x10] = (.done, [0x41, 0x42, 0x41, 0x42, 0x41, 0x42, 0x41], 5) := by decide +kernel

/-- Chapter 8, two units lost from one row: P is 0x00 and Q is 0x09. -/
theorem test_parity : parityP [[1], [2], [3]] = [0x00] ∧ parityQ [[1], [2], [3]] = [0x09] := by decide +kernel

/-- Chapter 17, leaves across a power loss: SPENT 4,201, SKIPPED 919, NEXT_LEAF 5,120. -/
theorem test_leaves : LeafRec.recover { resEnd := 5120, spent := 3900, skipped := 196, bits := 301 } =
    ({ resEnd := 5120, spent := 4201, skipped := 919, bits := 0 }, 5120) := by decide +kernel

/-- An entry of the stencil example: KEY and MASK as given. -/
def pattern (k m : Nat) : SEntry := { key := BitVec.ofNat 256 k, mask := BitVec.ofNat 256 m, result := 0 }

/-- Chapter 14, a pattern search: tenant 40 owns bank 9. -/
def searchDev : Dev :=
  { Dev.reset with
    stencil := { Stencil.reset with
      entries := [(36876, pattern 0x12345679 0xFFFFFFFF), (36901, pattern 0x00345678 0x00FFFFFF), (36964, pattern 0x5678 0xFFFF),
        (37114, pattern 0x12345600 0xFFFFFF00), (37164, pattern 0x12000000 0xFF000000)]
      banks := modAt Stencil.reset.banks 9 fun _ => { kind := 3, tenant := 40, next := none } }
    regs := RegFile.setFld (RegFile.setFld [] ⟨0x2C0100, 0, 32⟩ 0x12345678) ⟨0x2C0120, 0, 16⟩ 0x200 }

/-- The example's ECALL STENCIL: r1 is 36,901, r2 bits 31:0 are 0x0004_0063. -/
theorem test_stencil_call : (searchDev.stencilCall 40 0x12345678).1 = 36901 ∧ (searchDev.stencilCall 40 0x12345678).2 % 2 ^ 32 = 0x00040063 := by
  decide +kernel

/-- The example's STEP order from the winner: 250, 100, 300, then END. -/
theorem test_stencil_steps : searchDev.lookup.stencil.cursor = some (24, 36901) ∧ searchDev.lookup.lookStep.stencil.cursor = some (24, 37114) ∧
    searchDev.lookup.lookStep.lookStep.stencil.cursor = some (16, 36964) ∧
    searchDev.lookup.lookStep.lookStep.lookStep.stencil.cursor = some (8, 37164) ∧
    searchDev.lookup.lookStep.lookStep.lookStep.isSet STN_LOOK_RES_END = false ∧
    searchDev.lookup.lookStep.lookStep.lookStep.lookStep.isSet STN_LOOK_RES_END = true := by decide +kernel

/-- CRC-32C's check value over the digits 1 to 9 (RFC 3720). -/
theorem test_crc32c : crc32c [0x31, 0x32, 0x33, 0x34, 0x35, 0x36, 0x37, 0x38, 0x39] = 0xE3069283 := by decide +kernel

/-- SHA-256 of the text abc (FIPS 180-4 example), its first eight bytes. -/
theorem test_sha256 : (sha256 [0x61, 0x62, 0x63]).take 8 = [0xba, 0x78, 0x16, 0xbf, 0x8f, 0x01, 0xcf, 0xea] := by decide +kernel

/-- The S-box (FIPS 197, Figure 7) and MixColumns (a published column). -/
theorem test_aes_parts : sbox 0x53 = 0xED ∧ sboxInv 0xED = 0x53 ∧
    (mixWith 2 3 1 1 ([0xdb, 0x13, 0x53, 0x45] ++ zeros 12)).take 4 = [0x8e, 0x4d, 0xa1, 0xbc] := by decide +kernel

/-! ### Frames of the manager -/

/-- NOP completes SUCCESS, its status queued behind nothing (R137). -/
theorem test_nop : ((after (.nop mgmtMsg) mgmtDev).cmds.map fun e => (e.2.stage, e.2.sent)) = [(.done, false)] ∧
    ((tget (after (.nop mgmtMsg) mgmtDev).eth.qps 2).map fun p => p.queued.length) = some 1 := by decide +kernel

/-- A frame whose SEQ is not the expected one consumes the expected one (R68). -/
theorem test_sequence : ((tget (after (.nop { mgmtMsg with seq := 5 }) mgmtDev).queues 0).map fun q => (q.nextSeq, q.seqErr)) = some (1, 1) := by
  decide +kernel

/-- RESET_N and straps: a frame before the boot has no effect. -/
theorem test_not_booted : after (.nop mgmtMsg) { mgmtDev with boot := Boot.reset } = { mgmtDev with boot := Boot.reset } := by decide +kernel

/-- A step takes the front of the queue; on an empty queue the clock goes on. -/
theorem test_idle : (match step State.reset with | .next t => t.dev.now | _ => 0) = 1 := by decide +kernel

end Sys2Proof.Tests

namespace Sys2Proof.Tests

set_option Elab.async false

open Sys2Proof Sys2Proof.Machine Sys2Proof.Claims

/-! ### Witnesses: frames that pass -/

/-- The queue that a frame reaches. -/
def queueOf (m : Msg) (d : Dev) : Option (Nat × Queue × Tenant) :=
  match d.doorOf m with
  | .queue k false =>
    match tget (woken m d).queues k, tget (woken m d).tenants (k / 16) with
    | some q, some t => some (k, q, t)
    | _, _ => none
  | _ => none

/-- Whether a frame reaches check 9, as `Reaches` says. -/
def reachesB (op : Op) (m : Msg) (k : Nat) (q : Queue) (t : Tenant) (d : Dev) : Bool :=
  !frameTruncated m && decide (m.seq.toNat = q.nextSeq) && decide (m.queue.toNat = k % 16) && decide (t.life = .on) &&
    (!op.manager || decide (k / 16 = 0)) &&
    !(taken m k q d).tagBusy k m.tag.toNat &&
    (!(taken m k q d).fenced || decide (op = .regRead) || decide (op = .eventRead))

/-- Whether a frame passes, as `Passes` says. -/
def passesB (op : Op) (m : Msg) (k : Nat) (q : Queue) (t : Tenant) (d : Dev) : Bool :=
  reachesB op m k q t d && ((taken m k q d).check (idOf m k q d) (recordOf op m k q t d)).isNone && !(recordOf op m k q t d).short &&
    (match tget (filed op m k q t d).cmds (idOf m k q d) with
      | some c => decide (c.stage = .gate) && decide ((filed op m k q t d).gateWhy (idOf m k q d) c = .none)
      | none => false) &&
    (match tget ((filed op m k q t d).takeShare (idOf m k q d)).cmds (idOf m k q d) with
      | some c => decide (c.op = op) && decide (c.msg = m) &&
        (if op.usesV then ((filed op m k q t d).takeShare (idOf m k q d)).badHandle c.tenant m.volume.toNat else none).isNone &&
        (((filed op m k q t d).takeShare (idOf m k q d)).gateCode c).isNone && decide (m.dcount.toNat ≤ 16)
      | none => false)

/-- A frame of opcode op that passes on part d, its command's record being as `ok` asks. -/
def Met (op : Op) (m : Msg) (d : Dev) (ok : Dev → Nat → Cmd → Bool) : Bool :=
  match queueOf m d with
  | some (k, q, t) =>
    passesB op m k q t d &&
      match tget (passed op m k q t d).cmds (idOf m k q d) with
      | some c => ok (passed op m k q t d) (idOf m k q d) c
      | none => false
  | none => false

/-- A frame of opcode op that reaches check 13 on part d, its command being as `ok` asks. -/
def Turned (op : Op) (m : Msg) (d : Dev) (ok : Dev → Cmd → Bool) : Bool :=
  match queueOf m d with
  | some (k, q, t) =>
    let a := taken m k q d
    let c := recordOf op m k q t d
    reachesB op m k q t d && (!op.usesV || (a.badHandle c.tenant m.volume.toNat).isNone) && (!op.usesS || a.streamValid c) && c.lengthOk && a.rangeOk c &&
      c.descsOk && !(op.usesV && c.snap.isSome && op.onSnapshot.isSome) && ok a c
  | none => false

theorem queueOf_some {m : Msg} {d : Dev} {x : Nat × Queue × Tenant} (h : queueOf m d = some x) :
    d.doorOf m = .queue x.1 false ∧ tget (woken m d).queues x.1 = some x.2.1 ∧ tget (woken m d).tenants (x.1 / 16) = some x.2.2 := by
  unfold queueOf at h
  split at h
  · split at h
    · cases h; exact ⟨‹_›, ‹_›, ‹_›⟩
    · cases h
  · cases h

theorem reaches_of {op : Op} {m : Msg} {d : Dev} {k : Nat} {q : Queue} {t : Tenant} (h : queueOf m d = some (k, q, t)) (h' : reachesB op m k q t d = true) :
    Reaches op m k q t d := by
  obtain ⟨a, b, c⟩ := queueOf_some h
  simp only [reachesB, Bool.and_eq_true, Bool.or_eq_true, Bool.not_eq_true', decide_eq_true_eq] at h'
  obtain ⟨⟨⟨⟨⟨⟨h1, h2⟩, h3⟩, h4⟩, h5⟩, h6⟩, h7⟩ := h'
  refine ⟨a, b, c, h1, h2, h3, h4, fun ho => ?_, h6, fun hf => ?_⟩
  · rcases h5 with h5 | h5
    · rw [h5] at ho; cases ho
    · exact h5
  · rcases h7 with (h7 | h7) | h7
    · rw [h7] at hf; cases hf
    · exact .inl h7
    · exact .inr h7

/-- What Met says: the hypotheses of a `Runs` statement are met. -/
theorem met_runs {op : Op} {m : Msg} {d : Dev} {ok : Dev → Nat → Cmd → Bool} (h : Met op m d ok = true) :
    ∃ k q t c, Passes op m k q t d ∧ tget (passed op m k q t d).cmds (idOf m k q d) = some c ∧ ok (passed op m k q t d) (idOf m k q d) c = true := by
  unfold Met at h
  split at h
  · rename_i k q t hq
    simp only [Bool.and_eq_true] at h
    obtain ⟨hp, hc⟩ := h
    simp only [passesB, Bool.and_eq_true] at hp
    obtain ⟨⟨⟨⟨hr, h8⟩, h9⟩, h10⟩, h11⟩ := hp
    obtain ⟨r1, r2, r3, r4, r5, r6, r7, r8, r9, r10⟩ := reaches_of hq hr
    split at hc
    · rename_i c htc
      refine ⟨k, q, t, c, ⟨r1, r2, r3, r4, r5, r6, r7, r8, r9, r10, by simpa using h8, by simpa using h9, ?_, ?_⟩, htc, hc⟩
      · split at h10
        · simp only [Bool.and_eq_true, decide_eq_true_eq] at h10
          exact ⟨_, ‹_›, h10.1, h10.2⟩
        · cases h10
      · split at h11
        · simp only [Bool.and_eq_true, decide_eq_true_eq, Option.isNone_iff_eq_none] at h11
          exact ⟨_, ‹_›, h11.1.1.1.1, h11.1.1.1.2, h11.1.1.2, h11.1.2, h11.2⟩
        · cases h11
    · cases hc
  · cases h

/-- What Turned says: the hypotheses of a `TurnedAway` statement are met. -/
theorem met_turned {op : Op} {m : Msg} {d : Dev} {ok : Dev → Cmd → Bool} (h : Turned op m d ok = true) :
    ∃ k q t, Reaches op m k q t d ∧ ok (taken m k q d) (recordOf op m k q t d) = true := by
  unfold Turned at h
  split at h
  · rename_i k q t hq
    simp only [Bool.and_eq_true] at h
    exact ⟨k, q, t, reaches_of hq h.1.1.1.1.1.1.1, h.2⟩
  · cases h

end Sys2Proof.Tests

namespace Sys2Proof.Tests

set_option Elab.async false

open Sys2Proof Sys2Proof.Machine Sys2Proof.Claims

/-! ### A tenant with a volume, keys, streams, a session and a program -/

/-- PARAM with some fields set: offset and value. -/
def par (l : List (Nat × Nat)) : BitVec 192 := BitVec.ofNat 192 (sumN (l.map fun x => x.2 * 2 ^ (8 * (x.1 - 0x28))))

/-- Tenant 1 when it is ON, its MAC and IPv4 address bound. -/
def tenant1 : Tenant := { Tenant.fresh 1 0 with life := .on, groups := [0], bindings := [(0, 0x010000000002), (8, 0x0100000A)], reserve := 30000 }

/-- Group 0 with no segment and no member yet. -/
def group0 : Group :=
  { geometry := 3, cover := false, state := .normal, members := [], jrnA := 0, jrnB := 1, rehoming := false, rebuild := none, lost := 0, committed := 0
    nextLogseq := 1, nextMlseq := 1, segs := [], slots := [], slotGens := [], freed := [], deadSerials := [], nextSerial := 1, reserved := 0
    amber := false, scrapeOn := false }

/-- Snapshot slot 0 of volume 0. -/
def snap0 : Snap := { sgen := 1, epoch := 1, hidden := false, deleting := false, delta := [], reserved := 0 }

/-- Volume 0 of tenant 1: 64 sectors of 4 KiB grains, one snapshot. -/
def vol0 : Vol :=
  { vgen := 1, tenant := 1, group := 0, keydom := 0, grain16 := false, vflags := 0, capacity := 64, epoch := 2, map := [], snaps := [(0, snap0)]
    sgens := [(0, 1)], origin := none, fillTo := 0, filledAhead := [], dying := false, compacting := false, replBase := none }

/-- Volume 1 of tenant 1. -/
def vol1 : Vol := { vol0 with snaps := [], sgens := [] }

/-- Stream 0 on volume 0, of class 1. -/
def stream0 : Strm :=
  { tenant := 1, volume := 0, cls := 1, dropLate := false, rate := 100, deadline := 10000, isOpen := true, tokens := 0, filledAt := 0, overBytes := 0
    bytes := 4096, misses := 2, maxLate := 3, dropped := 0, atRisk := false, clearSince := none, pLat := 0, unindexed := 0, index := [] }

/-- A key record of tenant 1. -/
def key (kind index : Nat) : KeyRec := { rkind := kind, index := index, tenant := 1, gen := 1, t := zeros 32, r := zeros 32 }

/-- A session of tenant 1 on volume 1, the sending end, idle. -/
def sess0 : Sess :=
  { receiver := false, tenant := 1, volume := 1, qpn := 5, keyslot := 0, remote := 7, rate := 100, interval := 1000, state := .idle, peer := 0, full := false
    cycle := 0, base := none, baseCycle := 0, cand := none, nextGrain := 0, records := 0, unacked := [], lastAccepted := none, startedAt := 0
    committedAt := 0, rekeyDue := false, wrote := [], closer := none, fetch := [], outbox := [], sealing := false, sentBytes := 0, endDue := none }

/-- Program 0 of tenant 1: one page, with FILTER, HOOK and SCAN entries. -/
def prog0 : Prog :=
  { tenant := 1, gen := 1, code := zeros 64, init := [], stateLen := 0, stack := 1, outMax := 1, entries := [some 0, some 0, some 0, none]
    wraps := [false, false, false, false], budgets := [1, 1, 1, 1], loaded := true, resident := true, state := [], stateReset := false, traps := 0
    last := { cause := 0, entry := 0, seg := 0, code := 0, pc := 0, off := 0 }, misses := 0 }

/-- The queue pair of tenant 1's queue 0. -/
def tenantQueue : Queue := { mgmtQueue with qpn := some 2 }

/-- A SOLO part with tenant 1 and what it owns; queue pair 4 of a host port is up and unbound. -/
def tenDev : Dev :=
  { mgmtDev with
    regs := RegFile.setFld (RegFile.setFld [] TOP_STRAP_SIDE 3) DRC_SIZE_D_GIB 512
    tenants := [(0, mgmtTenant), (1, tenant1)]
    queues := [(16, tenantQueue)]
    eth := { Dev.reset.eth with
      qps := [(2, { Qp.fresh 16 1000 0 mgmtNet false with up := true, use := .queue 16 }), (4, { Qp.fresh 0 1000 0 mgmtNet false with up := true })] }
    groups := [(0, group0)], vols := [(0, vol0), (1, vol1)], streams := [(0, stream0)], sessions := [(0, sess0)], progs := [(0, prog0)]
    sec := { Sec.reset with keys := [(32, key 1 0), (48, key 2 0), (49, key 2 1)] } }

/-- A frame of tenant 1 on volume 0. -/
def tenMsg : Msg := { mgmtMsg with volume := 0x0000000100000000, stream := 0xFFFF }

/-- A frame of tenant 1 on volume 1, and one on the snapshot of volume 0. -/
def tenMsg1 : Msg := { tenMsg with volume := 0x0000000100000001 }
def snapMsg : Msg := { tenMsg with volume := 0x0001000100008000 }

end Sys2Proof.Tests

namespace Sys2Proof.Tests

set_option Elab.async false
set_option linter.unusedVariables false

open Sys2Proof Sys2Proof.Machine Sys2Proof.Claims

/-! ### Witnesses for the opcodes -/

/-- A descriptor of n bytes. -/
def buf (n : Nat) : Desc := ⟨0, 0, BitVec.ofNat 32 n⟩

/-- A frame of tenant 1 on volume 0 with a buffer of n bytes at an LBA. -/
def data (n lba : Nat) : Msg :=
  { tenMsg with length := BitVec.ofNat 32 n, lba := BitVec.ofNat 64 lba, dcount := 1, descs := [buf n] }

/-- A die profile. -/
def prof0 : Profile :=
  { id := 1, idBytes := [0x2C], pageCrc := 0x1234, maxMode := 8, minMode := 1, blocks := 1000, cwPerPage := 4, pages := 1024, weightQlc := 1, weightSlc := 1
    endurance := 1000, disturbSlc := 1000, disturbQlc := 1000, retention := 1, refresh := 1, spares := 10, slcProgUs := 100, readSlcUs := 25, readQlcUs := 100
    qlcMBs := 32, slcMBs := 100, defaults := [], tc := [], ag := [], lows := [], highs := [], retry := [], af := [], pageBits := 12, blockBits := 11
    pageLevels := [], softStep := 1, trains := [.zq, .readDq, .writeDq], minMargin := 5, odt := none, seqs := [(16, [0xA0000000, 0x70000064])]
    uses := [16, 16, 16, 16, 16, 16], weak := [] }

/-- Port 0, owned, its dies of that profile. -/
def port0 : Port :=
  { enabled := true, own := .owned, askedAt := 0, profile := some prof0, training := false, trainAt := 1, results := none, resetting := [], due := false
    saved := false, trainedAt := 0, trainedTemp := 0
    attempts := 0, codewords := 0, heldAt := 0, reported := false, goodSince := none }

/-- A training whose eight lanes all have the margin that profile asks. -/
def train0 : Training := { delays := [], vref := [], margins := List.replicate 8 5 }

/-- The part of tenant 1 with room for writes in group 0. -/
def roomDev : Dev :=
  { tenDev with
    ports := [(0, port0)]
    groups := [(0, { group0 with members := [{ die := 0, failed := false, target := false, copy := false, jblocks := [] }] })] }

/-- That part with a write under way, its frame the queue's SEQ 0; and with the write done and its status not yet sent. -/
def busyDev : Dev := after (.write (data 4096 0)) roomDev
def doneDev : Dev := { busyDev with cmds := tmod busyDev.cmds 0 fun c => { c with stage := .done } }

/-- Records of command 0 that are not yet placed. -/
def pending0 : Batch :=
  { group := 0, first := 1, recs := [], cmd := some 0, piece := 0, needs := [], linkSeq := none, mirrored := false, placed := false, pieces := 1
    durable := false }

/-- The same, its status sent, its records not yet durable. -/
def sentDev : Dev :=
  { busyDev with
    cmds := tmod busyDev.cmds 0 fun c => { c with stage := .done, sent := true }
    batches := [pending0] }

/-- VOL_CREATE's conditions. -/
def createOkB (d : Dev) (c : Cmd) : Bool :=
  decide (c.tenant = 1) && decide ((tget d.tenants 1).map (·.groups) = some [0]) && decide ((d.group 0).map (·.state) = some .normal) &&
    d.groupInRange 0 && (d.recordAt (keyPlace 1 false 0)).isSome && decide (d.entriesUsed + 64 ≤ d.mapCeil)

/-- REPL_OPEN's conditions. -/
def openOkB (d : Dev) (c : Cmd) (x : Vol) (n : Nat) : Bool :=
  decide (d.vol c.volume = some x) && decide (c.snap = none) && !(d.sessions.any fun e => decide (e.2.volume = c.volume)) && !groupShut d x.group &&
    freeQp d (c.msg.par 0x28 3) && (d.keyAt (keyPlace c.tenant true (c.msg.par 0x2C 2))).isSome &&
    decide ((d.gcmAt (keyPlace c.tenant true (c.msg.par 0x2C 2))).counter < 2 ^ 48 - 1) &&
    d.snapEntries c.volume 2 && decide ((upTo 64).find? (fun i => !thas d.sessions i) = some n)

/-- The part with program 0 bound to volume 0 at FILTER; with bank 9 of tenant 1; with the entropy source ready. -/
def boundDev : Dev :=
  { tenDev with bindings := [{ prog := 0, tenant := 1, volume := 0, stream := none, point := 1, cores := [0], binder := none, since := 0 }] }
def bankDev : Dev :=
  { tenDev with stencil := { Stencil.reset with banks := modAt Stencil.reset.banks 9 fun _ => { kind := 3, tenant := 1, next := none } } }
def entropyDev : Dev := { tenDev with regs := RegFile.setFld [] SEC_STAT_ES_READY 1 }

/-- A tenant in a state of its life, bound. -/
def tenantIn (l : Life) : Tenant := { tenant1 with life := l }

/-- The part as the manager sees it: tenants 1 to 6 in the states of a life, tenant 1's queue 0 bound, queue pair 4 free. -/
def mgrDev : Dev :=
  { mgmtDev with
    regs := RegFile.setFld [] DRC_SIZE_D_GIB 512
    tenants := [(0, mgmtTenant), (1, tenantIn .on), (2, tenantIn .off), (3, tenantIn .draining), (4, tenantIn .quiesced),
      (5, { tenantIn .off with bindings := [] }),
      (6, { tenantIn .on with migr := some { base := 0, length := 8, desc := buf 8, bits := [], issuer := 9 } })]
    queues := [(0, mgmtQueue), (16, { mgmtQueue with qpn := some 5 })]
    eth := { Dev.reset.eth with
      qps := [(2, { Qp.fresh 16 1000 0 mgmtNet false with up := true, use := .queue 0 }), (4, { Qp.fresh 0 1000 0 mgmtNet false with up := true })] } }

/-- A thermal record that waits for its acknowledgement. -/
def trip0 : Shutdown := 
  { rstate := 1, sensor := 14, cause := 0, pstate := 0, tripSet := 944, reading := 944, ondie := [], remote := [], stamp := 0, vcore := 0, trips := 1 }

/-- CERT_GET's items are there, and the key encapsulation key has 1568 bytes. -/
theorem certItem_some (d : Dev) (c : Cmd) (h : c.msg.par 0x28 1 < 4) : ∃ b, certItem d c = some b := by
  have hl : c.msg.par 0x28 1 < [Config.deviceCert, Config.kemCert, padTo 1568 Config.kemPublic, d.sec.ownerCert].length := h
  exact ⟨_, List.getElem?_eq_getElem hl⟩

theorem certItem_kem (d : Dev) (c : Cmd) (h : c.msg.par 0x28 1 = 2) : ∃ b, certItem d c = some b ∧ b.length = 1568 := by
  refine ⟨padTo 1568 Config.kemPublic, by simp [certItem, h], ?_⟩
  simp [padTo, zeros]; omega

/-- Frames that meet the hypotheses of the clauses of this statement. -/
theorem witness_ioOpcodes :
    (Met .nop mgmtMsg mgmtDev fun _ _ _ => true) = true ∧
    (Met .read (data 4096 0) tenDev fun _ _ _ => true) = true ∧
    (Met .write (data 4096 0) roomDev fun _ _ _ => true) = true ∧
    (Met .writeZeroes { tenMsg with length := 262144 } roomDev fun _ _ _ => true) = true ∧
    (Met .discard { tenMsg with length := 4096, lba := 63 } tenDev fun _ _ _ => true) = true ∧
    (Met .strip { tenMsg with length := 4096 } tenDev fun _ _ _ => true) = true ∧
    (Met .flush tenMsg tenDev fun d id c => c.waits.all fun w => (d.modCmd id fun c => { c with hold := .flush }).onMedium w) = true ∧
    (Met .flush { tenMsg with tag := 8, seq := 1 } sentDev fun d id c => !c.waits.all fun w => (d.modCmd id fun c => { c with hold := .flush }).onMedium w) = true ∧
    (Met .abort { tenMsg with tag := 8, seq := 1, volume := 0, param := par [(0x28, 7), (0x2C, 0)] } busyDev fun d id c => (target d id c).any fun e => decide (e.2.stage ≠ .done) && !e.2.committed) = true ∧
    (Met .abort { tenMsg with tag := 8, seq := 1, volume := 0, param := par [(0x28, 7), (0x2C, 0)] } doneDev fun d id c => (target d id c).any fun e => decide (e.2.stage = .done)) = true ∧
    (Met .abort { tenMsg with tag := 8, seq := 1, volume := 0, param := par [(0x28, 7), (0x2C, 0)] } { busyDev with cmds := [] } fun d id c => (target d id c).isNone && knownTarget d c) = true ∧
    (Met .abort { tenMsg with volume := 0, param := par [(0x28, 9), (0x2C, 5)] } tenDev fun d id c => (target d id c).isNone && !knownTarget d c) = true ∧
    (Met .getDeferred { tenMsg with volume := 0, length := 32, dcount := 1, descs := [buf 32] } tenDev fun d _ c => (tget d.tenants c.tenant).isSome) = true ∧
    (Met .discard tenMsg roomDev fun _ _ c => c.grainRange.isEmpty) = true ∧
    (Met .strip tenMsg roomDev fun _ _ c => c.grainRange.isEmpty) = true := by
  decide +kernel

/-- Frames that meet the hypotheses of the clauses of this statement. -/
theorem witness_volumeOpcodes :
    (Met .volCreate { tenMsg with volume := 0, param := par [(0x28, 64), (0x30, 0), (0x32, 0)] } roomDev fun d _ c => createOkB d c && decide (d.freshVol = some 2)) = true ∧
    (Met .volDelete tenMsg1 { tenDev with sessions := [] } fun d _ c => (d.vol c.volume).isSome && !volBusy d c.volume) = true ∧
    (Met .volDelete tenMsg tenDev fun d _ c => (d.vol c.volume).isSome && volBusy d c.volume) = true ∧
    (Met .volResize { tenMsg with param := par [(0x28, 1)] } tenDev fun d _ c => decide (d.vol c.volume = some vol0)) = true ∧
    (Met .volResize { tenMsg with param := par [(0x28, 128)] } tenDev fun d _ c => decide (d.vol c.volume = some vol0) && decide (d.entriesUsed + 64 ≤ d.mapCeil)) = true ∧
    (Met .volQuery { tenMsg with param := par [(0x28, 5)] } tenDev fun d _ c => decide (d.vol c.volume = some vol0)) = true ∧
    (Turned .volQuery { tenMsg with param := par [(0x28, 6)] } tenDev fun d c => decide (d.vol c.volume = some vol0) && decide (6 ≤ c.msg.par 0x28 1)) = true ∧
    (Met .snapDelete snapMsg tenDev fun _ _ c => decide (c.snap = some 0)) = true ∧
    (Turned .snapDelete tenMsg tenDev fun _ c => decide (c.snap = none)) = true := by
  decide +kernel

/-- Frames that meet the hypotheses of the clauses of this statement. -/
theorem witness_snapshotsAndReplicationOpcodes :
    (Met .snapCreate tenMsg tenDev fun d id c => decide (d.vol c.volNo = some vol0) && d.epochFree c.volNo && decide (d.snapsHeld < 131072) && decide (c.num 28 ≠ 1) && decide (d.snapTakes c.volNo (some id) ≤ d.entriesFree + c.num 27) && (d.takeSnap c.volNo false (some id)).isSome) = true ∧
    (Met .snapCreate tenMsg { tenDev with vols := [(0, { vol0 with epoch := 65535, compacting := true })] } fun d _ c => !d.epochFree c.volNo) = true ∧
    (Met .cloneCreate snapMsg tenDev fun d _ c => decide (d.vol c.volNo = some vol0) && !groupShut d 0 && decide (c.slotNo = some 0) && decide (d.freshVol = some 2) && decide (d.entriesUsed + vol0.grains ≤ d.mapCeil)) = true ∧
    (Met .cloneCreate tenMsg tenDev fun d _ c => decide (d.vol c.volNo = some vol0) && decide (c.slotNo = none) && d.epochFree c.volNo && d.snapSlots c.volNo 1 && decide (d.entriesUsed + vol0.grains + d.snapNeed c.volNo ≤ d.mapCeil) && (d.takeSnap c.volNo true none).isSome) = true ∧
    (Met .replOpen { tenMsg with param := par [(0x28, 4), (0x2C, 0), (0x30, 0)] } tenDev fun d _ c => openOkB d c vol0 1 && decide (c.msg.par 0x30 8 = 0)) = true ∧
    (Met .replOpen { tenMsg with param := par [(0x28, 4), (0x2C, 0), (0x30, 9), (0x38, 1), (0x3C, 100)] } tenDev fun d _ c => openOkB d c vol0 1 && decide (c.msg.par 0x30 8 ≠ 0) && d.snapSlots c.volume 2) = true ∧
    (Met .replClose { tenMsg with volume := 0, param := par [(0x28, 0)] } tenDev fun d _ c => decide (tget d.sessions (c.msg.par 0x28 2) = some sess0) && decide (c.tenant = 1)) = true ∧
    (Met .replClose { tenMsg with volume := 0 } { tenDev with sessions := [(0, { sess0 with state := .sending })] } fun d _ c => decide (tget d.sessions (c.msg.par 0x28 2) = some { sess0 with state := .sending })) = true ∧
    (Met .replRekey { tenMsg with volume := 0, param := par [(0x2A, 1)] } tenDev fun d _ c => decide (tget d.sessions (c.msg.par 0x28 2) = some sess0) && (d.keyAt (keyPlace c.tenant true (c.msg.par 0x2A 2))).isSome && decide ((d.gcmAt (keyPlace c.tenant true (c.msg.par 0x2A 2))).counter < 2 ^ 48 - 1)) = true ∧
    (Met .replRekey { tenMsg with volume := 0, param := par [(0x2A, 1)] } { tenDev with sessions := [(0, { sess0 with state := .stopped, receiver := true })] } fun d _ c => decide (tget d.sessions (c.msg.par 0x28 2) = some { sess0 with state := .stopped, receiver := true })) = true ∧
    (Met .replRekey { tenMsg with volume := 0, param := par [(0x2A, 7)] } tenDev fun d _ c => (d.keyAt (keyPlace c.tenant true (c.msg.par 0x2A 2))).isNone) = true := by
  decide +kernel

/-- Frames that meet the hypotheses of the clauses of this statement. -/
theorem witness_streamOpcodes :
    (Met .streamOpen { tenMsg with param := par [(0x28, 1), (0x2C, 1), (0x30, 100)] } tenDev fun d _ c => decide (c.msg.par 0x2C 4 = 1) && decide (c.msg.par 0x30 4 = 100) && decide (d.freshStream = some 1)) = true ∧
    (Met .streamOpen { tenMsg with param := par [(0x28, 2), (0x2C, 190000), (0x30, 10000000)] } tenDev fun d _ c => decide (d.freshStream = some 1) && !admitted d c) = true ∧
    (Turned .streamOpen { tenMsg with param := par [(0x28, 3)] } tenDev fun _ c => decide (2 < c.msg.par 0x28 1)) = true ∧
    (Met .streamClose { tenMsg with stream := 0 } tenDev fun d _ c => decide (tget d.streams c.msg.stream.toNat = some stream0)) = true ∧
    (Met .streamQuery { tenMsg with stream := 0, param := par [(0x28, 5)] } tenDev fun d _ c => decide (tget d.streams c.msg.stream.toNat = some stream0)) = true ∧
    (Turned .streamQuery { tenMsg with stream := 0, param := par [(0x28, 6)] } tenDev fun d c => decide (tget d.streams c.msg.stream.toNat = some stream0)) = true ∧
    (Met .queryTime { data 48 0 with stream := 0, param := par [(0x34, 1)] } tenDev fun d _ c => decide (tget d.issued.streams c.msg.stream.toNat = some stream0) && decide (c.msg.par 0x28 12 < c.msg.par 0x34 12)) = true ∧
    (Turned .queryTime { data 48 0 with stream := 0 } tenDev fun _ c => decide (c.msg.par 0x34 12 ≤ c.msg.par 0x28 12)) = true := by
  decide +kernel

/-- Frames that meet the hypotheses of the clauses of this statement. -/
theorem witness_computeOpcodes :
    (Met .loadProgram { data 64 0 with volume := 0 } tenDev fun _ _ c => !(c.descs.isEmpty && decide (16 < c.msg.dcount.toNat))) = true ∧
    (Met .unloadProgram { tenMsg with volume := 0, param := par [(0x28, 0x10000)] } tenDev fun d _ c => decide (d.progOf c.tenant (c.msg.par 0x28 4) = some 0) && d.bindings.isEmpty && !d.progRuns 0) = true ∧
    (Met .unloadProgram { tenMsg with volume := 0, param := par [(0x28, 0x10000)] } boundDev fun d _ c => decide (d.progOf c.tenant (c.msg.par 0x28 4) = some 0) && d.bindings.any fun b => decide (b.prog = 0) && d.bindingLive b) = true ∧
    (Met .bindProgram { tenMsg with param := par [(0x28, 0x10000), (0x2C, 1), (0x2E, 1)] } tenDev fun d id c => decide ((unbound d id).bindTarget c = some (0, 1)) && !(noteIf (coresClamped c) (unbound d id) id).pointTaken c.volume c.bindStream 1) = true ∧
    (Met .unbindProgram { tenMsg with param := par [(0x2C, 1)] } boundDev fun d _ c => d.bindings.any (boundHere c)) = true ∧
    (Met .scan { data 64 0 with param := par [(0x28, 0x10000), (0x2C, 1), (0x30, 0), (0x38, 64)] } tenDev fun d _ c => decide (d.progOf c.tenant (c.msg.par 0x28 4) = some 0) && decide (d.vol c.volume = some vol0) && hasEntry d 0 2) = true ∧
    (Met .patternLoad { data 160 0 with volume := 0, param := par [(0x28, 36864), (0x2C, 2)] } bankDev fun _ _ _ => true) = true := by
  decide +kernel

/-- Frames that meet the hypotheses of the clauses of this statement. -/
theorem witness_securityOpcodes :
    (Met .certGet { data 16 0 with volume := 0, param := par [(0x28, 3)] } tenDev fun _ _ c => decide (c.msg.par 0x28 1 = 3)) = true ∧
    (Turned .certGet { data 16 0 with volume := 0, param := par [(0x28, 2)] } tenDev fun _ c => decide (c.msg.par 0x28 1 = 2) && decide (c.length < 1568)) = true ∧
    (Met .attest { data 16384 0 with volume := 0 } tenDev fun d _ c => decide (attestLen (c.msg.par 0x38 4 % 8) + 4 + 5716 ≤ c.length) && d.leafReady) = true ∧
    (Met .attest { data 16 0 with volume := 0 } tenDev fun _ _ c => decide (c.length < attestLen (c.msg.par 0x38 4 % 8) + 4 + 5716)) = true ∧
    (Met .keyInstall { data 1632 0 with volume := 0 } tenDev fun _ _ c => !c.descs.isEmpty) = true ∧
    (Turned .cryptoErase { tenMsg with volume := 0, param := par [(0x28, 0)] } entropyDev fun d c => decide (d.erasePlace c = some 32) && d.entropyOk) = true ∧
    (Met .cryptoErase { tenMsg with volume := 0, param := par [(0x28, 0x8001)] } tenDev fun d _ c => decide (d.erasePlace c = some 49) && !d.entropyOk) = true ∧
    (Turned .cryptoErase { tenMsg with volume := 0, param := par [(0x28, 16)] } tenDev fun d c => decide (d.erasePlace c = none)) = true ∧
    (Met .keyPolicySet { mgmtMsg with param := par [(0x28, 1), (0x2A, 0), (0x2C, 17)] } mgrDev fun d _ c => (tget d.tenants (c.msg.par 0x28 2)).isSome) = true ∧
    (Met .keyPolicySet { mgmtMsg with param := par [(0x28, 1), (0x2A, 1), (0x2C, 8)] } mgrDev fun d _ c => (tget d.tenants (c.msg.par 0x28 2)).isSome) = true ∧
    (Met .ownerEnrol { data 76 0 with volume := 0 } mgrDev fun _ _ c => !c.descs.isEmpty) = true ∧
    (Met .debugUnlock { data 64 0 with volume := 0 } mgrDev fun _ _ c => !c.descs.isEmpty) = true := by
  decide +kernel

/-- Frames that meet the hypotheses of the clauses of this statement. -/
theorem witness_tenantOpcodes :
    (Met .tenantCreate { mgmtMsg with param := par [(0x28, 1023)] } mgrDev fun d _ c => decide (tget d.tenants (tenantNo c) = none) && !d.isolated) = true ∧
    (Met .tenantCreate { mgmtMsg with param := par [(0x28, 1)] } mgrDev fun d _ c => (tget d.tenants (tenantNo c)).isSome) = true ∧
    (Met .tenantBind { mgmtMsg with param := par [(0x28, 2), (0x2A, 3), (0x2B, 3), (0x30, 1)] } mgrDev fun d _ c => decide (tget d.tenants (tenantNo c) = some (tenantIn .off))) = true ∧
    (Met .tenantBind { mgmtMsg with param := par [(0x28, 1), (0x2A, 0)] } mgrDev fun d _ c => decide (tget d.tenants (tenantNo c) = some (tenantIn .on))) = true ∧
    (Met .tenantShares { mgmtMsg with param := par [(0x28, 1), (0x2A, 5), (0x30, 4)] } mgrDev fun d _ c => decide (tget d.tenants (tenantNo c) = some (tenantIn .on)) && decide (shareRange (c.msg.par 0x2A 1) = some (0, 3))) = true ∧
    (Turned .tenantShares { mgmtMsg with param := par [(0x28, 1), (0x2A, 6)] } mgrDev fun d c => decide (tget d.tenants (tenantNo c) = some (tenantIn .on))) = true ∧
    (Met .queueBind { mgmtMsg with param := par [(0x28, 1), (0x2A, 15), (0x2C, 4), (0x30, 4096)] } mgrDev fun d _ c => decide (d.queueNamed c = some 31) && !queueServed d 31 && decide (recordsLeft d 31 ≠ 0)) = true ∧
    (Met .queueBind { mgmtMsg with param := par [(0x28, 1), (0x2A, 0), (0x2C, 4), (0x30, 1)] } mgrDev fun d _ c => decide (d.queueNamed c = some 16) && queueServed d 16) = true ∧
    (Met .queueDelete { mgmtMsg with param := par [(0x28, 1), (0x2A, 0)] } mgrDev fun d _ c => decide (d.queueNamed c = some 16) && decide (d.outstanding 16 = 0)) = true ∧
    (Met .queueDelete { mgmtMsg with param := par [(0x28, 1), (0x2A, 0)] } { mgrDev with cmds := busyDev.cmds, nextCmd := 1 } fun d _ c => decide (d.queueNamed c = some 16) && decide (d.outstanding 16 ≠ 0)) = true ∧
    (Met .queueBind { mgmtMsg with param := par [(0x28, 1), (0x2A, 0), (0x2C, 5), (0x30, 1)] }
      { mgrDev with eth := { mgrDev.eth with qps := mgrDev.eth.qps ++ [(5, { Qp.fresh 0 1000 0 mgmtNet false with up := true, use := .queue 16 })] } } fun d _ c =>
        decide (d.queueNamed c = some 16) && queueServed d 16 &&
          (tget d.eth.qps (c.msg.par 0x2C 3)).any fun p => p.up && !p.failed && decide (p.port < 16) && decide (p.use = .queue 16)) = true := by
  decide +kernel

/-- Frames that meet the hypotheses of the clauses of this statement. -/
theorem witness_tenantLifecycle :
    (Met .enableTenant { mgmtMsg with param := par [(0x28, 2)] } mgrDev fun d _ c => decide (tget d.tenants (tenantNo c) = some (tenantIn .off))) = true ∧
    (Met .enableTenant { mgmtMsg with param := par [(0x28, 1)] } mgrDev fun d _ c => decide (tget d.tenants (tenantNo c) = some (tenantIn .on))) = true ∧
    (Met .enableTenant { mgmtMsg with param := par [(0x28, 3)] } mgrDev fun d _ c => decide (tget d.tenants (tenantNo c) = some (tenantIn .draining))) = true ∧
    (Met .enableTenant { mgmtMsg with param := par [(0x28, 4)] } mgrDev fun d _ c => decide (tget d.tenants (tenantNo c) = some (tenantIn .quiesced))) = true ∧
    (Met .quiesceTenant { mgmtMsg with param := par [(0x28, 2)] } mgrDev fun d _ c => decide (tget d.tenants (tenantNo c) = some (tenantIn .off))) = true ∧
    (Met .quiesceTenant { mgmtMsg with param := par [(0x28, 1)] } mgrDev fun d _ c => decide (tget d.tenants (tenantNo c) = some (tenantIn .on))) = true ∧
    (Met .quiesceTenant { mgmtMsg with param := par [(0x28, 3)] } mgrDev fun d _ c => decide (tget d.tenants (tenantNo c) = some (tenantIn .draining))) = true ∧
    (Met .quiesceTenant { mgmtMsg with param := par [(0x28, 4)] } mgrDev fun d _ c => decide (tget d.tenants (tenantNo c) = some (tenantIn .quiesced))) = true ∧
    (Met .resetTenant { mgmtMsg with param := par [(0x28, 2)] } mgrDev fun d _ c => decide (tget d.tenants (tenantNo c) = some (tenantIn .off))) = true ∧
    (Met .resetTenant { mgmtMsg with param := par [(0x28, 1)] } mgrDev fun d _ c => decide (tget d.tenants (tenantNo c) = some (tenantIn .on))) = true ∧
    (Met .resetTenant { mgmtMsg with param := par [(0x28, 3)] } mgrDev fun d _ c => decide (tget d.tenants (tenantNo c) = some (tenantIn .draining))) = true ∧
    (Met .resetTenant { mgmtMsg with param := par [(0x28, 4)] } mgrDev fun d _ c => decide (tget d.tenants (tenantNo c) = some (tenantIn .quiesced))) = true ∧
    (Met .enableTenant { mgmtMsg with param := par [(0x28, 5)] } mgrDev fun d _ c => (tget d.tenants (tenantNo c)).any fun x => (x.bound 0).isEmpty) = true ∧
    (Met .removeTenant { mgmtMsg with param := par [(0x28, 2)] } mgrDev fun d _ c => decide (tget d.tenants (tenantNo c) = some (tenantIn .off)) && !d.isolated && !d.linked) = true ∧
    (Met .removeTenant { mgmtMsg with param := par [(0x28, 1)] } mgrDev fun d _ c => decide (tget d.tenants (tenantNo c) = some (tenantIn .on)) && !d.isolated) = true ∧
    (Met .removeTenant { mgmtMsg with param := par [(0x28, 4)] } { mgrDev with regs := RegFile.setFld [] PEER_STAT_STATE 1 } fun d _ c => decide (tget d.tenants (tenantNo c) = some (tenantIn .quiesced)) && d.linked) = true ∧
    (Met .migrationLog { mgmtMsg with param := par [(0x28, 1), (0x2A, 1), (0x30, 4096)], length := 8, dcount := 1, descs := [buf 8] } mgrDev fun d _ c => decide (tget d.tenants (tenantNo c) = some (tenantIn .on)) && decide (c.descs = [buf 8])) = true ∧
    (Met .migrationLog { mgmtMsg with param := par [(0x28, 1), (0x2A, 0)] } mgrDev fun d _ c => decide (tget d.tenants (tenantNo c) = some (tenantIn .on))) = true ∧
    (Met .migrationLog { mgmtMsg with param := par [(0x28, 6), (0x2A, 0)] } mgrDev fun d _ c => (tget d.tenants (tenantNo c)).any fun x => x.migr.isSome) = true := by
  decide +kernel

/-- Frames that meet the hypotheses of the clauses of this statement. -/
theorem witness_deviceOpcodes :
    (Met .regRead { mgmtMsg with param := par [(0x28, 0)] } mgrDev fun d _ c => (d.readReg c.qkey c.msg.address).isSome) = true ∧
    (Turned .regRead { mgmtMsg with param := par [(0x28, 2)] } mgrDev fun d c => (d.readReg c.qkey c.msg.address).isNone) = true ∧
    (Met .regWrite { mgmtMsg with param := par [(0x28, 0x20), (0x30, 5)] } mgrDev fun d _ c => (d.writeReg c.msg.address c.msg.value).isSome) = true ∧
    (Turned .regWrite { mgmtMsg with param := par [(0x28, 0xFFFFFFFC)] } mgrDev fun d c => (d.writeReg c.msg.address c.msg.value).isNone) = true ∧
    (Met .winRead { tenMsg with volume := 0, param := par [(0x28, 0xBC)] } tenDev fun d _ c => (d.readReg c.qkey (windowBase c.tenant + c.msg.address)).isSome) = true ∧
    (Turned .winRead { tenMsg with volume := 0, param := par [(0x28, 0xC0)] } tenDev fun _ c => decide (0xBC < c.msg.address)) = true ∧
    (Met .winWrite { tenMsg with volume := 0, param := par [(0x28, 0x20), (0x30, 1)] } tenDev fun _ _ c => decide (c.msg.address % 4 = 0)) = true ∧
    (Turned .winWrite { tenMsg with volume := 0, param := par [(0x28, 2)] } tenDev fun _ c => decide (c.msg.address % 4 ≠ 0)) = true ∧
    (Met .fwStage { data 4096 0 with volume := 0 } mgrDev fun _ _ c => !c.descs.isEmpty) = true ∧
    (Turned .fwActivate { mgmtMsg with param := par [(0x28, 2)] } mgrDev fun _ c => decide (1 < c.msg.par 0x28 1)) = true ∧
    (Met .powerState { mgmtMsg with param := par [(0x28, 4)] } mgrDev fun d _ c => !d.isSet PWR_STAT_MOVING && decide (d.rd PWR_STAT_STATE < c.msg.par 0x28 1) && d.streams.isEmpty) = true ∧
    (Met .powerState { mgmtMsg with param := par [(0x28, 1)] } { mgrDev with regs := RegFile.setFld [] PWR_STAT_MOVING 1 } fun d _ _ => d.isSet PWR_STAT_MOVING) = true ∧
    (Met .eventRead { data 96 0 with volume := 0 } mgrDev fun _ _ _ => true) = true ∧
    (Met .thermalAck { mgmtMsg with param := par [(0x28, 0)] } { mgrDev with thermal := { Thermal.reset with records := [trip0] } } fun d _ _ => d.thermal.records[0]?.isSome) = true ∧
    (Turned .thermalAck { mgmtMsg with param := par [(0x28, 1)] } mgrDev fun d c => (d.thermal.records[c.msg.par 0x28 1]?).isNone) = true := by
  decide +kernel

/-- Frames that meet the hypotheses of the clauses of this statement. -/
theorem witness_diagnosticOpcodes :
    (Met .echo { mgmtMsg with param := par [(0x28, 5)] } mgrDev fun _ _ _ => true) = true ∧
    (Met .katRun { mgmtMsg with param := par [(0x28, 0), (0x29, 0xFF)] } mgrDev fun _ _ c => decide (c.msg.par 0x29 1 = 0xFF)) = true ∧
    (Met .katRun { mgmtMsg with param := par [(0x28, 0), (0x29, 15)] } mgrDev fun _ _ c => decide (c.msg.par 0x29 1 < katCount 0)) = true ∧
    (Turned .katRun { mgmtMsg with param := par [(0x28, 0), (0x29, 16)] } mgrDev fun _ c => decide (katCount 0 ≤ c.msg.par 0x29 1)) = true ∧
    (Met .tmemScrub { data 32 0 with volume := 0, param := par [(0x28, 0), (0x30, 0x10000000)] } mgrDev fun _ _ c => decide (32 ≤ c.length)) = true ∧
    (Met .tmemScrub { data 24 0 with volume := 0, param := par [(0x28, 8), (0x30, 0)] } mgrDev fun _ _ c => decide (c.length < 32)) = true := by
  decide +kernel

end Sys2Proof.Tests

namespace Sys2Proof.Tests

set_option Elab.async false

open Sys2Proof Sys2Proof.Machine Sys2Proof.Claims

/-! ### Witnesses: tint instructions -/

/-- Segment s0 over code, s1 over the task's stack, of 64 bytes each; s2 with no right, s3 of another tenant. -/
def segs0 : List TSeg :=
  [⟨0, 0, 64, true, false, true, 1⟩, ⟨1, 0, 64, true, true, false, 1⟩, ⟨1, 0, 64, false, false, false, 1⟩, ⟨1, 0, 64, true, true, false, 2⟩] ++
    List.replicate 12 ⟨1, 0, 0, false, false, false, 1⟩

/-- A task of program 0 that runs: registers r1 = 8, r2 = 3, r4 = 64, r6 and r8 = 1 (a segment), r7 = 32, r9 = 0, r10 = 5, r5 = 7. -/
def task0 : Task :=
  { prog := 0, entry := 0, cmd := 0, grain := 0, tenant := 1, claim := .G, level := 0, cores := [0], core := some 0, gen := 0, slots := [], ret := none
    call := none, state := .running, started := true, readyAt := 0, wake := 0, deadline := none, missed := false, pc := 0
    regs := [0, 8, 3, 1, 0, 7, 1, 32, 1, 0, 5] ++ List.replicate 21 0, preds := 1, segs := segs0, rstack := [], budget := 1, stack := zeros 64
    input := [], output := [], params := [], fromFloor := false, refs := [] }

/-- Program 0 whose first instruction is the word. -/
def progWith (w : Nat) : Prog := { prog0 with code := toLE 4 w ++ zeros 60 }

/-- Core 0 runs task 0, which is t, of program 0, whose first instruction is the word. -/
def tintDev (t : Task) (w : Nat) : Dev :=
  { tenDev with
    progs := [(0, progWith w)], sched := { Sched.reset with tasks := [(0, t)] }, cores := [(0, { Core.fresh 0 false with running := some 0 })] }

/-- Whether instruction i issues on that part, as `Issues` says, and `ok` holds of its task. -/
def issuesB (i : Instr) (t : Task) (ok : Task → Prog → Bool) : Bool :=
  match tintOf i with
  | some (c, word) =>
    let d := tintDev t word
    decide ((d.core c).running = some 0) && decide (d.task 0 = some t) && decide (tget d.progs t.prog = some (progWith word)) &&
      (match tintFetch t (progWith word) with
        | some w => !tintReserved w && (decide (opcodeOf w ≠ 0x38) || decide (bits w 0 12 ≠ 0 ∧ bits w 0 12 ≤ 5)) && decide (tintCanon w = word) && t.guard w
        | none => false) &&
      decide (1 ≤ t.budget) && ok t (progWith word)
  | none => false

/-- What issuesB says: the hypotheses of the tint statements are met. -/
theorem issues_of {i : Instr} {t : Task} {ok : Task → Prog → Bool} (h : issuesB i t ok = true) :
    ∃ c word, tintOf i = some (c, word) ∧ Issues i 0 t (progWith word) (tintDev t word) ∧ ok t (progWith word) = true := by
  unfold issuesB at h
  split at h
  · rename_i c word hw
    simp only [Bool.and_eq_true, decide_eq_true_eq] at h
    obtain ⟨⟨⟨⟨⟨h1, h2⟩, h3⟩, h4⟩, h5⟩, h6⟩ := h
    split at h4
    · rename_i w hf
      simp only [Bool.and_eq_true, Bool.or_eq_true, Bool.not_eq_true', decide_eq_true_eq] at h4
      obtain ⟨⟨⟨h7, h8⟩, h9⟩, h10⟩ := h4
      refine ⟨c, word, hw, ⟨c, word, w, hw, ⟨h1, h2, h3⟩, hf, ⟨h7, fun ho => ?_⟩, h9, h5, h10⟩, h6⟩
      rcases h8 with h8 | h8
      · exact absurd ho h8
      · exact h8
    · cases h4
  · cases h

def yes (_ : Task) (_ : Prog) : Bool := true
/-- A check of R519 that says what `cause` is. -/
def chk (seg : BitVec 4) (off size align : Nat) (r w : Bool) (cause : Option Nat) (t : Task) (_ : Prog) : Bool :=
  decide (segCheck t seg.toNat off size align r w = cause)

/-- Every instruction of these statements issues somewhere, at the ends of its operand range. -/
theorem witness_tintArithmetic :
    ([.alu 0 0 31 1 2 0x00, .alu 0 0 0 1 2 0x0A, .addi 0 0 31 1 0xFFF, .andi 0 0 3 1 0xFFF, .ori 0 0 3 1 0, .xori 0 0 3 1 0x800, .shli 0 0 3 1 63,
      .shri 0 0 3 1 0, .srai 0 0 3 1 63, .movz 0 0 3 0xFFFF, .movk1 0 0 3 1, .movk2 0 0 3 1, .movk3 0 0 3 1] : List Instr).all
      (fun i => issuesB i task0 yes) = true := by decide +kernel

theorem witness_tintPredicates :
    ([.cmp 0 0 7 0 1 2, .cmpi 0 0 1 7 1 0x3FF, .pset 0 0 1 0 0 2 true false, .seglen 0 0 3 15, .rsd 0 0 3, .tintFence 0 0] : List Instr).all
      (fun i => issuesB i task0 yes) = true := by decide +kernel

/-- Loads at the last bytes of a segment, one byte past them, without the right, and with another tenant's tag; one misaligned. -/
theorem witness_tintLoads :
    issuesB (.ld8u 0 0 3 0 1 63) task0 (chk 1 63 1 1 true false none) ∧ issuesB (.ld8s 0 0 3 0 1 63) task0 (chk 1 63 1 1 true false none) ∧
    issuesB (.ld16u 0 0 3 0 1 31) task0 (chk 1 62 2 2 true false none) ∧ issuesB (.ld16s 0 0 3 0 1 31) task0 (chk 1 62 2 2 true false none) ∧
    issuesB (.ld32u 0 0 3 0 1 15) task0 (chk 1 60 4 4 true false none) ∧ issuesB (.ld32s 0 0 3 0 1 15) task0 (chk 1 60 4 4 true false none) ∧
    issuesB (.ld64 0 0 3 0 1 7) task0 (chk 1 56 8 8 true false none) ∧ issuesB (.ld64 0 0 3 0 1 8) task0 (chk 1 64 8 8 true false (some 3)) ∧
    issuesB (.ld64 0 0 3 0 2 0) task0 (chk 2 0 8 8 true false (some 4)) ∧ issuesB (.ld64 0 0 3 0 3 0) task0 (chk 3 0 8 8 true false (some 0xD)) ∧
    issuesB (.ld64 0 0 3 2 1 0) task0 (chk 1 3 8 8 true false (some 5)) := by decide +kernel

theorem witness_tintStores :
    issuesB (.st8 0 0 3 0 1 63) task0 (chk 1 63 1 1 false true none) ∧ issuesB (.st16 0 0 3 0 1 31) task0 (chk 1 62 2 2 false true none) ∧
    issuesB (.st32 0 0 3 0 1 15) task0 (chk 1 60 4 4 false true none) ∧ issuesB (.st64 0 0 3 0 1 7) task0 (chk 1 56 8 8 false true none) ∧
    issuesB (.st64 0 0 3 0 0 0) task0 (chk 0 0 8 8 false true (some 4)) ∧ issuesB (.amoadd 0 0 3 1 2 1) task0 (chk 1 8 8 8 true true none) ∧
    issuesB (.amoswap 0 0 3 1 2 1) task0 (chk 1 8 8 8 true true none) ∧ issuesB (.amocas 0 0 3 1 2 1) task0 (chk 1 8 8 8 true true none) ∧
    issuesB (.amocas 0 0 3 2 2 1) task0 (chk 1 3 8 8 true true (some 5)) := by decide +kernel

/-- SEGN of the whole of a segment, of one byte too many, and into s0. -/
theorem witness_tintSegn :
    issuesB (.segn 0 0 15 1 7 7 7) task0 (fun t _ => decide ((t.reg 7).toNat + (t.reg 7).toNat ≤ (t.seg 1).limit)) ∧
    issuesB (.segn 0 0 15 1 7 7 7) { task0 with regs := task0.regs.set 7 33 } (fun t _ => decide ((t.seg 1).limit < (t.reg 7).toNat + (t.reg 7).toNat)) ∧
    issuesB (.segn 0 0 0 1 7 7 7) task0 (fun t _ => decide ((t.reg 7).toNat + (t.reg 7).toNat ≤ (t.seg 1).limit)) := by decide +kernel

/-- A task whose return stack holds n entries, of a program that wraps for it or not. -/
def deep (n : Nat) : Task := { task0 with rstack := List.replicate n 4 }
/-- The return stack has room; is full. -/
def roomB (t : Task) (_ : Prog) : Bool := decide (t.rstack.length < 16)
def fullB (wrap : Bool) (t : Task) (p : Prog) : Bool := decide (16 ≤ t.rstack.length) && decide (p.wraps.getD t.entry false = wrap)

theorem witness_tintFlow :
    issuesB (.br 0 0 0x3FFFFF) task0 yes ∧ issuesB (.jr 0 0 1) task0 yes ∧
    ([.call 0 0 1, .callr 0 0 1, .rpush 0 0 1] : List Instr).all (fun i => issuesB i (deep 15) roomB && issuesB i (deep 16) (fullB false)) ∧
    ([.ret 0 0, .rpop 0 0 3] : List Instr).all (fun i => issuesB i (deep 1) (fun t _ => !t.rstack.isEmpty) && issuesB i task0 fun t _ => t.rstack.isEmpty) := by
  decide +kernel

/-- The same for a program whose RS_WRAP is set. -/
theorem witness_tintWraps : ∀ w ∈ ([.call 0 0 1, .callr 0 0 1, .rpush 0 0 1] : List Instr).filterMap fun i => (tintOf i).map (·.2),
    fullB true (deep 16) { progWith w with wraps := [true, true, true, true] } = true ∧
      tintFetch (deep 16) { progWith w with wraps := [true, true, true, true] } = some w := by decide +kernel

theorem witness_tintCalls :
    issuesB (.ecallSha256 0 0) task0 (fun t _ => decide (t.num 5 ≤ 262144 ∧ segCheck t (t.segReg 3) (t.num 4) (t.num 5) 1 true false = none ∧
      segCheck t (t.segReg 6) (t.num 7) 32 1 false true = none)) ∧
    issuesB (.ecallHmac 0 0) task0 (fun t _ => decide (t.num 5 ≤ 262144 ∧ 1 ≤ t.num 10 ∧ t.num 10 ≤ 64 ∧
      segCheck t (t.segReg 3) (t.num 4) (t.num 5) 1 true false = none ∧ segCheck t (t.segReg 8) (t.num 9) (t.num 10) 1 true false = none ∧
      segCheck t (t.segReg 6) (t.num 7) 32 1 false true = none)) ∧
    issuesB (.ecallDecomp 0 0) task0 (fun t _ => decide (1 ≤ t.num 5 ∧ t.num 5 ≤ 262144 ∧ 1 ≤ t.num 8 ∧ t.num 8 ≤ 262144 ∧
      segCheck t (t.segReg 3) (t.num 4) (t.num 5) 1 true false = none ∧ segCheck t (t.segReg 6) (t.num 7) (t.num 8) 1 false true = none)) ∧
    ([.ecallSha256 0 0, .ecallHmac 0 0, .ecallDecomp 0 0] : List Instr).all (fun i =>
      issuesB i { task0 with regs := task0.regs.set 5 262145 } fun t _ => decide (262144 < t.num 5)) ∧
    issuesB (.ecallStencil 0 0) task0 (fun t _ => decide (segCheck t (t.segReg 3) (t.num 4) 32 1 true false = none)) ∧
    issuesB (.ecallNow 0 0) task0 yes ∧ issuesB (.tintEnd 0 0) task0 yes ∧ issuesB (.tintDelay 0 0 4) task0 yes ∧ issuesB (.tintDelay 0 0 1) task0 yes ∧
    issuesB (.tintTrap 0 0 0xFFF) task0 yes := by decide +kernel

/-- R515's order: a pc past s0; a reserved opcode; a spent budget; a false guard; an engine call that is not; another instruction at the pc. -/
theorem witness_tintIssue :
    tintFetch { task0 with pc := 64 } (progWith 0) = none ∧ tintReserved (tintWord 0 0x3F 0) = true ∧
    tintFetch task0 (progWith (tintWord 0 0x3F 0)) = some (tintWord 0 0x3F 0) ∧
    task0.guard (tintWord 1 0x27 0) = false ∧ tintFetch task0 (progWith (tintWord 1 0x27 0)) = some (tintWord 1 0x27 0) ∧
    tintReserved (tintWord 1 0x27 0) = false ∧ opcodeOf (tintWord 0 0x38 6) = 0x38 ∧ 5 < bits (tintWord 0 0x38 6) 0 12 ∧
    tintFetch task0 (progWith (tintWord 0 0x38 6)) = some (tintWord 0 0x38 6) ∧ ({ task0 with budget := 0 } : Task).budget < 1 ∧
    tintCanon (tintWord 0 0x27 0) ≠ tintWord 0 0x39 0 := by decide +kernel

/-- Segments that lie in the memories behind them. -/
theorem witness_segments : Fits task0 (progWith 0) ∧ task0.segs.length = 16 ∧ 56 + (zeros 8).length ≤ (task0.seg 1).limit := by
  refine ⟨fun n => ?_, by decide +kernel, by decide +kernel⟩
  by_cases h : n < 16
  · revert n; decide +kernel
  · have hd : task0.seg n = task0.seg 16 := by
      simp only [Task.seg]
      rw [List.getD_eq_default _ _ (by simpa [task0, segs0] using h), List.getD_eq_default _ _ (by simp [task0, segs0])]
    rw [hd]; decide +kernel

end Sys2Proof.Tests

namespace Sys2Proof.Tests

set_option Elab.async false

open Sys2Proof Sys2Proof.Machine Sys2Proof.Claims

/-! ### Witnesses: register rows -/

/-- Whether the frame of a row that writes w to the register at a passes, stores every field, and `ok` holds of the part and the word. -/
def rowB (ok : Dev → Nat → Bool) (a w : Nat) : Bool :=
  Met .regWrite (regFrame mgmtMsg a w) mgrDev fun d _ _ =>
    match specAt a with
    | some (sp, j) => ok d w && !(stored d sp j a w).locked
    | none => false

/-- Bits 0 to n − 1 but b clear. -/
def aloneB (n b : Nat) (_ : Dev) (w : Nat) : Bool := (upTo n).all fun i => decide (i = b) || !bit w i

theorem witness_registerRows :
    rowB (fun _ _ => true) 0x480104 (withBit 8 0) ∧ rowB (aloneB 3 0) 0x24011C (withBit 0 0) ∧ rowB (aloneB 3 1) 0x24011C (withBit 1 0) ∧
    rowB (aloneB 3 2) 0x24011C (withBit 2 0) ∧ rowB (fun _ _ => true) (in_ 0x10000C 4096 64 { mgmtMsg with param := par [(0x28, 63)] }) (withBit 15 0) ∧
    rowB (fun _ _ => true) 0x3C (withBit 0 0) ∧ rowB (aloneB 5 0) 0x1C0018 (withBit 0 0) ∧ rowB (aloneB 5 1) 0x1C0018 (withBit 1 0) ∧
    rowB (aloneB 5 2) 0x1C0018 (withBit 2 0) ∧ rowB (aloneB 5 3) 0x1C0018 (withBit 3 0) ∧ rowB (aloneB 5 4) 0x1C0018 (withBit 4 0) ∧
    rowB (fun _ _ => true) 0x90210 1 ∧ rowB (fun _ w => !bit w 17) 0x2C0120 (withBit 16 0) ∧ rowB (fun _ w => !bit w 16) 0x2C0120 (withBit 17 0) ∧
    rowB (fun _ _ => true) (in_ 0x2C0000 4 16 mgmtMsg) 0x24 ∧ rowB (fun _ _ => true) 0x180100 4 ∧
    rowB (fun _ w => decide (16 ≤ bits w 0 5)) 0x380520 (withBit 8 16) := by decide +kernel

theorem witness_registerRowsMore :
    rowB (aloneB 3 0) 0x80004 (withBit 0 0) ∧ rowB (aloneB 3 1) 0x80004 (withBit 1 0) ∧ rowB (aloneB 3 2) 0x80004 (withBit 2 0) ∧
    rowB (fun _ _ => true) (in_ 0x10210 4 4 mgmtMsg) (withBit 31 0) ∧ rowB (fun _ _ => true) 0x3000C (withBit 0 0) ∧
    rowB (fun _ w => !bit w 0) 0x3000C (withBit 1 0) ∧ rowB (fun _ _ => true) 0x43000 (withBit 0 0) ∧ rowB (fun _ _ => true) 0x440000 (withBit 1 0) ∧
    rowB (fun _ _ => true) (in_ 0x10100 4 4 mgmtMsg) (withBit 7 0) ∧ rowB (fun _ _ => true) (in_ 0x10120 4 4 mgmtMsg) (withBit 7 0) ∧
    rowB (fun _ _ => true) 0x20200 (withBit 20 0) ∧ rowB (fun _ w => !bit w 7) 0x42000 (withBit 6 0) ∧ rowB (fun _ w => !bit w 6) 0x42000 (withBit 7 0) ∧
    rowB (fun _ w => !bit w 29) 0x440004 (withBit 28 0) ∧ rowB (fun _ _ => true) 0x440010 (withBit 10 0) ∧
    rowB (fun _ _ => true) 0x440028 (withBit 0 0) ∧ rowB (fun _ w => !bit w 28) 0x440004 (withBit 29 0) ∧ rowB (fun _ _ => true) 0x90224 (withBit 0 0) ∧
    rowB (fun _ _ => true) (in_ 0x40000 64 4 mgmtMsg) 1 := by decide +kernel

theorem witness_regReads :
    Met .regRead (regFrame mgmtMsg 0x380540 0) mgrDev (fun _ _ _ => true) ∧
    Met .regRead { mgmtMsg with param := par [(0x28, 0x480000)] } mgrDev (fun d _ c => (d.peek c.msg.address).isSome && isLo c.msg.address) := by
  decide +kernel

/-- A low word and its high word; a field and a word. -/
theorem witness_latches : isLo 0x480000 = true ∧ (mgrDev.peek 0x480000).isSome ∧ (mgrDev.peek 0x480004).isSome ∧ Tbl.rising mgrDev.latches = true ∧
    tget mgrDev.latches (latchKey 0 0x480000) = none ∧ RegFile.wf mgrDev.regs = true ∧ specAt 0x480001 = none ∧ windowOf 0x480001 = none ∧
    (specAt 0x480000).isSome := by decide +kernel

end Sys2Proof.Tests

namespace Sys2Proof.Tests

set_option Elab.async false

open Sys2Proof Sys2Proof.Machine Sys2Proof.Claims

/-! ### Witnesses for the commands that are no frames -/

/-- The part with a register field set. -/
def setReg (f : Fld) (v : Nat) (d : Dev) : Dev := { d with regs := RegFile.setFld d.regs f v }
/-- The part with WRITE under way as command 0, its record as f makes it. -/
def cmdDev (f : Cmd → Cmd) : Dev := { busyDev with cmds := tmod busyDev.cmds 0 f }
/-- Command 0, of whose record p holds. -/
def cmd0 (d : Dev) (p : Cmd → Bool) : Bool := (tget d.cmds 0).any p
/-- A transfer of command 0. -/
def xfer0 (load : Load) (read : Bool) : Xfer := { cmd := 0, qpn := 2, load := load, read := read, addr := 0, length := 4096, data := [] }
def xferDev (load : Load) (read : Bool) : Dev := { busyDev with xfers := [(0, xfer0 load read)] }
/-- The same with seventeen RDMA READs of its queue pair. -/
def readsDev : Dev := { busyDev with xfers := (upTo 17).map fun x => (x, xfer0 (.data (4096 * x)) true) }
/-- Transfer x of a part, and whether it has gone out. -/
def goneOut (d : Dev) (x : Nat) : Option Bool := (tget d.xfers x).map fun t => d.posted x t
/-- What arrives for transfer 0: whether command 0 then still waits for data. -/
def stillFetching (d : Dev) (total : Nat) : Bool := ((without d 0).putData 0 0 total 4096 (zeros 4096)).fetching 0
/-- A core with task 0 of program 0 on it as the state says. -/
def taskDev (t : Task) (x : Core) : Dev := { boundDev with sched := { Sched.reset with tasks := [(0, t)] }, cores := [(0, x)] }
/-- The WRITE of command 0, its first grain at the filter's turn. -/
def filterDev : Dev := { cmdDev fun c => { c with grains := tmod c.grains 0 fun x => { x with step := 7 }, aux := [4096] } with
  bindings := boundDev.bindings.map fun b => { b with since := 0 }, nextCmd := 2, cmds := ((tget busyDev.cmds 0).toList.map fun c =>
    (1, { c with grains := tmod c.grains 0 fun x => { x with step := 7 } })) }
/-- The same, the grain's buffer at 255 references. -/
def fullDev : Dev :=
  let d := filterDev.modPool 1 fun q => { q with alloc := [(0, { refs := 255, waiting := 0, floor := none, tenant := 1, owner := none })] }
  { d with cmds := tmod d.cmds 1 fun c => { c with grains := tmod c.grains 0 fun x => { x with buf := some 1 } } }
/-- A queue pair of the part with one frame to send. -/
def sendDev (x : Send) : Dev := { tenDev with eth := { tenDev.eth with qps := tmod tenDev.eth.qps 2 fun p => { p with queued := [x] } } }
def st0 : Status :=
  { qkey := 16, tag := 7, code := .success, seq := 0, deferredSet := false, clamped := false, retryable := false, untrusted := false, relayed := false
    mediumAck := false, overflow := false, dcount := 0, applied := 0, retval := 0, stamp := 0, cmd := 0 }
/-- Queue pair 2 as f makes it. -/
def qpDev (f : Qp → Qp) : Dev := { tenDev with eth := { tenDev.eth with qps := tmod tenDev.eth.qps 2 f } }
def qp2 (d : Dev) (p : Qp → Bool) : Bool := (tget d.eth.qps 2).any p
/-- A packet marked CE; the part some ns after a congestion notification of queue pair 2. -/
def marked : Net := { mgmtNet with ce := true }
def markedAt (t : Nat) : Dev := { qpDev fun p => { p with cnpAt := some 0 } with now := t }
/-- Port group 0 enabled. -/
def groupUp (d : Dev) : Dev := setReg (ETH_GCFG_ENABLE 0) 1 d
/-- A CM message of the management port. -/
def cm0 : CmMsg := { net := mgmtNet, qpn := 2, remote := 9 }
/-- A flash port in a state of ownership; one operation of die 0. -/
def portDev (f : Port → Port) : Dev := { tenDev with ports := [(0, f port0)] }
def flop (o : FOp) : FlashOp := { FlashOp.new 0 .G o 0 [] with issued := true }
def flashDev (o : FOp) : Dev := { tenDev with flash := [flop o] }
/-- Row 1 of group 0 in a state. -/
def row0 (st : RowState) : Row :=
  { group := 0, segment := 0, row := 0, slotA := 0, slotB := 0, slc := true, move := false, items := [], units := 0, since := 0, claim := .G, urgent := false
    state := st, p := [], q := [], jseq := 0, linkSeq := none, mirrored := false, failed := [], bufs := [], badUnits := [] }
def rowDev (st : RowState) : Dev := { tenDev with rows := [(rowKey 0 1, row0 st)], now := 1000000 }
/-- Closed row 1 of a number of units, the journal ring with a buffer. -/
def closedDev (units : Nat) : Dev := { rowDev .closed with rows := [(rowKey 0 1, { row0 .closed with units := units })], hands := [(.ring, [0])] }
/-- Segment 0 of group 0, of block 3 of die 0, and the log stripe in it. -/
def seg0 : Seg :=
  { blocks := [some (0, 3)], slc := true, place := 0, state := .sealed, sealedAt := 0, claim := none, strip := false, stale := false, pos := 0, rows := 1
    evacuated := false, erasable := false, erasing := [], issued := false, moves := [] }
def hostSeg0 : Seg := { seg0 with slc := false, place := 1 }
def slot0 : Slot := { segment := 0, unit := 0, state := 2, slc := true, ovl := 0, live := 0, gen := 1, logseq := 1, since := 0 }
/-- The part with that segment, 100 s on; whether the buffers of what a move reads are held. -/
def segDev (s : Seg) (k : Slot) (held : Bool) : Dev :=
  { roomDev with
    now := 100000000000
    groups := tmod roomDev.groups 0 fun x => { x with segs := [(0, s)], slots := [(0, k)] }
    hands := if held then [(.moves 0 0, upTo 18)] else [] }
/-- Content in that log stripe; a sealed block; the part with blocks of die 0; with group 0's member 0 under rebuild on die 1. -/
def crec0 : Crec :=
  { loc := some ⟨0, 0, 1, 0⟩, size := 64, sectors := 1, raw := true, refs := 1, pinned := false, stripPending := false, indexed := false, bucket := 0, holds := 0 }
def blk0 : Blk := { state := .sealed, slc := false, erases := 0, reads := 0, bgroup := 0, retire := false, stage6 := 0, tempSum := 0, tempCount := 0 }
def dieDev (l : Tbl Blk) (d : Dev) : Dev := { d with dies := [(0, { Die.fresh prof0 with blocks := l })] }
/-- Row 1 of group 0 programmed in the open QLC segment 0, a page of it disturbed by one of the segment's row 1. -/
def coverDev : Dev :=
  let d := segDev { hostSeg0 with state := .open_, rows := 8 } slot0 false
  { d with rows := [(rowKey 0 1, { row0 .programmed with slc := false })], ports := [(0, { port0 with profile := some { prof0 with disturbs := [(0, [4])] } })] }
def wornDev : Dev := dieDev [(3, blk0), (4, { blk0 with state := .free, erases := 10000 })] (segDev hostSeg0 slot0 true)
def rebDev (s : Seg) : Dev :=
  let d := segDev s slot0 false
  { d with groups := tmod d.groups 0 fun x => { x with state := .rebuilding, rebuild := some (1, 0, 0, 0) } }
/-- Volume 0 as f makes it. -/
def volDev (f : Vol → Vol) : Dev := { tenDev with vols := tmod tenDev.vols 0 f }
/-- A clone, volume 0, of snapshot 0 of volume 1, which holds a committed write at grain 0 whose records have not been issued. -/
def fillLate : Dev :=
  let c : Dev := cmdDev fun c => { (c.setNum 2 1) with committed := true, msg := { c.msg with volume := tenMsg1.volume } }
  { c with vols := [(0, { vol0 with origin := some (1, 0) }), (1, { vol1 with snaps := [(0, { snap0 with epoch := 1 })] })] }
/-- Session 0 as f makes it, its queue pair up or not. -/
def sessDev (up : Bool) (f : Sess → Sess) : Dev :=
  { tenDev with
    sessions := [(0, f { sess0 with qpn := 4 })], now := 2000000000
    eth := { tenDev.eth with qps := tmod tenDev.eth.qps 4 fun p => { p with use := .session 0, up := up } } }
/-- A part of a pair, its link up, at a step of pairing, its state as PEER_STAT shows it. -/
def pairDev (step state : Nat) : Dev :=
  let d := setReg PEER_LINK_UP 1 (setReg PEER_LINK_LANES 0x1FFFF (setReg PEER_STAT_STATE state { mgmtDev with regs := RegFile.setFld [] TOP_STRAP_SIDE 1 }))
  { d with peer := { Peer.reset with step := step, rxKey := { secret := zeros 32, counter := 0, next := none } } }
/-- A link frame's header: the next in order, unsealed content whole. -/
def hdr0 : LinkHdr := { seq := 0, counter := 0, newkey := false, tagOk := true }
/-- The partner's HELLO. -/
def hello0 (d : Dev) : HelloBody :=
  { side := BitVec.ofNat 2 d.partnerSide, serial := 5, version := 0, compat := 0, state := 0, update := false, owner := [], holds := 0 }
/-- A part in a power state. -/
def powerDev (n : Nat) : Dev := setReg PWR_STAT_STATE n mgmtDev
/-- A part whose boot stands in a phase. -/
def bootDev (b : Boot) : Dev := { mgmtDev with boot := b, now := 40000000000 }
def rec0 : Recovery := { cause := 1, mac := some 1, bytes := [1], total := 2, at_ := 0 }
def ptp0 : PtpMsg :=
  { port := 16, domain := 0, source := 1, rank := 1, seq := 1, twoStep := false, origin := 0, correction := 0, logIvl := 0, mine := true, utcOffset := 37 }
/-- A part whose time has a master, in a state. -/
def timeDev (st : Nat) (t : TimeBase) : Dev := setReg TIME_STAT_STATE st (setReg TIME_STAT_PORT 16 (setReg TIME_CFG_PTP_PORT 16 { mgmtDev with time := t, now := 100000000000 }))
def locked : TimeBase := { TimeBase.reset with master := some (1, 1), syncIvl := 1, announceIvl := 1 }

/-- A compression job and a digest job; a lane that runs one of PRIO 0 while one of PRIO n waits. -/
def cmpJob0 (src : JobSrc) : CmpJob :=
  { src := src, claim := .G, prio := 0, tenant := 1, decode := false, input := zeros 16, limit := 16, expect := 0, order := 0 }
def laneJob0 (n : Nat) : LaneJob := { LaneJob.of (.session 0) .G n 1 .sha none (zeros 200) with order := n + 1 }
def laneOf (n : Nat) : Lane := { queue := [laneJob0 n], slots := [], running := some { laneJob0 0 with order := 0 }, starts := 0 }

/-- When one of seventeen RDMA READs ends, the last goes out (Table 18-3). -/
theorem test_sixteen_reads : (readsDev.endXfer 3).out.head? = some (.rdmaRead 16 2 0 4096) ∧ goneOut (readsDev.endXfer 3) 16 = some true ∧
    goneOut (readsDev.endXfer 16) 15 = some true ∧ (readsDev.endXfer 16).out = readsDev.out := by decide +kernel

/-- LDPC decoder 0 having decoded 10^9 codewords, with three false decodes before. -/
def falseDev (first : Nat) : Dev := { tenDev with ldpc := [(0, { decodes := 1000000000, bad := [3, 2, first] })] }

/-- A fourth false decode within 10^9 decodes brings the spare of quadrant 0; one that is the 10^9th after the first does not (R775). -/
theorem test_decoder_rate : ((falseDev 1).falseDecode 0).rd TOP_LDPC_SPARE_HARD = 0xE ∧
    ((falseDev 0).falseDecode 0).rd TOP_LDPC_SPARE_HARD = 0xF := by decide +kernel

/-- Table 8-3 for a row of four data units with k units of parity. -/
theorem test_row_verdicts :
    ([[.good, .good, .good, .good, .good, .good], [.good, .bad, .good, .unwritten, .good, .good], [.bad, .bad, .unwritten, .good, .good, .good],
      [.good, .good, .wrong, .good, .good, .good], [.good, .wrong, .wrong, .good, .good, .good]] : List (List UnitFound)).map (verdict 2) =
      [.sound, .reopen, .lost, .reopen, .lost] ∧
    verdict 1 [.good, .good, .wrong, .good, .good] = .lost ∧ verdict 1 [.good, .unwritten, .good, .good, .good] = .reopen := by
  decide

/-- Epochs 5, 9 and 12 of three live snapshots become 1, 2 and 3; what lies above them becomes 4 (R429). -/
theorem test_epochs_renumbered : [1, 5, 6, 9, 12, 13].map (newEpoch [9, 5, 12]) = [1, 1, 2, 2, 3, 4] := by decide

/-- A part in which a tick changes nothing but the clock. -/
theorem witness_emptyQueueTicks : tenDev.cmds = [] ∧ tenDev.eth.rx = [] ∧ tenDev.eth.paused = [] ∧ tenDev.groups ≠ [] ∧
    ∀ e ∈ tenDev.groups, e.2.state ≠ .verifying := by
  decide +kernel

/-- States that meet the conditions of the clauses of this statement. -/
theorem witness_transferCommands :
    (((upTo 5).any fun p => (busyDev.nextGrant p).isSome)) = true ∧
    (((upTo 5).all fun p => (tenDev.nextGrant p).isNone && (tenDev.pool p).audit p)) = true ∧
    (cmd0 (xferDev .list true) (fun _ => true)) = true ∧
    (cmd0 (xferDev (.data 0) true) fun c => decide (c.op = .write) && !stillFetching (xferDev (.data 0) true) (c.pieceBytes c.pieceGrains).1) = true ∧
    (cmd0 (xferDev (.data 0) true) fun c => stillFetching { xferDev (.data 0) true with xfers := [(0, xfer0 (.data 0) true), (1, xfer0 (.data 4096) true)] } (c.pieceBytes c.pieceGrains).1) = true ∧
    (!stillFetching { xferDev (.data 0) true with cmds := tmod busyDev.cmds 0 fun c => { c with op := .keyInstall } } 0) = true ∧
    (decide ((xfer0 .bitmap false).read = false) && decide ((xfer0 (.result 0) false).load ≠ .bitmap)) = true ∧
    (goneOut (xferDev .bitmap false) 0 = some true ∧ goneOut (xferDev (.result 0) false) 0 = some true) ∧
    (goneOut readsDev 15 = some true ∧ goneOut readsDev 16 = some false) ∧
    decide (windowOf 0x0A01BC = some (1, 0xBC)) = true ∧
    decide (windowOf 0x0A01C0 = some (1, 0xC0)) = true ∧
    thas mgrDev.tenants 1 = true ∧
    thas mgrDev.tenants 7 = false := by
  decide +kernel

/-- States that meet the conditions of the clauses of this statement. -/
theorem witness_releaseCommands :
    (([.fence, .barrier, .share, .journal, .tail] : List Hold).all fun h => cmd0 (cmdDev fun c => { c with stage := .gate, hold := h }) fun c => decide (c.stage = .gate) && decide (c.hold = h) && decide ((cmdDev fun c => { c with stage := .gate, hold := h }).gateWhy 0 c ≠ h)) = true ∧
    (cmd0 (cmdDev fun c => { c with hold := .hazard }) fun c => (cmdDev fun c => { c with hold := .hazard }).hazardFree 0 c) = true ∧
    (cmd0 busyDev fun c => decide (c.hold ≠ .hazard)) = true := by
  decide +kernel

/-- States that meet the conditions of the clauses of this statement. -/
theorem witness_schedulerCommands :
    (((filterDev.plan 1 0 0).any fun q => decide (q.prog = 0) && !blocked filterDev (1, 0, 0) q.claim && (filterDev.maySlots (1 + declaredSlots 0) q.claim).isSome)) = true ∧
    ((filterDev.plan 1 0 0).any fun q => (setReg SCH_SLOT_WM_CRIMSON 0 (setReg SCH_SLOT_WM_AMBER 0 filterDev)).maySlots (1 + declaredSlots 0) q.claim |>.isNone) = true ∧
    (fullDev.plan 1 0 0).any (fun q => !blocked fullDev (1, 0, 0) q.claim && (fullDev.maySlots (1 + declaredSlots 0) q.claim).isSome) = true ∧
    (((tget fullDev.cmds 1).bind fun c => grainRef c 0 0).any fullDev.refFull) = true ∧
    ((({ task0 with started := false, slots := [none, none] } : Task).slots.set 1 (some ⟨0, none⟩)).all (·.isSome) = false) = true ∧
    ((({ task0 with started := false, slots := [none] } : Task).slots.set 0 (some ⟨0, none⟩)).all (·.isSome)) = true ∧
    (decide ((taskDev task0 (Core.fresh 0 false)).task 1 = none)) = true ∧
    (({ taskDev { task0 with started := false, core := none, state := .readyPending } (Core.fresh 0 false) with sched := { Sched.reset with tasks := [(0, { task0 with started := false, core := none })], pending := [0] } } : Dev).nextPending.isSome) = true ∧
    ((let d := taskDev { task0 with state := .ready } { Core.fresh 0 false with ready := [[(0, true)], [], [], []], resident := [0] }; decide ((d.core 0).active = true) && !(d.core 0).retiring && decide ((d.core 0).running = none) && decide (d.nextTask (d.core 0) = some 0))) = true ∧
    ((let d := { taskDev task0 { Core.fresh 0 false with delay := [(5, 0)] } with now := 5 }; decide (dueDelays d 0 = [(5, 0)]))) = true ∧
    (decide (dueDelays (taskDev task0 { Core.fresh 0 false with delay := [(5, 0)] }) 0 = [])) = true ∧
    ((let t := { task0 with deadline := some 7, entry := 2 }; let d := { taskDev t (Core.fresh 0 false) with now := 7, cmds := busyDev.cmds }; (tget (missed d 0 t).cmds 0).isSome)) = true ∧
    ((let d := taskDev task0 { Core.fresh 0 false with testNow := true }; testDue d 0 && decide ((d.core 0).running = none))) = true ∧
    ((let d := { taskDev task0 { Core.fresh 0 false with running := some 0 } with now := 100000 }; decide ((d.core 0).issuedAt + usNs 100 ≤ d.now))) = true ∧
    (let d := { filterDev with sched := { filterDev.sched with posts := [2] } }; decide (d.sched.posts ≠ []) && (d.plan 1 0 0).isSome) = true ∧
    (filterDev.plan 1 0 0).isSome = true := by
  decide +kernel

/-- A packet marked CE draws a congestion notification, and a second within 50 µs none (R690). -/
theorem test_congestion_mark : (after (.incomingRdma marked) tenDev).out.take 2 = [.accessNak 2, .cnp 2] ∧
    (after (.incomingRdma marked) (markedAt 49999)).out = [.accessNak 2] := by decide +kernel

/-- States that meet the conditions of the clauses of this statement. -/
theorem witness_transportCommands :
    (qp2 (sendDev (.status st0)) fun p => p.up && !p.failed && !(sendDev (.status st0)).sendWaits 2 p && decide (p.rnrUntil = none) && decide (p.queued = [.status st0])) = true ∧
    (qp2 (sendDev (.repl 0 [])) fun p => decide (p.queued = [.repl 0 []])) = true ∧
    (qp2 tenDev fun p => p.queued.isEmpty) = true ∧
    (qp2 (qpDev fun p => { p with rnrUntil := some 0 }) fun p => p.rnrUntil.any fun t => decide (t ≤ tenDev.now)) = true ∧
    (qp2 (qpDev fun p => { p with rnrUntil := some 1 }) fun p => p.rnrUntil.any fun t => decide (tenDev.now < t)) = true ∧
    (qp2 (qpDev fun p => { p with failed := true }) (·.failed)) = true ∧
    (qp2 tenDev fun p => !p.failed) = true ∧
    ((let d := setReg (ETH_GCFG_PFC_EN 0) 0x80 tenDev; bit (d.rd (ETH_GCFG_PFC_EN 0)) 7 && !d.eth.paused.contains 7 && decide (d.rd (ETH_PFC_XOFF 0) * d.portLanes 0 * 1024 < queueBytes d 0 7 1000000))) = true ∧
    ((let d := { setReg (ETH_GCFG_PFC_EN 0) 0x80 tenDev with eth := { tenDev.eth with paused := [7], groups := [(0, { mode := 0, going := none, enableHeld := false, inc := 0 })] } }; d.eth.paused.contains 7 && decide (queueBytes d 0 7 0 < d.rd (ETH_PFC_XON 0) * d.portLanes 0 * 1024))) = true ∧
    (qp2 { xferDev .bitmap false with eth := (sendDev (.status st0)).eth } fun p => (xferDev .bitmap false).sendWaits 2 p) = true ∧
    (answersMark tenDev marked && !answersMark tenDev mgmtNet) = true ∧
    (answersMark (markedAt 50000) marked && !answersMark (markedAt 49999) marked) = true := by
  decide +kernel

/-- States that meet the conditions of the clauses of this statement. -/
theorem witness_connectionCommands :
    ((let d := { mgmtDev with eth := Dev.reset.eth }; d.portUp 16 && reqOk d cm0 && d.freshQpn.isSome)) = true ∧
    (!reqOk mgmtDev cm0) = true ∧
    (!reqOk Dev.reset { cm0 with net := { mgmtNet with port := 0 } }) = true ∧
    (decide (Dev.reset.boot.phase ≠ .running)) = true ∧
    (qp2 (qpDev fun p => { p with up := false }) fun p => !p.started && !p.failed) = true ∧
    (({ mgmtDev with eth := { mgmtDev.eth with connecting := some (2, 0) } } : Dev).connectingTo 2) = true ∧
    (!mgmtDev.connectingTo 2) = true ∧
    (thas mgmtDev.eth.qps 2) = true ∧
    (!thas mgmtDev.eth.qps 3) = true ∧
    ((tget { tenDev with now := 10000000000 }.eth.qps 4).any fun p => p.up && !p.failed && decide (p.use = .unbound) && decide (p.since + sNs 10 ≤ 10000000000)) = true := by
  decide +kernel

/-- States that meet the conditions of the clauses of this statement. -/
theorem witness_portCommands :
    ((let d := { tenDev with eth := { tenDev.eth with addrs := [(0, 0x0100007F)] } }; (d.portHas 0 (.v4 0x7F000001) || d.portHas 0 (.v4 0x0100007F)))) = true ∧
    (!tenDev.portHas 0 (.v4 5)) = true ∧
    (!tenDev.portHas 0 (.v6 5)) = true ∧
    (({ tenDev with eth := { tenDev.eth with addrs := [(1, 0)] } } : Dev).portHas 0 (.v6 0)) = true ∧
    ((let d := { tenDev with eth := { tenDev.eth with groups := [(0, { mode := 0, going := some 0, enableHeld := false, inc := 0 })] } }; decide ((d.portGroup 0).going = some 0) && !d.groupMoving 0)) = true ∧
    ((let d := { busyDev with xfers := [(0, { xfer0 .list true with qpn := 4 })], eth := { busyDev.eth with qps := tmod busyDev.eth.qps 4 fun p => { p with port := 0 }, groups := [(0, { mode := 0, going := some 0, enableHeld := false, inc := 0 })] } }; d.groupMoving 0 && decide (d.now < msNs 100))) = true ∧
    ((let d := setReg (ETH_GSTAT_DOWN 0) 0 (groupUp tenDev); decide ((d.portGroup 0).going = none) && decide (d.rd (ETH_GCFG_ENABLE 0) ≠ 0) && decide (d.rd (ETH_GSTAT_DOWN 0) ≠ 1) && decide (modeLanes (d.portGroup 0).mode 0 ≠ 0))) = true ∧
    ((let d := setReg (ETH_GSTAT_DOWN 0) 1 (groupUp tenDev); decide (d.rd (ETH_GSTAT_DOWN 0) = 1) && decide (modeLanes (d.rd (ETH_GCFG_MODE 0)) 0 ≠ 0))) = true := by
  decide +kernel

/-- States that meet the conditions of the clauses of this statement. -/
theorem witness_flashPortCommands :
    ((tget (portDev fun p => { p with training := true }).ports 0).any fun p => p.training && decide (p.own = .owned) && p.passes train0 &&
      !p.passes { train0 with margins := List.replicate 7 5 ++ [4] }) = true ∧
    ((tget (portDev id).ports 0).any fun p => !p.training) = true ∧
    ((let d := setReg (FLP_STAT_TRAINED 0) 1 (setReg (FLP_CTL_ENABLE 0) 1 (portDev fun p => { p with due := true })); (tget d.ports 0).any fun p => p.profile.isSome && d.retrainDue 0 p && d.portReady 0)) = true ∧
    ((tget (portDev id).ports 0).any fun p => !(portDev id).retrainDue 0 p) = true ∧
    ((let d := portDev fun p => { p with own := .ask, profile := none }; ((tget (ownedNow d 0 []).ports 0).bind (·.profile)).isNone)) = true ∧
    ((let d := { portDev fun p => { p with own := .ask } with profiles := [prof0] }; ((tget (ownedNow d 0 (List.replicate 32 (some ⟨[0x2C], 0x1234⟩))).ports 0).bind (·.profile)).isSome && !seizing d 0)) = true ∧
    ((let d := { portDev fun p => { p with own := .ask } with peer := { Peer.reset with takeover := some { from_ := 0, waiting := [0], seized := [], isolated := false } }, now := 20000 }; seizing d 0 && decide (usNs 20 ≤ d.now))) = true ∧
    ((((portDev id).freePort 0).bump (FLP_OWN_LOSSES 0)).solo) = true ∧
    (!((mgmtDev.freePort 0).bump (FLP_OWN_LOSSES 0)).solo) = true ∧
    (decide (((portDev fun p => { p with own := .leaving }).freePort 0).peer.handback ≠ 5)) = true ∧
    (!(guardSeen (portDev id) 0 51).isSet (FLP_GUARD_STAT_HELD 0)) = true ∧
    (!(guardSeen (portDev id) 0 50).heatHolds 0) = true ∧
    ((setReg (FLP_GUARD_STAT_HELD 0) 1 { portDev fun p => { p with goodSince := some 0 } with now := 1000000 }).isSet (FLP_GUARD_STAT_HELD 0)) = true := by
  decide +kernel

/-- States that meet the conditions of the clauses of this statement. -/
theorem witness_mediaCommands :
    (!noParity (rowDev .closed) && ((rowDev .closed).row 0 1).any fun w => decide (w.state = .closed)) = true ∧
    (noParity { tenDev with outOfService := [768, 769] }) = true ∧
    (unitStands { tenDev with parityWork := [(0, .unit 3)] } 3 && !unitStands tenDev 3 && !noParity tenDev) = true ∧
    (((rowDev .filling).row 0 1).any fun w => rowDue (rowDev .filling) 0 w (fillWait (rowDev .filling) w)) = true ∧
    ((let d := setReg PEER_STAT_STATE 1 { rowDev .filling with now := 0 }; (d.row 0 1).any fun w => !rowDue d 0 w (fillWait d w))) = true ∧
    ((coverDev.row 0 1).any fun w => !coverDev.rowCounts w && rowDue coverDev 0 w (fillWait coverDev w)) = true ∧
    (((rowDev .programmed).row 0 1).any fun w => (rowDev .programmed).rowCounts w) = true ∧
    (decide (journalOn (flashDev (.journal 0 [1])) 0 = some (flop (.journal 0 [1]))) && !(flashDev (.journal 0 [1])).busPaused 0) = true ∧
    ((journalOn tenDev 2047).isNone && (portDev fun p => { p with training := true }).busPaused 0) = true ∧
    (decide ((flashDev (.program 0 1 0)).endable 0 1 = [flop (.program 0 1 0)])) = true ∧
    (Dev.endable { tenDev with flash := [{ flop (.program 0 1 0) with issued := false }] } 0 1).isEmpty = true ∧
    ((tenDev.failing 0 1 0).isNone && decide ((flashDev (.program 0 1 0)).failing 0 1 0 = some (flop (.program 0 1 0)))) = true ∧
    (decide (Dev.failing { flashDev (.journal 0 [1]) with groups := roomDev.groups } 0 1 0 = some (flop (.journal 0 [1])))) = true ∧
    (decide ((flashDev (.erase 0 5 9)).eraseOn 0 5 0 = some (flop (.erase 0 5 9))) && (tenDev.eraseOn 0 5 0).isNone) = true ∧
    (([.program 0 1 0, .read 0 0, .erase 0 0 0, .journal 0 [1], .overlay 0 1 0 0 0 0, .rebuild 0 1 0] : List FOp).all fun o => decide ((flashDev o).flash.find? (fun (x : FlashOp) => decide (x.die = 0) && x.issued) = some (flop o))) = true ∧
    (((closedDev 0).row 0 1).any fun w => (closedDev 0).parityReady 0 1 w) = true ∧
    (((closedDev 1).row 0 1).any fun w => !(closedDev 1).parityReady 0 1 w) = true ∧
    (decide (dumping (flashDev (.dump (rowKey 0 1) 0)) 0 1 0 = some (flop (.dump (rowKey 0 1) 0))) && (dumping (rowDev .programming) 0 1 0).isNone) = true ∧
    (!((flashDev (.dump (rowKey 0 1) 0)).dumpOps 0 1).isEmpty && ((rowDev .programming).dumpOps 0 1).isEmpty) = true ∧
    decide ((flashDev (.dump (rowKey 0 1) 0)).flash.find? (fun (x : FlashOp) => decide (x.die = 0) && x.issued) = some (flop (.dump (rowKey 0 1) 0))) = true := by
  decide +kernel

/-- States that meet the conditions of the clauses of this statement. -/
theorem witness_passCommands :
    (tenDev.passesOn) = true ∧
    (!(powerDev 2).passesOn) = true ∧
    (!tenDev.tooOld 0 0) = true := by
  decide +kernel

/-- States that meet the conditions of the clauses of this statement. -/
theorem witness_coatAndScrape :
    (decide ((segDev seg0 slot0 false).foldNext 0 = some (0, slot0)) && !coatReady (segDev seg0 slot0 false) 0 0) = true ∧
    (coatReady (segDev seg0 slot0 true) 0 0 && noneLive (coating (segDev seg0 slot0 true) 0 0) 0 0) = true ∧
    (!noneLive (coating { segDev seg0 slot0 true with crecs := [(0, crec0)] } 0 0) 0 0) = true ∧
    (decide ((coating (segDev seg0 { slot0 with live := 1048576 } true) 0 0).rd MAP_PRIMER_CFG_FOLD_MIN_LIVE * 1048576 ≤ 1048576 * 100) &&
      decide (0 < (coating (segDev seg0 slot0 true) 0 0).rd MAP_PRIMER_CFG_FOLD_MIN_LIVE)) = true ∧
    (roomDev.foldNext 0).isNone = true ∧
    (let d := segDev { hostSeg0 with claim := some .media } slot0 true;
      decide ((scraping d 0).claimedNext 0 = some (0, .media)) && ((scraping d 0).sourceFor 0 0).2) = true ∧
    (let d := segDev { hostSeg0 with claim := some .scrape } slot0 false;
      decide ((scraping d 0).claimedNext 0 = some (0, .scrape)) && !((scraping d 0).sourceFor 0 0).2) = true ∧
    (let d := scraping (dieDev ((upTo 930).map fun i => (i, blk0)) (segDev hostSeg0 slot0 true)) 0;
      decide (d.claimedNext 0 = none) && (d.group 0).any (·.scrapeOn) && decide (d.victim 0 = some 0) && ((d.claim 0 0 (scrapeAs d 0)).sourceFor 0 0).2) = true ∧
    (let d := scraping (segDev seg0 slot0 true) 0;
      decide (d.claimedNext 0 = none) && decide (d.victim 0 = none)) = true := by
  decide +kernel

/-- States that meet the conditions of the clauses of this statement. -/
theorem witness_passEffects :
    (let e := wornDev.evenPools 0;
      decide (e.rd MAP_WEAR_CFG_SPREAD < (e.wearSpan 0).2 - (e.wearSpan 0).1) && ((e.claim 0 0 .wear).sourceFor 0 0).2 &&
        (tget e.dies 0).any fun x => decide (argMin (fun e => e.2.2.sealedAt) (levelFrom e 0 x) = some (0, 0, hostSeg0))) = true ∧
    (decide ((wornDev.blk 0 3).map (·.state) = some .sealed) && decide ((wornDev.blk 0 4).map (·.state) = some .free) && !wornDev.tooOld 0 3) = true ∧
    (wornDev.sampleWanted 0 3 blk0 && !wornDev.sampleWanted 0 3 { blk0 with sampled := some (wornDev.now, wornDev.bucketNow 0 3) }) = true ∧
    ((rebDev { seg0 with claim := some .rebuild }).group 0).any (fun x =>
      let d := onRebuild (rebDev { seg0 with claim := some .rebuild }) 0 0 x;
      d.passesOn && (blockIn x 1).isNone && !blockWaits d 0 1 x && ((d.unitsRead 0).unitsOf 0).isEmpty && !(d.unitsRead 0).unitsDue 0 &&
        decide (x.rebuild = some (1, 0, 0, 0)) && decide (x.state = .rebuilding) && (x.segs.find? fun e => e.2.claim = some .rebuild).isSome) = true ∧
    ((rebDev seg0).group 0).any (fun x =>
      let d := onRebuild { rebDev { seg0 with claim := some .rebuild } with flash := [flop (.rebuild 0 1 0)] } 0 0 x;
      (d.unitsRead 0).unitsDue 0 && !blockWaits d 0 1 x) = true ∧
    (decide (blockIn { group0 with segs := [(0, { seg0 with blocks := [some (1, 9)] })], rebuildBlock := some 9 } 1 = some (0, 9))) = true ∧
    (let x := { group0 with segs := [(0, seg0)], rebuildBlock := some 9 };
      (blockIn x 1).isNone && blockWaits { tenDev with batches := [{ pending0 with recs := [.segForm 0 [some (1, 9)] true 0] }] } 0 1 x) = true ∧
    (((rebDev seg0).group 0).any fun x => (x.segs.find? fun e => e.2.claim = some .rebuild).isNone &&
      decide (nextRebuilt x 0 = some (0, seg0))) = true ∧
    ((rebDev seg0).group 0).any (fun x => ((onRebuild (rebDev seg0) 0 0 x).ask (.rebuild 0) 262144 1 .O noTenant).handsOf (.rebuild 0) = []) = true ∧
    ((rebDev seg0).group 0).any (fun x =>
      let d := Dev.ask (onRebuild { rebDev seg0 with hands := [(.rebuild 0, [1])], dies := [(0, Die.fresh prof0), (1, Die.fresh prof0)] } 0 0 x)
        (.rebuild 0) 262144 1 .O noTenant;
      !(d.handsOf (.rebuild 0)).isEmpty && decide (d.seg 0 0 = some seg0) && (d.freeBlock 1 true false).isSome) = true ∧
    (((rebDev { seg0 with blocks := [some (5, 3)] }).group 0).any fun x => decide (x.onMember 0 = []) && !(onRebuild (rebDev seg0) 0 0 x).forming 0) = true ∧
    ((roomDev.group 0).any fun x => (x.member 0).any fun k => !k.failed) = true ∧
    (let d := { roomDev with ckpt := { roomDev.ckpt with tail := 2 ^ 40 } };
      decide (d.ckpt.cycle = none) && !d.groups.isEmpty && decide (d.rd MAP_CKPT_CFG_START * 1048576 < d.ckpt.tail)) = true ∧
    (decide (roomDev.ckpt.tail ≤ roomDev.rd MAP_CKPT_CFG_START * 1048576) && !roomDev.pageHeld (0, 0) && !roomDev.ckpt.wanted.contains (0, 0) &&
      ({ roomDev with ckpt := { roomDev.ckpt with held := [(0, 0)] } } : Dev).pageHeld (0, 0)) = true := by
  decide +kernel

/-- States that meet the conditions of the clauses of this statement. -/
theorem witness_volumeBackground :
    ((let d := volDev fun x => { x with origin := some (1, 0) }; (d.vol 0).any fun x => (d.issued.vol 0).any fun y => x.origin.isSome && decide (y.fillTo < x.grains) && decide (fillCount d 0 x y ≠ 0))) = true ∧
    (fillLate.vol 0).any (fun x => (fillLate.issued.vol 0).any fun y => x.origin.isSome && decide (y.fillTo < x.grains) && decide (fillCount fillLate 0 x y = 0)) = true ∧
    ((let d := { volDev fun x => { x with origin := some (1, 0) } with batches := [{ pending0 with recs := [.cloneFill 0 0 64], cmd := none }] }; (d.vol 0).any fun x => (d.issued.vol 0).any fun y => decide (x.grains ≤ y.fillTo) && decide (x.fillTo < x.grains))) = true ∧
    (decide (vol0.origin = none)) = true ∧
    ((let d := volDev fun x => { x with snaps := [(0, { snap0 with deleting := true })] }; (d.issued.vol 0).any fun x => (tget x.snaps 0).any (·.deleting))) = true ∧
    ((tenDev.issued.vol 0).any fun x => (tget x.snaps 0).any fun k => !k.deleting) = true ∧
    (((volDev fun x => { x with epoch := 0xF000 }).vol 0).any fun x => decide (0xF000 ≤ x.epoch) && !x.snaps.any fun e => e.2.deleting) = true ∧
    (((volDev fun x => { x with epoch := 0xF000, snaps := [(0, { snap0 with deleting := true })] }).vol 0).any fun x => x.snaps.any fun e => e.2.deleting) = true ∧
    (decide (vol0.epoch < 0xF000)) = true := by
  decide +kernel

/-- States that meet the conditions of the clauses of this statement. -/
theorem witness_replicationCommands :
    ((tget (sessDev true id).sessions 0).any fun x => !x.receiver && decide (x.state = .idle) && decide (x.closer = none) && decide (x.startedAt + msNs x.interval ≤ 2000000000)) = true ∧
    ((tget (sessDev true id).sessions 0).any fun x => sessUp (sessDev true id) x) = true ∧
    ((tget (sessDev false fun x => { x with receiver := true, state := .sending }).sessions 0).any fun x => !sessUp (sessDev false id) x && x.receiver && midway x) = true ∧
    ((tget (sessDev false fun x => { x with state := .waitAck, cand := some 0 }).sessions 0).any fun x => !x.receiver && midway x) = true ∧
    ((tget (sessDev false id).sessions 0).any fun x => !midway x) = true := by
  decide +kernel

theorem xorB_twice : ∀ (b s : Bytes), b.length ≤ s.length → xorB (xorB b s) s = b
  | [], _, _ => by simp [xorB]
  | x :: b, [], h => by simp at h
  | x :: b, y :: s, h => by
    have := xorB_twice b s (by simpa using h)
    simp only [xorB, List.zipWith_cons_cons] at this ⊢
    rw [this, BitVec.xor_assoc, BitVec.xor_self, BitVec.xor_zero]

theorem length_xorB (b s : Bytes) : (xorB b s).length = min b.length s.length := by simp [xorB]

theorem length_toLE (n v : Nat) : (toLE n v).length = n := by
  induction n generalizing v with
  | zero => rfl
  | succ n ih => simp [toLE, ih]

theorem length_toBE (n v : Nat) : (toBE n v).length = n := by
  simp [toBE, length_toLE]

theorem length_aesEnc {ks : List Bytes} (h : (ks.getD 14 []).length = 16) (b : Bytes) : (aesEnc ks b).length = 16 := by
  simp only [aesEnc, length_xorB, h, shiftRows, List.length_map]; simp [upTo]

theorem length_gcmStream {ks : List Bytes} (h : (ks.getD 14 []).length = 16) (n : Bytes) (m c : Nat) : (gcmStream ks n m c).length = 16 * m := by
  induction m generalizing c with
  | zero => rfl
  | succ m ih => simp only [gcmStream, List.length_append, length_aesEnc h, ih]; omega

theorem length_gcmTag {k : Bytes} (h : ((aesKeys k).getD 14 []).length = 16) (n a c : Bytes) : (gcmTag k n a c).length = 16 := by
  simp only [gcmTag, length_xorB, length_aesEnc h, length_toBE]; rfl

theorem cut_sealed {h c t : Bytes} (hh : h.length = 64) (_ : t.length = 16) :
    (h ++ c ++ t).take 64 = h ∧ slice (h ++ c ++ t) 64 (80 + c.length - 80) = c ∧ (h ++ c ++ t).drop (80 + c.length - 16) = t := by
  refine ⟨?_, ?_, ?_⟩
  · rw [List.append_assoc, ← hh, List.take_left']; rfl
  · rw [slice, List.append_assoc, ← hh, List.drop_left' rfl, show 80 + c.length - 80 = c.length by omega, List.take_left' rfl]
  · rw [show 80 + c.length - 16 = (h ++ c).length by rw [List.length_append]; omega, List.drop_left' rfl]

/-- The part that has opened message c of session n. -/
def heardOn (e : Dev) (n : Nat) (s : Sess) (c : Nat) : Dev :=
  Dev.modSess { e with sec := { e.sec with gcm := tput e.sec.gcm s.key { e.gcmAt s.key with seen := tput (e.gcmAt s.key).seen (s.hisField 0) c } } } n
    fun s => { s with lastAccepted := some c }

/-- A message as the other end of a session seals it. -/
def sealedBy (s : Sess) (t h body : Bytes) : Bytes :=
  let nonce := gcmNonce (s.hisField 0) (le h 8 8)
  h ++ gcmCrypt t nonce body ++ gcmTag t nonce h (gcmCrypt t nonce body)

theorem length_gcmCrypt {k : Bytes} (h : ((aesKeys k).getD 14 []).length = 16) (n b : Bytes) : (gcmCrypt k n b).length = b.length := by
  rw [gcmCrypt, length_xorB, length_gcmStream h, ceilDiv, if_neg (by decide)]; omega

theorem gcmCrypt_twice {k : Bytes} (h : ((aesKeys k).getD 14 []).length = 16) (n b : Bytes) : gcmCrypt k n (gcmCrypt k n b) = b := by
  have hl := length_gcmCrypt h n b
  unfold gcmCrypt at hl ⊢
  rw [hl]
  exact xorB_twice _ _ (by rw [length_gcmStream h, ceilDiv, if_neg (by decide)]; omega)

/-- A message sealed as the other end of a session seals it opens, as the first of its kind. -/
theorem opens_sealed {d e : Dev} {net : Net} {n : Nat} {s : Sess} {k : KeyRec} {h body : Bytes}
    (hd : d.sessionDoor net (80 + body.length) = (e, some (n, s))) (hh : h.length = 64) (hl : le h 0x1C 4 = body.length) (hk : e.keyAt s.key = some k)
    (hs : tget (e.gcmAt s.key).seen (s.hisField 0) = none) (hw : ((aesKeys k.t).getD 14 []).length = 16) :
    opens d net (sealedBy s k.t h body) (le h 0 1) n (heardOn e n s (le h 8 8)) { s with lastAccepted := some (le h 8 8) } h body := by
  have hc := length_gcmCrypt hw (gcmNonce (s.hisField 0) (le h 8 8)) body
  have ht := length_gcmTag hw (gcmNonce (s.hisField 0) (le h 8 8)) h (gcmCrypt k.t (gcmNonce (s.hisField 0) (le h 8 8)) body)
  have hr : (sealedBy s k.t h body).length = 80 + body.length := by simp [sealedBy, hh, hc, ht]; omega
  obtain ⟨h1, h2, h3⟩ := cut_sealed (c := gcmCrypt k.t (gcmNonce (s.hisField 0) (le h 8 8)) body) hh ht
  have h4 := gcmCrypt_twice hw (gcmNonce (s.hisField 0) (le h 8 8)) body
  rw [hc] at h2 h3
  simp only [opens, Dev.openRepl, hr, hd]
  simp only [sealedBy] at h1 h2 h3 ⊢
  simp only [h1, h2, h3]
  simp [hl, hk, hs, h4, heardOn]

/-- The part with session 0 as f makes it, its host port up and its queue pair classified; the header of a message to it. -/
def replDev (f : Sess → Sess) : Dev :=
  setReg (ETH_GSTAT_LINK 0) 1 ((sessDev true f).setEntry 0 (some { key := classKey 4 0, mask := classMask, result := classResult true 1 0 }))
def replHead (type cycle records target length : Nat) : Bytes :=
  toLE 1 type ++ zeros 3 ++ toLE 4 cycle ++ toLE 8 1 ++ toLE 8 target ++ toLE 4 records ++ toLE 4 length ++ zeros 32
def replNet : Net := { mgmtNet with qpn := 4, port := 0 }

/-- Whether a message with that header and a body opens, and meets `ok` then. -/
def replRead (f : Sess → Sess) (h body : Bytes) (ok : Dev → Sess → Bytes → Bytes → Bool) : Bool :=
  match (replDev f).sessionDoor replNet (80 + body.length) with
  | (e, some (n, s)) => decide (n = 0) && decide (h.length = 64) && decide (le h 0x1C 4 = body.length) && decide (e.keyAt s.key = some (key 2 0)) &&
      (tget (e.gcmAt s.key).seen (s.hisField 0)).isNone && ok (heardOn e 0 s (le h 8 8)) { s with lastAccepted := some (le h 8 8) } h body
  | (_, none) => false

theorem round_keys : ((aesKeys (key 2 0).t).getD 14 []).length = 16 := by decide +kernel

theorem replRead_opens {f : Sess → Sess} {h body : Bytes} {ok : Dev → Sess → Bytes → Bytes → Bool} (hr : replRead f h body ok = true) :
    ∃ raw e x, opens (replDev f) replNet raw (le h 0 1) 0 e x h body ∧ ok e x h body = true := by
  unfold replRead at hr
  split at hr
  · rename_i e n s hd
    simp only [Bool.and_eq_true, decide_eq_true_eq, Option.isNone_iff_eq_none] at hr
    obtain ⟨⟨⟨⟨⟨rfl, hh⟩, hl⟩, hk⟩, hs⟩, ho⟩ := hr
    exact ⟨_, _, _, opens_sealed hd hh hl hk hs round_keys, ho⟩
  · exact absurd hr (by decide)

/-- Messages that open (`replRead_opens`), and meet the further conditions of the clauses. -/
theorem witness_replHello :
    replRead (fun x => { x with receiver := true, state := .opening }) (replHead 1 0 0 (vol1.handle 1) 16) (toLE 8 (b2n vol1.grain16) ++ toLE 8 vol1.capacity)
      (fun e x h b => (e.vol x.volume).any fun v => x.receiver && decide (le h 0x10 8 = v.handle x.volume) &&
      decide (le b 0 8 = b2n v.grain16) && decide (le b 8 8 ≤ v.capacity)) = true ∧
    replRead (fun x => { x with receiver := true }) (replHead 1 0 0 0 16) (zeros 16)
      (fun e x h _ => (e.vol x.volume).any fun v => x.receiver && decide (le h 0x10 8 ≠ v.handle x.volume)) = true ∧
    replRead (fun x => { x with state := .opening }) (replHead 1 0 0 0 16) (zeros 16)
      (fun e x _ _ => (e.vol x.volume).isSome && !x.receiver && decide (x.state = .opening)) = true := by
  decide +kernel

/-- Messages that open (`replRead_opens`), and meet the further conditions of the clauses. -/
theorem witness_replCycle :
    replRead (fun x => { x with receiver := true }) (replHead 2 1 1 0 16) (zeros 16)
      (fun e x h b => (e.vol x.volume).any fun v => x.receiver && decide (x.state = .idle) &&
      match Dev.enterAll 0 v.grainBytes (le h 0x18 4) (begun e 0 h) b with | .ok _ => true | .error _ => false) = true ∧
    replRead (fun x => { x with receiver := true }) (replHead 2 1 1 0 32) (toLE 8 0 ++ [2, 1] ++ zeros 22)
      (fun e x h b => (e.vol x.volume).any fun v => x.receiver && decide (x.state = .idle) &&
      match Dev.enterAll 0 v.grainBytes (le h 0x18 4) (begun e 0 h) b with | .ok _ => false | .error _ => true) = true ∧
    replRead (fun x => { x with receiver := true, cycle := 1, state := .sending, wrote := [0] }) (replHead 3 1 1 0 0) ([])
      (fun e x h _ => x.receiver && decide (x.state = .sending) &&
      (tget e.sessions 0).isSome && decide (entered e 0 h = le h 0x18 4)) = true ∧
    replRead (fun x => { x with receiver := true }) (replHead 3 1 1 0 0) ([])
      (fun e x h _ => x.receiver && decide (x.state = .idle) && (tget e.sessions 0).isSome &&
      decide (entered e 0 h ≠ le h 0x18 4)) = true := by
  decide +kernel

/-- Messages that open (`replRead_opens`), and meet the further conditions of the clauses. -/
theorem witness_replAnswers :
    replRead (fun x => { x with state := .sending }) (replHead 4 0 0 0 16) (zeros 16)
      (fun _ x _ _ => !x.receiver && decide (x.state = .sending)) = true ∧
    replRead (fun x => { x with state := .waitAck, unacked := [(1, 0)] }) (replHead 4 0 0 0 16) (toLE 8 1 ++ zeros 8)
      (fun _ x _ b => !x.receiver && decide (x.state = .waitAck) &&
      (x.unacked.all fun e => decide (e.1 ≤ le b 0 8)) && !x.unacked.isEmpty && x.outbox.isEmpty) = true ∧
    replRead (fun x => { x with state := .opening }) (replHead 5 0 0 0 16) (zeros 8 ++ toLE 8 0x1011)
      (fun _ x _ b => !x.receiver && decide (x.state = .opening) && decide (le b 8 8 = 0x1011)) = true ∧
    replRead (fun x => { x with state := .opening }) (replHead 5 0 0 0 16) (zeros 16)
      (fun _ x _ b => !x.receiver && decide (x.state = .opening) && decide (le b 8 8 ≠ 0x1011)) = true ∧
    replRead (fun x => { x with state := .sending }) (replHead 5 0 0 0 16) (zeros 8 ++ toLE 8 1)
      (fun _ x _ b => !x.receiver && decide (x.state = .sending) && decide (le b 8 8 ≠ 0)) = true ∧
    replRead (fun x => { x with state := .sending }) (replHead 5 0 0 0 16) (zeros 16)
      (fun _ x _ b => !x.receiver && decide (x.state = .sending) && decide (le b 8 8 = 0)) = true := by
  decide +kernel

/-- States that meet the conditions of the clauses of this statement. -/
theorem witness_streamAndDrainCommands :
    ((let d := { cmdDev (fun c => { c with claim := .V, msg := { c.msg with stream := 0 } }) with time := { TimeBase.reset with acc := 2 ^ 90 } }; cmd0 d fun c => decide (c.stage ≠ .done) && decide (d.lateness c ≠ 0))) = true ∧
    (cmd0 busyDev fun c => decide (c.claim ≠ .V)) = true ∧
    ((let d := { tenDev with streams := [(0, { stream0 with atRisk := true, clearSince := some 0 })], now := 1000000000 }; !d.guaranteesLost && !d.filtered 0 0)) = true ∧
    (decide (stream0.atRisk = false)) = true ∧
    ((let d := { tenDev with tenants := [(0, mgmtTenant), (1, { tenant1 with life := .draining })] }; d.drained 1 && decide (d.drainHeld 1 .enableTenant = []))) = true ∧
    ((let d := { cmdDev (fun c => { c with op := .enableTenant, tenant := 0, hold := .drain, stage := .exec, msg := { c.msg with param := par [(0x28, 1)] } }) with tenants := [(0, mgmtTenant), (1, { tenant1 with life := .draining, enableHeld := some 0 })] }; d.drained 1 && decide (d.drainHeld 1 .enableTenant ≠ []))) = true := by
  decide +kernel

/-- States that meet the conditions of the clauses of this statement. -/
theorem witness_linkFrames :
    ((let d := pairDev 6 1; !d.solo && !d.fenced && d.isSet PEER_LINK_UP && decide (d.peer.step = 6) && (d.openSealed hdr0).any fun o => (o.inOrder hdr0).isSome)) = true ∧
    ((let d := pairDev 6 1; (d.openSealed { hdr0 with tagOk := false }).isNone)) = true ∧
    ((let d := pairDev 6 1; (d.openSealed { hdr0 with seq := 5 }).any fun o => (o.inOrder { hdr0 with seq := 5 }).isNone)) = true ∧
    (decide (mgmtDev.peer.step ≠ 6)) = true ∧
    (!claimsOurs (pairDev 6 1) 0) = true ∧
    ((let d := { pairDev 6 1 with ports := [(0, port0), (32, port0)] }; claimsOurs d 0xFFFFFFFFFFFFFFFF)) = true ∧
    ((let d := { pairDev 6 0 with peer := { (pairDev 6 0).peer with resyncSeq := some 0 } }; d.peer.resyncSeq.isSome && seqBy d.peer.resyncSeq 0 && decide (d.rd PEER_STAT_STATE = 0))) = true ∧
    (!mgmtDev.isSet PEER_LINK_UP) = true ∧
    (let d := linkAcked (cmdDev fun c => { (c.setNum 17 1) with op := .cryptoErase, hold := .partner, stage := .exec }) 0;
      decide (partnerWaits d = [0]) && (cmd0 d fun c => decide (c.op = .cryptoErase)) && !d.linked) = true := by
  decide +kernel

/-- States that meet the conditions of the clauses of this statement. -/
theorem witness_pairingFrames :
    ((let d := pairDev 1 0; !d.solo && !d.fenced && d.isSet PEER_LINK_UP && decide (d.peer.step = 1) && !d.isSet PEER_STAT_NEW_SERIAL && (d.inOrder hdr0).any fun e => (e.helloFails (hello0 e)).isSome || decide (e.peer.partner ≠ some (hello0 e).serial.toNat))) = true ∧
    ((let d := pairDev 3 0; !d.solo && !d.fenced && d.isSet PEER_LINK_UP && decide (d.peer.step = 3) && !d.isSet PEER_STAT_NEW_SERIAL && (d.inOrder hdr0).any fun e => decide (e.peer.step = 3))) = true ∧
    ((let d := pairDev 4 0; !d.solo && !d.fenced && d.isSet PEER_LINK_UP && decide (d.peer.step = 4) && !d.isSet PEER_STAT_NEW_SERIAL && (d.inOrder hdr0).any fun e => decide (slice [] 0x18 16 = e.peer.myNonce))) = true ∧
    ((let d := pairDev 5 0; !d.solo && !d.fenced && d.isSet PEER_LINK_UP && decide (d.peer.step = 5) && !d.isSet PEER_STAT_NEW_SERIAL && (d.inOrder hdr0).any fun e => decide (e.peer.step = 5))) = true ∧
    ((let d := pairDev 0 0; (lanesUp d 0x1FFFF).isSet PEER_LINK_UP && decide ((lanesUp d 0x1FFFF).rd PEER_STAT_STATE ≠ 4) && !(lanesUp d 0x1FFFF).peer.sole)) = true ∧
    ((let d := pairDev 0 0; !(lanesUp d 0).isSet PEER_LINK_UP)) = true ∧
    (tenDev.solo) = true ∧
    ((let d := pairDev 0 0; (({ d with boot := { Boot.reset with phase := .fetch } } : Dev).inOrder hdr0).any fun e => decide (e.boot.phase = .fetch))) = true ∧
    (((pairDev 0 0).inOrder hdr0).any fun e => decide (e.boot.phase = .running)) = true := by
  decide +kernel

/-- States that meet the conditions of the clauses of this statement. -/
theorem witness_partnerCommands :
    ((let d := pairDev 6 1; bit (d.rd PEER_LINK_LANES) 16 && (d.setLanes (16 :: d.peer.lanesBad)).isSet PEER_LINK_UP)) = true ∧
    ((let d := { pairDev 6 1 with peer := { (pairDev 6 1).peer with lanesBad := upTo 16 } }; !(d.setLanes (16 :: d.peer.lanesBad)).isSet PEER_LINK_UP && (d.setLanes (16 :: d.peer.lanesBad)).linked && (d.setLanes (16 :: d.peer.lanesBad)).hisAlive)) = true ∧
    (decide ((toggled (pairDev 6 1)).rd PWR_STAT_STATE < 3) && decide ((toggled (pairDev 6 1)).peer.step = 6)) = true ∧
    (decide (3 ≤ (toggled (powerDev 3)).rd PWR_STAT_STATE)) = true ∧
    (([0, 1, 2, 4] : List Nat).all fun n => let d := { pairDev 6 n with now := 1000000000 }; !d.solo && !d.fenced && d.partnerDead && decide (d.peer.takeover = none) && !d.peer.sole && decide (d.rd PEER_STAT_STATE = n)) = true ∧
    ((let d := { pairDev 6 1 with now := 100000, peer := { (pairDev 6 1).peer with aliveAt := 99999 } }; d.linked && !d.fenced && d.hisAlive && decide (d.peer.frameAt + usNs 80 ≤ d.now))) = true ∧
    (!mgmtDev.linked) = true := by
  decide +kernel

/-- States that meet the conditions of the clauses of this statement. -/
theorem witness_powerCommands :
    (decide ((powerDev 1).rd PWR_STAT_STATE = 1)) = true ∧
    (wakes 1 1) = true ∧
    (!wakes 4 1) = true ∧
    ((let d := { setReg PWR_CFG_AUTO_POISE 1 mgmtDev with now := 1000000000 }; d.accepting && d.isSet PWR_CFG_AUTO_POISE && d.atRest && decide (d.power.idleSince + usNs (d.rd PWR_CFG_POISE_IDLE) ≤ d.now))) = true ∧
    ((let d := setReg PWR_CFG_AUTO_POISE 1 busyDev; d.accepting && !d.atRest)) = true ∧
    (!(setReg PWR_CFG_AUTO_POISE 0 mgmtDev).isSet PWR_CFG_AUTO_POISE) = true ∧
    ((let d := { mgmtDev with power := { Power.reset with entering := some 2 } }; entryTold d && d.mayEnter 1 && decide (d.rd PWR_STAT_STATE + 1 < 2))) = true ∧
    ((let d := { mgmtDev with power := { Power.reset with entering := some 1 } }; entryTold d && d.mayEnter 1)) = true ∧
    (decide ((paceSeen (powerDev 0) 3 [] 700 100).rd PWR_STAT_STATE = 0)) = true ∧
    (decide ((paceSeen (powerDev 1) 3 [] 700 100).rd PWR_STAT_STATE ≠ 0)) = true ∧
    ((let d := sensed (powerDev 0) 23 1000 false; !d.sensorFailed 23 && decide (d.rd (THM_THR_ENABLE 23) ≠ 0) && decide (d.threshold (THM_THR_TRIP 23) ≤ 1000))) = true ∧
    ((let d := sensed (powerDev 0) 0 200 false; !d.sensorFailed 0 && decide (d.rd (THM_THR_ENABLE 0) ≠ 0) && decide (200 < d.threshold (THM_THR_TRIP 0)))) = true ∧
    ((let d := { setReg PWR_STAT_THROTTLE 1 mgmtDev with thermal := { Thermal.reset with atThrottle := [(0, 0, -1)] }, now := 2000000000 }; decide (d.rd PWR_STAT_THROTTLE = 1) && (d.thermal.atThrottle.find? fun e => decide (e.2.1 + sNs 2 ≤ d.now) && decide (e.2.2 < d.sensor e.1)).isSome)) = true ∧
    (decide (msNs 2 ≤ 2000000)) = true ∧
    (decide (mgmtDev.rd (THM_THR_ENABLE 23) ≠ 0)) = true ∧
    ((let d := { powerDev 3 with regs := (powerDev 3).regs ++ [(0x020060, BitVec.ofNat 32 1000)] ++ (upTo 8).map fun i => (0x020160 + 4 * i, BitVec.ofNat 32 (0x01554B46)) }; (watchTrips (watchRemote d) (watched d)).isSome)) = true ∧
    (let d := { powerDev 2 with power := { (powerDev 2).power with entering := some 3 } }; entryTold d && !d.fenced && !d.mayEnter (d.rd PWR_STAT_STATE + 1) && decide (d.rd PWR_STAT_STATE = 2)) = true ∧
    (let d := { powerDev 0 with power := { (powerDev 0).power with entering := some 1 } }; entryTold d && !d.fenced && d.mayEnter (d.rd PWR_STAT_STATE + 1) && (setReg FLT_FENCE_FENCED 1 d).fenced) = true := by
  decide +kernel

/-- States that meet the conditions of the clauses of this statement. -/
theorem witness_bootCommands :
    (decide (Dev.reset.boot.phase = .reset)) = true ∧
    (decide (mgmtDev.boot.phase ≠ .reset)) = true ∧
    ((let d := bootDev { Boot.reset with phase := .fetch, fetch := some (0, [], 0, 39000000000) }; decide (39000000000 + sNs 1 ≤ d.now))) = true ∧
    ((bootDev { Boot.reset with phase := .recovery, recovery := some rec0 }).recovering.isSome) = true ∧
    (mgmtDev.recovering.isNone) = true ∧
    (decide (recovered rec0 = none)) = true ∧
    (decide (rec0.mac ≠ some 2)) = true ∧
    ((bootDev { Boot.reset with phase := .recovery, recovery := some rec0 }).recovering.any fun r => r.mac.isSome && decide (r.at_ + sNs 10 ≤ 40000000000)) = true ∧
    ((let d := bootDev { Boot.reset with phase := .parked, dumpAt := some 0 }; Dev.dumpOver { d with pins := { d.pins with pwrfail := false } })) = true ∧
    ((let d := bootDev { Boot.reset with phase := .running, watchdog := some 10000000000 }; d.boot.watchdog.any fun t => decide (t + sNs 30 ≤ d.now))) = true ∧
    (mgmtDev.boot.watchdog.isNone) = true := by
  decide +kernel

/-- States that meet the conditions of the clauses of this statement. -/
theorem witness_timeCommands :
    ((let d := timeDev 2 { locked with lockedTemp := mgmtDev.tcTemp }; decide (d.rd TIME_STAT_STATE = 2) && decide (d.tcTemp = d.time.lockedTemp) && decide (d.time.lockedSince + sNs 60 ≤ d.now))) = true ∧
    ((let d := timeDev 2 { locked with lockedTemp := mgmtDev.tcTemp + 1 }; decide (d.tcTemp ≠ d.time.lockedTemp))) = true ∧
    ((let d := timeDev 1 locked; d.time.master.isSome && decide (d.time.syncAt + 4 * d.time.syncIvl ≤ d.now) && d.fromMaster ptp0 && decide (d.rd TIME_CFG_DOMAIN = ptp0.domain))) = true ∧
    (decide (mgmtDev.time.master = none)) = true ∧
    ((let d := { timeDev 3 locked with now := 86400000000001 }; decide (d.time.holdSince + sNs (3600 * d.rd TIME_CFG_HOLDOVER_MAX) < d.now))) = true ∧
    ((let d := timeDev 1 { locked with twoStep := some (1, 0, 0) }; d.fromMaster ptp0)) = true ∧
    (!(timeDev 1 locked).fromMaster { ptp0 with source := 2 }) = true ∧
    ((let d := timeDev 0 TimeBase.reset; decide (d.rd TIME_CFG_PTP_PORT = 31 ∨ d.rd TIME_CFG_PTP_PORT = 16) && decide (d.time.master = none))) = true ∧
    (!(timeDev 1 locked).isSet TIME_CFG_P2P) = true ∧
    ((setReg TIME_CFG_P2P 1 (timeDev 1 locked)).isSet TIME_CFG_P2P) = true ∧
    ((let d := { mgmtDev with time := { TimeBase.reset with acc := 2 ^ 80 } }; decide (d.time.ppsAt < stampSec d.stamp))) = true ∧
    ((let d := { mgmtDev with time := { TimeBase.reset with ppsHigh := true, ppsAt := 2 ^ 60 } }; decide (stampSec d.stamp ≤ d.time.ppsAt ∧ stampNs d.stamp < 100000000))) = true ∧
    (decide (stampSec mgmtDev.stamp ≤ mgmtDev.time.ppsAt)) = true := by
  decide +kernel

/-- States that meet the conditions of the clauses of this statement. -/
theorem witness_memoryCommands :
    ((let d := setReg DRC_PPR_CE_LIMIT 1 mgmtDev; decide ((corrected d 7 (7 * 2 ^ 32)).rd DRC_PPR_CE_LIMIT ≤ (recentCes d (7 * 2 ^ 32)).length))) = true ∧
    ((let d := setReg DRC_PPR_CE_LIMIT 2 mgmtDev; decide ((recentCes d 0).length < (corrected d 0 0).rd DRC_PPR_CE_LIMIT))) = true ∧
    ((let d := { mgmtDev with now := 100000000 }; decide ((tget d.dram.trainedAt 0).getD (0 * msNs (d.rd DRC_TRAIN_INTERVAL) / 8) + msNs (d.rd DRC_TRAIN_INTERVAL) ≤ d.now))) = true ∧
    (decide ((tget mgmtDev.dram.trainedAt 7).getD (7 * msNs (mgmtDev.rd DRC_TRAIN_INTERVAL) / 8) + msNs (mgmtDev.rd DRC_TRAIN_INTERVAL) > mgmtDev.now) && (tget mgmtDev.dram.trainedTemp 7).isNone) = true ∧
    ((mgmtDev.core 0).active && decide ((mgmtDev.core 0).running = none)) = true ∧
    ((let d := taskDev task0 { Core.fresh 0 false with running := some 0 }; (d.core 0).active)) = true ∧
    (!mgmtDev.tmem.copying.contains 255) = true ∧
    (mgmtDev.tmem.scrub.isNone) = true ∧
    ((let d := { cmdDev (fun c => { c with op := .tmemScrub }) with tmem := { Tmem.reset with scrub := some { first := 0, bytes := 8, cmd := some 0 } } }; d.cmds.any fun e => decide (e.1 = 0) && decide (e.2.stage ≠ Stage.done))) = true ∧
    ((({ Stencil.reset with banks := modAt Stencil.reset.banks 15 fun b => { b with next := some (3, 1) } } : Stencil).bank 15).next.isSome) = true ∧
    ((let d := mgmtDev; !d.isSet SEC_STAT_ES_FAILED && (d.sec.entropy.take 1).2 && decide ((d.sec.entropy.take 1).1.startLeft ≠ 0))) = true ∧
    ((let d := { mgmtDev with sec := { Sec.reset with entropy := { Entropy.reset with lastSample := 1, run := 1000 } } }; !(d.sec.entropy.take 1).2 && decide ((d.sec.entropy.failed d.now).failures.length < 3))) = true ∧
    ((let d := { mgmtDev with sec := { Sec.reset with entropy := { Entropy.reset with lastSample := 1, run := 1000, failures := [0, 0] } } }; !(d.sec.entropy.take 1).2 && decide (3 ≤ (d.sec.entropy.failed d.now).failures.length))) = true ∧
    ((let d := { cmdDev (fun c => { c with hold := .entropy }) with now := 100000000 }; cmd0 d fun c => decide (c.hold = .entropy) && !d.entropyOk && decide (c.num 23 + msNs 100 ≤ d.now))) = true ∧
    ((let d := { mgmtDev with sec := { Sec.reset with leaf := 2 ^ 19 } }; decide (2 ^ 19 ≤ d.treeSpent) && !d.isSet SEC_STAT_NEXT_TREE)) = true ∧
    (decide (mgmtDev.jtagRun 0 = 0)) = true := by
  decide +kernel

/-- States that meet the conditions of the clauses of this statement. -/
theorem witness_searchOrder :
    ((winner (searchDev.stencil.matches (fun _ => true) 0x12345678)).isSome) = true ∧
    ((winner (Stencil.reset.matches (fun _ => true) 0)).isNone) = true ∧
    (searchDev.regs.wf && (winner searchDev.lookMatches).any fun x => decide (x.1 ≤ 256) && decide (x.2.1 < 65536)) = true ∧
    (searchDev.lookup.stencil.cursor.any fun e => (winner (searchDev.lookup.lookMatches.filter fun x => Sys2Proof.Machine.after x.1 x.2.1 e.1 e.2)).isSome) = true ∧
    ((winner ({ mgmtDev with stencil := Stencil.reset } : Dev).lookMatches).isNone) = true := by
  decide +kernel

/-- States that meet the conditions of the clauses of this statement. -/
theorem witness_tileMemoryLaws :
    (Tmem.reset.wf && (Tmem.reset.write 0xFFFFFFF [1]).wf) = true := by
  decide +kernel

/-- States that meet the conditions of the clauses of this statement. -/
theorem witness_framesThatStartNothing :
    (decide (tenDev.doorOf { tenMsg with net := { mgmtNet with qpn := 9 } } = .stray)) = true ∧
    (decide (({ mgmtDev with eth := { mgmtDev.eth with qps := tmod mgmtDev.eth.qps 2 fun p => { p with use := .tomb 9 } } } : Dev).doorOf mgmtMsg = .tomb 9)) = true ∧
    (decide (({ mgmtDev with queues := [(0, { mgmtQueue with depth := 0 })] } : Dev).doorOf mgmtMsg = .nak)) = true ∧
    (decide (({ mgmtDev with tenants := [(0, mgmtTenant), (9, tenant1)], eth := { mgmtDev.eth with qps := tmod mgmtDev.eth.qps 2 fun p => { p with use := .tomb 9 } } } : Dev).doorOf { mgmtMsg with net := { mgmtNet with mac := 5 } } = .spoof 9)) = true ∧
    (decide (mgmtDev.door mgmtNet 7 false = .queue 0 false) && rawTruncated (zeros 7)) = true ∧
    (!rawTruncated (zeros 64) && !rawCrcOk (zeros 64)) = true ∧
    (decide (opOf 0xFFFF = none)) = true := by
  decide +kernel

/-- States that meet the conditions of the clauses of this statement. -/
theorem witness_checksInOrder :
    (((match queueOf { mgmtMsg with seq := 1 } mgmtDev with | some (k, q, t) => !frameTruncated mgmtMsg && (decide (q.nextSeq ≠ 1)) | none => false : Bool))) = true ∧
    (((match queueOf { mgmtMsg with queue := 1 } mgmtDev with | some (k, q, t) => !frameTruncated mgmtMsg && (decide (q.nextSeq = 0) && decide (k % 16 ≠ 1)) | none => false : Bool))) = true ∧
    (((match queueOf tenMsg { tenDev with tenants := [(0, mgmtTenant), (1, { tenant1 with life := .off })] } with | some (k, q, t) => !frameTruncated tenMsg && (decide (t.life ≠ .on)) | none => false : Bool))) = true ∧
    (((match queueOf tenMsg tenDev with | some (k, q, t) => !frameTruncated tenMsg && (decide (t.life = .on) && Op.tenantCreate.manager && decide (k / 16 ≠ 0)) | none => false : Bool))) = true ∧
    (((match queueOf { tenMsg with seq := 1 } busyDev with | some (k, q, t) => !frameTruncated tenMsg && (taken { tenMsg with seq := 1 } k q busyDev).tagBusy k tenMsg.tag.toNat | none => false : Bool))) = true := by
  decide +kernel

/-- The WRITE of command 0, to a volume that is compressed, its grain at the coder's turn with some output buffers; whether they are enough. -/
def coderDev (h : List Nat) : Dev × Bool :=
  let d := { cmdDev (fun c => { c with grains := tmod c.grains 0 fun x => { x with step := 10, data := zeros 4096 } }) with
    vols := tmod tenDev.vols 0 fun x => { x with vflags := 4 }, hands := [(.coded 0 0, h)] }
  (d, !d.cmpBusy (.grain 0 0) && (d.grainCmp 0 0).any fun j => d.outputHeld 0 0 j && (d.submitCmp (d.grainQuadrant 0 0 false) j).isSome)

/-- States that meet the conditions of the clauses of this statement. -/
theorem witness_descriptorCommands :
    ((let d := cmdDev fun c => { c with grains := tmod c.grains 0 fun x => { x with step := 95, frag := zeros 64 } }; !d.cmpBusy (.grain 0 0) && (d.grainCmp 0 0).any fun j => (d.submitCmp 0 j).isSome)) = true ∧
    ((let d := { taskDev { task0 with state := .ecall, call := some 3 } (Core.fresh 0 false) with regs := tenDev.regs }; !d.cmpBusy (.task 0) && (d.callCmp 0).any fun j => (d.submitCmp 0 j).isSome)) = true ∧
    (tenDev.cmpCorrupt 0 && (tenDev.submitCmp (bufQuadrant (tenDev.tmem.num 0x14 4)) (tenDev.descCmp 0)).isSome) = true ∧
    ((let d := cmdDev fun c => { c with op := .read, grains := tmod c.grains 0 fun x => { x with step := 9, match? := some 1, frag := zeros 64 } }; !d.laneBusy (.grain 0 0) && (d.grainCipher 0 0).any fun j => (d.submitLane false 0 j).isSome)) = true ∧
    (((match tenDev.descCipher 0 with | .inr _ => true | .inl _ => false : Bool))) = true ∧
    (((match tenDev.descDigest 0 with | .inr _ => true | .inl _ => false : Bool))) = true ∧
    ((let d := cmdDev fun c => { c with grains := tmod c.grains 0 fun x => { x with step := 9 } }; cmd0 d fun c => c.op.edits && (d.submitLane true 0 (LaneJob.of (.grain 0 0) c.claim c.prio c.tenant .sha none [])).isSome)) = true ∧
    ((let d := taskDev { task0 with state := .ecall, call := some 1 } (Core.fresh 0 false); !d.laneBusy (.task 0) && (d.callLane 0).any fun j => (d.submitLane true 0 j).isSome)) = true ∧
    (coderDev [0]).2 = true ∧
    (!(coderDev []).2) = true ∧
    ((coderDev []).1.grainCmp 0 0).isSome = true := by
  decide +kernel

/-- States that meet the conditions of the clauses of this statement. -/
theorem witness_engineCommands :
    ((let d := { busyDev with engines := [(0, { Engine.idle with running := some (cmpJob0 (.grain 0 0)) })] }; decide ((d.engine 0).running = some (cmpJob0 (.grain 0 0))) && !d.jobOrphan (.grain 0 0) none)) = true ∧
    (!(taskDev task0 (Core.fresh 0 false)).jobOrphan (.task 0) none) = true ∧
    (tenDev.jobOrphan (.task 0) none) = true ∧
    (tenDev.jobOrphan (.desc 0) (some 9) && !busyDev.jobOrphan (.desc 0) (some 0) && !tenDev.jobOrphan (.desc 0) none) = true ∧
    ((tenDev.descCmpDone 0 (cmpJob0 (.desc 0)) { result := 1, out := [], codes := 0 }).2 && !(tenDev.descCmpDone 0 (cmpJob0 (.desc 0)) { result := 0, out := [1], codes := 0 }).2) = true ∧
    (!laneWaits busyDev (LaneJob.of (.grain 0 0) .G 0 1 .sha none [])) = true ∧
    (!tenDev.jobOrphan (.session 0) none) = true ∧
    (laneWaits tenDev (LaneJob.of (.session 0) .G 0 1 .seal (some 48) [])) = true ∧
    ((let d := { tenDev with digests := [(0, laneOf 1)] }; decide (64 % laneBlock true = 0) && decide (0 < topRank d true 0) && (oldest ((d.lane true 0).queue.filter fun k => k.rank = topRank d true 0)).isSome)) = true ∧
    ((let d := { tenDev with digests := [(0, laneOf 0)] }; (d.lane true 0).queue.any fun k => decide (k.rank = (laneJob0 0).rank))) = true ∧
    ((let d := { entropyDev with masks := [(3, { requests := 2 ^ 20 })] }; decide (2 ^ 20 ≤ maskCount d 3) && d.entropyOk)) = true ∧
    ((let d := { tenDev with masks := [(3, { requests := 2 ^ 20 })] }; !d.entropyOk && !unseeded d 3)) = true ∧
    ((let d := setReg CIP_MASK_STAT_UNSEEDED 8 { tenDev with masks := [(3, { requests := 2 ^ 32 })] }; decide (2 ^ 32 ≤ maskCount d 3) && unseeded d 3)) = true ∧
    (!tenDev.isSet SEC_STAT_KEYS_SEALED && (tenDev.keyAt 48).isSome && !tenDev.cached 48) = true ∧
    ((tenDev.keyAt 50).isNone) = true ∧
    ((tenDev.keyAt 48).any fun k => decide (unwrapped k none = some k) && decide (unwrapped k (some []) = none)) = true ∧
    (({ tenDev with sec := { tenDev.sec with cache := [48] } } : Dev).cached 48) = true := by
  decide +kernel

end Sys2Proof.Tests

namespace Sys2Proof.Tests

set_option Elab.async false

open Sys2Proof Sys2Proof.Machine Sys2Proof.Claims

/-! ### Witnesses for the opcodes that carry data, with it in tile memory -/

/-- A program image (Table 12-7) of one instruction, END, at SCAN; its CRC put in. -/
def image0 : Bytes :=
  let b := toLE 4 0x746E6954 ++ toLE 4 1 ++ toLE 4 4 ++ zeros 8 ++ toLE 2 1 ++ toLE 2 1 ++ zeros 4 ++ zeros 4 ++ toLE 4 0 ++ toLE 4 0xFFFFFFFF ++ zeros 4 ++
    toLE 2 1 ++ toLE 2 1 ++ toLE 2 1 ++ toLE 2 1 ++ zeros 12 ++ toLE 4 (tintWord 0 0x39 0)
  patch b 0x34 (toLE 4 (crc32c b))

/-- Command 0 as opcode op of tenant 1 with PARAM and its data whole. -/
def wholeDev (op : Op) (p : List (Nat × Nat)) (b : Bytes) (d : Dev) : Dev :=
  { d with cmds := tmod busyDev.cmds 0 fun c =>
      { c with op := op, stage := .exec, payload := b, msg := { c.msg with param := par p, length := BitVec.ofNat 32 b.length } } }

theorem witness_loadProgram : cmd0 (wholeDev .loadProgram [] image0 tenDev) fun c => tintImageOk (imageIn c) c.length &&
    decide (((upTo 1024).find? fun n => !thas tenDev.progs n) = some 1) && decide (tenDev.progMem + 8192 ≤ 2 ^ 32) && !imageClamped (imageIn c) := by
  decide +kernel

theorem witness_loadProgramBad : cmd0 (wholeDev .loadProgram [] (image0.set 9 1) tenDev) fun c => !tintImageOk (imageIn c) c.length := by decide +kernel

/-- PATTERN_LOAD in a bank of the tenant, at its last index, and past it. -/
theorem witness_patternLoad :
    (∃ c, tget (wholeDev .patternLoad [(0x28, 40959), (0x2C, 1)] (zeros 80) bankDev).cmds 0 = some c ∧ patternsOwn bankDev c) ∧
    ∃ c, tget (wholeDev .patternLoad [(0x28, 40959), (0x2C, 2)] (zeros 160) bankDev).cmds 0 = some c ∧ ¬patternsOwn bankDev c :=
  ⟨⟨_, rfl, by unfold patternsOwn; decide +kernel⟩, ⟨_, rfl, by unfold patternsOwn; decide +kernel⟩⟩

/-- A command whose token is whole. -/
theorem witness_debugUnlock : ∃ c, tget (wholeDev .debugUnlock [] (zeros 64) entropyDev).cmds 0 = some c ∧ tokenWhole c ∧
    tokenGood (unheld entropyDev 0) (imageIn c) = false :=
  ⟨_, rfl, by unfold tokenWhole; decide +kernel, by decide +kernel⟩

/-- FW_STAGE while no update runs, its data an image whose header does not fit. -/
theorem witness_fwStage : cmd0 (wholeDev .fwStage [] (toLE 4 0 ++ zeros 16 ++ toLE 4 3968 ++ zeros 4072) tenDev) fun c =>
    !tenDev.updating && (imageOf c.payload).any fun x => !tenDev.imageSound x := by decide +kernel

/-- A frame with a descriptor, and one whose data stands in it. -/
def inlMsg : Msg := { mgmtMsg with flags := 2, inl := List.replicate 192 7 }

/-- What the header of a frame holds, read back (Table 2-1). -/
theorem witness_frameRoundTrip : (data 4096 3).wf = true ∧ bit (data 4096 3).flags.toNat 1 = false ∧ (data 4096 3).inl = [] ∧
    inlMsg.wf = true ∧ bit inlMsg.flags.toNat 1 = true ∧ inlMsg.dcount = 0 ∧ (frameBytes 0x0102 (data 4096 3)).take 2 = [2, 1] ∧ ((frameBytes 0x0102 (data 4096 3)).drop 0x18).take 8 = [3, 0, 0, 0, 0, 0, 0, 0] := by
  decide +kernel

end Sys2Proof.Tests
end

/-! SUPPORT. The tint cores (chapter 12): what issuing at a task's pc does, what SEGN, the return stack and the ALU functions answer, and from
these the statements TintIssue, TintSegn, TintFlow and AluCorners. -/

namespace Sys2Proof.TintProofs

open Sys2Proof.Machine Sys2Proof.Claims

/-! ### Issue at the task's pc (R515, R516): one equation for tintIssue, one for each of its outcomes -/

section Issue

variable {word w : Nat} {body : Task → Prog → TRes} {t : Task} {p : Prog}

/-- An engine call that Table 12-6 lacks, as tintIssue tests for it. -/
def undefinedCall (w : Nat) : Bool := decide (opcodeOf w = 0x38) && (decide (bits w 0 12 = 0) || decide (5 < bits w 0 12))

theorem undefinedCall_eq_true_iff : undefinedCall w = true ↔ opcodeOf w = 0x38 ∧ (bits w 0 12 = 0 ∨ 5 < bits w 0 12) := by
  simp [undefinedCall]

theorem undefinedCall_of_legal (h : Legal w) : undefinedCall w = false := by
  obtain ⟨-, hcall⟩ := h
  refine Bool.eq_false_iff.2 fun hu => ?_
  obtain ⟨hop, hfn⟩ := undefinedCall_eq_true_iff.1 hu
  have := hcall hop
  omega

/-- No engine call is a reserved opcode (R513). -/
theorem tintReserved_of_ecall (h : opcodeOf w = 0x38) : tintReserved w = false := by
  simp [tintReserved, h]

theorem tintIssue_of_no_fetch (hf : tintFetch t p = none) : tintIssue word body t p = some (.trap 0x2 0 0 0) := by
  simp [tintIssue, hf]

/-- The order of the checks of R515 and R516 on the word fetched. -/
theorem tintIssue_of_fetch (hf : tintFetch t p = some w) :
    tintIssue word body t p =
      if tintReserved w then some (.trap 0x1 0 0 0)
      else if tintCanon w ≠ word ∧ !undefinedCall w then none
      else if t.budget < 1 then some (.trap 0x8 0 0 0)
      else if !t.guard w then some (tgo (spend t) p)
      else if undefinedCall w then some (.trap 0x9 0 0 0)
      else some (body (spend t) p) := by
  have hb : t.budget - 1 < 0 ↔ t.budget < 1 := by omega
  simp only [tintIssue, hf, hb]
  rfl

theorem tintIssue_of_reserved (hf : tintFetch t p = some w) (hr : tintReserved w = true) :
    tintIssue word body t p = some (.trap 0x1 0 0 0) := by
  simp [tintIssue_of_fetch hf, hr]

theorem tintIssue_of_other_word (hf : tintFetch t p = some w) (hl : Legal w) (hw : tintCanon w ≠ word) :
    tintIssue word body t p = none := by
  simp [tintIssue_of_fetch hf, hl.1, undefinedCall_of_legal hl, hw]

theorem tintIssue_of_budget_spent (hf : tintFetch t p = some w) (hl : Legal w) (hw : tintCanon w = word) (hb : t.budget < 1) :
    tintIssue word body t p = some (.trap 0x8 0 0 0) := by
  simp [tintIssue_of_fetch hf, hl.1, hw, hb]

theorem tintIssue_of_guard_false (hf : tintFetch t p = some w) (hl : Legal w) (hw : tintCanon w = word) (hb : 1 ≤ t.budget)
    (hg : t.guard w = false) : tintIssue word body t p = some (tgo (spend t) p) := by
  simp [tintIssue_of_fetch hf, hl.1, hw, hb, hg]

theorem tintIssue_of_undefinedCall (hf : tintFetch t p = some w) (hu : undefinedCall w = true) (hb : 1 ≤ t.budget)
    (hg : t.guard w = true) : tintIssue word body t p = some (.trap 0x9 0 0 0) := by
  simp [tintIssue_of_fetch hf, tintReserved_of_ecall (undefinedCall_eq_true_iff.1 hu).1, hu, hb, hg]

theorem tintIssue_of_guard_true (hf : tintFetch t p = some w) (hl : Legal w) (hw : tintCanon w = word) (hb : 1 ≤ t.budget)
    (hg : t.guard w = true) : tintIssue word body t p = some (body (spend t) p) := by
  simp [tintIssue_of_fetch hf, hl.1, undefinedCall_of_legal hl, hw, hb, hg]

end Issue

/-! ### What an issue leaves of the part -/

section OnCore

variable {i : Instr} {c word ti : Nat} {body : Task → Prog → TRes} {t : Task} {p : Prog} {s : State}

/-- What tintIssue answers for the task that runs on the core is what onCore does. -/
theorem onCore_of_runsOn (h : RunsOn c ti t p s.dev) :
    onCore c word body s = .next (withDev s ((tintIssue word body t p).elim s.dev (s.dev.tintDone c ti t p))) := by
  obtain ⟨hrun, htask, hprog⟩ := h
  simp only [onCore, onDev_next, withDev, Dev.issueTint, hrun, htask, hprog]
  cases tintIssue word body t p <;> rfl

theorem onCore_of_issue_none (h : RunsOn c ti t p s.dev) (hi : tintIssue word body t p = none) : onCore c word body s = .next s := by
  rw [onCore_of_runsOn h, hi]
  rfl

theorem onCore_of_issue_go (h : RunsOn c ti t p s.dev) (hw : tintOf i = some (c, word)) {t' : Task} {p' : Prog} {pc : Option Nat}
    (hi : tintIssue word body t p = some (.go t' p' pc)) :
    onCore c word body s = .next (goes i ti t.prog t' p' (pc.getD (nextPc t')) s) := by
  rw [onCore_of_runsOn h, hi, goes, issued, hw]
  rfl

theorem onCore_of_issue_trap (h : RunsOn c ti t p s.dev) (hw : tintOf i = some (c, word)) {cause seg off code : Nat}
    (hi : tintIssue word body t p = some (.trap cause seg off code)) :
    onCore c word body s = .next (withDev s ((issued i s.dev).trapTask ti t cause seg off code).settle) := by
  rw [onCore_of_runsOn h, hi]
  simp only [Option.elim_some, Dev.tintDone, issued, hw]

/-- Each of the 48 tint instructions is issued on the core and as the word that tintOf gives (Tables 12-1 and 12-2); its effect is what its arm of
exec names. Every other row has no word. -/
theorem exec_eq_onCore (hw : tintOf i = some (c, word)) : ∃ body, ∀ s, exec i s = onCore c word body s := by
  cases i
  all_goals cases hw
  all_goals exact ⟨_, fun _ => rfl⟩

end OnCore

/-! ### From an instruction's effect to what it completes with or traps with -/

section Effect

variable {i : Instr} {c word : Nat} {body : Task → Prog → TRes} {ok : Task → Prog → Prop} {f : Task → Prog → Task}

/-- An instruction that issues does its effect, on the task with its budget spent. -/
theorem tintIssue_of_issues (hw : tintOf i = some (c, word)) {ti : Nat} {t : Task} {p : Prog} {d : Dev} (h : Issues i ti t p d) :
    RunsOn c ti t p d ∧ tintIssue word body t p = some (body (spend t) p) := by
  obtain ⟨c', word', w, hw', hrun, hf, hl, hcan, hb, hg⟩ := h
  obtain ⟨rfl, rfl⟩ : c = c' ∧ word = word' := by simpa [hw] using hw'
  exact ⟨hrun, tintIssue_of_guard_true hf hl hcan hb hg⟩

/-- An effect that goes on, to the pc it names or to the one that follows. -/
theorem completesAt_of_go (hw : tintOf i = some (c, word)) (hexec : ∀ s, exec i s = onCore c word body s) {pc : Task → Prog → Nat}
    (hgo : ∀ t p, ok t p → ∃ o : Option Nat, body (spend t) p = .go (f (spend t) p) p o ∧ o.getD (nextPc (f (spend t) p)) = pc t p) :
    CompletesAt i ok f pc := by
  intro ti t p s his hok
  obtain ⟨hrun, hissue⟩ := tintIssue_of_issues (body := body) hw his
  obtain ⟨o, hbody, hpc⟩ := hgo t p hok
  rw [hexec, ← hpc]
  exact onCore_of_issue_go hrun hw (hissue.trans (congrArg some hbody))

/-- An effect that traps. -/
theorem traps_of_trap (hw : tintOf i = some (c, word)) (hexec : ∀ s, exec i s = onCore c word body s) {cause : Nat}
    {seg off code : Task → Nat} (htrap : ∀ t p, ok t p → body (spend t) p = .trap cause (seg t) (off t) (code t)) :
    Traps i ok cause seg off code := by
  intro ti t p s his hok
  obtain ⟨hrun, hissue⟩ := tintIssue_of_issues (body := body) hw his
  rw [hexec]
  exact onCore_of_issue_trap hrun hw (hissue.trans (congrArg some (htrap t p hok)))

end Effect

/-! ### SEGN (R521) -/

section Segn

variable {sd ss ra rb : Nat} {rights : BitVec 3} {t : Task} {p : Prog}

theorem tintSegn_of_past_limit (h : (t.seg ss).limit < (t.reg ra).toNat + (t.reg rb).toNat) :
    tintSegn sd ss ra rb rights t p = .trap 0x3 ss (t.reg ra).toNat 0 := by
  simp [tintSegn, h]

theorem tintSegn_s0 (h : (t.reg ra).toNat + (t.reg rb).toNat ≤ (t.seg ss).limit) :
    tintSegn 0 ss ra rb rights t p = .trap 0x4 ss (t.reg ra).toNat 0 := by
  simp [tintSegn, h]

theorem tintSegn_of_within_limit (h : (t.reg ra).toNat + (t.reg rb).toNat ≤ (t.seg ss).limit) (hsd : sd ≠ 0) :
    tintSegn sd ss ra rb rights t p = tgo { t with segs := t.segs.set sd { (t.seg ss) with
      base := (t.seg ss).base + (t.reg ra).toNat, limit := (t.reg rb).toNat
      r := (t.seg ss).r && rights.getLsbD 2, w := (t.seg ss).w && rights.getLsbD 1, x := (t.seg ss).x && rights.getLsbD 0 } } p := by
  simp [tintSegn, Nat.not_lt.2 h, hsd]

end Segn

/-! ### The return stack (R523, R524) -/

section ReturnStack

variable {t : Task} {p : Prog} {v : Word64}

theorem tintPush_of_room (h : t.rstack.length < 16) : tintPush t p v = some { t with rstack := v :: t.rstack } := by
  simp [tintPush, h]

theorem tintPush_of_wrap (h : 16 ≤ t.rstack.length ∧ p.wraps.getD t.entry false = true) :
    tintPush t p v = some { t with rstack := v :: t.rstack.take 15 } := by
  rw [tintPush, if_neg (Nat.not_lt.2 h.1), if_pos h.2]

theorem tintPush_of_over (h : 16 ≤ t.rstack.length ∧ p.wraps.getD t.entry false = false) : tintPush t p v = none := by
  rw [tintPush, if_neg (Nat.not_lt.2 h.1), if_neg (Bool.eq_false_iff.1 h.2)]

theorem tintCall_of_push {target : Nat} {t' : Task} (h : tintPush t p (BitVec.ofNat 64 (t.pc + 4)) = some t') :
    tintCall target t p = .go t' p (some target) := by
  rw [tintCall, h]

theorem tintCall_of_over {target : Nat} (h : tintPush t p (BitVec.ofNat 64 (t.pc + 4)) = none) :
    tintCall target t p = .trap 0x6 0 0 0 := by
  rw [tintCall, h]

theorem tintPop_of_empty {f : Word64 → Task → TRes} (h : t.rstack = []) : tintPop f t = .trap 0x7 0 0 0 := by
  rw [tintPop, h]

theorem tintPop_of_entry {f : Word64 → Task → TRes} (h : t.rstack ≠ []) :
    tintPop f t = f (t.rstack.headD 0) { t with rstack := t.rstack.tail } := by
  obtain ⟨v, r, hr⟩ := List.exists_cons_of_ne_nil h
  simp [tintPop, hr]

@[simp] theorem setReg_pc (r : Nat) : (t.setReg r v).pc = t.pc := by
  unfold Task.setReg
  split <;> rfl

end ReturnStack

/-! ### Arithmetic (R514) -/

section Arithmetic

theorem sub_eq_ofInt (a b : Word64) : a - b = BitVec.ofInt 64 ((a.toNat : Int) - b.toNat) := by
  rw [Int.sub_eq_add_neg, BitVec.ofInt_add, BitVec.ofInt_neg]
  simp [BitVec.sub_eq_add_neg]

/-- A shift amount is rb[5:0]. -/
theorem toNat_and_63 (b : Word64) : (b &&& 63).toNat = b.toNat % 64 := by
  rw [BitVec.toNat_and]
  exact Nat.and_two_pow_sub_one_eq_mod b.toNat 6

theorem clz_zero : clz 0 = 64 := if_pos rfl

theorem ctz_zero : ctz 0 = 64 := by
  have hno : (upTo 64).find? (fun i => (0 : Word64).getLsbD i) = none := List.find?_eq_none.2 fun i _ => by simp
  rw [ctz, hno, Option.getD_none]

end Arithmetic

end Sys2Proof.TintProofs

namespace Sys2Proof.TintSettled

open Sys2Proof.Machine Sys2Proof.Claims Sys2Proof.TintProofs

/-- Settles O13: on the word fetched, tintIssue makes the checks of R515 and R516 in their order, whatever the instruction's effect. -/
theorem tintIssue : Obligations.TintIssue := by
  intro i c word ti t p s hw hrun
  obtain ⟨body, hexec⟩ := exec_eq_onCore hw
  simp only [hexec]
  refine ⟨fun hf => ?_, fun w hf hr => ?_, fun w hf hl hcan hb => ?_, fun w hf hl hcan hb hg => ?_, fun w hf hop hfn hb hg => ?_,
    fun w hf hl hcan => ?_⟩
  · exact onCore_of_issue_trap hrun hw (tintIssue_of_no_fetch hf)
  · exact onCore_of_issue_trap hrun hw (tintIssue_of_reserved hf hr)
  · exact onCore_of_issue_trap hrun hw (tintIssue_of_budget_spent hf hl hcan hb)
  · exact onCore_of_issue_go hrun hw (tintIssue_of_guard_false hf hl hcan hb hg)
  · exact onCore_of_issue_trap hrun hw (tintIssue_of_undefinedCall hf (undefinedCall_eq_true_iff.2 ⟨hop, hfn⟩) hb hg)
  · exact onCore_of_issue_none hrun (tintIssue_of_other_word hf hl hcan)

/-- Settles O10: the three branches of tintSegn, by the limit of ss and by sd. -/
theorem tintSegn : Obligations.TintSegn := by
  refine ⟨fun c g sd ss ra rb rights => ?_, fun c g sd ss ra rb rights => ?_, fun c g sd ss ra rb rights => ?_⟩
  · refine completesAt_of_go rfl (exec_segn c g sd ss ra rb rights) fun t p h => ⟨none, ?_, rfl⟩
    exact tintSegn_of_within_limit (t := spend t) h.1 fun h0 => h.2 (BitVec.eq_of_toNat_eq h0)
  · exact traps_of_trap rfl (exec_segn c g sd ss ra rb rights) fun t p h => tintSegn_of_past_limit (t := spend t) h
  · refine traps_of_trap rfl (exec_segn c g sd ss ra rb rights) fun t p ⟨hfit, hsd⟩ => ?_
    subst hsd
    exact tintSegn_s0 (t := spend t) hfit

/-- Settles O11: what tintPush does with room, where it wraps and where it traps, and tintPop of an empty stack and of a newest entry. -/
theorem tintFlow : Obligations.TintFlow := by
  refine ⟨fun c g imm => ?br, fun c g ra => ?jr, fun c g imm => ?callRoom, fun c g imm => ?callWrap, fun c g imm => ?callOver,
    fun c g ra => ?callrRoom, fun c g ra => ?callrWrap, fun c g ra => ?callrOver, fun c g ra => ?rpushRoom, fun c g ra => ?rpushWrap,
    fun c g ra => ?rpushOver, fun c g => ?ret, fun c g => ?retEmpty, fun c g rd => ?rpop, fun c g rd => ?rpopEmpty⟩
  case br => exact completesAt_of_go rfl (exec_br c g imm) fun t p _ => ⟨_, rfl, rfl⟩
  case jr => exact completesAt_of_go rfl (exec_jr c g ra) fun t p _ => ⟨_, rfl, rfl⟩
  case callRoom => exact completesAt_of_go rfl (exec_call c g imm) fun t p h => ⟨_, tintCall_of_push (t := spend t) (tintPush_of_room h), rfl⟩
  case callWrap => exact completesAt_of_go rfl (exec_call c g imm) fun t p h => ⟨_, tintCall_of_push (t := spend t) (tintPush_of_wrap h), rfl⟩
  case callOver => exact traps_of_trap rfl (exec_call c g imm) fun t p h => tintCall_of_over (t := spend t) (tintPush_of_over h)
  case callrRoom => exact completesAt_of_go rfl (exec_callr c g ra) fun t p h => ⟨_, tintCall_of_push (t := spend t) (tintPush_of_room h), rfl⟩
  case callrWrap => exact completesAt_of_go rfl (exec_callr c g ra) fun t p h => ⟨_, tintCall_of_push (t := spend t) (tintPush_of_wrap h), rfl⟩
  case callrOver => exact traps_of_trap rfl (exec_callr c g ra) fun t p h => tintCall_of_over (t := spend t) (tintPush_of_over h)
  case rpushRoom => exact completesAt_of_go rfl (exec_rpush c g ra) fun t p h => ⟨none, by rw [tintPush_of_room (t := spend t) h]; rfl, rfl⟩
  case rpushWrap => exact completesAt_of_go rfl (exec_rpush c g ra) fun t p h => ⟨none, by rw [tintPush_of_wrap (t := spend t) h]; rfl, rfl⟩
  case rpushOver => exact traps_of_trap rfl (exec_rpush c g ra) fun t p h => by rw [tintPush_of_over (t := spend t) h]
  case ret => exact completesAt_of_go rfl (exec_ret c g) fun t p h => ⟨_, tintPop_of_entry (t := spend t) h, rfl⟩
  case retEmpty => exact traps_of_trap rfl (exec_ret c g) fun t p h => tintPop_of_empty (t := spend t) h
  case rpop => exact completesAt_of_go rfl (exec_rpop c g rd) fun t p h => ⟨none, tintPop_of_entry (t := spend t) h, by simp [nextPc, spend]⟩
  case rpopEmpty => exact traps_of_trap rfl (exec_rpop c g rd) fun t p h => tintPop_of_empty (t := spend t) h

/-- Settles O15: each ALU function of R514's words, at zero and away from it. -/
theorem aluCorners : Obligations.AluCorners := by
  refine ⟨fun a b => ⟨BitVec.add_def .., sub_eq_ofInt a b, BitVec.mul_def ..⟩, fun a => ⟨rfl, rfl⟩, fun a b => ?shifts,
    fun b => ⟨?clz, ?ctz⟩, fun a b hb => ?divide⟩
  case shifts =>
    rw [toNat_and_63]
    exact ⟨rfl, rfl, rfl⟩
  case clz => exact congrArg (BitVec.ofNat 64) clz_zero
  case ctz => exact congrArg (BitVec.ofNat 64) ctz_zero
  case divide =>
    simp only [aluFn, hb, if_false]
    exact ⟨BitVec.toNat_udiv, BitVec.toNat_umod⟩

end Sys2Proof.TintSettled

/-! SUPPORT. The stencil array's searches (chapter 14): what a register field reads after a field of the file is set, what the winner of a list of
matches is, which entries a search lists, and what LOOKUP and STEP show; from these the statement SearchOrder. -/

namespace Sys2Proof.StencilProofs

open Sys2Proof.Machine Sys2Proof.Claims

/-! ### A bit field set in a number -/

section BitFields

variable (n lo w v : Nat)

/-- The number in three parts: what lies above the field, the field, what lies below. -/
theorem setBits_eq : setBits n lo w v = 2 ^ lo * (2 ^ w * (n / 2 ^ (lo + w)) + v % 2 ^ w) + n % 2 ^ lo := by
  have hlow : 2 ^ lo * (n / 2 ^ lo) + n % 2 ^ lo = n := Nat.div_add_mod ..
  have hhigh : 2 ^ w * (n / 2 ^ (lo + w)) + n / 2 ^ lo % 2 ^ w = n / 2 ^ lo := by
    rw [Nat.pow_add, ← Nat.div_div_eq_div_mul, Nat.div_add_mod]
  rw [← hhigh, Nat.mul_add] at hlow
  rw [setBits, bits, Nat.mul_add, Nat.mul_comm _ (2 ^ lo), Nat.mul_comm (v % _)]
  omega

theorem setBits_mod_lo : setBits n lo w v % 2 ^ lo = n % 2 ^ lo := by
  rw [setBits_eq, Nat.mul_add_mod, Nat.mod_mod]

theorem setBits_div_lo : setBits n lo w v / 2 ^ lo = 2 ^ w * (n / 2 ^ (lo + w)) + v % 2 ^ w := by
  rw [setBits_eq, Nat.mul_add_div (Nat.two_pow_pos lo), Nat.div_eq_of_lt (Nat.mod_lt _ (Nat.two_pow_pos lo)), Nat.add_zero]

theorem setBits_div_hi : setBits n lo w v / 2 ^ (lo + w) = n / 2 ^ (lo + w) := by
  rw [Nat.pow_add, ← Nat.div_div_eq_div_mul, setBits_div_lo, Nat.mul_add_div (Nat.two_pow_pos w),
    Nat.div_eq_of_lt (Nat.mod_lt _ (Nat.two_pow_pos w)), Nat.add_zero, Nat.pow_add]

theorem bits_setBits_same : bits (setBits n lo w v) lo w = v % 2 ^ w := by
  rw [bits, setBits_div_lo, Nat.mul_add_mod, Nat.mod_mod]

variable {n lo w v} {lo' w' : Nat}

theorem bits_setBits_below (h : lo' + w' ≤ lo) : bits (setBits n lo w v) lo' w' = bits n lo' w' := by
  have hmod (m : Nat) : bits m lo' w' = m % 2 ^ lo % 2 ^ (lo' + w') / 2 ^ lo' := by
    rw [Nat.mod_mod_of_dvd _ (Nat.pow_dvd_pow 2 h), Nat.pow_add, Nat.mod_mul_right_div_self, bits]
  rw [hmod, setBits_mod_lo, hmod]

theorem bits_setBits_above (h : lo + w ≤ lo') : bits (setBits n lo w v) lo' w' = bits n lo' w' := by
  obtain ⟨k, rfl⟩ := Nat.exists_eq_add_of_le h
  have hdiv (m : Nat) : bits m (lo + w + k) w' = m / 2 ^ (lo + w) / 2 ^ k % 2 ^ w' := by
    rw [bits, Nat.pow_add _ (lo + w), Nat.div_div_eq_div_mul]
  rw [hdiv, setBits_div_hi, hdiv]

theorem setBits_lt {k : Nat} (hn : n < 2 ^ k) (hf : lo + w ≤ k) : setBits n lo w v < 2 ^ k := by
  obtain ⟨m, rfl⟩ := Nat.exists_eq_add_of_le' hf
  rw [Nat.pow_add _ m, ← Nat.div_lt_iff_lt_mul (Nat.two_pow_pos _)] at hn ⊢
  rwa [setBits_div_hi]

end BitFields

/-! ### A field of the register file set (R7), alone and in a run of writes -/

section Fields

variable {rf : RegFile} {d : Dev} {f g : Fld} {v : Nat}

/-- The word a field is set in, the field's bits among its 32. -/
theorem rawWord_setFld (h : rf.wf = true) (hf : Fits32 f) (a : Nat) :
    (rawWord (rf.setFld f v) a).toNat = if a = f.addr then setBits (rawWord rf f.addr).toNat f.lo f.width v else (rawWord rf a).toNat := by
  rw [RegFile.setFld, rawWord_setWord _ _ _ _ h]
  split
  · exact Nat.mod_eq_of_lt (setBits_lt (rawWord rf f.addr).isLt hf)
  · rfl

theorem apart_symm (h : Apart f g) : Apart g f :=
  Or.imp Ne.symm Or.symm h

theorem rd_wr_same (h : d.regs.wf = true) (hf : Fits32 f) : (d.wr f v).rd f = v % 2 ^ f.width := by
  rw [Dev.rd, wr_regs, RegFile.fld, rawWord_setFld h hf, if_pos rfl, bits_setBits_same]

theorem rd_wr_apart (h : d.regs.wf = true) (hf : Fits32 f) (hfg : Apart f g) : (d.wr f v).rd g = d.rd g := by
  rw [Dev.rd, wr_regs, RegFile.fld, rawWord_setFld h hf]
  by_cases hg : g.addr = f.addr
  · rw [if_pos hg, ← hg]
    rcases hfg with haddr | hbelow | habove
    · exact absurd hg.symm haddr
    · rw [bits_setBits_above hbelow]
      rfl
    · rw [bits_setBits_below habove]
      rfl
  · rw [if_neg hg]
    rfl

/-- Fields written one after the other. -/
def wrAll (d : Dev) (l : List (Fld × Nat)) : Dev := l.foldl (fun d x => d.wr x.1 x.2) d

theorem wrAll_stencil (d : Dev) (l : List (Fld × Nat)) : (wrAll d l).stencil = d.stencil := by
  induction l generalizing d with
  | nil => rfl
  | cons x r ih => exact ih _

theorem rd_wrAll_apart {l : List (Fld × Nat)} (h : d.regs.wf = true) (hfit : ∀ f ∈ l.map Prod.fst, Fits32 f)
    (hapart : ∀ f ∈ l.map Prod.fst, Apart f g) : (wrAll d l).rd g = d.rd g := by
  induction l generalizing d with
  | nil => rfl
  | cons x r ih =>
    rw [List.map_cons, List.forall_mem_cons] at hfit hapart
    exact (ih (wr_wf d _ _ h) hfit.2 hapart.2).trans (rd_wr_apart h hfit.1 hapart.1)

/-- Of fields that share no bit, each one written reads back. -/
theorem rd_wrAll_of_mem {l : List (Fld × Nat)} (h : d.regs.wf = true) (hfit : ∀ f ∈ l.map Prod.fst, Fits32 f)
    (hapart : (l.map Prod.fst).Pairwise Apart) (hmem : (f, v) ∈ l) : (wrAll d l).rd f = v % 2 ^ f.width := by
  induction l generalizing d with
  | nil => cases hmem
  | cons x r ih =>
    rw [List.map_cons, List.forall_mem_cons] at hfit
    rw [List.map_cons, List.pairwise_cons] at hapart
    rcases List.mem_cons.1 hmem with rfl | hmem
    · exact (rd_wrAll_apart (wr_wf d _ _ h) hfit.2 fun g hg => apart_symm (hapart.1 g hg)).trans (rd_wr_same h hfit.1)
    · exact ih (wr_wf d _ _ h) hfit.2 hapart.2 hmem

end Fields

/-! ### The winner of a list of matches (R577) -/

section Winner

variable {l : List (Nat × Nat × BitVec 64)} {w : Nat × Nat × BitVec 64}

theorem after_iff_later (n i m j : Nat) : after n i m j = true ↔ later m j n i := by
  simp [after, later]

/-- The winner of a list with one match more: the one before, unless it comes after the new one in STEP order. -/
theorem winner_concat (l : List (Nat × Nat × BitVec 64)) (x : Nat × Nat × BitVec 64) :
    winner (l ++ [x]) = some ((winner l).elim x fun y => if after y.1 y.2.1 x.1 x.2.1 then x else y) := by
  rw [winner, List.foldl_concat, ← winner]
  cases winner l with
  | none => rfl
  | some y => exact (apply_ite some ..).symm

theorem winner_eq_none_iff : winner l = none ↔ l = [] := by
  cases l using List.reverseRecOn with
  | nil => exact iff_of_true rfl rfl
  | append_singleton l x => simp [winner_concat]

/-- The winner is one of the matches, and it comes after none of them in STEP order. -/
theorem winner_eq_some (h : winner l = some w) : w ∈ l ∧ ∀ x ∈ l, ¬later x.1 x.2.1 w.1 w.2.1 := by
  induction l using List.reverseRecOn generalizing w with
  | nil => cases h
  | append_singleton l x ih =>
    rw [winner_concat] at h
    cases hl : winner l with
    | none =>
      obtain rfl := winner_eq_none_iff.1 hl
      obtain rfl : x = w := by simpa [winner] using h
      simp [later]
    | some y =>
      obtain ⟨hmem, hfirst⟩ := ih hl
      simp only [hl, Option.elim_some, Option.some.injEq] at h
      split at h
      next hlater =>
        subst h
        refine ⟨by simp, List.forall_mem_append.2 ⟨fun z hz => ?_, by simp [later]⟩⟩
        have := hfirst z hz
        simp only [after_iff_later, later] at this hlater ⊢
        omega
      next hno =>
        subst h
        exact ⟨List.mem_append_left _ hmem, List.forall_mem_append.2 ⟨hfirst, by simpa [after_iff_later] using hno⟩⟩

/-- What does not come before in STEP order is as short and, at equal length, of no lower index. -/
theorem not_later_iff (m j n i : Nat) : ¬later m j n i ↔ m < n ∨ m = n ∧ i ≤ j := by
  simp only [later]
  omega

end Winner

/-! ### The matches that a search lists (R575) -/

section Matches

variable {s : Stencil} {region : Nat → Bool} {k : BitVec 256} {n i : Nat} {r : BitVec 64}

theorem mem_matches : (n, i, r) ∈ s.matches region k ↔ ∃ x, found s region k i x ∧ n = x.len ∧ r = x.result := by
  simp only [Stencil.matches, found, List.mem_map, List.mem_filter, Bool.and_eq_true, Option.isNone_iff_eq_none, Prod.mk.injEq, Prod.exists]
  constructor
  · rintro ⟨j, x, ⟨hx, ⟨hregion, hbank⟩, hhits⟩, rfl, rfl, rfl⟩
    exact ⟨x, ⟨hx, hregion, hbank, hhits⟩, rfl, rfl⟩
  · rintro ⟨x, ⟨hx, hregion, hbank, hhits⟩, rfl, rfl⟩
    exact ⟨i, x, ⟨hx, ⟨hregion, hbank⟩, hhits⟩, rfl, rfl, rfl⟩

theorem mem_matches_of_found {x : SEntry} (h : found s region k i x) : (x.len, i, x.result) ∈ s.matches region k :=
  mem_matches.2 ⟨x, h, rfl, rfl⟩

theorem matches_eq_nil_iff : s.matches region k = [] ↔ ∀ j y, ¬found s region k j y := by
  rw [List.eq_nil_iff_forall_not_mem]
  constructor
  · exact fun h j y hy => h _ (mem_matches_of_found hy)
  · rintro h ⟨n, i, r⟩ hm
    obtain ⟨x, hx, -⟩ := mem_matches.1 hm
    exact h i x hx

end Matches

/-! ### STN_LOOK_RES after LOOKUP and STEP (R577, R578) -/

section LookResult

/-- The fields of STN_LOOK_RES, from its lowest bit up. -/
def lookResFields : List Fld :=
  [STN_LOOK_RES_INDEX, STN_LOOK_RES_BANK, STN_LOOK_RES_HIT, STN_LOOK_RES_MULTI, STN_LOOK_RES_MASKLEN, STN_LOOK_RES_END]

theorem lookResFields_fit : ∀ f ∈ lookResFields, Fits32 f := by
  unfold Fits32
  decide

theorem lookResFields_rising : lookResFields.Pairwise fun f g => f.lo + f.width ≤ g.lo := by
  decide

/-- The fields of STN_LOOK_RES with what they show of a match, or of none. -/
def resultFields (w : Option (Nat × Nat × BitVec 64)) (multi endMark : Bool) : List (Fld × Nat) :=
  lookResFields.zip [w.elim 0 fun x => x.2.1 % 4096, w.elim 0 fun x => x.2.1 / 4096, b2n w.isSome, b2n multi, w.elim 0 fun x => x.1, b2n endMark]

variable {d : Dev} {w : Option (Nat × Nat × BitVec 64)} {multi endMark : Bool}

theorem lookResult_eq : d.lookResult w multi endMark = wrAll d (resultFields w multi endMark) := by
  cases w <;> rfl

theorem lookResult_stencil : (d.lookResult w multi endMark).stencil = d.stencil := by
  rw [lookResult_eq, wrAll_stencil]

theorem lookResult_rd {f : Fld} {v : Nat} (h : d.regs.wf = true) (hf : (f, v) ∈ resultFields w multi endMark) (hv : v < 2 ^ f.width) :
    (d.lookResult w multi endMark).rd f = v := by
  have hapart : lookResFields.Pairwise Apart := lookResFields_rising.imp fun hlo => .inr (.inl hlo)
  rw [lookResult_eq, ← Nat.mod_eq_of_lt hv]
  exact rd_wrAll_of_mem h lookResFields_fit hapart hf

/-- A one-bit field of STN_LOOK_RES shows the flag written there. -/
theorem lookResult_isSet {f : Fld} {b : Bool} (h : d.regs.wf = true) (hf : (f, b2n b) ∈ resultFields w multi endMark) (hw : f.width = 1) :
    (d.lookResult w multi endMark).isSet f = b := by
  have hb : b2n b < 2 ^ f.width := by
    rw [hw]
    cases b <;> decide
  rw [Dev.isSet, lookResult_rd h hf hb]
  cases b <;> rfl

/-- What STN_LOOK_RES shows of a match: its index within its bank, its bank and its mask length. -/
theorem lookResult_some {n i : Nat} {r : BitVec 64} (h : d.regs.wf = true) (hn : n ≤ 256) (hi : i < 65536) :
    (d.lookResult (some (n, i, r)) multi endMark).rd STN_LOOK_RES_INDEX = i % 4096 ∧
      (d.lookResult (some (n, i, r)) multi endMark).rd STN_LOOK_RES_BANK = i / 4096 ∧
      (d.lookResult (some (n, i, r)) multi endMark).rd STN_LOOK_RES_MASKLEN = n := by
  refine ⟨?index, ?bank, ?masklen⟩
  case index => exact lookResult_rd h (by simp [resultFields, lookResFields]) (by simp only [STN_LOOK_RES_INDEX]; omega)
  case bank => exact lookResult_rd h (by simp [resultFields, lookResFields]) (by simp only [STN_LOOK_RES_BANK]; omega)
  case masklen => exact lookResult_rd h (by simp [resultFields, lookResFields]) (by simp only [STN_LOOK_RES_MASKLEN]; omega)

theorem lookResult_hit (h : d.regs.wf = true) : (d.lookResult w multi endMark).isSet STN_LOOK_RES_HIT = w.isSome :=
  lookResult_isSet h (by simp [resultFields, lookResFields]) rfl

theorem lookResult_multi (h : d.regs.wf = true) : (d.lookResult w multi endMark).isSet STN_LOOK_RES_MULTI = multi :=
  lookResult_isSet h (by simp [resultFields, lookResFields]) rfl

theorem lookResult_end (h : d.regs.wf = true) : (d.lookResult w multi endMark).isSet STN_LOOK_RES_END = endMark :=
  lookResult_isSet h (by simp [resultFields, lookResFields]) rfl

end LookResult

section Manager

variable {d : Dev} {m c : Nat} {w : Nat × Nat × BitVec 64}

/-- The part with the manager's cursor as given. -/
def withCursor (d : Dev) (e : Option (Nat × Nat)) : Dev := { d with stencil := { d.stencil with cursor := e } }

theorem lookup_of_winner (h : winner d.lookMatches = some w) :
    d.lookup = (withCursor d (some (w.1, w.2.1))).lookResult (some w) (decide (1 < d.lookMatches.length)) false := by
  simp only [Dev.lookup, h]
  rfl

theorem lookup_of_no_winner (h : winner d.lookMatches = none) : d.lookup = (withCursor d none).lookResult none false true := by
  simp only [Dev.lookup, h]
  rfl

theorem lookStep_of_winner (hc : d.stencil.cursor = some (m, c))
    (h : winner (d.lookMatches.filter fun x => after x.1 x.2.1 m c) = some w) :
    d.lookStep = (withCursor d (some (w.1, w.2.1))).lookResult (some w) false false := by
  simp only [Dev.lookStep, hc, h]
  rfl

end Manager

end Sys2Proof.StencilProofs

namespace Sys2Proof.StencilSettled

open Sys2Proof.Machine Sys2Proof.Claims Sys2Proof.StencilProofs

/-- Settles O56: winner's place in the STEP order, on the matches of a search and on those after the cursor, and the fields of STN_LOOK_RES read
back after the run of writes that LOOKUP and STEP make. -/
theorem searchOrder : Obligations.SearchOrder := by
  refine ⟨fun s region k n i r h => ?winner, fun s region k => ?noWinner, fun d m c n i r h => ?next, fun d n i r hwf h hn hi => ?lookup,
    fun d m c n i r hwf hc hn hi h => ?step, fun d hwf h => ?lookupNone⟩
  case winner =>
    obtain ⟨hmem, hfirst⟩ := winner_eq_some h
    exact ⟨mem_matches.1 hmem, fun j y hy => (not_later_iff ..).1 (hfirst _ (mem_matches_of_found hy))⟩
  case noWinner => exact winner_eq_none_iff.trans matches_eq_nil_iff
  case next =>
    obtain ⟨hmem, hfirst⟩ := winner_eq_some h
    obtain ⟨hmem, hlater⟩ := List.mem_filter.1 hmem
    exact ⟨(after_iff_later ..).1 hlater, hmem, fun x hx hxl =>
      (not_later_iff ..).1 (hfirst x (List.mem_filter.2 ⟨hx, (after_iff_later ..).2 hxl⟩))⟩
  case lookup =>
    have hwf' : (withCursor d (some (n, i))).regs.wf = true := hwf
    obtain ⟨hindex, hbank, hlen⟩ := lookResult_some hwf' hn hi
    rw [lookup_of_winner h]
    exact ⟨congrArg Stencil.cursor lookResult_stencil, lookResult_hit hwf', hindex, hbank, hlen,
      by rw [lookResult_multi hwf', decide_eq_true_iff], lookResult_end hwf'⟩
  case step =>
    have hwf' : (withCursor d (some (n, i))).regs.wf = true := hwf
    obtain ⟨hindex, hbank, hlen⟩ := lookResult_some hwf' hn hi
    rw [lookStep_of_winner hc h]
    exact ⟨congrArg Stencil.cursor lookResult_stencil, lookResult_hit hwf', hindex, hbank, hlen, lookResult_end hwf'⟩
  case lookupNone =>
    have hwf' : (withCursor d none).regs.wf = true := hwf
    rw [lookup_of_no_winner h]
    exact ⟨congrArg Stencil.cursor lookResult_stencil, lookResult_hit hwf', lookResult_end hwf'⟩

end Sys2Proof.StencilSettled

/-! SUPPORT. The queue of commands: every row's meaning is a change of the part, so that every step goes on and takes the front command; from this the
statements StepTakesTheFront, EmptyQueueTicks, TableWordsSpellNothing, FirstInFirstOut and EveryStepGoesOn. -/

namespace Sys2Proof.QueueProofs

open Sys2Proof.Machine Sys2Proof.Claims

/-! ### What every meaning is -/

/-- The meaning of each of the 317 rows is a change of the part that leaves the queue alone, the same whatever waits behind. -/
theorem exec_next_both (c : Instr) (r : List Instr) (d : Dev) :
    ∃ e, exec c { pending := [], dev := d } = .next { pending := [], dev := e } ∧ exec c { pending := r, dev := d } = .next { pending := r, dev := e } := by
  cases c
  all_goals exact ⟨_, rfl, rfl⟩

theorem exec_next (c : Instr) (r : List Instr) (d : Dev) : ∃ e, exec c { pending := r, dev := d } = .next { pending := r, dev := e } := by
  obtain ⟨e, -, h⟩ := exec_next_both c r d
  exact ⟨e, h⟩

theorem step_cons (c : Instr) (r : List Instr) (d : Dev) : step { pending := c :: r, dev := d } = exec c { pending := r, dev := d } := rfl

theorem step_nil (d : Dev) : step { pending := [], dev := d } = .next { pending := [], dev := d.tick } := rfl

/-- A step goes on and leaves the queue's tail. -/
theorem step_next (s : State) : ∃ d, step s = .next { pending := s.pending.tail, dev := d } := by
  obtain ⟨_ | ⟨c, r⟩, d⟩ := s
  · exact ⟨_, step_nil d⟩
  · exact exec_next c r d

/-! ### Runs of steps -/

theorem steps_succ {n : Nat} {s t u : State} (h : step s = .next u) : Steps (n + 1) s t ↔ Steps n u t := by
  constructor
  · rintro ⟨v, hv, hs⟩
    obtain rfl : u = v := by simpa [h] using hv
    exact hs
  · exact fun hs => ⟨u, h, hs⟩

/-- The commands ahead of the rest are taken one after the other, each once: the run is theirs, and there is no other. -/
theorem steps_append (r : List Instr) : ∀ (cs : List Instr) (d : Dev), ∃ e, fold cs d = some e ∧
    ∀ t, Steps cs.length { pending := cs ++ r, dev := d } t ↔ t = { pending := r, dev := e }
  | [], d => ⟨d, rfl, fun t => eq_comm⟩
  | c :: cs, d => by
    obtain ⟨f, halone, hstep⟩ := exec_next_both c (cs ++ r) d
    obtain ⟨e, hfold, hsteps⟩ := steps_append r cs f
    refine ⟨e, ?_, fun t => (steps_succ ((step_cons c (cs ++ r) d).trans hstep)).trans (hsteps t)⟩
    rw [fold, halone]
    exact hfold

/-! ### Well-formed queues -/

/-- The invariant of a step: a queue of well-formed commands is one after it. -/
theorem step_keeps_queueWf (s : State) (h : QueueWf s) : ∃ t, step s = .next t ∧ QueueWf t ∧ t.pending = s.pending.tail := by
  obtain ⟨d, hd⟩ := step_next s
  exact ⟨_, hd, fun c hc => h c (List.mem_of_mem_tail hc), rfl⟩

theorem safeFor_of_queueWf : ∀ (n : Nat) (s : State), QueueWf s → safeFor n s
  | 0, _, _ => trivial
  | n + 1, s, h => by
    obtain ⟨t, hstep, hwf, -⟩ := step_keeps_queueWf s h
    exact ⟨t, hstep, safeFor_of_queueWf n t hwf⟩

/-! ### A tick of the clock -/

section Tick

variable {d : Dev}

theorem tkeys_nil {α : Type} (p : Nat → α → Bool) : tkeys ([] : Tbl α) p = [] := rfl

theorem passWaiters_of_no_cmds (h : d.cmds = []) : d.passWaiters = d := by
  rw [Dev.passWaiters, h, tkeys_nil, List.foldl_nil]

theorem bitmapWaiters_of_no_cmds (h : d.cmds = []) : d.bitmapWaiters = d := by
  rw [Dev.bitmapWaiters, h, tkeys_nil, List.foldl_nil]

theorem resultWaiters_of_no_cmds (h : d.cmds = []) : d.resultWaiters = d := by
  rw [Dev.resultWaiters, h, tkeys_nil, List.foldl_nil, bitmapWaiters_of_no_cmds h]

/-- No group leaves VERIFYING where none is in it (R385). -/
theorem endVerifying_of_none_verifying (h : ∀ e ∈ d.groups, e.2.state ≠ .verifying) : d.endVerifying = d := by
  have hno : (tkeys d.groups fun _ x => decide (x.state = .verifying)) = [] := by
    rw [tkeys, List.map_eq_nil_iff, List.filter_eq_nil_iff]
    simpa using h
  rw [Dev.endVerifying, hno, if_pos (.inl rfl)]

/-- No frame is taken where none is held. -/
theorem takeHeld_of_no_frames (n : Nat) (h : d.eth.rx = []) : Dev.takeHeld n d = d := by
  cases n with
  | zero => rfl
  | succ n => simp [Dev.takeHeld, h]

theorem unpause_of_none_paused (h : d.eth.paused = []) : d.unpause = d := by
  rw [Dev.unpause, h, List.foldl_nil]

/-- With nothing that waits, a tick is the clock's own. -/
theorem tick_of_nothing_waiting (hcmds : d.cmds = []) (hrx : d.eth.rx = []) (hpaused : d.eth.paused = [])
    (hgroups : ∀ e ∈ d.groups, e.2.state ≠ .verifying) : d.tick = d.clock := by
  have hv : d.clock.endVerifying = d.clock := endVerifying_of_none_verifying hgroups
  have hp : d.clock.passWaiters = d.clock := passWaiters_of_no_cmds hcmds
  have hr : d.clock.resultWaiters = d.clock := resultWaiters_of_no_cmds hcmds
  have hk : (d.clock.cmds.any fun e => decide (e.2.hold = .kat)) = false := by
    rw [show d.clock.cmds = [] from hcmds, List.any_nil]
  have ht : Dev.takeHeld (d.clock.eth.rx.length + 1) d.clock = d.clock := takeHeld_of_no_frames _ hrx
  have hu : d.clock.unpause = d.clock := unpause_of_none_paused hpaused
  simp only [Dev.tick, hv, hp, hr, hk, Bool.false_eq_true, if_false, ht, hu]

end Tick

end Sys2Proof.QueueProofs

namespace Sys2Proof.QueueSettled

open Sys2Proof.Machine Sys2Proof.Claims Sys2Proof.QueueProofs

/-- Settles O1: step's second case. -/
theorem stepTakesTheFront : Obligations.StepTakesTheFront := step_cons

/-- Settles O2: of what a tick does, only the clock is left. -/
theorem emptyQueueTicks : Obligations.EmptyQueueTicks := by
  refine ⟨step_nil, fun d hcmds hrx hpaused hgroups => ?_⟩
  rw [step_nil, tick_of_nothing_waiting hcmds hrx hpaused hgroups, Dev.clock]

/-- Settles O3, by decodeTableWord and withFetchWord as they stand. -/
theorem tableWordsSpellNothing : Obligations.TableWordsSpellNothing := fun _ _ _ => ⟨rfl, rfl⟩

/-- Settles O4, by induction on the commands that wait ahead. -/
theorem firstInFirstOut : Obligations.FirstInFirstOut := by
  intro cs r d
  obtain ⟨e, hfold, hsteps⟩ := steps_append r cs d
  exact ⟨e, hfold, (hsteps _).2 rfl, fun t => (hsteps t).1⟩

/-- Settles O5: the step lemma, and its induction over a run's length. -/
theorem everyStepGoesOn : Obligations.EveryStepGoesOn :=
  ⟨step_keeps_queueWf, safeFor_of_queueWf⟩

end Sys2Proof.QueueSettled

/-! SUPPORT. The tint cores' arithmetic, loads, stores and calls (chapter 12): what a completed instruction leaves, what a store leaves of the five memories; from
these the statements TintArithmetic, TintPredicates, TintLoads, TintStores, TintCalls and StoreFrame. -/

namespace Sys2Proof.TintMoreProofs

open Sys2Proof.Machine Sys2Proof.Claims Sys2Proof.TintProofs

/-! ### From an instruction's effect to what it leaves -/

section Effect

variable {i : Instr} {c word : Nat} {body : Task → Prog → TRes} {ti : Nat} {t : Task} {p : Prog} {s : State}

/-- An instruction that issues does what its effect answers, on the task with its budget spent. -/
theorem exec_of_issues (hw : tintOf i = some (c, word)) (hexec : ∀ s, exec i s = onCore c word body s) (his : Issues i ti t p s.dev) :
    exec i s = .next (withDev s (s.dev.tintDone c ti t p (body (spend t) p))) := by
  obtain ⟨hrun, hissue⟩ := tintIssue_of_issues (body := body) hw his
  rw [hexec, onCore_of_runsOn hrun, hissue]
  rfl

theorem exec_of_go (hw : tintOf i = some (c, word)) (hexec : ∀ s, exec i s = onCore c word body s) (his : Issues i ti t p s.dev)
    {t' : Task} {p' : Prog} (hgo : body (spend t) p = tgo t' p') : exec i s = .next (goes i ti t.prog t' p' (nextPc t') s) := by
  obtain ⟨hrun, hissue⟩ := tintIssue_of_issues (body := body) hw his
  rw [hexec]
  exact onCore_of_issue_go hrun hw (hissue.trans (congrArg some hgo))

/-- An effect that goes on at the instruction that follows. -/
theorem completes_of_tgo (hw : tintOf i = some (c, word)) {f : Task → Task}
    (hexec : ∀ s, exec i s = onCore c word (fun t p => tgo (f t) p) s) (hpc : ∀ t, (f t).pc = t.pc) : Completes i f := by
  intro ti t p s his
  rw [exec_of_go hw hexec his rfl, nextPc, hpc]
  rfl

end Effect

/-! ### Registers and predicates (R511) -/

section Registers

variable {t : Task} {v : Word64}

theorem setReg_zero : t.setReg 0 v = t := if_pos rfl

theorem reg_zero : t.reg 0 = 0 := if_pos rfl

theorem reg_setReg {r : Nat} (q : Nat) (h0 : r ≠ 0) (hr : r < t.regs.length) : (t.setReg r v).reg q = if q = r then v else t.reg q := by
  simp only [Task.setReg, if_neg h0, Task.reg, List.getD_eq_getElem?_getD, List.getElem?_set]
  by_cases hq : q = r
  · simp [hq, h0, hr]
  · simp [hq, Ne.symm hq]

variable {b : Bool}

theorem setPred_zero : t.setPred 0 b = t := if_pos rfl

theorem pred_zero : t.pred 0 = true := if_pos rfl

@[simp] theorem setPred_pc (q : Nat) : (t.setPred q b).pc = t.pc := by
  unfold Task.setPred
  split <;> rfl

theorem oneBit_getLsbD {q r : Nat} (hr : r < 8) : (1#8 <<< q).getLsbD r = decide (r = q) := by
  rw [BitVec.getLsbD_shiftLeft, BitVec.getLsbD_one, Bool.eq_iff_iff]
  simp only [hr, decide_true, Bool.true_and, Bool.and_eq_true, Bool.not_eq_true', decide_eq_false_iff_not, decide_eq_true_eq]
  omega

theorem pred_setPred {q r : Nat} (h0 : q ≠ 0) (hr : r < 8) : (t.setPred q b).pred r = if r = q then b else t.pred r := by
  have hnew : (if b then 1#8 <<< q else 0).getLsbD r = (b && decide (r = q)) := by
    cases b
    · exact BitVec.getLsbD_zero
    · exact oneBit_getLsbD hr
  rw [Task.setPred, if_neg h0, Task.pred, Task.pred, BitVec.getLsbD_or, BitVec.getLsbD_and, BitVec.getLsbD_not, hnew, oneBit_getLsbD hr]
  by_cases hrq : r = q
  · simp [hrq, h0]
  · simp [hrq, hr]

end Registers

/-! ### Loads, stores and atomics (R519, R525) -/

section Memory

variable {t : Task} {p : Prog} {size rd rs s : Nat} {ra : BitVec 5} {imm : BitVec 8} {sx : Bool} {cause : Nat}

@[simp] theorem segWrite_pc (off : Nat) (b : Bytes) : (segWrite t p s off b).1.pc = t.pc := by
  simp only [segWrite]
  split <;> rfl

/-- A number loaded, sign-extended or zero-extended. -/
def extended (size : Nat) (sx : Bool) (n : Nat) : Word64 := if sx then BitVec.ofInt 64 (signed (8 * size) n) else BitVec.ofNat 64 n

theorem tintLoad_of_pass (h : segCheck t s (offM ra imm size t) size size true false = none) :
    tintLoad size sx rd ra.toNat s imm t p = tgo (t.setReg rd (extended size sx (numAt t p s (offM ra imm size t) size))) p := by
  unfold offM at h
  simp only [tintLoad, h]
  rfl

theorem tintLoad_of_fail (h : segCheck t s (offM ra imm size t) size size true false = some cause) :
    tintLoad size sx rd ra.toNat s imm t p = .trap cause s (offM ra imm size t) 0 := by
  unfold offM at h
  simp only [tintLoad, h]
  rfl

theorem tintStore_of_pass (h : segCheck t s (offM ra imm size t) size size false true = none) :
    tintStore size rs ra.toNat s imm t p = tgo (segWrite t p s (offM ra imm size t) (toLE size (t.reg rs).toNat)).1
      (segWrite t p s (offM ra imm size t) (toLE size (t.reg rs).toNat)).2 := by
  unfold offM at h
  simp only [tintStore, h]
  rfl

theorem tintStore_of_fail (h : segCheck t s (offM ra imm size t) size size false true = some cause) :
    tintStore size rs ra.toNat s imm t p = .trap cause s (offM ra imm size t) 0 := by
  unfold offM at h
  simp only [tintStore, h]
  rfl

variable {f : Word64 → Option Word64}

theorem tintAmo_of_stored {v : Word64} (h : segCheck t s (t.reg ra.toNat).toNat 8 8 true true = none)
    (hv : f (BitVec.ofNat 64 (numAt t p s (t.reg ra.toNat).toNat 8)) = some v) :
    tintAmo f rd ra.toNat s t p =
      tgo ((segWrite t p s (t.reg ra.toNat).toNat (toLE 8 v.toNat)).1.setReg rd (BitVec.ofNat 64 (numAt t p s (t.reg ra.toNat).toNat 8)))
        (segWrite t p s (t.reg ra.toNat).toNat (toLE 8 v.toNat)).2 := by
  unfold numAt at hv
  simp only [tintAmo, h, hv]
  rfl

theorem tintAmo_of_kept (h : segCheck t s (t.reg ra.toNat).toNat 8 8 true true = none)
    (hv : f (BitVec.ofNat 64 (numAt t p s (t.reg ra.toNat).toNat 8)) = none) :
    tintAmo f rd ra.toNat s t p = tgo (t.setReg rd (BitVec.ofNat 64 (numAt t p s (t.reg ra.toNat).toNat 8))) p := by
  unfold numAt at hv
  simp only [tintAmo, h, hv]
  rfl

theorem tintAmo_of_fail (h : segCheck t s (t.reg ra.toNat).toNat 8 8 true true = some cause) :
    tintAmo f rd ra.toNat s t p = .trap cause s (t.reg ra.toNat).toNat 0 := by
  simp only [tintAmo, h]

end Memory

/-- Each of the seven loads is tintLoad of its size and extension. -/
theorem loads_of_tintLoad {i : Instr} {c word size : Nat} {rd ra : BitVec 5} {seg : BitVec 4} {imm : BitVec 8} (sx : Bool)
    (hw : tintOf i = some (c, word))
    (hexec : ∀ s, exec i s = onCore c word (fun t p => tintLoad size sx rd.toNat ra.toNat seg.toNat imm t p) s) :
    Loads i rd ra seg imm size (extended size sx) := by
  refine ⟨completesAt_of_go hw hexec fun t p h => ⟨none, tintLoad_of_pass (t := spend t) h, ?_⟩,
    fun cause => traps_of_trap hw hexec fun t p h => tintLoad_of_fail (t := spend t) h⟩
  simp [nextPc, spend]

/-- Each of the four stores is tintStore of its size. -/
theorem stores_of_tintStore {i : Instr} {c word size : Nat} {rs ra : BitVec 5} {seg : BitVec 4} {imm : BitVec 8}
    (hw : tintOf i = some (c, word)) (hexec : ∀ s, exec i s = onCore c word (fun t p => tintStore size rs.toNat ra.toNat seg.toNat imm t p) s) :
    Stores i rs ra seg imm size := by
  refine ⟨fun ti t p s his h => ?_, fun cause => traps_of_trap hw hexec fun t p h => tintStore_of_fail (t := spend t) h⟩
  rw [exec_of_go hw hexec his (tintStore_of_pass (t := spend t) h), nextPc, segWrite_pc]
  rfl

/-- Each of the three atomics is tintAmo of what it stores. -/
theorem atomic_of_tintAmo {i : Instr} {c word : Nat} {rd ra : BitVec 5} {seg : BitVec 4} {f : Task → Word64 → Option Word64}
    (hw : tintOf i = some (c, word)) (hexec : ∀ s, exec i s = onCore c word (fun t p => tintAmo (f t) rd.toNat ra.toNat seg.toNat t p) s)
    (hf : ∀ t, f (spend t) = f t) : Atomic i rd ra seg f := by
  refine ⟨fun ti t p s his h => ?_, fun cause => traps_of_trap hw hexec fun t p h => tintAmo_of_fail (t := spend t) h⟩
  cases hv : f t (BitVec.ofNat 64 (numAt t p seg.toNat (t.reg ra.toNat).toNat 8)) with
  | none =>
    rw [exec_of_go hw hexec his (tintAmo_of_kept (t := spend t) h ((congrFun (hf t) _).trans hv)), nextPc, setReg_pc]
    simp only [hv]
    rfl
  | some v =>
    rw [exec_of_go hw hexec his (tintAmo_of_stored (t := spend t) h ((congrFun (hf t) _).trans hv)), nextPc, setReg_pc, segWrite_pc]
    simp only [hv]
    rfl

/-! ### The frame of a store (R519, R525) -/

section StoreFrame

variable {t : Task} {p : Prog} {seg off : Nat} {b : Bytes}

theorem getElem?_patch_outside {m : Bytes} {o a : Nat} (h : a < o ∨ o + b.length ≤ a) (ho : o + b.length ≤ m.length) : (patch m o b)[a]? = m[a]? := by
  simp only [patch, List.getElem?_append, List.length_append, List.length_take, List.getElem?_take, List.getElem?_drop]
  grind

theorem getElem?_patch_inside {m : Bytes} {o k : Nat} (ho : o ≤ m.length) (hk : k < b.length) : (patch m o b)[o + k]? = b[k]? := by
  rw [patch, List.append_assoc, List.getElem?_append_right (by simp), List.getElem?_append_left (by simp; omega)]
  simp [ho]

/-- A store patches the memory behind its segment where that is the stack, the output or the state, and leaves every other memory. -/
theorem tmemOf_segWrite {region : Nat} (h : region ≤ 4) : tmemOf (segWrite t p seg off b).1 (segWrite t p seg off b).2 region =
    if region = (t.seg seg).region ∧ ((t.seg seg).region = 1 ∨ (t.seg seg).region = 3 ∨ (t.seg seg).region = 4)
      then patch (tmemOf t p region) ((t.seg seg).base + off) b else tmemOf t p region := by
  simp only [segWrite]
  split
  case h_1 hr | h_2 hr | h_3 hr => interval_cases region <;> simp [tmemOf, hr]
  case h_4 h1 h3 h4 => exact (if_neg fun ⟨_, h⟩ => h.elim h1 fun h => h.elim h3 h4).symm

theorem segWrite_frame : (segWrite t p seg off b).1.regs = t.regs ∧ (segWrite t p seg off b).1.preds = t.preds ∧
    (segWrite t p seg off b).1.segs = t.segs ∧ (segWrite t p seg off b).1.rstack = t.rstack ∧ (segWrite t p seg off b).1.pc = t.pc ∧
    (segWrite t p seg off b).1.budget = t.budget := by
  simp only [segWrite]
  split <;> exact ⟨rfl, rfl, rfl, rfl, rfl, rfl⟩

end StoreFrame

/-! ### Engine calls (R527, Table 12-6) -/

section Calls

variable {t : Task}

/-- Operands that R519 allows submit the call. -/
theorem tintCallCheck_of_pass {fn : Nat} {ins outs : List (Nat × Nat × Nat)} (hin : ∀ x ∈ ins, segCheck t x.1 x.2.1 x.2.2 1 true false = none)
    (hout : ∀ x ∈ outs, segCheck t x.1 x.2.1 x.2.2 1 false true = none) : tintCallCheck fn ins outs t = .call fn := by
  have hi : ins.findSome? (fun x => (segCheck t x.1 x.2.1 x.2.2 1 true false).map fun c => (c, x.1, x.2.1)) = none :=
    List.findSome?_eq_none_iff.2 fun x hx => by rw [hin x hx, Option.map_none]
  have ho : outs.findSome? (fun x => (segCheck t x.1 x.2.1 x.2.2 1 false true).map fun c => (c, x.1, x.2.1)) = none :=
    List.findSome?_eq_none_iff.2 fun x hx => by rw [hout x hx, Option.map_none]
  simp only [tintCallCheck, hi, ho]
  rfl

theorem tintEcall_sha256 (hlen : t.num 5 ≤ 262144) (hin : segCheck t (t.segReg 3) (t.num 4) (t.num 5) 1 true false = none)
    (hout : segCheck t (t.segReg 6) (t.num 7) 32 1 false true = none) : tintEcall 1 t = .call 1 := by
  rw [tintEcall, if_neg (Nat.not_lt.2 hlen)]
  exact tintCallCheck_of_pass (by simpa using hin) (by simpa using hout)

theorem tintEcall_hmac (hlen : t.num 5 ≤ 262144) (hkey : 1 ≤ t.num 10 ∧ t.num 10 ≤ 64)
    (hin : segCheck t (t.segReg 3) (t.num 4) (t.num 5) 1 true false = none) (hk : segCheck t (t.segReg 8) (t.num 9) (t.num 10) 1 true false = none)
    (hout : segCheck t (t.segReg 6) (t.num 7) 32 1 false true = none) : tintEcall 2 t = .call 2 := by
  rw [tintEcall, if_neg (by omega)]
  exact tintCallCheck_of_pass (by simpa using ⟨hin, hk⟩) (by simpa using hout)

theorem tintEcall_decomp (hlen : 1 ≤ t.num 5 ∧ t.num 5 ≤ 262144) (hmax : 1 ≤ t.num 8 ∧ t.num 8 ≤ 262144)
    (hin : segCheck t (t.segReg 3) (t.num 4) (t.num 5) 1 true false = none)
    (hout : segCheck t (t.segReg 6) (t.num 7) (t.num 8) 1 false true = none) : tintEcall 3 t = .call 3 := by
  rw [tintEcall, if_neg (by omega)]
  exact tintCallCheck_of_pass (by simpa using hin) (by simpa using hout)

theorem tintEcall_stencil (hin : segCheck t (t.segReg 3) (t.num 4) 32 1 true false = none) : tintEcall 4 t = .call 4 :=
  tintCallCheck_of_pass (by simpa using hin) (by simp)

variable {i : Instr} {c word ti : Nat} {body : Task → Prog → TRes} {p : Prog} {s : State}

/-- A call of an engine leaves the task waiting, its core free. -/
theorem exec_of_call {fn : Nat} (hw : tintOf i = some (c, word)) (hexec : ∀ s, exec i s = onCore c word body s) (his : Issues i ti t p s.dev)
    (hcall : body (spend t) p = .call fn) (h4 : fn ≠ 4) (h5 : fn ≠ 5) : exec i s = .next (calls i c ti fn t s) := by
  rw [exec_of_issues hw hexec his, hcall, calls, issued, hw]
  simp only [Dev.tintDone]
  rfl

theorem exec_ecallNow_of_issues {c : Nat} {g : BitVec 4} (his : Issues (.ecallNow c g) ti t p s.dev) :
    exec (.ecallNow c g) s = .next (withDev s ((issued (.ecallNow c g) s.dev).modTask ti fun _ =>
      { spend t with pc := nextPc t }.setReg 1 (BitVec.ofNat 64 (stampLow s.dev.stamp)))) :=
  exec_of_issues rfl (exec_ecallNow c g) his

theorem exec_tintEnd_of_issues {c : Nat} {g : BitVec 4} (his : Issues (.tintEnd c g) ti t p s.dev) :
    exec (.tintEnd c g) s = .next (withDev s (((issued (.tintEnd c g) s.dev).endTask ti (spend t)).settle)) := by
  rw [exec_of_issues rfl (exec_tintEnd c g) his]
  simp only [Dev.tintDone]
  rfl

/-- DELAY of no time keeps the task on its core, any other parks it. -/
theorem exec_tintDelay_of_issues {c : Nat} {g : BitVec 4} {ra : BitVec 5} (his : Issues (.tintDelay c g ra) ti t p s.dev) :
    let us := Nat.min (t.num ra.toNat) 1000000
    let d := (issued (.tintDelay c g ra) s.dev).modTask ti fun _ => { spend t with pc := nextPc t, state := .delayed, wake := s.dev.now + us * 1000 }
    exec (.tintDelay c g ra) s = .next (withDev s (
      if us = 0 then ((d.coreIdle c).putReady c ti true).schedRegs
      else ((d.setCore c { (d.core c) with delay := delayPut (d.core c).delay (s.dev.now + us * 1000, ti) }).coreIdle c).schedRegs)) := by
  have hi : issued (.tintDelay c g ra) s.dev = s.dev.setCore c { (s.dev.core c) with issuedAt := s.dev.now } := rfl
  rw [exec_of_issues rfl (exec_tintDelay c g ra) his, hi]
  generalize hus : Nat.min ((spend t).num ra.toNat) 1000000 = us
  have hus' : Nat.min (t.num ra.toNat) 1000000 = us := hus
  have hnow : (s.dev.setCore c { (s.dev.core c) with issuedAt := s.dev.now }).now = s.dev.now := rfl
  have hmod (d : Dev) (f : Machine.Task → Machine.Task) : (d.modTask ti f).now = d.now := rfl
  simp only [Dev.tintDone, usNs, hus', hmod, hnow, spend, nextPc]

end Calls

end Sys2Proof.TintMoreProofs

namespace Sys2Proof.TintMoreSettled

open Sys2Proof.Machine Sys2Proof.Claims Sys2Proof.TintProofs Sys2Proof.TintMoreProofs

/-- Settles O6: each writes rd alone, and what a register write leaves. -/
theorem tintArithmetic : Obligations.TintArithmetic := by
  refine ⟨fun c g rd ra rb fn => ?_, fun c g rd ra imm => ?_, fun c g rd ra imm => ?_, fun c g rd ra imm => ?_, fun c g rd ra imm => ?_,
    fun c g rd ra imm => ?_, fun c g rd ra imm => ?_, fun c g rd ra imm => ?_, fun c g rd imm => ?_, fun c g rd imm => ?_, fun c g rd imm => ?_,
    fun c g rd imm => ?_, fun t v => ⟨setReg_zero, reg_zero, fun r q => reg_setReg q⟩⟩
  · exact completes_of_tgo rfl (exec_alu c g rd ra rb fn) fun t => setReg_pc _
  · exact completes_of_tgo rfl (exec_addi c g rd ra imm) fun t => setReg_pc _
  · exact completes_of_tgo rfl (exec_andi c g rd ra imm) fun t => setReg_pc _
  · exact completes_of_tgo rfl (exec_ori c g rd ra imm) fun t => setReg_pc _
  · exact completes_of_tgo rfl (exec_xori c g rd ra imm) fun t => setReg_pc _
  · exact completes_of_tgo rfl (exec_shli c g rd ra imm) fun t => setReg_pc _
  · exact completes_of_tgo rfl (exec_shri c g rd ra imm) fun t => setReg_pc _
  · exact completes_of_tgo rfl (exec_srai c g rd ra imm) fun t => setReg_pc _
  · exact completes_of_tgo rfl (exec_movz c g rd imm) fun t => setReg_pc _
  · exact completes_of_tgo rfl (exec_movk1 c g rd imm) fun t => setReg_pc _
  · exact completes_of_tgo rfl (exec_movk2 c g rd imm) fun t => setReg_pc _
  · exact completes_of_tgo rfl (exec_movk3 c g rd imm) fun t => setReg_pc _

/-- Settles O7: each writes one predicate or register, or nothing, and what a predicate write leaves. -/
theorem tintPredicates : Obligations.TintPredicates := by
  refine ⟨fun c g pd cond ra rb => ?_, fun c g pd cond ra imm => ?_, fun c g pd pa pb lop ia ib => ?_, fun c g rd seg => ?_, fun c g rd => ?_,
    fun c g => ?_, fun t v => ⟨setPred_zero, pred_zero, fun q r h0 _ => pred_setPred h0⟩⟩
  · exact completes_of_tgo rfl (exec_cmp c g pd cond ra rb) fun t => setPred_pc _
  · exact completes_of_tgo rfl (exec_cmpi c g pd cond ra imm) fun t => setPred_pc _
  · exact completes_of_tgo rfl (exec_pset c g pd pa pb lop ia ib) fun t => setPred_pc _
  · exact completes_of_tgo rfl (exec_seglen c g rd seg) fun t => setReg_pc _
  · exact completes_of_tgo rfl (exec_rsd c g rd) fun t => setReg_pc _
  · exact completes_of_tgo rfl (exec_tintFence c g) fun t => rfl

/-- Settles O8: tintLoad where segCheck passes and where it gives a cause, for each size and extension. -/
theorem tintLoads : Obligations.TintLoads := by
  refine ⟨fun c g rd ra seg imm => ?_, fun c g rd ra seg imm => ?_, fun c g rd ra seg imm => ?_, fun c g rd ra seg imm => ?_,
    fun c g rd ra seg imm => ?_, fun c g rd ra seg imm => ?_, fun c g rd ra seg imm => ?_⟩
  · exact loads_of_tintLoad false rfl (exec_ld8u c g rd ra seg imm)
  · exact loads_of_tintLoad false rfl (exec_ld16u c g rd ra seg imm)
  · exact loads_of_tintLoad false rfl (exec_ld32u c g rd ra seg imm)
  · exact loads_of_tintLoad false rfl (exec_ld64 c g rd ra seg imm)
  · exact loads_of_tintLoad true rfl (exec_ld8s c g rd ra seg imm)
  · exact loads_of_tintLoad true rfl (exec_ld16s c g rd ra seg imm)
  · exact loads_of_tintLoad true rfl (exec_ld32s c g rd ra seg imm)

/-- Settles O9: tintStore and tintAmo where segCheck passes and where it gives a cause. -/
theorem tintStores : Obligations.TintStores := by
  refine ⟨fun c g rs ra seg imm => ?_, fun c g rs ra seg imm => ?_, fun c g rs ra seg imm => ?_, fun c g rs ra seg imm => ?_,
    fun c g rd ra rb seg => ?_, fun c g rd ra rb seg => ?_, fun c g rd ra rb seg => ?_⟩
  · exact stores_of_tintStore rfl (exec_st8 c g rs ra seg imm)
  · exact stores_of_tintStore rfl (exec_st16 c g rs ra seg imm)
  · exact stores_of_tintStore rfl (exec_st32 c g rs ra seg imm)
  · exact stores_of_tintStore rfl (exec_st64 c g rs ra seg imm)
  · exact atomic_of_tintAmo rfl (exec_amoadd c g rd ra rb seg) fun t => rfl
  · exact atomic_of_tintAmo rfl (exec_amoswap c g rd ra rb seg) fun t => rfl
  · exact atomic_of_tintAmo rfl (exec_amocas c g rd ra rb seg) fun t => rfl

/-- Settles O12: each call's checks, and what tintDone does with the call, the end, the delay and the trap that the instruction answers. -/
theorem tintCalls : Obligations.TintCalls := by
  refine ⟨fun c g ti t p s his h => ?sha, fun c g ti t p s his h => ?hmac, fun c g ti t p s his h => ?decomp, fun c g => ?shaTrap, fun c g => ?hmacTrap,
    fun c g => ?decompTrap, fun c g ti t p s his h => ?stencil, fun c g ti t p s his => ?now, fun c g ti t p s his => ?ended,
    fun c g ra ti t p s his => ?delay, fun c g code => ?trap⟩
  case sha =>
    obtain ⟨hlen, hin, hout⟩ := h
    exact exec_of_call rfl (exec_ecallSha256 c g) his (tintEcall_sha256 (t := spend t) hlen hin hout) (by decide) (by decide)
  case hmac =>
    obtain ⟨hlen, hlo, hhi, hin, hk, hout⟩ := h
    exact exec_of_call rfl (exec_ecallHmac c g) his (tintEcall_hmac (t := spend t) hlen ⟨hlo, hhi⟩ hin hk hout) (by decide) (by decide)
  case decomp =>
    obtain ⟨hlo, hhi, hmlo, hmhi, hin, hout⟩ := h
    exact exec_of_call rfl (exec_ecallDecomp c g) his (tintEcall_decomp (t := spend t) ⟨hlo, hhi⟩ ⟨hmlo, hmhi⟩ hin hout) (by decide) (by decide)
  case shaTrap => exact traps_of_trap rfl (exec_ecallSha256 c g) fun t p h => if_pos h
  case hmacTrap => exact traps_of_trap rfl (exec_ecallHmac c g) fun t p h => if_pos h
  case decompTrap => exact traps_of_trap rfl (exec_ecallDecomp c g) fun t p h => if_pos h
  case stencil => rw [exec_of_issues rfl (exec_ecallStencil c g) his, tintEcall_stencil (t := spend t) h]; rfl
  case now => exact exec_ecallNow_of_issues his
  case ended => exact exec_tintEnd_of_issues his
  case delay => exact exec_tintDelay_of_issues his
  case trap => exact traps_of_trap rfl (exec_tintTrap c g code) fun t p _ => rfl

/-- Settles O16: the store patches one memory, within its length; the task's other fields are segWrite_frame's. -/
theorem storeFrame : Obligations.StoreFrame := by
  intro t p seg off b hfits hlim
  have hin : (t.seg seg).base + off + b.length ≤ (tmemOf t p (t.seg seg).region).length := by
    have := hfits seg
    omega
  refine ⟨fun region a hregion hout => ?_, fun hmem k hk => ?_, segWrite_frame⟩
  · rw [tmemOf_segWrite hregion]
    split
    next h => exact getElem?_patch_outside (hout h.1) (h.1 ▸ hin)
    next => rfl
  · rw [tmemOf_segWrite (by omega), if_pos ⟨rfl, hmem⟩]
    exact getElem?_patch_inside (by omega) hk

end Sys2Proof.TintMoreSettled

/-! SUPPORT. Bytes (R4): what toLE, fromLE and patch leave, and a run of little-endian fields of which each reads back at its place. -/

namespace Sys2Proof.ByteProofs

open Sys2Proof.Machine

/-! ### Numbers as bytes -/

@[simp] theorem length_toLE (k n : Nat) : (toLE k n).length = k := by
  induction k generalizing n with
  | zero => rfl
  | succ k ih => rw [toLE, List.length_cons, ih]

theorem fromLE_toLE (k n : Nat) : fromLE (toLE k n) = n % 256 ^ k := by
  induction k generalizing n with
  | zero => simp [toLE, fromLE, Nat.mod_one]
  | succ k ih =>
    rw [toLE, fromLE, ih, BitVec.toNat_ofNat]
    exact Nat.mod_mul.symm.trans (by rw [← Nat.pow_succ'])

theorem length_patch {m b : Bytes} {o : Nat} (h : o + b.length ≤ m.length) : (patch m o b).length = m.length := by
  simp only [patch, List.length_append, List.length_take, List.length_drop]
  omega

/-- Bytes laid over as many bytes take their place. -/
theorem patch_append {a b c x : Bytes} (h : x.length = b.length) : patch (a ++ b ++ c) a.length x = a ++ x ++ c := by
  rw [patch, List.append_assoc a b c, List.take_left, h, ← List.drop_drop, List.drop_left, List.drop_left]

/-! ### Runs of fields -/

/-- Fields of some widths in bytes, one after the other. -/
def layout (fs : List (Nat × Nat)) : Bytes := fs.flatMap fun f => toLE f.1 f.2

/-- The bytes that fields take. -/
def width (fs : List (Nat × Nat)) : Nat := (fs.map (·.1)).sum

theorem length_layout (fs : List (Nat × Nat)) : (layout fs).length = width fs := by
  simp [layout, width, List.length_flatMap]

theorem layout_append (a b : List (Nat × Nat)) : layout (a ++ b) = layout a ++ layout b := List.flatMap_append

theorem layout_split {fs : List (Nat × Nat)} {j k n : Nat} (h : fs[j]? = some (k, n)) :
    layout fs = layout (fs.take j) ++ toLE k n ++ layout (fs.drop (j + 1)) := by
  obtain ⟨hj, hget⟩ := List.getElem?_eq_some_iff.1 h
  conv_lhs => rw [← List.take_append_drop j fs, List.drop_eq_getElem_cons hj, hget, layout_append]
  simp [layout]

/-- A field reads back at its place, whatever follows. -/
theorem le_layout {fs : List (Nat × Nat)} {j k n o : Nat} (h : fs[j]? = some (k, n)) (ho : width (fs.take j) = o) (rest : Bytes) :
    le (layout fs ++ rest) o k = n % 256 ^ k := by
  rw [le, slice, layout_split h, List.append_assoc, List.append_assoc, ← ho, ← length_layout, List.drop_left,
    List.take_left' (length_toLE k n), fromLE_toLE]

theorem ofNat_le_layout {fs : List (Nat × Nat)} {j k o w : Nat} {x : BitVec w} (h : fs[j]? = some (k, x.toNat)) (ho : width (fs.take j) = o)
    (rest : Bytes) (hw : 256 ^ k = 2 ^ w) : BitVec.ofNat w (le (layout fs ++ rest) o k) = x := by
  rw [le_layout h ho, hw, Nat.mod_eq_of_lt x.isLt, BitVec.ofNat_toNat, BitVec.setWidth_eq]

/-- A field laid over another of its width. -/
theorem patch_layout {fs : List (Nat × Nat)} {j k n o : Nat} (h : fs[j]? = some (k, n)) (ho : width (fs.take j) = o) (n' : Nat) :
    patch (layout fs) o (toLE k n') = layout (fs.set j (k, n')) := by
  have hj : j < fs.length := (List.getElem?_eq_some_iff.1 h).1
  have hset : (fs.set j (k, n'))[j]? = some (k, n') := by simp [hj]
  rw [layout_split h, layout_split hset, ← ho, ← length_layout, patch_append (by simp), List.take_set_of_le (Nat.le_refl j),
    List.drop_set_of_lt (Nat.lt_succ_self j)]

end Sys2Proof.ByteProofs

/-! SUPPORT. The segments of a task (R518 to R521): what each instruction's effect leaves of them and of the memories behind them, and that the scheduler changes
neither; from these the invariant SegmentsNeverWiden. -/

namespace Sys2Proof.SegmentProofs

open Sys2Proof.Machine Sys2Proof.Claims Sys2Proof.TintProofs Sys2Proof.TintMoreProofs Sys2Proof.ByteProofs

/-! ### What the scheduler leaves of a task -/

/-- What Keeps speaks of: a task's segments, its tenant and its own memories. -/
def memoryOf (t : Task) : List TSeg × Nat × Bytes × Bytes × Bytes := (t.segs, t.tenant, t.stack, t.input, t.output)

/-- The memories of task ti and of every program. -/
def held (ti : Nat) (d : Dev) : Option (List TSeg × Nat × Bytes × Bytes × Bytes) × Tbl Prog := ((d.task ti).map memoryOf, d.progs)

theorem tget_tmap {α : Type} (t : Tbl α) (f : Nat → α → α) (k : Nat) : tget (tmap t f) k = (tget t k).map (f k) := by
  induction t with
  | nil => rfl
  | cons e r ih =>
    simp only [tmap, List.map_cons, tget] at ih ⊢
    split
    next h => simp [h]
    next =>
      split
      · rfl
      · exact ih

theorem foldl_keeps {α β γ : Type} (g : α → γ) {f : α → β → α} (hf : ∀ a b, g (f a b) = g a) (l : List β) (a : α) : g (l.foldl f a) = g a := by
  induction l generalizing a with
  | nil => rfl
  | cons b l ih => rw [List.foldl_cons, ih, hf]

section Held

variable {ti : Nat} {d : Dev}

theorem held_congr {e : Dev} (hs : e.sched.tasks = d.sched.tasks) (hp : e.progs = d.progs) : held ti e = held ti d := by
  simp only [held, Dev.task, hs, hp]

theorem held_modTask (k : Nat) {f : Task → Task} (hf : ∀ t, memoryOf (f t) = memoryOf t) : held ti (d.modTask k f) = held ti d := by
  simp only [held, Dev.task, Dev.modTask, Dev.setTasks, tget_tmod]
  split
  · cases tget d.sched.tasks ti <;> simp [hf]
  · rfl

theorem held_putTask {k : Nat} {t t' : Task} (ht : d.task k = some t) (hm : memoryOf t' = memoryOf t) : held ti (d.modTask k fun _ => t') = held ti d := by
  simp only [held, Dev.task, Dev.modTask, Dev.setTasks, tget_tmod]
  split
  next h =>
    rw [h, show tget d.sched.tasks k = some t from ht]
    simp [hm]
  next => rfl

@[simp] theorem held_wr (f : Fld) (n : Nat) : held ti (d.wr f n) = held ti d := rfl
@[simp] theorem held_bump (f : Fld) : held ti (d.bump f) = held ti d := rfl
@[simp] theorem held_setCore (c : Nat) (x : Core) : held ti (d.setCore c x) = held ti d := rfl

@[simp] theorem held_raiseIbi (sev : Nat) : held ti (d.raiseIbi sev) = held ti d := by
  unfold Dev.raiseIbi
  split
  · split <;> rfl
  · rfl

@[simp] theorem held_eventRec (code sev tenant inst : Nat) (anchor : Bool) (args : List Nat) (body : Bytes) :
    held ti (d.eventRec code sev tenant inst anchor args body) = held ti d := by
  rw [Dev.eventRec, held_raiseIbi]
  split <;> rfl

@[simp] theorem held_event (code sev tenant inst : Nat) (args : List Nat) : held ti (d.event code sev tenant inst args) = held ti d :=
  held_eventRec ..

@[simp] theorem held_endOps (dies : Nat → Bool) : held ti (d.endOps dies) = held ti d := by
  simp only [Dev.endOps]
  rw [foldl_keeps (held ti) fun _ _ => by rfl, foldl_keeps (held ti) fun _ _ => by rfl]

@[simp] theorem held_partPort (n : Nat) : held ti (d.partPort n) = held ti d := by
  unfold Dev.partPort
  split
  · rfl
  · split
    · exact held_endOps _
    · rfl
    · rfl

@[simp] theorem held_leavePorts (ns : List Nat) : held ti (d.leavePorts ns) = held ti d :=
  foldl_keeps (held ti) (fun _ _ => held_partPort _) _ _

@[simp] theorem held_fenceQuiet (code : Nat) : held ti (d.fenceQuiet code) = held ti d := by
  unfold Dev.fenceQuiet
  split
  · rfl
  · exact held_leavePorts _

@[simp] theorem held_latchBreach (ledger term inst left right : Nat) : held ti (d.latchBreach ledger term inst left right) = held ti d := by
  unfold Dev.latchBreach
  split <;> rfl

@[simp] theorem held_breach (ledger term inst left right : Nat) : held ti (d.breach ledger term inst left right) = held ti d := by
  simp only [Dev.breach]
  split
  · exact held_latchBreach ..
  · rw [held_fenceQuiet, held_eventRec]
    exact held_latchBreach ..

@[simp] theorem held_slotMark (pct : Nat) (f : Fld) : held ti (d.slotMark pct f) = held ti d := by
  simp only [Dev.slotMark]
  split <;> split <;> rfl

@[simp] theorem held_schedRegs : held ti d.schedRegs = held ti d := by
  simp only [Dev.schedRegs]
  split
  · simp
  · split <;> simp

@[simp] theorem held_postTask (k : Nat) : held ti (d.postTask k) = held ti d := by
  unfold Dev.postTask
  split
  · rfl
  · split
    · rfl
    · exact (held_modTask _ fun _ => by rfl).trans (held_setCore _ _)

@[simp] theorem held_putReady (c k : Nat) (resumed : Bool) : held ti (d.putReady c k resumed) = held ti d := by
  unfold Dev.putReady
  split
  · rfl
  · exact (held_modTask _ fun _ => by rfl).trans (held_setCore _ _)

@[simp] theorem held_makeReady (k : Nat) : held ti (d.makeReady k) = held ti d := by
  unfold Dev.makeReady
  split
  · rfl
  · split
    · exact held_postTask _
    · split
      · split
        · exact held_putReady _ _ _
        · exact held_modTask (d := { d with sched := { d.sched with pending := d.sched.pending ++ [k] } }) _ fun _ => by rfl
      · exact held_modTask (d := { d with sched := { d.sched with pending := d.sched.pending ++ [k] } }) _ fun _ => by rfl

theorem map_tget_tmap {α β : Type} {g : α → β} {f : Nat → α → α} (hf : ∀ k a, g (f k a) = g a) (t : Tbl α) (k : Nat) :
    (tget (tmap t f) k).map g = (tget t k).map g := by
  rw [tget_tmap, Option.map_map]
  exact congrArg (Option.map · _) (funext fun _ => hf _ _)

@[simp] theorem held_swapCores (old : Nat) (new : Option Nat) : held ti (d.swapCores old new) = held ti d := by
  simp only [held, Dev.task, Dev.swapCores]
  rw [map_tget_tmap]
  exact fun _ _ => rfl

@[simp] theorem held_refillSets : held ti d.refillSets = held ti d := by
  simp only [held, Dev.task, Dev.refillSets]
  rw [map_tget_tmap]
  exact fun _ _ => rfl

/-- A core that leaves service moves its tasks and changes nothing of their memories (R570 to R573). -/
@[simp] theorem held_failCore (c : Nat) : held ti (d.failCore c) = held ti d := by
  simp only [Dev.failCore]
  split
  · simp
  · rw [foldl_keeps (held ti), foldl_keeps (held ti) fun _ _ => held_postTask _, foldl_keeps (held ti) fun _ _ => held_makeReady _]
    · simp
    · intro e k
      split
      · rfl
      · split
        · rfl
        · exact (held_modTask _ fun _ => by rfl).trans (held_setCore _ _)

@[simp] theorem held_coreIdle (c : Nat) : held ti (d.coreIdle c) = held ti d := by
  simp only [Dev.coreIdle]
  split <;> simp

end Held

/-! ### What an instruction's effect leaves of a task's segments -/

section Effect

variable {t t' : Task} {p p' : Prog}

theorem within_refl (g : TSeg) : Within g g := ⟨rfl, rfl, Nat.le_refl _, Nat.le_refl _, id, id, id⟩

theorem seg_eq (h : t'.segs = t.segs) (n : Nat) : t'.seg n = t.seg n := by
  simp only [Task.seg, h]

/-- Segments that stay as they are keep the invariant wherever no memory behind them changes its length. -/
theorem keeps_of_lengths (hsegs : t'.segs = t.segs) (hten : t'.tenant = t.tenant) (hin : t'.input = t.input) (hcode : p'.code = p.code)
    (hstack : t'.stack.length = t.stack.length) (hout : t'.output.length = t.output.length) (hstate : p'.state.length = p.state.length)
    (hfit : Fits t p) : Keeps t p t' p' := by
  have hlen (region : Nat) : (tmemOf t' p' region).length = (tmemOf t p region).length := by
    unfold tmemOf
    split
    · rw [hcode]
    · exact hstack
    · rw [hin]
    · exact hout
    · exact hstate
  refine ⟨fun n => ?_, fun n hn => ⟨n, hn, ?_⟩, seg_eq hsegs 0, hten, hcode, hin, hstack, hout, hstate⟩
  · rw [seg_eq hsegs, hlen]
    exact hfit n
  · rw [seg_eq hsegs]
    exact within_refl _

theorem keeps_congr {t'' : Task} (h : memoryOf t'' = memoryOf t') (hk : Keeps t p t' p') : Keeps t p t'' p' := by
  simp only [memoryOf, Prod.mk.injEq] at h
  obtain ⟨hsegs, hten, hstack, hin, hout⟩ := h
  have hmem (region : Nat) : tmemOf t'' p' region = tmemOf t' p' region := by
    simp only [tmemOf, hstack, hin, hout]
  simpa only [Keeps, Fits, seg_eq hsegs, hten, hstack, hin, hout, hmem] using hk

theorem keeps_of_memoryOf (h : memoryOf t' = memoryOf t) (hfit : Fits t p) : Keeps t p t' p := by
  simp only [memoryOf, Prod.mk.injEq] at h
  obtain ⟨hsegs, hten, hstack, hin, hout⟩ := h
  exact keeps_of_lengths hsegs hten hin rfl (congrArg _ hstack) (congrArg _ hout) rfl hfit

/-- What an effect answers keeps the invariant: if it goes on, by what it leaves of the task and its program. -/
def GoesOnKeeping (t : Task) (p : Prog) : TRes → Prop
  | .go t' p' _ => Keeps t p t' p'
  | _ => True

@[simp] theorem memoryOf_setReg (r : Nat) (v : Word64) : memoryOf (t.setReg r v) = memoryOf t := by
  unfold Task.setReg
  split <;> rfl

@[simp] theorem memoryOf_setPred (q : Nat) (b : Bool) : memoryOf (t.setPred q b) = memoryOf t := by
  unfold Task.setPred
  split <;> rfl

theorem limit_of_segCheck {s off size align : Nat} {r w : Bool} (h : segCheck t s off size align r w = none) : off + size ≤ (t.seg s).limit := by
  by_contra hlim
  simp only [segCheck, Nat.lt_of_not_le hlim, if_true] at h
  split at h
  · cases h
  · split at h <;> cases h

theorem seg_set {sd : Nat} (g : TSeg) (hsd : sd < t.segs.length) (n : Nat) :
    ({ t with segs := t.segs.set sd g } : Task).seg n = if n = sd then g else t.seg n := by
  simp only [Task.seg, List.getD_eq_getElem?_getD, List.getElem?_set]
  by_cases hn : n = sd
  · simp [hn, hsd]
  · simp [hn, Ne.symm hn]

variable (hfit : Fits t p)

include hfit

theorem goesOnKeeping_of_memoryOf {pc : Option Nat} (h : memoryOf t' = memoryOf t) : GoesOnKeeping t p (.go t' p pc) := keeps_of_memoryOf h hfit

theorem goesOnKeeping_tintLoad (size : Nat) (sx : Bool) (rd ra s : Nat) (imm : BitVec 8) : GoesOnKeeping t p (tintLoad size sx rd ra s imm t p) := by
  simp only [tintLoad]
  split
  · trivial
  · exact goesOnKeeping_of_memoryOf hfit (memoryOf_setReg _ _)

/-- A store within its segment changes the length of no memory. -/
theorem keeps_segWrite {s off : Nat} {b : Bytes} (hlim : off + b.length ≤ (t.seg s).limit) :
    Keeps t p (segWrite t p s off b).1 (segWrite t p s off b).2 := by
  have hroom : (t.seg s).base + off + b.length ≤ (tmemOf t p (t.seg s).region).length := by
    have := hfit s
    omega
  simp only [segWrite]
  split
  case h_1 hr => exact keeps_of_lengths rfl rfl rfl rfl (length_patch (by rwa [hr] at hroom)) rfl rfl hfit
  case h_2 hr => exact keeps_of_lengths rfl rfl rfl rfl rfl (length_patch (by rwa [hr] at hroom)) rfl hfit
  case h_3 hr => exact keeps_of_lengths rfl rfl rfl rfl rfl rfl (length_patch (by rwa [hr] at hroom)) hfit
  case h_4 => exact keeps_of_memoryOf rfl hfit

theorem goesOnKeeping_tintStore {size : Nat} (rs ra s : Nat) (imm : BitVec 8) :
    GoesOnKeeping t p (tintStore size rs ra s imm t p) := by
  simp only [tintStore]
  split
  · trivial
  next h => exact keeps_segWrite hfit (by simpa [length_toLE] using limit_of_segCheck h)

theorem goesOnKeeping_tintAmo (f : Word64 → Option Word64) (rd ra s : Nat) : GoesOnKeeping t p (tintAmo f rd ra s t p) := by
  simp only [tintAmo]
  split
  · trivial
  next h =>
    split
    next v _ =>
      have := keeps_segWrite hfit (b := toLE 8 v.toNat) (by simpa [length_toLE] using limit_of_segCheck h)
      exact keeps_congr (memoryOf_setReg _ _) this
    next => exact goesOnKeeping_of_memoryOf hfit (memoryOf_setReg _ _)

/-- A segment register other than s0 that takes a part of a segment keeps the invariant. -/
theorem keeps_set {sd ss : Nat} {g : TSeg} (hlen : t.segs.length = 16) (hsd : sd < 16) (h0 : sd ≠ 0) (hpart : Within g (t.seg ss)) (hss : ss < 16) :
    Keeps t p { t with segs := t.segs.set sd g } p := by
  have hseg := seg_set (t := t) g (hsd.trans_eq hlen.symm)
  refine ⟨fun n => ?_, fun n hn => ?_, (hseg 0).trans (if_neg (Ne.symm h0)), rfl, rfl, rfl, rfl, rfl, rfl⟩
  · change _ ≤ (tmemOf t p _).length
    rw [hseg]
    split
    · obtain ⟨hregion, -, -, hend, -⟩ := hpart
      rw [hregion]
      exact hend.trans (hfit ss)
    · exact hfit n
  · rw [hseg]
    split
    · exact ⟨ss, hss, hpart⟩
    · exact ⟨n, hn, within_refl _⟩

/-- SEGN makes a part of a segment (R521). -/
theorem goesOnKeeping_tintSegn {sd ss : BitVec 4} (ra rb : Nat) (rights : BitVec 3) (hlen : t.segs.length = 16) :
    GoesOnKeeping t p (tintSegn sd.toNat ss.toNat ra rb rights t p) := by
  by_cases hlim : (t.seg ss.toNat).limit < (t.reg ra).toNat + (t.reg rb).toNat
  · rw [tintSegn_of_past_limit hlim]
    trivial
  by_cases hsd : sd.toNat = 0
  · rw [hsd, tintSegn_s0 (Nat.le_of_not_lt hlim)]
    trivial
  rw [tintSegn_of_within_limit (Nat.le_of_not_lt hlim) hsd]
  set g : TSeg := { (t.seg ss.toNat) with
      base := (t.seg ss.toNat).base + (t.reg ra).toNat, limit := (t.reg rb).toNat
      r := (t.seg ss.toNat).r && rights.getLsbD 2, w := (t.seg ss.toNat).w && rights.getLsbD 1, x := (t.seg ss.toNat).x && rights.getLsbD 0 } with hg
  have hpart : Within g (t.seg ss.toNat) := by
    refine ⟨rfl, rfl, Nat.le_add_right _ _, ?_, ?_, ?_, ?_⟩
    · simp only [hg]
      omega
    all_goals simp +contextual [hg]
  exact keeps_set hfit hlen sd.isLt hsd hpart ss.isLt

omit hfit in
theorem memoryOf_tintPush {v : Word64} (h : tintPush t p v = some t') : memoryOf t' = memoryOf t := by
  unfold tintPush at h
  split at h
  · cases h
    rfl
  · split at h
    · cases h
      rfl
    · cases h

theorem goesOnKeeping_tintCall (target : Nat) : GoesOnKeeping t p (tintCall target t p) := by
  unfold tintCall
  split
  · trivial
  next h => exact goesOnKeeping_of_memoryOf hfit (memoryOf_tintPush h)

omit hfit in
theorem goesOnKeeping_tintPop {f : Word64 → Task → TRes} (hf : ∀ v t', memoryOf t' = memoryOf t → GoesOnKeeping t p (f v t')) :
    GoesOnKeeping t p (tintPop f t) := by
  unfold tintPop
  split
  · trivial
  · exact hf _ _ rfl

omit hfit in
theorem goesOnKeeping_tintCallCheck (fn : Nat) (ins outs : List (Nat × Nat × Nat)) : GoesOnKeeping t p (tintCallCheck fn ins outs t) := by
  simp only [tintCallCheck]
  split <;> trivial

omit hfit in
theorem goesOnKeeping_tintEcall (fn : Nat) : GoesOnKeeping t p (tintEcall fn t) := by
  unfold tintEcall
  split
  case h_1 | h_2 | h_3 =>
    split
    · trivial
    · exact goesOnKeeping_tintCallCheck ..
  case h_4 => exact goesOnKeeping_tintCallCheck ..
  case h_5 | h_6 => trivial

end Effect

/-- Every tint instruction is the issue of an effect that keeps the invariant. -/
theorem exec_eq_onCore_keeping {i : Instr} {c word : Nat} (hw : tintOf i = some (c, word)) : ∃ body, (∀ s, exec i s = onCore c word body s) ∧
    ∀ t p, Fits t p → t.segs.length = 16 → GoesOnKeeping t p (body t p) := by
  cases i
  all_goals cases hw
  case alu | addi | andi | ori | xori | shli | shri | srai | movz | movk1 | movk2 | movk3 | seglen | rsd =>
    exact ⟨_, fun _ => rfl, fun t p h _ => goesOnKeeping_of_memoryOf h (memoryOf_setReg _ _)⟩
  case cmp | cmpi | pset => exact ⟨_, fun _ => rfl, fun t p h _ => goesOnKeeping_of_memoryOf h (memoryOf_setPred _ _)⟩
  case ld8u | ld16u | ld32u | ld64 | ld8s | ld16s | ld32s => exact ⟨_, fun _ => rfl, fun t p h _ => goesOnKeeping_tintLoad h ..⟩
  case st8 | st16 | st32 | st64 => exact ⟨_, fun _ => rfl, fun t p h _ => goesOnKeeping_tintStore h ..⟩
  case amoadd | amoswap | amocas => exact ⟨_, fun _ => rfl, fun t p h _ => goesOnKeeping_tintAmo h ..⟩
  case segn => exact ⟨_, fun _ => rfl, fun t p h hlen => goesOnKeeping_tintSegn h _ _ _ hlen⟩
  case tintFence | br | jr => exact ⟨_, fun _ => rfl, fun t p h _ => goesOnKeeping_of_memoryOf h rfl⟩
  case call | callr => exact ⟨_, fun _ => rfl, fun t p h _ => goesOnKeeping_tintCall h _⟩
  case ret => exact ⟨_, fun _ => rfl, fun t p h _ => goesOnKeeping_tintPop fun _ _ ht => goesOnKeeping_of_memoryOf h ht⟩
  case rpop => exact ⟨_, fun _ => rfl, fun t p h _ => goesOnKeeping_tintPop fun _ _ ht => goesOnKeeping_of_memoryOf h ((memoryOf_setReg _ _).trans ht)⟩
  case rpush =>
    refine ⟨_, fun _ => rfl, fun t p h _ => ?_⟩
    split
    · trivial
    next hpush => exact goesOnKeeping_of_memoryOf h (memoryOf_tintPush hpush)
  case ecallSha256 | ecallHmac | ecallDecomp | ecallStencil | ecallNow => exact ⟨_, fun _ => rfl, fun t p _ _ => goesOnKeeping_tintEcall _⟩
  case tintEnd | tintDelay | tintTrap => exact ⟨_, fun _ => rfl, fun t p _ _ => trivial⟩

/-- Issuing keeps the invariant where the effect does: it traps, or the guard lets the task go on as it is, or the effect happens. -/
theorem goesOnKeeping_tintIssue {t : Task} {p : Prog} {word : Nat} {body : Task → Prog → TRes} (hfit : Fits t p)
    (hbody : GoesOnKeeping (spend t) p (body (spend t) p)) {r : TRes} (hr : tintIssue word body t p = some r) : GoesOnKeeping t p r := by
  simp only [tintIssue] at hr
  split at hr
  · cases hr
    trivial
  · split_ifs at hr <;> cases hr
    · trivial
    · trivial
    · exact keeps_of_memoryOf rfl hfit
    · trivial
    · exact hbody

section Done

variable {c ti : Nat} {t : Task} {p : Prog} {d : Dev}

/-- A task whose memories the part holds as before goes on with the segments it had. -/
theorem goesOn_of_held {e : Dev} (hrun : RunsOn c ti t p d) (hfit : Fits t p) (hh : held ti e = held ti d) :
    ∃ t' p', e.task ti = some t' ∧ tget e.progs t.prog = some p' ∧ Keeps t p t' p' := by
  obtain ⟨-, htask, hprog⟩ := hrun
  simp only [held, Prod.mk.injEq, htask, Option.map_some, Option.map_eq_some_iff] at hh
  obtain ⟨⟨t', ht, hmem⟩, hprogs⟩ := hh
  exact ⟨t', p, ht, hprogs ▸ hprog, keeps_of_memoryOf hmem hfit⟩

theorem held_setCore_putTask {x : Core} {t' : Task} (htask : d.task ti = some t) (hm : memoryOf t' = memoryOf t) :
    held ti ((d.setCore c x).modTask ti fun _ => t') = held ti d := by
  have htask' : (d.setCore c x).task ti = some t := htask
  rw [held_putTask htask' hm, held_setCore]

theorem held_tintDone_delay (htask : d.task ti = some t) (us : Nat) : held ti (d.tintDone c ti t p (.delay us)) = held ti d := by
  simp only [Dev.tintDone]
  split
  · rw [held_schedRegs, held_putReady, held_coreIdle]
    exact held_setCore_putTask htask rfl
  · rw [held_schedRegs, held_coreIdle, held_setCore]
    exact held_setCore_putTask htask rfl

theorem held_tintDone_call (htask : d.task ti = some t) (fn : Nat) : held ti (d.tintDone c ti t p (.call fn)) = held ti d := by
  by_cases h5 : fn = 5
  · subst h5
    exact held_setCore_putTask htask (memoryOf_setReg _ _)
  by_cases h4 : fn = 4
  · subst h4
    exact held_setCore_putTask htask ((memoryOf_setReg _ _).trans (memoryOf_setReg _ _))
  simp only [Dev.tintDone]
  rw [held_schedRegs, held_coreIdle]
  exact held_setCore_putTask htask rfl

theorem tintDone_ended : d.tintDone c ti t p .ended = ((d.setCore c { (d.core c) with issuedAt := d.now }).endTask ti (spend t)).settle := by
  simp only [Dev.tintDone]
  rfl

/-- What follows from an effect that keeps the invariant: a trap, an end, or a task that goes on keeping it. -/
theorem tintDone_keeps (hrun : RunsOn c ti t p d) (hfit : Fits t p) {r : TRes} (hr : GoesOnKeeping t p r) :
    (∃ cause seg off code, d.tintDone c ti t p r = ((d.setCore c { (d.core c) with issuedAt := d.now }).trapTask ti t cause seg off code).settle) ∨
      d.tintDone c ti t p r = ((d.setCore c { (d.core c) with issuedAt := d.now }).endTask ti (spend t)).settle ∨
      ∃ t' p', (d.tintDone c ti t p r).task ti = some t' ∧ tget (d.tintDone c ti t p r).progs t.prog = some p' ∧ Keeps t p t' p' := by
  obtain ⟨-, htask, -⟩ := id hrun
  cases r with
  | trap cause seg off code => exact .inl ⟨cause, seg, off, code, by simp only [Dev.tintDone]⟩
  | ended => exact .inr (.inl tintDone_ended)
  | go t' p' pc =>
    refine .inr (.inr ⟨{ t' with pc := pc.getD ((t'.pc + 4) % 2 ^ 32) }, p', ?_, ?_, keeps_congr rfl hr⟩)
    · change tget (tmod d.sched.tasks ti _) ti = _
      rw [tget_tmod, if_pos rfl, show tget d.sched.tasks ti = some t from htask]
      rfl
    · change tget (tput d.progs t.prog p') t.prog = _
      rw [tget_tput, if_pos rfl]
  | delay us => exact .inr (.inr (goesOn_of_held hrun hfit (held_tintDone_delay htask us)))
  | call fn => exact .inr (.inr (goesOn_of_held hrun hfit (held_tintDone_call htask fn)))

end Done

end Sys2Proof.SegmentProofs

namespace Sys2Proof.SegmentSettled

open Sys2Proof.Machine Sys2Proof.Claims Sys2Proof.TintProofs Sys2Proof.SegmentProofs

/-- Settles O14: every effect keeps the invariant, so does issuing it, and so does what follows from it. -/
theorem segmentsNeverWiden : Obligations.SegmentsNeverWiden := by
  intro i c word ti t p s s' hw hrun hfit hlen hs'
  obtain ⟨body, hexec, hbody⟩ := exec_eq_onCore_keeping hw
  rw [hexec, onCore_of_runsOn hrun] at hs'
  cases hs'
  cases hissue : tintIssue word body t p with
  | none => exact .inl rfl
  | some r =>
    have hissued : issued i s.dev = s.dev.setCore c { (s.dev.core c) with issuedAt := s.dev.now } := by rw [issued, hw]
    rw [hissued]
    exact .inr (tintDone_keeps hrun hfit (goesOnKeeping_tintIssue hfit (hbody (spend t) p hfit hlen) hissue))

end Sys2Proof.SegmentSettled

/-! SUPPORT. The frame of Table 2-1 as a run of fields, its CRC among them, and its descriptors as a run of 16-byte pieces; from these FrameRoundTrip. -/

namespace Sys2Proof.FrameProofs

open Sys2Proof.Machine Sys2Proof.ByteProofs

/-! ### The header (R73, Table 2-1) -/

/-- The fields of a header with some HCRC. -/
def headerFields (op : BitVec 16) (m : Msg) (crc : Nat) : List (Nat × Nat) :=
  [(2, op.toNat), (2, m.flags.toNat), (2, m.queue.toNat), (2, m.tag.toNat), (4, m.seq.toNat), (4, crc), (8, m.volume.toNat), (8, m.lba.toNat),
    (4, m.length.toNat), (2, m.dcount.toNat), (2, m.stream.toNat), (24, m.param.toNat)]

section Header

variable (op : BitVec 16) (m : Msg)

theorem getElem?_hcrc (crc : Nat) : (headerFields op m crc)[5]? = some (4, crc) := rfl

theorem width_before_hcrc (crc : Nat) : width ((headerFields op m crc).take 5) = 0x0C := rfl

theorem headerPlain_eq_layout : headerPlain op m = layout (headerFields op m 0) := by
  simp only [headerPlain, layout, headerFields, List.flatMap_cons, List.flatMap_nil, List.append_nil, List.append_assoc]
  rfl

/-- The HCRC is one of the header's fields. -/
theorem headerBytes_eq_layout : headerBytes op m = layout (headerFields op m (crc32c (headerPlain op m))) := by
  rw [headerBytes, headerPlain_eq_layout, patch_layout (getElem?_hcrc op m 0) (width_before_hcrc op m 0)]
  rfl

theorem length_headerBytes : (headerBytes op m).length = 64 := by
  rw [headerBytes_eq_layout, length_layout]
  rfl

theorem crc32c_lt (b : Bytes) : crc32c b < 2 ^ 32 := BitVec.isLt _

/-- The header without its HCRC is what the HCRC was taken of. -/
theorem patch_headerBytes : patch (headerBytes op m) 0x0C (zeros 4) = headerPlain op m := by
  rw [headerBytes_eq_layout, show zeros 4 = toLE 4 0 from rfl, patch_layout (getElem?_hcrc op m _) (width_before_hcrc op m _),
    headerPlain_eq_layout]
  rfl

theorem le_hcrc (rest : Bytes) : le (headerBytes op m ++ rest) 0x0C 4 = crc32c (headerPlain op m) := by
  rw [headerBytes_eq_layout, le_layout (getElem?_hcrc op m _) (width_before_hcrc op m _)]
  exact Nat.mod_eq_of_lt (crc32c_lt _)

/-- A field of the header reads back from the frame. -/
theorem le_frameBytes {w : Nat} (j k o : Nat) {x : BitVec w} (h : (headerFields op m (crc32c (headerPlain op m)))[j]? = some (k, x.toNat))
    (ho : width ((headerFields op m (crc32c (headerPlain op m))).take j) = o) (hw : 256 ^ k = 2 ^ w) : le (frameBytes op m) o k = x.toNat := by
  rw [frameBytes, List.append_assoc, headerBytes_eq_layout, le_layout h ho, hw, Nat.mod_eq_of_lt x.isLt]

theorem rawCrcOk_headerBytes (rest : Bytes) : rawCrcOk (headerBytes op m ++ rest) = true := by
  rw [rawCrcOk, le_hcrc, List.take_left' (length_headerBytes op m), patch_headerBytes, decide_eq_true_iff]

end Header

/-! ### The descriptors (R74 to R76) -/

def descFields (x : Desc) : List (Nat × Nat) := [(8, x.addr.toNat), (4, x.rkey.toNat), (4, x.len.toNat)]

theorem descBytes_eq_layout (x : Desc) : descBytes x = layout (descFields x) := by
  simp only [descBytes, layout, descFields, List.flatMap_cons, List.flatMap_nil, List.append_nil, List.append_assoc]

theorem length_descBytes (x : Desc) : (descBytes x).length = 16 := by
  rw [descBytes_eq_layout, length_layout]
  rfl

theorem descAt_descBytes (x : Desc) : descAt (descBytes x) = x := by
  have haddr := ofNat_le_layout (fs := descFields x) (j := 0) (o := 0) rfl rfl [] rfl
  have hrkey := ofNat_le_layout (fs := descFields x) (j := 1) (o := 8) rfl rfl [] rfl
  have hlen := ofNat_le_layout (fs := descFields x) (j := 2) (o := 12) rfl rfl [] rfl
  rw [List.append_nil] at haddr hrkey hlen
  rw [descBytes_eq_layout, descAt, haddr, hrkey, hlen]

/-- The descriptors of a frame are the 16-byte pieces that stand after its header. -/
theorem map_descAt_chunks (ds : List Desc) (rest : Bytes) : (chunks 16 ds.length (ds.flatMap descBytes ++ rest)).map descAt = ds := by
  induction ds with
  | nil => rfl
  | cons x ds ih =>
    have hne : (descBytes x ++ (ds.flatMap descBytes ++ rest)).isEmpty = false := by
      rw [List.isEmpty_eq_false_iff_exists_mem]
      exact ⟨_, List.mem_append_left _ (List.getElem_mem (n := 0) (by rw [length_descBytes]; omega))⟩
    rw [List.flatMap_cons, List.append_assoc, List.length_cons, chunks, hne, if_neg Bool.false_ne_true,
      List.take_left' (length_descBytes x), List.drop_left' (length_descBytes x), List.map_cons, descAt_descBytes, ih]

/-- A frame carries the descriptors that DCOUNT asks for (R75, R76), none with INLINE (R78). -/
theorem length_descs_of_wf {m : Msg} (hwf : m.wf = true) (hinl : bit m.flags.toNat 1 = true → m.dcount = 0) :
    directDescs (bit m.flags.toNat 1) m.dcount.toNat = m.descs.length := by
  simp only [Msg.wf, Bool.and_eq_true, decide_eq_true_eq] at hwf
  obtain ⟨hlen, -⟩ := hwf
  unfold directDescs
  split
  next h => simp_all
  next =>
    split
    next h => simp_all
    next h => simp_all

end Sys2Proof.FrameProofs

namespace Sys2Proof.FrameSettled

open Sys2Proof.Machine Sys2Proof.Claims Sys2Proof.ByteProofs Sys2Proof.FrameProofs

/-- Settles O60: each field reads back at its place; what stands after the header is descriptors or inline data. -/
theorem frameRoundTrip : Obligations.FrameRoundTrip := by
  intro op m hwf hinl hdesc
  have hflags : le (frameBytes op m) 0x02 2 = m.flags.toNat := le_frameBytes op m 1 2 0x02 rfl rfl rfl
  have hcount : le (frameBytes op m) 0x24 2 = m.dcount.toNat := le_frameBytes op m 9 2 0x24 rfl rfl rfl
  have hrest : (frameBytes op m).drop 64 = m.descs.flatMap descBytes ++ m.inl := by
    rw [frameBytes, List.append_assoc, List.drop_left' (length_headerBytes op m)]
  have hdescs : (chunks 16 (directDescs (bit m.flags.toNat 1) m.dcount.toNat) (m.descs.flatMap descBytes ++ m.inl)).map descAt = m.descs := by
    rw [length_descs_of_wf hwf hinl, map_descAt_chunks]
  have hdata : (if bit m.flags.toNat 1 then m.descs.flatMap descBytes ++ m.inl else []) = m.inl := by
    cases hbit : bit m.flags.toNat 1
    · exact (hdesc hbit).symm
    · have hnone : m.descs = [] := List.length_eq_zero_iff.1 ((length_descs_of_wf hwf hinl).symm.trans (by rw [directDescs, if_pos hbit]))
      rw [if_pos rfl, hnone]
      rfl
  refine ⟨?_, ?_, ?_⟩
  · exact (congrArg (BitVec.ofNat 16) (le_frameBytes op m 0 2 0x00 rfl rfl rfl)).trans (by rw [BitVec.ofNat_toNat, BitVec.setWidth_eq])
  · simp only [frameOf, hflags, hcount, hrest, hdescs, hdata, le_frameBytes op m 2 2 0x04 (x := m.queue) rfl rfl rfl, le_frameBytes op m 3 2 0x06 (x := m.tag) rfl rfl rfl,
      le_frameBytes op m 4 4 0x08 (x := m.seq) rfl rfl rfl, le_frameBytes op m 6 8 0x10 (x := m.volume) rfl rfl rfl, le_frameBytes op m 7 8 0x18 (x := m.lba) rfl rfl rfl,
      le_frameBytes op m 8 4 0x20 (x := m.length) rfl rfl rfl, le_frameBytes op m 10 2 0x26 (x := m.stream) rfl rfl rfl,
      le_frameBytes op m 11 24 0x28 (x := m.param) rfl rfl rfl, BitVec.ofNat_toNat, BitVec.setWidth_eq]
  · rw [frameBytes, List.append_assoc]
    exact rawCrcOk_headerBytes op m _

end Sys2Proof.FrameSettled

/-! SUPPORT. A frame that arrives (Table 2-7): what the arrival makes of one that is parsed, that passes, and that is turned away at check 13; from these the
statements about frames and about the opcodes. -/

namespace Sys2Proof.ReceiveProofs

open Sys2Proof.Machine Sys2Proof.Claims

/-! ### Opcodes -/

theorem opOf_value (op : Op) : opOf (BitVec.ofNat 16 op.value).toNat = some op := by
  cases op <;> rfl

/-- The opcodes that pass step 4 before they commit (R44). -/
theorem commits_eq (op : Op) : (!(op.edits || [Op.read, .snapCreate, .cloneCreate].contains op)) =
    !(op.edits || decide (op = .read) || decide (op = .snapCreate) || decide (op = .cloneCreate)) := by
  cases op <;> rfl

/-! ### The door -/

section Door

variable {m : Msg} {k n : Nat} {d : Dev}

/-- A whole frame needs no reading. -/
theorem read_rxOf : (d.rxOf n m).read = d.rxOf n m := if_pos (.inl rfl)

theorem untrusted_rxOf (h : frameTruncated m = false) : (d.rxOf n m).untrusted = none := by
  simp [Rx.untrusted, Dev.rxOf, h]

theorem arrive_of_queue (h : d.doorOf m = .queue k false) : d.arrive (d.rxOf n m) = (woken m d).parse (d.rxOf n m) k := by
  unfold Dev.doorOf at h
  simp only [Dev.arrive, read_rxOf]
  simp only [Dev.rxOf, List.length_nil, Nat.zero_add, h]
  rfl

theorem arrive_of_tomb {t : Nat} (h : d.doorOf m = .tomb t) (hwhole : frameTruncated m = false) :
    d.arrive (d.rxOf n m) = (woken m d).tombReply m.net.qpn.toNat t m.tag.toNat m.seq.toNat .tenantReset false := by
  unfold Dev.doorOf at h
  simp only [Dev.arrive, read_rxOf, untrusted_rxOf hwhole]
  simp only [Dev.rxOf, List.length_nil, Nat.zero_add, h]
  rfl

theorem arrive_of_nak (h : d.doorOf m = .nak) : d.arrive (d.rxOf n m) = (d.ceSeen m.net).emit (.rnrNak m.net.qpn.toNat minRnrTimer) := by
  unfold Dev.doorOf at h
  simp only [Dev.arrive, read_rxOf]
  simp only [Dev.rxOf, List.length_nil, Nat.zero_add, h]

theorem arrive_of_stray (h : d.doorOf m = .stray) : d.arrive (d.rxOf n m) = d.bump STN_STAT_UNCLASSIFIED := by
  unfold Dev.doorOf at h
  simp only [Dev.arrive, read_rxOf]
  simp only [Dev.rxOf, List.length_nil, Nat.zero_add, h]

theorem arrive_of_spoof {t : Nat} (h : d.doorOf m = .spoof t) : d.arrive (d.rxOf n m) = d.spoofDrop t := by
  unfold Dev.doorOf at h
  simp only [Dev.arrive, read_rxOf]
  simp only [Dev.rxOf, List.length_nil, Nat.zero_add, h]

end Door

/-! ### The parse (checks 3 to 8) -/

/-- A whole frame of m that the door lets through to queue k, whose record is q, of the tenant whose record is t. -/
def Arrives (m : Msg) (k : Nat) (q : Queue) (t : Tenant) (d : Dev) : Prop :=
  d.doorOf m = .queue k false ∧ tget (woken m d).queues k = some q ∧ tget (woken m d).tenants (k / 16) = some t ∧ frameTruncated m = false

section Parse

variable {op : Op} {m : Msg} {k : Nat} {q : Queue} {t : Tenant} {d : Dev}

/-- The parse of a whole frame whose opcode value is n. -/
theorem arrive_of_arrives {n : Nat} (h : Arrives m k q t d) : d.arrive (d.rxOf n m) =
    if m.seq.toNat ≠ q.nextSeq then
      ((taken m k q d).modQueue k fun q => { q with seqErr := satAt 0xFFFF (q.seqErr + 1) }).reply k m.tag.toNat q.nextSeq .sequenceInvalid 0 false false
    else if m.queue.toNat ≠ k % 16 then (taken m k q d).reply k m.tag.toNat q.nextSeq .queueMismatch 0 false false
    else if t.life ≠ .on then (taken m k q d).reply k m.tag.toNat q.nextSeq .tenantNotOn 0 false false
    else match opOf (BitVec.ofNat 16 n).toNat with
      | none => (taken m k q d).reply k m.tag.toNat q.nextSeq .opcodeInvalid 0 false false
      | some op =>
        if op.manager ∧ k / 16 ≠ 0 then (taken m k q d).reply k m.tag.toNat q.nextSeq .managerOnly 0 false false
        else if (taken m k q d).tagBusy k m.tag.toNat then (taken m k q d).reply k m.tag.toNat q.nextSeq .tagInUse 0 false false
        else if (taken m k q d).fenced ∧ op ≠ .regRead ∧ op ≠ .eventRead then (taken m k q d).reply k m.tag.toNat q.nextSeq .deviceFault 0 false false
        else (taken m k q d).takeIn k t ((taken m k q d).newCmd op m (d.rxOf n m) k q.nextSeq t.inc) := by
  obtain ⟨hdoor, hq, ht, hwhole⟩ := h
  rw [arrive_of_queue hdoor]
  simp only [Dev.parse, hq, ht, untrusted_rxOf hwhole]
  rfl

theorem arrives_of_reaches (h : Reaches op m k q t d) : Arrives m k q t d := by
  obtain ⟨hdoor, hq, ht, hwhole, -⟩ := h
  exact ⟨hdoor, hq, ht, hwhole⟩

/-- A frame that passes checks 1 to 8 is taken in. -/
theorem receive_of_reaches (h : Reaches op m k q t d) : d.receive op m = (taken m k q d).takeIn k t (recordOf op m k q t d) := by
  obtain ⟨-, -, -, -, hseq, hqueue, hlife, hmgr, htag, hfence⟩ := id h
  have hmgr' : ¬(op.manager ∧ k / 16 ≠ 0) := fun hm => hm.2 (hmgr hm.1)
  have hfence' : ¬((taken m k q d).fenced = true ∧ op ≠ .regRead ∧ op ≠ .eventRead) := fun hf => (hfence hf.1).elim hf.2.1 hf.2.2
  rw [Dev.receive, arrive_of_arrives (arrives_of_reaches h), opOf_value, if_neg (not_not.2 hseq), if_neg (not_not.2 hqueue), if_neg (not_not.2 hlife)]
  simp only [if_neg hmgr', htag, Bool.false_eq_true, if_false, if_neg hfence']
  rfl

end Parse

/-! ### Check 13 -/

section TakeIn

variable {op : Op} {m : Msg} {k : Nat} {q : Queue} {t : Tenant} {c : Cmd} {d : Dev}

theorem takeIn_of_check {code : Code} (h : d.check d.nextCmd c = some (code, 0)) : d.takeIn k t c = d.reply k c.tag c.seq code 0 false false := by
  simp only [Dev.takeIn, h]

/-- A command that is sound up to check 12 gets what the opcode refuses its PARAM words with. -/
theorem check_of_sound {id : Nat} (h : Sound d c) : d.check id c = (d.paramCode id c).map (·, 0) := by
  obtain ⟨hvol, hstr, hlen, hrange, hdescs, hsnap⟩ := h
  have hhandle : (if c.op.usesV then d.badHandle c.tenant c.msg.volume.toNat else none) = none := by
    split
    · exact hvol ‹_›
    · rfl
  have hstream : ¬(c.op.usesS = true ∧ (!d.streamValid c) = true) := fun hs => by simp [hstr hs.1] at hs
  simp only [Dev.check, hhandle, if_neg hstream, hlen, hrange, hdescs, if_neg hsnap]
  rfl

/-! ### Step 4 -/

/-- A command that nothing holds takes its tokens and passes. -/
theorem tryPass_of_free {id : Nat} (hc : tget d.cmds id = some c) (hstage : c.stage = .gate) (hwhy : d.gateWhy id c = .none) :
    d.tryPass id = (d.takeShare id).pass id := by
  simp only [Dev.tryPass, hc, hstage, hwhy]
  rfl

/-- A command that nothing turns away, its descriptors in its frame, begins. -/
theorem pass_of_accepted {id : Nat} (hc : tget d.cmds id = some c)
    (hhandle : (if c.op.usesV then d.badHandle c.tenant c.msg.volume.toNat else none) = none) (hcode : d.gateCode c = none)
    (hdirect : c.msg.dcount.toNat ≤ 16) : d.pass id = ((d.reserve id c).modCmd id fun x => { x with
      stage := .exec, hold := .none, committed := !(c.op.edits || decide (c.op = .read) || decide (c.op = .snapCreate) || decide (c.op = .cloneCreate)) }).begin
        id := by
  have hlist : c.listed = false := decide_eq_false (Nat.not_lt.2 hdirect)
  simp only [Dev.pass, hc, hhandle, hcode, hlist, commits_eq]
  rfl

/-- A command filed by the part under its next number, with what its opcode takes at its parse. -/
def fileAs (d : Dev) (t : Tenant) (c : Cmd) : Dev :=
  let id := d.nextCmd
  let b := { d with nextCmd := id + 1, cmds := tput d.cmds id c }.clampFrame id t.prioCeil
  let r := match c.streamId with
    | some i => b.streamClass i c.length
    | none => (b, Claim.G)
  ((r.1.modCmd id fun c => { c with claim := r.2 }).modQp c.qpn fun p => { p with classes := (r.2 :: p.classes).take 64 }).atParse id

theorem filed_eq_fileAs : filed op m k q t d = fileAs (taken m k q d) t (recordOf op m k q t d) := rfl

/-- The commands that a frame files under its number go to step 4; a BIND_PROGRAM that is held there makes its binding. -/
theorem takeIn_of_checked (hcheck : d.check d.nextCmd c = none) (hshort : c.short = false) : d.takeIn k t c =
    (if c.op = .bindProgram then ((fileAs d t c).tryPass d.nextCmd).bindHeld d.nextCmd else (fileAs d t c).tryPass d.nextCmd).settle := by
  cases hs : c.streamId <;> by_cases hb : c.op = .bindProgram <;> simp only [Dev.takeIn, hcheck, hshort, fileAs, hs, hb, if_true, if_false] <;> rfl

theorem receive_of_passes (h : Passes op m k q t d) : d.receive op m =
    (if op = .bindProgram then ((passed op m k q t d).begin (idOf m k q d)).bindHeld (idOf m k q d)
      else (passed op m k q t d).begin (idOf m k q d)).settle := by
  obtain ⟨hdoor, hq, ht, hwhole, hseq, hqueue, hlife, hmgr, htag, hfence, hcheck, hshort, ⟨c, hc, hstage, hwhy⟩, c', hc', hop, hm, hhandle, hcode, hdirect⟩ := h
  have hpass : (filed op m k q t d).tryPass (idOf m k q d) = (passed op m k q t d).begin (idOf m k q d) := by
    rw [tryPass_of_free hc hstage hwhy, pass_of_accepted hc' (by rw [hop, hm]; exact hhandle) hcode (by rwa [hm]), passed]
    simp only [hc']
  rw [receive_of_reaches ⟨hdoor, hq, ht, hwhole, hseq, hqueue, hlife, hmgr, htag, hfence⟩, takeIn_of_checked hcheck hshort, ← filed_eq_fileAs, ← idOf, hpass]
  rfl

end TakeIn

/-! ### What an opcode does once it passes -/

section Runs

variable {op : Op} {m : Msg} {k : Nat} {q : Queue} {t : Tenant} {c : Cmd} {d : Dev}

/-- A command as it begins. -/
structure Begun (op : Op) (c : Cmd) : Prop where
  op_eq : c.op = op
  stage_eq : c.stage = .exec
  hold_eq : c.hold = .none

/-- Reserving space changes numbers of a command only. -/
theorem tget_reserve {id : Nat} (c' : Cmd) (h : tget d.cmds id = some c) :
    ∃ c₁, tget (d.reserve id c').cmds id = some c₁ ∧ c₁.op = c.op := by
  unfold Dev.reserve
  split
  · split
    · exact ⟨c, h, rfl⟩
    · refine ⟨c.setNum 4 c.fullSize, ?_, rfl⟩
      simp [Dev.modCmd, Dev.modGroup, tget_tmod, h]
  · exact ⟨c, h, rfl⟩

theorem begun_of_passes (h : Passes op m k q t d) (hc : tget (passed op m k q t d).cmds (idOf m k q d) = some c) : Begun op c := by
  obtain ⟨-, -, -, -, -, -, -, -, -, -, -, -, -, c', hc', hop, -⟩ := h
  obtain ⟨c₁, hc₁, hop₁⟩ := tget_reserve c' hc'
  simp only [passed, hc', Dev.modCmd, tget_tmod, hc₁, Option.map_some, if_true] at hc
  obtain rfl := Option.some.inj hc
  exact ⟨hop₁.trans hop, rfl, rfl⟩

theorem tget_modCmd {id : Nat} (f : Cmd → Cmd) (h : tget d.cmds id = some c) : tget (d.modCmd id f).cmds id = some (f c) := by
  simp [Dev.modCmd, tget_tmod, h]

variable {i : Msg → Instr} {ok : Dev → Nat → Cmd → Prop} {f : Dev → Nat → Cmd → Dev}

/-- A frame whose command, once it begins, does f. -/
theorem runs_of_begin (hexec : ∀ m s, exec (i m) s = onDev (fun d => d.receive op m) s) (hop : op ≠ .bindProgram)
    (hbegin : ∀ d id c, tget d.cmds id = some c → Begun op c → ok d id c → d.begin id = f d id c) : Runs i op ok f := by
  intro m k q t c s hpass hc hok
  rw [hexec, onDev_next, receive_of_passes hpass, if_neg hop, hbegin _ _ _ hc (begun_of_passes hpass hc) hok, withDev]

/-- An opcode that moves no sectors and carries no data to the device. -/
def Plain (op : Op) : Bool := !op.edits && decide (op ≠ .read) && !op.carries

theorem begin_of_plain {id : Nat} (hop : Plain op = true) (hc : tget d.cmds id = some c) (hb : Begun op c) : d.begin id = d.runOp id := by
  simp only [Plain, Bool.and_eq_true, Bool.not_eq_true', decide_eq_true_eq] at hop
  obtain ⟨⟨hedits, hread⟩, hcarries⟩ := hop
  have hwrite : op ≠ .write := fun h => by simp [h, Op.edits] at hedits
  simp only [Dev.begin, hc, hb.op_eq, hedits, hread, hwrite, hcarries]
  simp

/-- A frame whose opcode does what runOp does for it. -/
theorem runs_of_runOp (hexec : ∀ m s, exec (i m) s = onDev (fun d => d.receive op m) s) (hop : Plain op = true) (hbind : op ≠ .bindProgram)
    (hrun : ∀ d id c, tget d.cmds id = some c → Begun op c → ok d id c → d.runOp id = f d id c) : Runs i op ok f :=
  runs_of_begin hexec hbind fun d id c hc hb hok => (begin_of_plain hop hc hb).trans (hrun d id c hc hb hok)

end Runs

end Sys2Proof.ReceiveProofs

/-! SUPPORT. The statements FramesThatStartNothing and ChecksInOrder, from what the arrival makes of a frame. -/

namespace Sys2Proof.FramesSettled

open Sys2Proof.Machine Sys2Proof.Claims Sys2Proof.ReceiveProofs

/-- A message of bytes alone that the door lets through to a queue and that check 1 or 2 fails (R88). -/
theorem arrive_of_untrusted {d : Dev} {x : Rx} {k tag seq : Nat} {q : Queue} {t : Tenant} {code : Code} (hframe : x.frame = none)
    (hdoor : d.door x.net x.raw.length false = .queue k false) (hq : tget (d.frameWakes x.net).queues k = some q)
    (ht : tget (d.frameWakes x.net).tenants (k / 16) = some t) (hbad : x.untrusted = some (code, tag, seq)) :
    d.arrive x = (((d.frameWakes x.net).countFrame k tag).modQueue k fun q => { q with hcrcErr := satAt 0xFFFF (q.hcrcErr + 1) }).reply
      k tag q.nextSeq code 0 true false := by
  have hread : x.read = x := if_pos (.inr (by rw [hbad]; rfl))
  obtain ⟨net, op, frame, raw, stamp, quality, arrived⟩ := x
  obtain rfl : frame = none := hframe
  simp only [Dev.arrive, hread, Nat.add_zero, hdoor]
  simp only [Bool.false_eq_true, if_false, Dev.parse, hq, ht, hbad]

theorem untrusted_of_bytes {x : Rx} {code : Code} (hframe : x.frame = none)
    (h : code = .frameTruncated ∧ rawTruncated x.raw = true ∨ code = .headerCrc ∧ rawTruncated x.raw = false ∧ rawCrcOk x.raw = false) :
    x.untrusted = some (code, x.tag, x.seq) := by
  obtain ⟨rfl, htrunc⟩ | ⟨rfl, hwhole, hcrc⟩ := h
  · simp only [Rx.untrusted, hframe, htrunc, if_true]
  · simp [Rx.untrusted, hframe, hwhole, hcrc]

/-- Settles O17: the door's answer, or the first check that the frame fails. -/
theorem framesThatStartNothing : Obligations.FramesThatStartNothing := by
  refine ⟨fun m op t s hdoor hwhole => ?tomb, fun m op s hdoor => ?nak, fun m op s hdoor => ?stray, fun m op t s hdoor => ?spoof,
    fun n raw k q t code s hdoor hq ht hbad => ?untrusted, fun m op k q t s hop hdoor hq ht hwhole hseq hqueue hlife => ?opcode⟩
  case tomb =>
    rw [exec_tombstoneFrame, execTombstoneFrame, onDev_next]
    simp only [hdoor]
    rw [arrive_of_tomb hdoor hwhole]
    rfl
  case nak =>
    rw [exec_receiverNotReady, execReceiverNotReady, onDev_next]
    simp only [hdoor]
    rw [arrive_of_nak hdoor]
    rfl
  case stray =>
    rw [exec_unclassified, execUnclassified, onDev_next]
    simp only [hdoor]
    rw [arrive_of_stray hdoor]
    rfl
  case spoof =>
    rw [exec_spoofDrop, execSpoofDrop, onDev_next]
    simp only [hdoor]
    rw [arrive_of_spoof hdoor]
    rfl
  case untrusted =>
    intro tag
    rw [exec_untrustedFrame, execUntrustedFrame, onDev_next]
    exact congrArg (fun e => Host.Outcome.next (withDev s e)) (arrive_of_untrusted rfl hdoor hq ht (untrusted_of_bytes rfl hbad))
  case opcode =>
    rw [exec_opcodeInvalid, execOpcodeInvalid, onDev_next, hop, arrive_of_arrives ⟨hdoor, hq, ht, hwhole⟩, if_neg (not_not.2 hseq),
      if_neg (not_not.2 hqueue), if_neg (not_not.2 hlife), BitVec.ofNat_toNat, BitVec.setWidth_eq, hop]
    rfl

/-- Settles O18: the checks as the parse makes them. -/
theorem checksInOrder : Obligations.ChecksInOrder := by
  intro op m k q t d hdoor hq ht hwhole
  rw [Dev.receive, arrive_of_arrives ⟨hdoor, hq, ht, hwhole⟩, opOf_value]
  refine ⟨fun hseq => if_pos hseq, fun hseq hqueue => ?_, fun hseq hqueue hlife => ?_, fun hseq hqueue hlife hmgr hk => ?_,
    fun hseq hqueue hlife hmgr htag => ?_⟩
  · rw [if_neg (not_not.2 hseq), if_pos hqueue]
  · rw [if_neg (not_not.2 hseq), if_neg (not_not.2 hqueue), if_pos hlife]
  · rw [if_neg (not_not.2 hseq), if_neg (not_not.2 hqueue), if_neg (not_not.2 hlife)]
    exact if_pos ⟨hmgr, hk⟩
  · rw [if_neg (not_not.2 hseq), if_neg (not_not.2 hqueue), if_neg (not_not.2 hlife)]
    have hmgr' : ¬(op.manager = true ∧ k / 16 ≠ 0) := fun hm => hm.2 (hmgr hm.1)
    simp only [if_neg hmgr', if_pos htag]

end Sys2Proof.FramesSettled

/-! SUPPORT. The statement IoOpcodes: what begins for the opcodes of Tables 3-3 and 3-4. -/

namespace Sys2Proof.IoProofs

open Sys2Proof.Machine Sys2Proof.Claims Sys2Proof.ReceiveProofs

section Begin

variable {op : Op} {id : Nat} {c : Cmd} {d : Dev}

/-- READ, WRITE_ZEROES, DISCARD and STRIP put their grains at the start of the path. -/
theorem begin_of_path (hc : tget d.cmds id = some c) (hb : Begun op c) (hop : op = .read ∨ op.edits = true ∧ op ≠ .write ∧ c.grainRange ≠ []) :
    d.begin id = (d.modCmd id fun x => { x with stage := .path, grains := freshGrains c }).hazard id := by
  obtain rfl | ⟨hedits, hwrite, hne⟩ := hop
  · simp only [Dev.begin, hc, hb.op_eq]
    rfl
  · have hread : op ≠ .read := fun h => by simp [h, Op.edits] at hedits
    simp [Dev.begin, hc, hb.op_eq, hedits, hwrite, hread, hne, freshGrains]

theorem begin_write (hc : tget d.cmds id = some c) (hb : Begun .write c) (hne : c.grainRange ≠ []) : d.begin id =
    ((d.modCmd id fun x => { x with stage := .path, grains := freshGrains c }).hazard id).askPiece id 0 := by
  simp [Dev.begin, hc, hb.op_eq, hne, freshGrains]

/-- A change of no grain is over at once (R132). -/
theorem begin_of_nothing (hc : tget d.cmds id = some c) (hb : Begun op c) (hedits : op.edits = true) (hnone : c.grainRange = []) :
    d.begin id = (d.modCmd id fun x => { x with committed := true }).endCmd id .success 0 0 := by
  simp [Dev.begin, hc, hb.op_eq, hedits, hnone]

theorem runFlush_eq (hc : tget d.cmds id = some c) (hb : Begun .flush c) : d.runFlush id =
    if c.waits.all (fun w => (d.modCmd id fun c => { c with hold := .flush }).onMedium w) then
      (d.modCmd id fun c => { c with hold := .flush }).endCmd id .success 0 (c.num 22)
    else d.modCmd id fun c => { c with hold := .flush } := by
  simp only [Dev.runFlush, Dev.flushStep, tget_modCmd _ hc, hb.op_eq, true_and]
  rfl

theorem runAbort_of_target {e : Nat × Cmd} (hc : tget d.cmds id = some c) (ht : target d id c = some e) : d.runAbort id =
    if e.2.stage = .done ∨ e.2.committed then d.endCmd id .tooLate 0 0 else (d.endCmd e.1 .aborted 0 0).endCmd id .success 0 0 := by
  unfold target at ht
  simp only [Dev.runAbort, hc, ht]

theorem runAbort_of_no_target (hc : tget d.cmds id = some c) (ht : target d id c = none) : d.runAbort id =
    d.endCmd id (if knownTarget d c then .tooLate else .notFound) 0 0 := by
  unfold target at ht
  cases hq : tget d.queues c.qkey <;> simp only [Dev.runAbort, hc, ht, knownTarget, hq, Bool.and_eq_true, decide_eq_true_eq, and_assoc]

end Begin

end Sys2Proof.IoProofs

namespace Sys2Proof.IoSettled

open Sys2Proof.Machine Sys2Proof.Claims Sys2Proof.ReceiveProofs Sys2Proof.IoProofs

/-- Settles O19: each opcode as it begins. -/
theorem ioOpcodes : Obligations.IoOpcodes := by
  refine ⟨?nop, ?read, ?write, ?zeroes, ?discard, ?strip, ?discard0, ?strip0, ?flush, ?flushWaits, ?abort, ?abortLate, ?abortKnown, ?abortUnknown,
    ?deferred⟩
  case nop =>
    refine runs_of_runOp exec_nop rfl (by decide) fun d id c hc hb _ => ?_
    simp only [Dev.runOp, hc, hb.op_eq]
    rfl
  case read => exact runs_of_begin exec_read (by decide) fun d id c hc hb _ => begin_of_path hc hb (.inl rfl)
  case write => exact runs_of_begin exec_write (by decide) fun d id c hc hb hne => begin_write hc hb hne
  case zeroes => exact runs_of_begin exec_writeZeroes (by decide) fun d id c hc hb hne => begin_of_path hc hb (.inr ⟨rfl, by decide, hne⟩)
  case discard => exact runs_of_begin exec_discard (by decide) fun d id c hc hb hne => begin_of_path hc hb (.inr ⟨rfl, by decide, hne⟩)
  case strip => exact runs_of_begin exec_strip (by decide) fun d id c hc hb hne => begin_of_path hc hb (.inr ⟨rfl, by decide, hne⟩)
  case discard0 => exact runs_of_begin exec_discard (by decide) fun d id c hc hb hnone => begin_of_nothing hc hb rfl hnone
  case strip0 => exact runs_of_begin exec_strip (by decide) fun d id c hc hb hnone => begin_of_nothing hc hb rfl hnone
  case flush =>
    refine runs_of_runOp exec_flush rfl (by decide) fun d id c hc hb hall => ?_
    simp only [Dev.runOp, hc, hb.op_eq]
    rw [runFlush_eq hc hb, if_pos hall]
  case flushWaits =>
    refine runs_of_runOp exec_flush rfl (by decide) fun d id c hc hb hall => ?_
    simp only [Dev.runOp, hc, hb.op_eq]
    rw [runFlush_eq hc hb, if_neg (by rw [hall]; decide)]
  case abort =>
    refine runs_of_runOp exec_abort rfl (by decide) fun d id c hc hb ⟨e, ht, hstage, hcommitted⟩ => ?_
    simp only [Dev.runOp, hc, hb.op_eq]
    rw [runAbort_of_target hc ht, if_neg (by simp [hstage, hcommitted])]
    simp only [ht]
  case abortLate =>
    refine runs_of_runOp exec_abort rfl (by decide) fun d id c hc hb ⟨e, ht, hlate⟩ => ?_
    simp only [Dev.runOp, hc, hb.op_eq]
    rw [runAbort_of_target hc ht, if_pos hlate]
    rfl
  case abortKnown =>
    refine runs_of_runOp exec_abort rfl (by decide) fun d id c hc hb ⟨ht, hknown⟩ => ?_
    simp only [Dev.runOp, hc, hb.op_eq]
    rw [runAbort_of_no_target hc ht, if_pos hknown]
    rfl
  case abortUnknown =>
    refine runs_of_runOp exec_abort rfl (by decide) fun d id c hc hb ⟨ht, hknown⟩ => ?_
    simp only [Dev.runOp, hc, hb.op_eq]
    rw [runAbort_of_no_target hc ht, hknown]
    rfl
  case deferred =>
    refine runs_of_runOp exec_getDeferred rfl (by decide) fun d id c hc hb hsome => ?_
    obtain ⟨t, ht⟩ := Option.isSome_iff_exists.1 hsome
    simp only [Dev.runOp, hc, hb.op_eq, Dev.runGetDeferred, ht]

end Sys2Proof.IoSettled

/-! SUPPORT. A command that has ended stays ended with its status, whatever is released after it; so a command that ends at once is turned away at check 13. -/

namespace Sys2Proof.EndProofs

open Sys2Proof.Machine Sys2Proof.Claims Sys2Proof.SegmentProofs Sys2Proof.ReceiveProofs

/-- Command id is over, with a status. -/
def Over (id : Nat) (code : Code) (d : Dev) : Prop := ∃ c, tget d.cmds id = some c ∧ c.stage = .done ∧ c.outcome = code

section Over

variable {id : Nat} {code : Code} {d : Dev}

theorem over_congr {e : Dev} (hc : e.cmds = d.cmds) (h : Over id code d) : Over id code e := by
  rwa [Over, hc]

theorem over_foldl {α : Type} {f : Dev → α → Dev} (hf : ∀ d a, Over id code d → Over id code (f d a)) (l : List α) (h : Over id code d) :
    Over id code (l.foldl f d) := by
  induction l generalizing d with
  | nil => exact h
  | cons a l ih => exact ih (hf _ _ h)

/-- A change of commands that leaves an ended one its stage and outcome. -/
theorem over_tmap {e : Dev} {f : Nat → Cmd → Cmd} (hc : e.cmds = tmap d.cmds f)
    (hf : ∀ i c, c.stage = .done → (f i c).stage = .done ∧ (f i c).outcome = c.outcome) (h : Over id code d) : Over id code e := by
  obtain ⟨c, hget, hdone, hout⟩ := h
  obtain ⟨hdone', hout'⟩ := hf id c hdone
  refine ⟨f id c, ?_, hdone', hout'.trans hout⟩
  rw [hc, tget_tmap, hget]
  rfl

theorem cmds_wr (f : Fld) (n : Nat) : (d.wr f n).cmds = d.cmds := rfl

theorem cmds_raiseIbi (sev : Nat) : (d.raiseIbi sev).cmds = d.cmds := by
  unfold Dev.raiseIbi
  split
  · split <;> rfl
  · rfl

theorem cmds_eventRec (c sev tenant inst : Nat) (anchor : Bool) (args : List Nat) (body : Bytes) :
    (d.eventRec c sev tenant inst anchor args body).cmds = d.cmds := by
  rw [Dev.eventRec, cmds_raiseIbi]
  split <;> rfl

theorem cmds_endOps (dies : Nat → Bool) : (d.endOps dies).cmds = d.cmds := by
  simp only [Dev.endOps]
  rw [foldl_keeps Dev.cmds fun _ _ => by rfl, foldl_keeps Dev.cmds fun _ _ => by rfl]

theorem cmds_partPort (n : Nat) : (d.partPort n).cmds = d.cmds := by
  unfold Dev.partPort
  split
  · rfl
  · split
    · exact cmds_endOps _
    · rfl
    · rfl

theorem cmds_leavePorts (ns : List Nat) : (d.leavePorts ns).cmds = d.cmds :=
  foldl_keeps Dev.cmds (fun _ _ => cmds_partPort _) _ _

theorem cmds_latchBreach (ledger term inst left right : Nat) : (d.latchBreach ledger term inst left right).cmds = d.cmds := by
  unfold Dev.latchBreach
  split <;> rfl

/-- Transfers that are lost change the outcome of commands that have not ended only. -/
theorem over_dropDead (h : Over id code d) : Over id code d.dropDead := by
  refine over_tmap (by simp only [Dev.dropDead]; rfl) (fun i c hdone => ?_) h
  split
  next hlost => exact absurd hdone hlost.2
  next => exact ⟨hdone, rfl⟩

theorem over_fenceQuiet (n : Nat) (h : Over id code d) : Over id code (d.fenceQuiet n) := by
  unfold Dev.fenceQuiet
  split
  · exact h
  · exact over_dropDead (over_congr (cmds_leavePorts _) h)

theorem over_breach (ledger term inst left right : Nat) (h : Over id code d) : Over id code (d.breach ledger term inst left right) := by
  simp only [Dev.breach]
  split
  · exact over_congr (cmds_latchBreach ..) h
  · exact over_fenceQuiet _ (over_congr ((cmds_eventRec ..).trans (cmds_latchBreach ..)) h)

theorem cmds_slotMark (pct : Nat) (f : Fld) : (d.slotMark pct f).cmds = d.cmds := by
  simp only [Dev.slotMark]
  split <;> split <;> rfl

theorem over_schedRegs (h : Over id code d) : Over id code d.schedRegs := by
  simp only [Dev.schedRegs]
  have hmark {e : Dev} (he : e.cmds = d.cmds) (a b : Nat) (f g : Fld) : Over id code ((e.slotMark a f).slotMark b g) :=
    over_congr ((cmds_slotMark _ _).trans ((cmds_slotMark _ _).trans he)) h
  split
  · exact over_breach _ _ _ _ _ (hmark (by simp only [wr_cmds]) _ _ _ _)
  · split
    · exact over_breach _ _ _ _ _ (hmark (by simp only [wr_cmds]) _ _ _ _)
    · exact hmark (by simp only [wr_cmds]) _ _ _ _

theorem cmds_eventLim (c sev tenant inst obj interval : Nat) (args : List Nat) : (d.eventLim c sev tenant inst obj interval args).cmds = d.cmds := by
  simp only [Dev.eventLim]
  split <;> split
  case h_1.isTrue | h_2.isTrue => exact cmds_eventRec ..
  all_goals rfl

theorem cmds_watermark (p which pct : Nat) (f : Fld) : (d.watermark p which pct f).cmds = d.cmds := by
  have hevent {e : Dev} (he : e.cmds = d.cmds) : (e.watermarkEvent p which).cmds = d.cmds := by
    simp only [Dev.watermarkEvent]
    split
    · exact (cmds_eventLim ..).trans he
    · exact (cmds_eventLim ..).trans he
  simp only [Dev.watermark]
  split
  · split <;> rfl
  · split
    · exact hevent rfl
    · rfl

theorem over_checkPool (p : Nat) (h : Over id code d) : Over id code (d.checkPool p) := by
  unfold Dev.checkPool
  split
  · exact over_breach _ _ _ _ _ h
  · exact h

theorem cmds_poolRegs (p : Nat) : (d.poolRegs p).cmds = d.cmds := by
  simp only [Dev.poolRegs, cmds_watermark, wr_cmds]

theorem cmds_coreRegs (c : Nat) : (d.coreRegs c).cmds = d.cmds := by
  simp only [Dev.coreRegs, wr_cmds]

theorem cmds_setCore (c : Nat) (x : Core) : (d.setCore c x).cmds = d.cmds := cmds_coreRegs _

theorem over_release (n : Nat) (h : Over id code d) : Over id code (d.release n) := by
  simp only [Dev.release]
  split
  · exact over_breach _ _ _ _ _ h
  · split
    · exact over_checkPool _ (over_congr ((cmds_poolRegs _).trans rfl) h)
    · split <;> exact h

theorem over_releaseAll (n : Nat) (h : Over id code d) : Over id code (d.releaseAll n) :=
  over_congr rfl (over_foldl (fun _ _ => over_release _) _ h)

theorem cmds_laneRegs (dig : Bool) (l : Nat) : (d.laneRegs dig l).cmds = d.cmds := by
  simp only [Dev.laneRegs]
  split <;> rfl

theorem cmds_purgeJobs : d.purgeJobs.cmds = d.cmds := by
  simp only [Dev.purgeJobs]
  rw [foldl_keeps Dev.cmds fun _ _ => cmds_laneRegs _ _, foldl_keeps Dev.cmds fun _ _ => cmds_laneRegs _ _, foldl_keeps Dev.cmds fun _ _ => by rfl]

theorem over_dropTask (ti : Nat) (h : Over id code d) : Over id code (d.dropTask ti) := by
  simp only [Dev.dropTask]
  split
  · exact h
  next t _ =>
    refine over_schedRegs (over_congr cmds_purgeJobs ?_)
    have hrefs {e : Dev} (he : e.cmds = d.cmds) : Over id code (t.refs.foldl (fun d h => d.release h) e) :=
      over_foldl (fun _ _ => over_release _) _ (over_congr he h)
    cases t.core with
    | none => exact hrefs rfl
    | some c =>
      simp only [Over, cmds_coreRegs, Dev.consumes]
      exact hrefs (cmds_setCore _ _)

theorem over_dropTasks (n : Nat) (h : Over id code d) : Over id code (d.dropTasks n) :=
  over_congr rfl (over_foldl (fun _ _ => over_dropTask _) _ h)

theorem cmds_dropXfers (n : Nat) : (d.dropXfers n).cmds = d.cmds := by
  simp only [Dev.dropXfers, Dev.endXfers]
  rw [foldl_keeps Dev.cmds fun _ _ => by rfl]

theorem over_statusOver {p : Nat → Cmd → Bool} (h : Over id code d) : Over id code (d.statusOver p) := by
  refine over_tmap (by simp only [Dev.statusOver]; rfl) (fun i c hdone => ?_) h
  split <;> exact ⟨hdone, rfl⟩

theorem cmds_relayHeld (k : Nat) : (d.relayHeld k).cmds = d.cmds := by
  unfold Dev.relayHeld
  split
  · split <;> rfl
  · rfl

theorem over_queueStatus (st : Status) (h : Over id code d) : Over id code (d.queueStatus st) := by
  simp only [Dev.queueStatus]
  split
  · exact over_statusOver h
  · split
    · split
      · exact over_congr (cmds_relayHeld _) h
      · exact h
    · exact over_congr (cmds_relayHeld _) h

end Over

/-- A command that has not ended is over once it is completed. -/
theorem over_completeAs {id : Nat} {c : Cmd} {d : Dev} (code : Code) (applied retval : Nat) (medium : Bool) (hc : tget d.cmds id = some c)
    (hstage : c.stage ≠ .done) : Over id code (d.completeAs id code applied retval medium) := by
  have hdone : Over id code (d.modCmd id fun c => { c with stage := .done, hold := .none, outcome := code, applied := applied, retval := retval }) :=
    ⟨_, tget_modCmd _ hc, rfl, rfl⟩
  simp only [Dev.completeAs, hc, if_neg hstage]
  split
  · exact hdone
  · split
    · exact over_congr rfl hdone
    · exact over_queueStatus _ (over_congr rfl hdone)

theorem tget_unmiss {id : Nat} {c : Cmd} {d : Dev} (hc : tget d.cmds id = some c) :
    ∃ c', tget (d.unmiss id).cmds id = some c' ∧ c'.stage = c.stage := by
  simp only [Dev.unmiss, hc]
  split
  · exact ⟨c, hc, rfl⟩
  · split
    · exact ⟨c, hc, rfl⟩
    · exact ⟨_, tget_modCmd _ hc, rfl⟩

/-- A command that ends is over. -/
theorem over_endCmd {id : Nat} {c : Cmd} {d : Dev} (code : Code) (applied retval : Nat) (hc : tget d.cmds id = some c) (hstage : c.stage ≠ .done) :
    Over id code (d.endCmd id code applied retval) := by
  simp only [Dev.endCmd, hc, if_neg hstage]
  have hcomplete : Over id code ((if code = .success ∨ code = .successLate ∨ code = .droppedLate then d else d.unmiss id).completeAs id code applied retval
      false) := by
    split
    · exact over_completeAs _ _ _ _ hc hstage
    · obtain ⟨c', hc', hstage'⟩ := tget_unmiss hc
      exact over_completeAs _ _ _ _ hc' (hstage'.trans_ne hstage)
  have hrefs := over_foldl (f := fun d (e : Nat × Grain) => e.2.refs.foldl (fun d h => d.release h) d) (fun d e => over_foldl (fun d h => over_release h) _)
    c.grains hcomplete
  refine over_congr cmds_purgeJobs (over_congr (cmds_dropXfers _) (over_dropTasks _ (over_releaseAll _ ?_)))
  obtain ⟨k, hk, hdone, hout⟩ := hrefs
  exact ⟨_, tget_modCmd _ hk, hdone, hout⟩

/-! ### Check 13 -/

/-- The part as check 13 tries an opcode on it: with the command's record filed. -/
def tried (d : Dev) (id : Nat) (c : Cmd) : Dev := { d with cmds := tput d.cmds id c }

theorem tget_tried (d : Dev) (id : Nat) (c : Cmd) : tget (tried d id c).cmds id = some c := by
  simp only [tried, tget_tput, if_true]

/-- Opcodes whose PARAM words check 13 judges by what the opcode itself completes with. -/
def Judged (op : Op) : Bool := !([Op.discard, .strip, .patternLoad, .keyInstall, .ownerEnrol, .writeZeroes, .abort].contains op || op.usesD)

theorem paramCode_of_over {d : Dev} {id : Nat} {c : Cmd} {code : Code} (hop : Judged c.op = true) (hparams : code.ofParams = true)
    (hover : Over id code ((tried d id c).runOp id)) : d.paramCode id c = some code := by
  obtain ⟨k, hk, hdone, hout⟩ := hover
  have hlast : (if c.op.usesD ∨ c.op = .writeZeroes ∨ c.op = .abort then none else
      match tget ((tried d id c).runOp id).cmds id with
      | some k => if k.stage = .done ∧ k.outcome.ofParams then some k.outcome else none
      | none => none) = some code := by
    rw [hk, if_neg]
    · simp [hdone, hout, hparams]
    · rintro (h | h | h)
      · simp [Judged, h] at hop
      · simp [Judged, h] at hop
      · simp [Judged, h] at hop
  simp only [Dev.paramCode]
  split
  case h_6 => exact hlast
  all_goals simp_all [Judged]

theorem paramCode_of_ends {d : Dev} {id retval : Nat} {c : Cmd} {code : Code} (hop : Judged c.op = true) (hstage : c.stage ≠ .done)
    (hparams : code.ofParams = true) (hrun : (tried d id c).runOp id = (tried d id c).endCmd id code 0 retval) : d.paramCode id c = some code :=
  paramCode_of_over hop hparams (hrun ▸ over_endCmd code 0 retval (tget_tried d id c) hstage)

/-- An opcode that completes at once with a code that refuses its PARAM words is turned away with it. -/
theorem turnedAway_of_ends {op : Op} {i : Msg → Instr} {ok : Dev → Cmd → Prop} {code : Code}
    (hexec : ∀ m s, exec (i m) s = onDev (fun d => d.receive op m) s) (hop : Judged op = true) (hparams : code.ofParams = true)
    (hrun : ∀ d id c, c.op = op → ok d c → ∃ retval, (tried d id c).runOp id = (tried d id c).endCmd id code 0 retval) : TurnedAway i op ok code := by
  intro m k q t s hreach hsound hok
  obtain ⟨retval, hends⟩ := hrun (taken m k q s.dev) (taken m k q s.dev).nextCmd (recordOf op m k q t s.dev) rfl hok
  have hcode := paramCode_of_ends hop (c := recordOf op m k q t s.dev) (fun h => nomatch h) hparams hends
  rw [hexec, onDev_next, receive_of_reaches hreach, takeIn_of_check (code := code) (by rw [check_of_sound hsound, hcode]; rfl)]
  rfl

end Sys2Proof.EndProofs

/-! SUPPORT. The statement VolumeOpcodes. -/

namespace Sys2Proof.VolumeSettled

open Sys2Proof.Machine Sys2Proof.Claims Sys2Proof.ReceiveProofs Sys2Proof.EndProofs

section Volumes

variable {d : Dev} {id : Nat} {c : Cmd}

/-- VOL_CREATE with legal PARAM words: the lowest free number, where there is one. -/
theorem runVolCreate_of_ok (hc : tget d.cmds id = some c) (hok : createOk d c) : d.runVolCreate id =
    match d.freshVol with
    | none => d.endCmd id .limit 0 0
    | some v => ({ d with vols := tput d.vols v (newVol d c v) }.logOwn (c.msg.par 0x30 2)
        [.volCreate v (newVol d c v).vgen (c.msg.par 0x28 8) (newVol d c v).settings c.tenant]).endCmd id .success 0 ((newVol d c v).handle v) := by
  obtain ⟨⟨t, x, ht, hmine, hx, hstate⟩, hrange, hdom, hten, hkey, hgrain, hcap, hwhole, hroom⟩ := hok
  have hready : (decide (x.state = .normal) || decide (x.state = .degraded) || decide (x.state = .rebuilding)) = true := by
    simpa [or_assoc] using hstate
  have hlegal : ¬((!t.groups.contains (c.msg.par 0x30 2)) = true ∨ (!d.groupInRange (c.msg.par 0x30 2)) = true ∨
      (!(decide (x.state = .normal) || decide (x.state = .degraded) || decide (x.state = .rebuilding))) = true ∨ 15 < c.msg.par 0x32 2 ∨
      c.tenant = 0 ∨ (d.recordAt (keyPlace c.tenant false (c.msg.par 0x32 2))).isNone = true ∨ 1 < c.msg.par 0x34 1) := by
    simp only [hmine, hrange, hready, Bool.not_true, Bool.false_eq_true, false_or, not_or, Nat.not_lt, Bool.not_eq_true, Option.isNone_eq_false_iff]
    exact ⟨hdom, hten, hkey, hgrain⟩
  have hunits : ¬(c.msg.par 0x28 8 = 0 ∨ c.msg.par 0x28 8 % (if c.msg.par 0x34 1 = 0 then 1 else 4) ≠ 0) := fun h => h.elim hcap (· hwhole)
  simp only [Dev.runVolCreate, hc, ht, hx, if_neg hlegal, if_neg hunits, if_neg (Nat.not_lt.2 hroom)]
  cases d.freshVol <;> rfl

end Volumes

/-- Settles O20: each opcode's run, by the volume it finds. -/
theorem volumeOpcodes : Obligations.VolumeOpcodes := by
  refine ⟨fun v => ?create, ?limit, fun x => ?delete, ?inUse, fun x => ?resize, fun x => ?query, fun x => ?badItem, fun k => ?snapDelete, ?noSnap⟩
  case create =>
    refine runs_of_runOp exec_volCreate rfl (by decide) fun d id c hc hb ⟨hok, hv⟩ => ?_
    simp only [Dev.runOp, hc, hb.op_eq, runVolCreate_of_ok hc hok, hv]
  case limit =>
    refine runs_of_runOp exec_volCreate rfl (by decide) fun d id c hc hb ⟨hok, hv⟩ => ?_
    simp only [Dev.runOp, hc, hb.op_eq, runVolCreate_of_ok hc hok, hv]
    rfl
  case delete =>
    refine runs_of_runOp exec_volDelete rfl (by decide) fun d id c hc hb ⟨hx, hbusy⟩ => ?_
    unfold volBusy at hbusy
    simp only [Dev.runOp, hc, hb.op_eq, Dev.runVolDelete, hx, hbusy]
    rfl
  case inUse =>
    refine runs_of_runOp exec_volDelete rfl (by decide) fun d id c hc hb ⟨hsome, hbusy⟩ => ?_
    obtain ⟨x, hx⟩ := Option.isSome_iff_exists.1 hsome
    unfold volBusy at hbusy
    simp only [Dev.runOp, hc, hb.op_eq, Dev.runVolDelete, hx, hbusy]
    rfl
  case resize =>
    refine runs_of_runOp exec_volResize rfl (by decide) fun d id c hc hb ⟨hx, hcap, hwhole, hroom⟩ => ?_
    have hgrow : ¬(x.capacity < c.msg.par 0x28 8 ∧ d.mapCeil < d.entriesUsed + (c.msg.par 0x28 8 / x.grainSectors - x.grains)) :=
      fun h => absurd (hroom h.1) (Nat.not_le.2 h.2)
    simp only [Dev.runOp, hc, hb.op_eq, Dev.runVolResize, hx, hcap, hwhole, if_neg hgrow]
    rfl
  case query =>
    refine runs_of_runOp exec_volQuery rfl (by decide) fun d id c hc hb ⟨hx, hitem⟩ => ?_
    simp only [Dev.runOp, hc, hb.op_eq, Dev.runVolQuery, hx, ends, volItem]
    interval_cases c.msg.par 0x28 1 <;> rfl
  case badItem =>
    refine turnedAway_of_ends exec_volQuery rfl rfl fun d id c hop ⟨hx, hitem⟩ => ⟨0, ?_⟩
    obtain ⟨n, hn⟩ := Nat.exists_eq_add_of_le' hitem
    have hx' : (tried d id c).vol c.volume = some x := hx
    simp only [Dev.runOp, tget_tried, hop, Dev.runVolQuery, hx', hn]
  case snapDelete =>
    refine runs_of_runOp exec_snapDelete rfl (by decide) fun d id c hc hb hk => ?_
    simp only [Dev.runOp, hc, hb.op_eq, Dev.runSnapDelete, hk]
  case noSnap =>
    refine turnedAway_of_ends exec_snapDelete rfl rfl fun d id c hop hnone => ⟨0, ?_⟩
    simp only [Dev.runOp, tget_tried, hop, Dev.runSnapDelete, hnone]

end Sys2Proof.VolumeSettled

/-! SUPPORT. Replication sessions and streams that a command opens; and the statement SnapshotsAndReplicationOpcodes. -/

namespace Sys2Proof.SnapStreamProofs

open Sys2Proof.Machine Sys2Proof.Claims Sys2Proof.ReceiveProofs Sys2Proof.EndProofs

theorem clampN_of_mem {lo hi n : Nat} (hlo : lo ≤ n) (hhi : n ≤ hi) : clampN lo hi n = n := by
  rw [clampN, if_neg (Nat.not_lt.2 hlo), if_neg (Nat.not_lt.2 hhi)]

theorem exists_group_of_groupShut {d : Dev} {g : Nat} (h : groupShut d g = false) : ∃ x, d.group g = some x ∧ x.state ≠ .readOnly := by
  unfold groupShut at h
  split at h
  next x hx => exact ⟨x, hx, by simpa using h⟩
  next => cases h

theorem exists_qp_of_freeQp {d : Dev} {n : Nat} (h : freeQp d n = true) :
    ∃ q, tget d.eth.qps n = some q ∧ (q.up && !q.failed && decide (q.port < 16) && decide (q.use = .unbound)) = true := by
  unfold freeQp at h
  split at h
  next q hq => exact ⟨q, hq, h⟩
  next => cases h

section Sessions

variable {d : Dev} {id n : Nat} {c : Cmd} {x : Vol} {y : Sess}

theorem ownSession_of (hn : n = c.msg.par 0x28 2) (hy : tget d.sessions n = some y) (hten : y.tenant = c.tenant) : d.ownSession c = some (n, y) := by
  subst hn
  simp [Dev.ownSession, hy, hten]

/-- REPL_OPEN that is allowed, up to the clamps and the HELLO of a sending end. -/
theorem runReplOpen_of_ok (hc : tget d.cmds id = some c) (hok : openOk d c x n) (hslots : c.msg.par 0x30 8 ≠ 0 → d.snapSlots c.volume 2 = true)
    (hrange : c.msg.par 0x30 8 ≠ 0 → clampN 1 190000 (c.msg.par 0x38 4) = c.msg.par 0x38 4 ∧ clampN 100 86400000 (c.msg.par 0x3C 4) = c.msg.par 0x3C 4) :
    d.runReplOpen id = (if c.msg.par 0x30 8 ≠ 0 then (opened d c x n).replHello n else opened d c x n).endCmd id .success 0 n := by
  obtain ⟨hx, hsnap, hused, hshut, hqp, hslot, hkey, hctr, hcount, hroom, hn⟩ := hok
  obtain ⟨g, hg, hstate⟩ := exists_group_of_groupShut hshut
  obtain ⟨q, hq, hfree⟩ := exists_qp_of_freeQp hqp
  have hparams : ¬(c.snap.isSome = true ∨ (d.sessions.any fun e => decide (e.2.volume = c.volume)) = true ∨ decide (g.state = .readOnly) = true ∨
      (!(q.up && !q.failed && decide (q.port < 16) && decide (q.use = .unbound))) = true ∨ 7 < c.msg.par 0x2C 2) := by
    rw [hused, hfree, hsnap, decide_eq_false hstate]
    simpa using hslot
  have hlimit : ¬(64 ≤ d.sessions.length ∨ c.msg.par 0x30 8 ≠ 0 ∧ (!d.snapSlots c.volume 2) = true ∨ (!d.snapEntries c.volume 2) = true) := by
    rw [hroom]
    rintro (h | ⟨hr, h⟩ | h)
    · exact absurd hcount (Nat.not_lt.2 h)
    · rw [hslots hr] at h
      cases h
    · cases h
  have hclamp : ¬(c.msg.par 0x30 8 ≠ 0 ∧ (clampN 1 190000 (c.msg.par 0x38 4) ≠ c.msg.par 0x38 4 ∨ clampN 100 86400000 (c.msg.par 0x3C 4) ≠ c.msg.par 0x3C 4)) :=
    fun h => h.2.elim (· (hrange h.1).1) (· (hrange h.1).2)
  simp only [Dev.runReplOpen, hc, hx, hg, hq, if_neg hparams, Option.isNone_eq_false_iff.2 hkey, Bool.false_eq_true, if_false, if_neg (Nat.not_le.2 hctr),
    if_neg hlimit, hn, if_neg hclamp, opened]
  rfl

end Sessions

/-- STREAM_OPEN with legal PARAM words, a stream being free: admission is asked of a vermilion one. -/
theorem runStreamOpen_of_range {d : Dev} {id i : Nat} {c : Cmd} (hc : tget d.cmds id = some c) (hcls : c.msg.par 0x28 1 ≤ 2) (hrange : streamInRange c)
    (hcount : countP d.streams (fun e => e.2.isOpen) < 4096) (hi : d.freshStream = some i) : d.runStreamOpen id =
    if c.msg.par 0x28 1 = 2 ∧ admitted d c = false then
      d.endCmd id .admissionRefused 0 (d.bestRate c.volume (clampN 100 10000000 (c.msg.par 0x30 4)) (d.vres c.tenant) (reserveOf d c))
    else (({ d with streams := tput d.streams i (newStream d c) }.readmit).reRisk).endCmd id .success 0 i := by
  obtain ⟨hr1, hr2, ht1, ht2⟩ := hrange
  have hclamp : ¬(clampN 1 190000 (c.msg.par 0x2C 4) ≠ c.msg.par 0x2C 4 ∨ clampN 100 10000000 (c.msg.par 0x30 4) ≠ c.msg.par 0x30 4) :=
    fun h => h.elim (· (clampN_of_mem hr1 hr2)) (· (clampN_of_mem ht1 ht2))
  have hadm : (admitted d c = false) = ((d.admits d.vset (d.vstream c.volume (clampN 1 190000 (c.msg.par 0x2C 4))
      (clampN 100 10000000 (c.msg.par 0x30 4))) (d.vres c.tenant) (reserveOf d c)).isNone = true) := by
    rw [admitted, Option.isSome_eq_false_iff]
    rfl
  cases ht : tget d.tenants c.tenant <;>
    simp only [Dev.runStreamOpen, hc, if_neg (Nat.not_lt.2 hcls), if_neg hclamp, if_neg (Nat.not_le.2 hcount), hi, hadm, reserveOf, ht] <;> rfl

end Sys2Proof.SnapStreamProofs

namespace Sys2Proof.SnapStreamSettled

open Sys2Proof.Machine Sys2Proof.Claims Sys2Proof.ReceiveProofs Sys2Proof.EndProofs Sys2Proof.SnapStreamProofs

/-- Settles O21: each opcode's run, by the volume, the snapshot or the session it finds. -/
theorem snapshotsAndReplicationOpcodes : Obligations.SnapshotsAndReplicationOpcodes := by
  refine ⟨fun x e slot => ?snap, fun x => ?snapWaits, fun x n k => ?clone, fun x n k e => ?cloneVolume, fun x n => ?openReceiver, fun x n => ?openSender,
    fun n y => ?close, fun n y => ?closeLater, fun n y => ?rekey, fun n y => ?rekeyStopped, fun n y => ?noKey⟩
  case snap =>
    refine runs_of_runOp exec_snapCreate rfl (by decide) fun d id c hc hb ⟨hx, hfree, hheld, hslots, hroom, htakes, he⟩ => ?_
    have hlimit : ¬(c.num 28 = 1 ∨ d.entriesFree + c.num 27 < d.snapTakes c.volNo (some id)) := fun h => h.elim hroom (Nat.not_lt.2 htakes)
    simp only [Dev.runOp, hc, hb.op_eq, Dev.runSnapCreate, hx, hfree, if_neg (Nat.not_le.2 hheld), if_neg (Nat.not_le.2 hslots), if_neg hlimit, he]
    rfl
  case snapWaits =>
    refine runs_of_runOp exec_snapCreate rfl (by decide) fun d id c hc hb ⟨hx, hfree⟩ => ?_
    simp only [Dev.runOp, hc, hb.op_eq, Dev.runSnapCreate, hx, hfree]
    rfl
  case clone =>
    refine runs_of_runOp exec_cloneCreate rfl (by decide) fun d id c hc hb ⟨hx, hshut, hk, hn, hroom⟩ => ?_
    obtain ⟨g, hg, hstate⟩ := exists_group_of_groupShut hshut
    simp only [Dev.runOp, hc, hb.op_eq, Dev.runCloneCreate, hx, hg, decide_eq_false hstate, hk, hn, Option.isNone_some, Bool.false_eq_true, false_and, if_false,
      Nat.add_zero, if_neg (Nat.not_lt.2 hroom)]
  case cloneVolume =>
    refine runs_of_runOp exec_cloneCreate rfl (by decide) fun d id c hc hb ⟨hx, hshut, hk, hfree, hn, hslots, hroom, he⟩ => ?_
    obtain ⟨g, hg, hstate⟩ := exists_group_of_groupShut hshut
    simp only [Dev.runOp, hc, hb.op_eq, Dev.runCloneCreate, hx, hg, decide_eq_false hstate, hk, hfree, hn, hslots, Option.isNone_none, Bool.not_true,
      Bool.false_eq_true, and_false, if_false, if_true, if_neg (Nat.not_lt.2 hroom), he]
  case openReceiver =>
    refine runs_of_runOp exec_replOpen rfl (by decide) fun d id c hc hb ⟨hok, hremote⟩ => ?_
    simp only [Dev.runOp, hc, hb.op_eq]
    rw [runReplOpen_of_ok hc hok (absurd hremote) (absurd hremote), if_neg (not_not.2 hremote)]
  case openSender =>
    refine runs_of_runOp exec_replOpen rfl (by decide) fun d id c hc hb ⟨hok, hremote, hslots, hr1, hr2, ht1, ht2⟩ => ?_
    simp only [Dev.runOp, hc, hb.op_eq]
    rw [runReplOpen_of_ok hc hok (fun _ => hslots) (fun _ => ⟨clampN_of_mem hr1 hr2, clampN_of_mem ht1 ht2⟩), if_pos hremote]
  case close =>
    refine runs_of_runOp exec_replClose rfl (by decide) fun d id c hc hb ⟨hn, hy, hten, hidle⟩ => ?_
    have hnow : ¬((!y.receiver) = true ∧ (y.state = .sending ∨ y.state = .waitAck)) := by
      rintro ⟨hsend, hmid⟩
      obtain hr | ⟨hs, hw⟩ := hidle
      · simp [hr] at hsend
      · exact hmid.elim hs hw
    simp only [Dev.runOp, hc, hb.op_eq, Dev.runReplClose, Option.bind_some, ownSession_of hn hy hten, if_neg hnow]
  case closeLater =>
    refine runs_of_runOp exec_replClose rfl (by decide) fun d id c hc hb ⟨hn, hy, hten, hsend, hmid⟩ => ?_
    have hlater : (!y.receiver) = true ∧ (y.state = .sending ∨ y.state = .waitAck) := ⟨by rw [hsend]; rfl, hmid⟩
    simp only [Dev.runOp, hc, hb.op_eq, Dev.runReplClose, Option.bind_some, ownSession_of hn hy hten, if_pos hlater]
  case rekey =>
    refine runs_of_runOp exec_replRekey rfl (by decide) fun d id c hc hb ⟨hn, hy, hten, hslot, hkey, hctr, hstate⟩ => ?_
    simp only [Dev.runOp, hc, hb.op_eq, Dev.runReplRekey, ownSession_of hn hy hten, if_neg (Nat.not_lt.2 hslot), Option.isNone_eq_false_iff.2 hkey,
      Bool.false_eq_true, if_false, if_neg (Nat.not_le.2 hctr), if_pos hstate]
  case rekeyStopped =>
    refine runs_of_runOp exec_replRekey rfl (by decide) fun d id c hc hb ⟨hn, hy, hten, hslot, hkey, hctr, hstate, hrec⟩ => ?_
    simp only [Dev.runOp, hc, hb.op_eq, Dev.runReplRekey, ownSession_of hn hy hten, if_neg (Nat.not_lt.2 hslot), Option.isNone_eq_false_iff.2 hkey,
      Bool.false_eq_true, if_false, if_neg (Nat.not_le.2 hctr), if_neg (not_not.2 hstate), if_pos hrec]
  case noKey =>
    refine runs_of_runOp exec_replRekey rfl (by decide) fun d id c hc hb ⟨hn, hy, hten, hslot, hkey⟩ => ?_
    simp only [Dev.runOp, hc, hb.op_eq, Dev.runReplRekey, ownSession_of hn hy hten, if_neg (Nat.not_lt.2 hslot), if_pos hkey]
    rfl

end Sys2Proof.SnapStreamSettled

/-! SUPPORT. Opcodes whose data is fetched first: what they do where it begins, and where it is whole in tile memory. -/

namespace Sys2Proof.FetchProofs

open Sys2Proof.Machine Sys2Proof.Claims Sys2Proof.ReceiveProofs Sys2Proof.EndProofs

variable {op : Op} {i : Msg → Instr} {ok : Dev → Nat → Cmd → Prop} {f : Dev → Nat → Cmd → Dev}

/-- An opcode that moves no sectors and carries data to the device. -/
def Carrying (op : Op) : Bool := !op.edits && decide (op ≠ .read) && op.carries

theorem begin_of_carrying {d : Dev} {id : Nat} {c : Cmd} (hop : Carrying op = true) (hc : tget d.cmds id = some c) (hb : Begun op c) :
    d.begin id = d.askPayload id := by
  simp only [Carrying, Bool.and_eq_true, Bool.not_eq_true', decide_eq_true_eq] at hop
  obtain ⟨⟨hedits, hread⟩, hcarries⟩ := hop
  have hwrite : op ≠ .write := fun h => by simp [h, Op.edits] at hedits
  simp only [Dev.begin, hc, hb.op_eq, hedits, hread, hwrite, hcarries]
  simp

theorem fetches_of_carrying (hexec : ∀ m s, exec (i m) s = onDev (fun d => d.receive op m) s) (hop : Carrying op = true) (hbind : op ≠ .bindProgram) :
    Fetches i op :=
  runs_of_begin hexec hbind fun d id c hc hb _ => (begin_of_carrying hop hc hb).trans (by simp only [Dev.askPayload, hc]; rfl)

/-- With its data whole, an opcode does what runOp does for it. -/
theorem withData_of_runOp (hrun : ∀ d id c, tget d.cmds id = some c → c.op = op → ok d id c → d.runOp id = f d id c) : WithData op ok f :=
  fun _ _ _ hc hop hok => hrun _ _ _ (tget_modCmd _ hc) hop hok

/-- A command with its clamp noted is the same otherwise. -/
theorem tget_noteIf {d : Dev} {id : Nat} {c : Cmd} (p : Bool) (hc : tget d.cmds id = some c) :
    ∃ c', tget (noteIf p d id).cmds id = some c' ∧ c'.stage = c.stage := by
  unfold noteIf
  split
  · simp only [Dev.noteClamp, hc]
    split
    · exact ⟨c, hc, rfl⟩
    · exact ⟨_, tget_modCmd _ hc, rfl⟩
  · exact ⟨c, hc, rfl⟩

/-- A clamp noted where a word is not what it is clamped to. -/
theorem noteIf_decide (p : Prop) [Decidable p] (d : Dev) (id : Nat) : noteIf (decide p) d id = if p then d.noteClamp id else d := by
  simp only [noteIf, decide_eq_true_eq]

/-- An opcode of tenants on a tenant that exists and is not being removed. -/
theorem onTenant_of_named {d : Dev} {id : Nat} {c : Cmd} {x : Tenant} (f : Cmd → Nat → Tenant → Dev) (hc : tget d.cmds id = some c) (hn : named d c x) :
    d.onTenant id f = f c (c.msg.par 0x28 2) x := by
  obtain ⟨hlo, hhi, hx, hstays⟩ := hn
  have hrange : ¬(c.msg.par 0x28 2 = 0 ∨ 1023 < c.msg.par 0x28 2) := by omega
  simp only [Dev.onTenant, hc, if_neg hrange, hx, hstays]
  rfl

theorem not_true_of_true {b : Bool} (h : b = true) (hnot : (!b) = true) : False := by
  rw [h] at hnot
  cases hnot

end Sys2Proof.FetchProofs

/-! SUPPORT. The statement ComputeOpcodes. -/

namespace Sys2Proof.ComputeProofs

open Sys2Proof.Machine Sys2Proof.Claims Sys2Proof.SegmentProofs Sys2Proof.ReceiveProofs Sys2Proof.EndProofs Sys2Proof.FetchProofs

variable {d : Dev}

theorem cmds_admRegs : d.admRegs.cmds = d.cmds := by
  unfold Dev.admRegs
  dsimp only
  iterate 9 rw [wr_cmds]

theorem cmds_tenantEvent (t b inst : Nat) : (d.tenantEvent t b inst).cmds = d.cmds := cmds_eventRec ..

theorem cmds_reRisk : d.reRisk.cmds = d.cmds := by
  simp only [Dev.reRisk]
  rw [cmds_admRegs, foldl_keeps Dev.cmds]
  intro d i
  split
  · rfl
  · split
    · split
      · rfl
      · exact (cmds_tenantEvent ..).trans ((cmds_eventRec ..).trans rfl)
    · split <;> rfl

/-- What holds a BIND_PROGRAM at step 4 does nothing to one that has ended. -/
theorem bindHeld_of_over {id : Nat} {code : Code} (h : Over id code d) : d.bindHeld id = d := by
  obtain ⟨c, hc, hdone, -⟩ := h
  simp only [Dev.bindHeld, hc, hdone]
  rfl

/-- A part once BIND_PROGRAM has bound program n at a point. -/
def boundBy (d : Dev) (id n point : Nat) (c : Cmd) : Dev :=
  let e := noteIf (coresClamped c) (unbound d id) id
  ({ e with bindings := e.bindings ++ [newBinding e id n point c] }.slotFloor.reRisk).endCmd id .success 0 (e.bindCores c)

/-- A clamp noted changes no program. -/
theorem progs_noteIf (p : Bool) (id : Nat) : (noteIf p d id).progs = d.progs := by
  unfold noteIf
  split
  · unfold Dev.noteClamp
    split
    · rfl
    · split <;> rfl
  · rfl

end Sys2Proof.ComputeProofs

namespace Sys2Proof.ComputeSettled

open Sys2Proof.Machine Sys2Proof.Claims Sys2Proof.ReceiveProofs Sys2Proof.EndProofs Sys2Proof.FetchProofs Sys2Proof.ComputeProofs

/-- What BIND_PROGRAM does where its point is free. -/
theorem runOp_bindProgram {d : Dev} {id n point : Nat} {c : Cmd} (hc : tget d.cmds id = some c) (hop : c.op = .bindProgram)
    (htarget : (unbound d id).bindTarget c = some (n, point))
    (hpoint : (noteIf (coresClamped c) (unbound d id) id).pointTaken c.volume c.bindStream point = false) : d.runOp id = boundBy d id n point c := by
  simp only [boundBy, coresClamped, noteIf_decide, unbound] at hpoint htarget ⊢
  simp only [Dev.runOp, hc, hop, Dev.runBindProgram, htarget, hpoint]
  rfl

/-- A BIND_PROGRAM that binds ends, so it is not held. -/
theorem bindHeld_boundBy {d : Dev} {id n point : Nat} {c : Cmd} (hc : tget d.cmds id = some c) (hb : Begun .bindProgram c) :
    (boundBy d id n point c).bindHeld id = boundBy d id n point c := by
  obtain ⟨c', hc', hstage⟩ := tget_noteIf (d := unbound d id) (coresClamped c) hc
  refine bindHeld_of_over (over_endCmd (c := c') _ _ _ ?_ ?_)
  · rw [cmds_reRisk]
    exact hc'
  · rw [hstage, hb.stage_eq]
    exact nofun

theorem bindsProgram (n point : Nat) : Runs .bindProgram .bindProgram (fun d id c => (unbound d id).bindTarget c = some (n, point) ∧
      (noteIf (coresClamped c) (unbound d id) id).pointTaken c.volume c.bindStream point = false) (fun d id c => boundBy d id n point c) := by
  intro m k q t c s hpass hc ⟨htarget, hpoint⟩
  have hb := begun_of_passes hpass hc
  have hexec : exec (.bindProgram m) s = onDev (fun d => d.receive .bindProgram m) s := exec_bindProgram m s
  rw [hexec, onDev_next, receive_of_passes hpass, if_pos rfl, begin_of_plain rfl hc hb, runOp_bindProgram hc hb.op_eq htarget hpoint, bindHeld_boundBy hc hb,
    withDev]

theorem loadsProgram (n : Nat) : WithData .loadProgram (fun d id c => tintImageOk (imageIn c) c.length = true ∧
      progRoom (noteIf (imageClamped (imageIn c)) d id) c.tenant (imageIn c) ∧
      ((upTo 1024).find? fun n => !thas (noteIf (imageClamped (imageIn c)) d id).progs n) = some n) (fun d id c =>
    let e := noteIf (imageClamped (imageIn c)) d id
    let gen := (tget e.progGens n).getD firstGen
    { e with progs := tput e.progs n (progFrom (imageIn c) c.tenant gen) }.endCmd id .success 0 (n + gen * 65536)) := by
  refine withData_of_runOp fun d id c hc hop ⟨himage, ⟨hmine, hall, hmem⟩, hn⟩ => ?_
  have hroom : ¬(16 ≤ _ ∨ 1024 ≤ _ ∨ 2 ^ 32 < _) := fun h => h.elim (Nat.not_le.2 hmine) fun h => h.elim (Nat.not_le.2 hall) (Nat.not_lt.2 hmem)
  simp only [Dev.runOp, hc, hop, Dev.runLoadProgram]
  rw [imageIn] at himage
  rw [if_neg (by simp [himage])]
  refine (if_neg hroom).trans ?_
  split
  next hnone => exact absurd (hnone.symm.trans hn) nofun
  next n' hn' =>
    obtain rfl := Option.some.inj (hn'.symm.trans hn)
    rfl

theorem patternsLoaded : WithData .patternLoad (fun d _ c => patternsOwn d c) (fun d id c =>
    ((upTo (c.msg.par 0x2C 1)).foldl (fun (d : Dev) i => d.setEntry (c.msg.par 0x28 4 + i) (entryOf (slice c.payload (80 * i) 80))) d).endCmd
      id .success 0 0) := by
  refine withData_of_runOp fun d id c hc hop ⟨hone, hrange, hall⟩ => ?_
  simp only [Dev.runOp, hc, hop, Dev.runPatternLoad]
  rw [if_neg]
  rintro (⟨h1, h2⟩ | h | h)
  · exact hone.elim h1 h2
  · exact Nat.not_lt.2 hrange h
  · rw [hall] at h
    cases h

theorem patternsRefused : WithData .patternLoad (fun d _ c => ¬patternsOwn d c) (ends .paramInvalid fun _ _ => 0) := by
  refine withData_of_runOp fun d id c hc hop hnot => ?_
  simp only [Dev.runOp, hc, hop, Dev.runPatternLoad]
  rw [if_pos]
  · rfl
  · by_contra h
    simp only [not_or, not_and_or, not_not, Nat.not_lt, Bool.not_eq_true, Bool.not_eq_false'] at h
    exact hnot h

theorem scans (n : Nat) (v : Vol) : Runs .scan .scan (fun d _ c => d.progOf c.tenant (c.msg.par 0x28 4) = some n ∧ d.vol c.volume = some v ∧
      (hasEntry d n 2 = true ∨ hasEntry d n 3 = true) ∧ c.msg.par 0x30 8 + c.msg.par 0x38 8 ≤ v.capacity) (fun d id c =>
    let e := noteIf (timeoutClamped c) d id
    (e.modCmd id fun x => { (((x.setNum 0 v.grainBytes).setNum 13 n).setNum 14 (x.arrived + msNs (clampN 1 3600000 (c.msg.par 0x2C 4)))) with
      stage := .path, grains := scanGrains e n v c }).scanStep id) := by
  refine runs_of_runOp exec_scan rfl (by decide) fun d id c hc hb ⟨hn, hv, hentry, hrange⟩ => ?_
  have hsome : ¬((!hasEntry d n 2) = true ∧ (!hasEntry d n 3) = true) := by
    rintro ⟨h2, h3⟩
    cases h : hasEntry d n 2 <;> simp_all
  simp only [Dev.runOp, hc, hb.op_eq, Dev.runScan, hn, hv]
  refine (if_neg hsome).trans ((if_neg (Nat.not_lt.2 hrange)).trans ?_)
  simp only [scanGrains, hasEntry, progs_noteIf]
  simp only [timeoutClamped, noteIf_decide] <;> rfl

/-- Settles O23: what each opcode of the compute family does, by the program or binding it finds. -/
theorem computeOpcodes : Obligations.ComputeOpcodes := by
  refine ⟨fetches_of_carrying exec_loadProgram rfl (by decide), loadsProgram, ?badImage, fun n => ?unload, fun n => ?inUse, bindsProgram, ?unbind, scans,
    fetches_of_carrying exec_patternLoad rfl (by decide), patternsLoaded, patternsRefused⟩
  case badImage =>
    refine withData_of_runOp fun d id c hc hop hbad => ?_
    rw [imageIn] at hbad
    simp only [Dev.runOp, hc, hop, Dev.runLoadProgram, hbad]
    rfl
  case unload =>
    refine runs_of_runOp exec_unloadProgram rfl (by decide) fun d id c hc hb ⟨hn, hfree, hidle⟩ => ?_
    simp only [Dev.runOp, hc, hb.op_eq, Dev.runUnloadProgram, hn, hfree, hidle, Bool.false_eq_true, or_self, if_false]
  case inUse =>
    refine runs_of_runOp exec_unloadProgram rfl (by decide) fun d id c hc hb ⟨hn, huse⟩ => ?_
    simp only [Dev.runOp, hc, hb.op_eq, Dev.runUnloadProgram, hn, if_pos huse, ends]
  case unbind =>
    refine runs_of_runOp exec_unbindProgram rfl (by decide) fun d id c hc hb ⟨hpoint, hany⟩ => ?_
    simp only [Dev.runOp, hc, hb.op_eq, Dev.runUnbindProgram]
    refine (if_neg ?_).trans rfl
    rintro (⟨h1, h2⟩ | h)
    · exact hpoint.elim h1 h2
    · have hnone : d.bindings.any (boundHere c) = false := Bool.not_eq_true' _ |>.mp h
      rw [hany] at hnone
      cases hnone

end Sys2Proof.ComputeSettled

/-! SUPPORT. The statement SecurityOpcodes. -/

namespace Sys2Proof.SecurityProofs

open Sys2Proof.Machine Sys2Proof.Claims Sys2Proof.ReceiveProofs Sys2Proof.EndProofs Sys2Proof.FetchProofs

variable {d : Dev} {id : Nat}

theorem withEntropy_of_ok (f : Dev → Dev) (h : d.entropyOk = true) : d.withEntropy id f = f (unheld d id) := if_pos h

theorem withEntropy_of_not_ok (f : Dev → Dev) (h : d.entropyOk = false) :
    d.withEntropy id f = d.modCmd id fun c => if c.hold = .entropy then c else { (c.setNum 23 d.now) with hold := .entropy } := by
  simp only [Dev.withEntropy, h]
  rfl

theorem withLeaf_of_ready (f : Dev → Dev) (hleaf : d.sec.leaf < 2 ^ 40) (hready : d.leafReady = true) : d.withLeaf id f = f (unheld d id) := by
  simp only [Dev.withLeaf, if_neg (Nat.not_le.2 hleaf), hready, unheld]
  rfl

theorem cmds_keyRegs : d.keyRegs.cmds = d.cmds := by
  unfold Dev.keyRegs
  dsimp only
  iterate 3 rw [wr_cmds]

theorem cmds_linkSend (b : LinkBody) : (d.linkSend b).1.cmds = d.cmds := by
  unfold Dev.linkSend
  split
  · rfl
  · dsimp only
    split <;> rfl

theorem cmds_eraseKey (place : Nat) : (d.eraseKey place).cmds = d.cmds := by
  unfold Dev.eraseKey
  split
  · rfl
  · exact cmds_keyRegs.trans rfl

theorem cmds_destroyKey (place : Nat) : (d.destroyKey place).cmds = d.cmds := by
  simp only [Dev.destroyKey]
  split
  · rfl
  · rw [cmds_keyRegs]
    split
    · exact (cmds_linkSend _).trans (cmds_eraseKey _)
    · split
      · exact cmds_eraseKey _
      · exact cmds_eraseKey _

/-- What follows the destruction of a key, told by the command itself. -/
theorem finishErase_eq {c : Cmd} (e : Dev) (hc : tget e.cmds id = some { c with hold := .none }) : e.finishErase id = eraseEnd e id c := by
  simp only [Dev.finishErase, hc]
  rfl

/-- What a key that the unwrapped bytes give is put as. -/
theorem runKeyInstall_of_room {c : Cmd} {t : Bytes} {i : Nat} {slot : Bool} (hc : tget d.cmds id = some c) (hkind : c.msg.par 0x28 1 = b2n slot)
    (hkey : keyGiven c = some t) (hi : d.freeKey c.tenant slot = some i) (hten : c.tenant ≠ 0) (hroom : (d.keysOf c.tenant slot).length < mostKeys d c slot) :
    d.runKeyInstall id = if slot then keyPut d id i c slot t (zeros 32)
      else d.withEntropy id fun d => keyPut (d.random 32).1 id i c slot t (d.random 32).2 := by
  have hslot : decide (c.msg.par 0x28 1 = 1) = slot := by cases slot <;> simp [hkind, b2n]
  have hlegal : ¬1 < c.msg.par 0x28 1 := by cases slot <;> simp [hkind, b2n]
  rw [keyGiven] at hkey
  simp only [Dev.runKeyInstall, hc, if_neg hlegal, hkey, hslot, hi]
  rw [if_neg]
  · rfl
  · rintro (h | h)
    · exact hten h
    · exact Nat.not_le.2 hroom h

/-- DEBUG_UNLOCK of a token whose lengths agree. -/
theorem runDebugUnlock_of_whole {c : Cmd} (hc : tget d.cmds id = some c) (hentropy : d.entropyOk = true) (hwhole : tokenWhole c) :
    d.runDebugUnlock id = if tokenGood (unheld d id) (imageIn c) = false then (unheld d id).newNonce.endCmd id .signatureInvalid 0 0
      else (debugOpened (unheld d id).newNonce (imageIn c)).endCmd id .success 0 0 := by
  obtain ⟨hlo, hlen⟩ := hwhole
  have hlength : ¬(c.length < 64 ∨ c.length ≠ 64 + le (imageIn c) 0x20 4 + le (imageIn c) 0x24 4) := fun h => h.elim (Nat.not_lt.2 hlo) fun h => h hlen
  simp only [Dev.runDebugUnlock, hc, withEntropy_of_ok _ hentropy]
  refine (if_neg hlength).trans ?_
  cases hgood : tokenGood (unheld d id) (imageIn c) with
  | false => exact if_pos (congrArg (!·) hgood)
  | true =>
    refine (if_neg (not_true_of_true hgood)).trans ?_
    simp only [debugOpened]
    rfl

end Sys2Proof.SecurityProofs

namespace Sys2Proof.SecuritySettled

open Sys2Proof.Machine Sys2Proof.Claims Sys2Proof.ReceiveProofs Sys2Proof.EndProofs Sys2Proof.FetchProofs Sys2Proof.SecurityProofs

theorem attests : Runs .attest .attest (fun d _ c => attestLen (c.msg.par 0x38 4 % 8) + 4 + 5716 ≤ c.length ∧ d.sec.leaf < 2 ^ 40 ∧ d.leafReady = true)
    (fun d id c =>
      let r := (unheld d id).attestReport (c.msg.parBytes 0x28 16) (c.msg.par 0x38 4) c.tenant
      r.1.sendResult id (r.2.1 ++ toLE 4 5716 ++ r.2.2) (attestLen (c.msg.par 0x38 4 % 8) + 4 + 5716)) := by
  refine runs_of_runOp exec_attest rfl (by decide) fun d id c hc hb ⟨hlen, hleaf, hready⟩ => ?_
  simp only [Dev.runOp, hc, hb.op_eq, Dev.runAttest, if_neg (Nat.not_lt.2 hlen), withLeaf_of_ready _ hleaf hready]

theorem erases (p : Nat) : Runs .cryptoErase .cryptoErase (fun d _ c => d.erasePlace c = some p ∧ d.entropyOk = true)
    (fun d id c => erasedBy (unheld d id) id p c) := by
  refine runs_of_runOp exec_cryptoErase rfl (by decide) fun d id c hc hb ⟨hp, hentropy⟩ => ?_
  have he : tget (((unheld d id).random 80).1.destroyKey p).cmds id = some { c with hold := .none } := by
    rw [cmds_destroyKey]
    exact tget_modCmd _ hc
  simp only [Dev.runOp, hc, hb.op_eq, Dev.runCryptoErase, hp, withEntropy_of_ok _ hentropy, finishErase_eq _ he, erasedBy, Dev.waitPartner]

/-- OWNER_ENROL up to its signatures. -/
theorem runOwnerEnrol_of_fits {d : Dev} {id : Nat} {c : Cmd} (hc : tget d.cmds id = some c) (hact : c.msg.par 0x28 1 ≤ 1) (hentropy : d.entropyOk = true)
    (hfits : ownerFits (unheld d id) c) : d.runOwnerEnrol id =
      if ownerSigned (unheld d id) c = false then (unheld d id).enrolEnd id .signatureInvalid
      else if 2 ^ 40 ≤ (unheld d id).sec.leaf then (unheld d id).enrolEnd id .keysExhausted
      else (unheld d id).withLeaf id fun d => ownerSet d id c := by
  obtain ⟨hlo, hhi, hlen, hnp, hkind, hiso, howner⟩ := hfits
  have hlength : ¬(c.length < 16 ∨ 65536 < c.length ∨ c.length ≠ 16 + le (imageIn c) 0 4 + le (imageIn c) 4 4 + le (imageIn c) 8 4) := by
    rintro (h | h | h)
    · exact Nat.not_lt.2 hlo h
    · exact Nat.not_lt.2 hhi h
    · exact h hlen
  have hparams : ¬(le (imageIn c) 0 4 ≠ 60 ∨ (!ownerKeyOk (ownerPub c)) = true) := fun h => h.elim (fun h => h hnp) (not_true_of_true hkind)
  have hstate : ¬((c.msg.par 0x28 1 = 0 ∧ (unheld d id).sec.owner.isSome = true) ∨ (c.msg.par 0x28 1 = 1 ∧ (unheld d id).sec.owner.isNone = true) ∨
      (unheld d id).isolated = true) := by
    obtain ⟨h0, hnone⟩ | ⟨h1, hsome⟩ := howner
    · simp [hnone, h0, hiso]
    · simp [h1, hiso, Option.isSome_iff_ne_none.1 hsome]
  have hsigned : (ownerSigned (unheld d id) c = false) = ((!hssOk (ownerPub c) (ownerSaid (unheld d id) c) (ownerSig c)) = true ∨
      (!match (unheld d id).sec.owner with | some k => hssOk k (ownerSaid (unheld d id) c) (ownerOldSig c) | none => true) = true) := by
    unfold ownerSigned
    cases (unheld d id).sec.owner <;> simp only [Bool.and_eq_false_iff, Bool.not_eq_true']
  simp only [Dev.runOwnerEnrol, hc, if_neg (Nat.not_lt.2 hact), withEntropy_of_ok _ hentropy, hsigned]
  exact (if_neg hlength).trans ((if_neg hparams).trans ((if_neg hstate).trans rfl))

theorem enrols : WithData .ownerEnrol (fun d id c => c.msg.par 0x28 1 ≤ 1 ∧ d.entropyOk = true ∧ ownerFits (unheld d id) c ∧
      ownerSigned (unheld d id) c = true ∧ (unheld d id).sec.leaf < 2 ^ 40 ∧ (unheld d id).leafReady = true)
    (fun d id c => ownerSet (unheld (unheld d id) id) id c) := by
  refine withData_of_runOp fun d id c hc hop ⟨hact, hentropy, hfits, hsigned, hleaf, hready⟩ => ?_
  simp only [Dev.runOp, hc, hop]
  rw [runOwnerEnrol_of_fits hc hact hentropy hfits, hsigned, if_neg nofun, if_neg (Nat.not_le.2 hleaf), withLeaf_of_ready _ hleaf hready]

theorem enrolRefused : WithData .ownerEnrol (fun d id c => c.msg.par 0x28 1 ≤ 1 ∧ d.entropyOk = true ∧ ownerFits (unheld d id) c ∧
      ownerSigned (unheld d id) c = false) (fun d id _ => (unheld d id).newNonce.endCmd id .signatureInvalid 0 0) := by
  refine withData_of_runOp fun d id c hc hop ⟨hact, hentropy, hfits, hsigned⟩ => ?_
  simp only [Dev.runOp, hc, hop]
  rw [runOwnerEnrol_of_fits hc hact hentropy hfits, if_pos hsigned, Dev.enrolEnd]

/-- Settles O24: what each opcode of the security family does, by the key, certificate or token it finds. -/
theorem securityOpcodes : Obligations.SecurityOpcodes := by
  refine ⟨fun b => ?cert, fun b => ?certSmall, attests, ?attestSmall, fetches_of_carrying exec_keyInstall rfl (by decide), fun t i => ?slotKey,
    fun t i => ?domainKey, ?badKey, erases, fun p => ?eraseWaits, ?noKey, fun x => ?domains, fun x => ?slots,
    fetches_of_carrying exec_ownerEnrol rfl (by decide), enrols, enrolRefused, fetches_of_carrying exec_debugUnlock rfl (by decide), ?unlock, ?unlockRefused⟩
  case cert =>
    refine runs_of_runOp exec_certGet rfl (by decide) fun d id c hc hb ⟨hitem, hfits⟩ => ?_
    rw [certItem] at hitem
    simp only [Dev.runOp, hc, hb.op_eq, Dev.runCertGet, hitem]
    refine if_neg ?_
    rintro ⟨hlt, hne⟩
    exact hfits.elim (Nat.not_le.2 hlt) hne
  case certSmall =>
    refine runs_of_runOp exec_certGet rfl (by decide) fun d id c hc hb ⟨hitem, hlt, hne⟩ => ?_
    rw [certItem] at hitem
    simp only [Dev.runOp, hc, hb.op_eq, Dev.runCertGet, hitem, ends]
    exact if_pos ⟨hlt, hne⟩
  case attestSmall =>
    refine runs_of_runOp exec_attest rfl (by decide) fun d id c hc hb hlen => ?_
    simp only [Dev.runOp, hc, hb.op_eq, Dev.runAttest, if_pos hlen, ends]
  case slotKey =>
    refine withData_of_runOp fun d id c hc hop ⟨hkind, hkey, hi, hten, hroom⟩ => ?_
    simp only [Dev.runOp, hc, hop]
    exact runKeyInstall_of_room (slot := true) hc hkind hkey hi hten hroom
  case domainKey =>
    refine withData_of_runOp fun d id c hc hop ⟨hkind, hkey, hi, hten, hroom, hentropy⟩ => ?_
    simp only [Dev.runOp, hc, hop]
    rw [runKeyInstall_of_room (slot := false) hc hkind hkey hi hten hroom, if_neg nofun, withEntropy_of_ok _ hentropy]
  case badKey =>
    refine withData_of_runOp fun d id c hc hop ⟨hkind, hkey⟩ => ?_
    rw [keyGiven] at hkey
    simp only [Dev.runOp, hc, hop, Dev.runKeyInstall, if_neg (Nat.not_lt.2 hkind), hkey, ends]
  case eraseWaits =>
    refine runs_of_runOp exec_cryptoErase rfl (by decide) fun d id c hc hb ⟨hp, hentropy⟩ => ?_
    simp only [Dev.runOp, hc, hb.op_eq, Dev.runCryptoErase, hp, withEntropy_of_not_ok _ hentropy]
  case noKey =>
    refine turnedAway_of_ends exec_cryptoErase rfl rfl fun d id c hop hp => ⟨0, ?_⟩
    have hp' : (tried d id c).erasePlace c = none := hp
    simp only [Dev.runOp, tget_tried, hop, Dev.runCryptoErase, hp']
  case domains =>
    refine runs_of_runOp exec_keyPolicySet rfl (by decide) fun d id c hc hb ⟨hn, hkind⟩ => ?_
    simp only [Dev.runOp, hc, hb.op_eq, Dev.runKeyPolicySet, onTenant_of_named _ hc hn, hkind, ne_eq, noteIf_decide, ite_not]
  case slots =>
    refine runs_of_runOp exec_keyPolicySet rfl (by decide) fun d id c hc hb ⟨hn, hkind⟩ => ?_
    simp only [Dev.runOp, hc, hb.op_eq, Dev.runKeyPolicySet, onTenant_of_named _ hc hn, hkind, ne_eq, noteIf_decide, ite_not]
  case unlock =>
    refine withData_of_runOp fun d id c hc hop ⟨hentropy, hwhole, hgood⟩ => ?_
    simp only [Dev.runOp, hc, hop]
    rw [runDebugUnlock_of_whole hc hentropy hwhole, if_neg (by simp [hgood])]
  case unlockRefused =>
    refine withData_of_runOp fun d id c hc hop ⟨hentropy, hwhole, hbad⟩ => ?_
    simp only [Dev.runOp, hc, hop]
    rw [runDebugUnlock_of_whole hc hentropy hwhole, if_pos hbad]

end Sys2Proof.SecuritySettled

/-! SUPPORT. The statements TenantOpcodes and TenantLifecycle. -/

namespace Sys2Proof.TenantProofs

open Sys2Proof.Machine Sys2Proof.Claims Sys2Proof.ReceiveProofs Sys2Proof.EndProofs Sys2Proof.FetchProofs

variable {d : Dev} {id : Nat} {c : Cmd}

theorem any_tput {α : Type} {t : Tbl α} {k : Nat} {v : α} {p : Nat × α → Bool} (ht : t.any p = false) (hp : p (k, v) = false) : (tput t k v).any p = false := by
  rw [List.any_eq_false] at ht ⊢
  intro e he
  obtain rfl | he := mem_tput t k v e he
  · simp [hp]
  · exact ht e he

/-- A tenant that an opcode names is named while check 13 tries the opcode. -/
theorem named_tried {x : Tenant} (hop : c.op ≠ .removeTenant) (hn : named d c x) : named (tried d id c) c x := by
  obtain ⟨hlo, hhi, hx, hstays⟩ := hn
  exact ⟨hlo, hhi, hx, any_tput hstays (by simp [hop])⟩

/-- A queue pair that a queue can be bound to passes the check of QUEUE_BIND. -/
theorem qpOk_of_qpFree {n k : Nat} (h : qpFree d n k) : (match tget d.eth.qps n with
    | some p => p.up && !p.failed && decide (p.port < 16) &&
      (match p.use with | .unbound => true | .tomb _ => true | .queue j => decide (j = k) | .session _ => false)
    | none => false) = true := by
  obtain ⟨p, hp, hup, hfailed, hport, huse | huse | ⟨t, huse⟩⟩ := h
  all_goals simp [hp, hup, hfailed, hport, huse]

/-- Whether a tenant that exists is quiet. -/
theorem quiet_of_named {x : Tenant} (hn : named d c x) : d.quiet (c.msg.par 0x28 2) = decide (x.life = .off ∨ x.life = .quiesced) := by
  obtain ⟨-, -, hx, -⟩ := hn
  simp [Dev.quiet, hx]

theorem finishRemove_of_alone {t : Nat} (halone : d.linked = false) : d.finishRemove id t = removed d id t := by
  simp only [Dev.finishRemove, Dev.removeDone, removed, halone, Bool.not_false, if_true]

end Sys2Proof.TenantProofs

namespace Sys2Proof.TenantSettled

open Sys2Proof.Machine Sys2Proof.Claims Sys2Proof.ReceiveProofs Sys2Proof.EndProofs Sys2Proof.FetchProofs Sys2Proof.TenantProofs

/-- QUEUE_BIND of a queue to a queue pair that is free for it. -/
theorem runQueueBind_of_free {d : Dev} {id k : Nat} {c : Cmd} (hc : tget d.cmds id = some c) (hk : d.queueNamed c = some k) (hqp : qpFree d (c.msg.par 0x2C 3) k) :
    d.runQueueBind id = if queueServed d k = true then d.endCmd id .stateConflict 0 0 else if recordsLeft d k = 0 then d.endCmd id .limit 0 0 else
      let e := satAt (recordsLeft d k) (clampN 1 4096 (c.msg.par 0x30 2))
      ((noteIf (decide (e ≠ c.msg.par 0x30 2)) d id).bindQueue k (c.msg.par 0x2C 3) e).endCmd id .success 0 e := by
  simp only [Dev.runQueueBind, hc, hk]
  refine (if_neg (not_true_of_true (qpOk_of_qpFree hqp))).trans ?_
  simp only [noteIf_decide, ne_eq, ite_not]
  rfl

theorem setsShare (x : Tenant) (i lo hi : Nat) : Runs .tenantShares .tenantShares (fun d _ c => named d c x ∧ i = c.msg.par 0x2A 1 ∧
    shareRange i = some (lo, hi)) (fun d id c =>
      shareSet d id (tenantNo c) i (clampN lo hi (c.msg.par 0x30 8)) (decide (clampN lo hi (c.msg.par 0x30 8) ≠ c.msg.par 0x30 8))) := by
  refine runs_of_runOp exec_tenantShares rfl (by decide) fun d id c hc hb ⟨hn, hi', hrange⟩ => ?_
  have hlt : i < 6 := (List.getElem?_eq_some_iff.1 hrange).1
  simp only [Dev.runOp, hc, hb.op_eq, Dev.runTenantShares, onTenant_of_named _ hc hn, ← hi']
  interval_cases i
  all_goals
    obtain ⟨rfl, rfl⟩ := Prod.mk.inj (Option.some.inj hrange)
    simp only [shareSet, noteIf_decide, ne_eq, ite_not]
    rfl

/-- Settles O25: each opcode's run on the tenant or queue it names. -/
theorem tenantOpcodes : Obligations.TenantOpcodes := by
  refine ⟨?create, ?exists_, fun x => ?bind, fun x => ?bindOn, fun x i lo hi => ?shares, fun x => ?badShare, fun k => ?queueBind, fun k => ?queueBound,
    fun k q => ?delete, fun k q => ?deleteBusy⟩
  case create =>
    refine runs_of_runOp exec_tenantCreate rfl (by decide) fun d id c hc hb ⟨hlo, hhi, hnone, hiso⟩ => ?_
    rw [tenantNo] at hlo hhi hnone
    have hrange : ¬(c.msg.par 0x28 2 = 0 ∨ 1023 < c.msg.par 0x28 2) := by omega
    simp only [Dev.runOp, hc, hb.op_eq, Dev.runTenantCreate, if_neg hrange, thas, hnone, hiso]
    rfl
  case exists_ =>
    refine runs_of_runOp exec_tenantCreate rfl (by decide) fun d id c hc hb ⟨hlo, hhi, hhas⟩ => ?_
    rw [tenantNo] at hlo hhi hhas
    have hrange : ¬(c.msg.par 0x28 2 = 0 ∨ 1023 < c.msg.par 0x28 2) := by omega
    simp only [Dev.runOp, hc, hb.op_eq, Dev.runTenantCreate, if_neg hrange, thas, ends]
    exact if_pos hhas
  case bind =>
    refine runs_of_runOp exec_tenantBind rfl (by decide) fun d id c hc hb ⟨hn, hitem, hindex, hlife, hiso⟩ => ?_
    have hlegal : ¬(3 < c.msg.par 0x2A 1 ∨ 3 < c.msg.par 0x2B 1) := by omega
    have hstate : ¬(x.life = .on ∨ x.life = .draining ∨ d.isolated = true) := by
      obtain h | h := hlife <;> simp [h, hiso]
    simp only [Dev.runOp, hc, hb.op_eq, Dev.runTenantBind, onTenant_of_named _ hc hn, if_neg hlegal, if_neg hstate, told, tenantNo]
  case bindOn =>
    refine runs_of_runOp exec_tenantBind rfl (by decide) fun d id c hc hb ⟨hn, hitem, hindex, hlife⟩ => ?_
    have hlegal : ¬(3 < c.msg.par 0x2A 1 ∨ 3 < c.msg.par 0x2B 1) := by omega
    have hstate : x.life = .on ∨ x.life = .draining ∨ d.isolated = true := hlife.imp_right .inl
    simp only [Dev.runOp, hc, hb.op_eq, Dev.runTenantBind, onTenant_of_named _ hc hn, if_neg hlegal, if_pos hstate, ends]
  case shares => exact setsShare x i lo hi
  case badShare =>
    refine turnedAway_of_ends exec_tenantShares rfl rfl fun d id c hop ⟨hn, hitem⟩ => ⟨0, ?_⟩
    have hn' := named_tried (id := id) (by rw [hop]; decide) hn
    simp only [Dev.runOp, tget_tried, hop, Dev.runTenantShares, onTenant_of_named _ (tget_tried d id c) hn']
    split
    case h_7 => rfl
    all_goals omega
  case queueBind =>
    refine runs_of_runOp exec_queueBind rfl (by decide) fun d id c hc hb ⟨hk, hqp, hserved, hleft⟩ => ?_
    simp only [Dev.runOp, hc, hb.op_eq, runQueueBind_of_free hc hk hqp, hserved, Bool.false_eq_true, if_false, if_neg hleft]
  case queueBound =>
    refine runs_of_runOp exec_queueBind rfl (by decide) fun d id c hc hb ⟨hk, hqp, hserved⟩ => ?_
    simp only [Dev.runOp, hc, hb.op_eq, runQueueBind_of_free hc hk hqp, if_pos hserved, ends]
  case delete =>
    refine runs_of_runOp exec_queueDelete rfl (by decide) fun d id c hc hb ⟨hk, hq, hidle⟩ => ?_
    have hnow : ¬(d.outstanding k ≠ 0 ∧ (!q.failed) = true) := fun ⟨h, h'⟩ => hidle.elim h fun hf => not_true_of_true hf h'
    simp only [Dev.runOp, hc, hb.op_eq, Dev.runQueueDelete, hk, hq, if_neg hnow]
  case deleteBusy =>
    refine runs_of_runOp exec_queueDelete rfl (by decide) fun d id c hc hb ⟨hk, hq, hbusy, hfailed⟩ => ?_
    have hlater : d.outstanding k ≠ 0 ∧ (!q.failed) = true := ⟨hbusy, by rw [hfailed]; rfl⟩
    simp only [Dev.runOp, hc, hb.op_eq, Dev.runQueueDelete, hk, hq, if_pos hlater, ends]

/-- Settles O26: each opcode's run in each state of its tenant. -/
theorem tenantLifecycle : Obligations.TenantLifecycle := by
  refine ⟨fun x => ?enable, fun x => ?unbound, fun x => ?enabled, fun x => ?enableHeld, fun x => ?resume, fun x => ?quiesceOff, fun x => ?quiesce,
    fun x => ?quiesceMore, fun x => ?quiesced, fun x => ?resetOff, fun x => ?reset, fun x => ?resetLive, fun x => ?remove, fun x => ?removeAsks,
    fun x => ?removeLive, fun x y r => ?logOn, fun x g => ?logOff, fun x => ?logWasOff⟩
  case enable =>
    refine runs_of_runOp exec_enableTenant rfl (by decide) fun d id c hc hb ⟨hn, hlife, h0, h23⟩ => ?_
    have hbound : ¬((x.bound 0).isEmpty = true ∨ (x.bound 2).isEmpty = true ∧ (x.bound 3).isEmpty = true) := by
      simp only [List.isEmpty_iff]
      rintro (h | ⟨h2, h3⟩)
      · exact h0 h
      · exact h23.elim (· h2) (· h3)
    simp only [Dev.runOp, hc, hb.op_eq, Dev.runEnableTenant, onTenant_of_named _ hc hn, hlife, if_neg hbound, tenantNo]
  case unbound =>
    refine runs_of_runOp exec_enableTenant rfl (by decide) fun d id c hc hb ⟨hn, hlife, hnone⟩ => ?_
    simp only [Dev.runOp, hc, hb.op_eq, Dev.runEnableTenant, onTenant_of_named _ hc hn, hlife, List.isEmpty_iff, if_pos hnone, ends]
  case enabled | enableHeld | resume =>
    refine runs_of_runOp exec_enableTenant rfl (by decide) fun d id c hc hb ⟨hn, hlife⟩ => ?_
    simp only [Dev.runOp, hc, hb.op_eq, Dev.runEnableTenant, onTenant_of_named _ hc hn, hlife, tenantNo, ends]
  case quiesceOff | quiesce | quiesceMore | quiesced =>
    refine runs_of_runOp exec_quiesceTenant rfl (by decide) fun d id c hc hb ⟨hn, hlife⟩ => ?_
    simp only [Dev.runOp, hc, hb.op_eq, Dev.runQuiesceTenant, onTenant_of_named _ hc hn, hlife, tenantNo, ends]
  case resetOff | reset =>
    refine runs_of_runOp exec_resetTenant rfl (by decide) fun d id c hc hb ⟨hn, hlife⟩ => ?_
    simp only [Dev.runOp, hc, hb.op_eq, Dev.runResetTenant, onTenant_of_named _ hc hn, hlife, tenantNo, ends]
  case resetLive =>
    refine runs_of_runOp exec_resetTenant rfl (by decide) fun d id c hc hb ⟨hn, hlife⟩ => ?_
    obtain hlife | hlife := hlife
    all_goals simp only [Dev.runOp, hc, hb.op_eq, Dev.runResetTenant, onTenant_of_named _ hc hn, hlife, ends]
  case remove =>
    refine runs_of_runOp exec_removeTenant rfl (by decide) fun d id c hc hb ⟨hn, hiso, hlife, halone⟩ => ?_
    have hquiet : d.quiet (c.msg.par 0x28 2) = true := (quiet_of_named hn).trans (decide_eq_true hlife)
    simp only [Dev.runOp, hc, hb.op_eq, Dev.runRemoveTenant, onTenant_of_named _ hc hn, hiso, hquiet, halone, Bool.not_true, Bool.false_eq_true, if_false]
    exact finishRemove_of_alone halone
  case removeAsks =>
    refine runs_of_runOp exec_removeTenant rfl (by decide) fun d id c hc hb ⟨hn, hiso, hlife, hlinked⟩ => ?_
    have hquiet : d.quiet (c.msg.par 0x28 2) = true := (quiet_of_named hn).trans (decide_eq_true hlife)
    simp only [Dev.runOp, hc, hb.op_eq, Dev.runRemoveTenant, onTenant_of_named _ hc hn, hiso, hquiet, hlinked]
    rfl
  case removeLive =>
    refine runs_of_runOp exec_removeTenant rfl (by decide) fun d id c hc hb ⟨hn, hiso, hlife⟩ => ?_
    have hloud : d.quiet (c.msg.par 0x28 2) = false := by
      rw [quiet_of_named hn]
      obtain h | h := hlife <;> simp [h]
    simp only [Dev.runOp, hc, hb.op_eq, Dev.runRemoveTenant, onTenant_of_named _ hc hn, hiso, hloud]
    rfl
  case logOn =>
    refine runs_of_runOp exec_migrationLog rfl (by decide) fun d id c hc hb ⟨hn, hon, hnone, hdescs, hbase⟩ => ?_
    simp only [Dev.runOp, hc, hb.op_eq, Dev.runMigrationLog, onTenant_of_named _ hc hn, hon, hnone, hdescs, if_neg (not_not.2 hbase), tenantNo]
  case logOff =>
    refine runs_of_runOp exec_migrationLog rfl (by decide) fun d id c hc hb ⟨hn, hoff, hsome, hidle⟩ => ?_
    simp only [Dev.runOp, hc, hb.op_eq, Dev.runMigrationLog, onTenant_of_named _ hc hn, hoff, hsome, hidle, tenantNo]
    rfl
  case logWasOff =>
    refine runs_of_runOp exec_migrationLog rfl (by decide) fun d id c hc hb ⟨hn, hoff, hnone⟩ => ?_
    simp only [Dev.runOp, hc, hb.op_eq, Dev.runMigrationLog, onTenant_of_named _ hc hn, hoff, hnone, tenantNo]
    rfl

end Sys2Proof.TenantSettled

/-! SUPPORT. Laws of the register file, of addresses and windows, of latched pairs and of tile memory (chapters 00 and 19). -/

namespace Sys2Proof.RegisterProofs

open Sys2Proof.Machine Sys2Proof.Claims Sys2Proof.StencilProofs Sys2Proof.SegmentProofs

/-! ### Bits of a number -/

theorem bit_eq_testBit (n i : Nat) : bit n i = n.testBit i := by
  rw [bit, Nat.testBit_eq_decide_div_mod_eq]

theorem bits_lt (n lo w : Nat) : bits n lo w < 2 ^ w := Nat.mod_lt _ (Nat.two_pow_pos w)

/-- Bits of a number taken away from it. -/
theorem testBit_sub_and (x v i : Nat) : (x - (x &&& v)).testBit i = (x.testBit i && !v.testBit i) := by
  induction i generalizing x v with
  | zero =>
    have hle : x &&& v ≤ x := Nat.and_le_left
    have hpar : (x &&& v) % 2 = 1 ↔ x % 2 = 1 ∧ v % 2 = 1 := Nat.and_mod_two_eq_one
    simp only [Nat.testBit_zero]
    rw [Bool.eq_iff_iff, Bool.and_eq_true, Bool.not_eq_true', decide_eq_true_eq, decide_eq_true_eq, decide_eq_false_iff_not]
    omega
  | succ i ih =>
    have hle : x &&& v ≤ x := Nat.and_le_left
    have hpar : (x &&& v) % 2 = 1 ↔ x % 2 = 1 ∧ v % 2 = 1 := Nat.and_mod_two_eq_one
    have hdiv : (x - (x &&& v)) / 2 = x / 2 - (x / 2 &&& v / 2) := by
      rw [← Nat.and_div_two]
      omega
    rw [Nat.testBit_succ, Nat.testBit_succ, Nat.testBit_succ, hdiv, ih]

/-! ### One field of a register written (Table 0-3) -/

section Access

variable {d : Dev} {sp : RegSpec} {i a w lo width : Nat} {rst : Nat → Nat} {x : WriteAcc}

/-- A field write leaves every other register. -/
theorem rawWord_field {acc : Acc} {b : Nat} (hwf : x.dev.regs.wf = true) (hb : b ≠ a) :
    rawWord (x.field d sp i a w ⟨lo, width, acc, rst⟩).dev.regs b = rawWord x.dev.regs b := by
  have hwr (v : Nat) : rawWord (x.dev.wr ⟨a, lo, width⟩ v).regs b = rawWord x.dev.regs b := by
    rw [wr_regs, RegFile.setFld, rawWord_setWord _ _ _ _ hwf, if_neg hb]
  cases acc with
  | ro => rfl
  | rw =>
    simp only [WriteAcc.field]
    split
    · rfl
    · exact hwr _
  | wo =>
    simp only [WriteAcc.field]
    split
    · exact hwr _
    · rfl
  | w1c | w1s | rwc => exact hwr _
  | rwl lock =>
    simp only [WriteAcc.field]
    split
    · rfl
    · exact hwr _

end Access

theorem clampN_eq_self_iff {l h v : Nat} : clampN l h v = v ↔ ¬(v < l ∨ h < v) := by
  unfold clampN
  split
  · omega
  · split <;> omega

theorem clampN_le {l h v : Nat} (hlh : l ≤ h) : clampN l h v ≤ h := by
  unfold clampN
  split
  · exact hlh
  · split <;> omega

/-! ### Addresses (R8, R20) -/

theorem tmod_of_none {α : Type} {t : Tbl α} {k : Nat} {f : α → α} (h : tget t k = none) : tmod t k f = t := by
  induction t with
  | nil => rfl
  | cons e r ih =>
    obtain ⟨j, v⟩ := e
    by_cases hj : j = k
    · rw [tget, if_pos hj] at h
      cases h
    · rw [tget, if_neg hj] at h
      rw [tmod, if_neg hj]
      by_cases hlt : k < j
      · rw [if_pos hlt]
      · rw [if_neg hlt] at h ⊢
        rw [ih h]

/-- Whether an address names a word: one of a register, or of a window of 48 words where its tenant exists. -/
def hasWord (d : Dev) (a : Nat) : Bool :=
  decide (a % 4 = 0) && match windowOf a with
    | some (t, off) => !windowHole (thas d.tenants t) off
    | none => (specAt a).isSome

theorem isSome_peek (d : Dev) (a : Nat) : (d.peek a).isSome = hasWord d a := by
  simp only [Dev.peek, hasWord]
  by_cases ha : a % 4 = 0
  · rw [if_neg (not_not.2 ha)]
    cases windowOf a with
    | some w => cases hw : windowHole (thas d.tenants w.1) w.2 <;> simp [ha, hw]
    | none => cases specAt a <;> simp [ha]
  · simp [ha]

theorem isSome_readReg (d : Dev) (src a : Nat) : (d.readReg src a).isSome = hasWord d a := by
  rw [← isSome_peek]
  unfold Dev.readReg
  cases d.peek a with
  | none => rfl
  | some w =>
    dsimp only
    split
    · rfl
    · split
      · rfl
      · split
        · cases tget d.latches (latchKey src (a - 4)) <;> rfl
        · rfl

theorem isSome_writeReg (d : Dev) (a v : Nat) : (d.writeReg a v).isSome = hasWord d a := by
  simp only [Dev.writeReg, hasWord]
  by_cases ha : a % 4 = 0
  · rw [if_neg (not_not.2 ha)]
    cases windowOf a with
    | some w => cases hw : windowHole (thas d.tenants w.1) w.2 <;> simp [ha, hw]
    | none =>
      cases specAt a with
      | none => simp
      | some s =>
        dsimp only
        split <;> simp [ha]
  · simp [ha]

/-! ### Latches (R17) -/

theorem loPairs_apart : ∀ x ∈ loPairs, windowOf x = none ∧ x ≠ 0x380540 ∧ x + 4 ≠ 0x380540 ∧ isLo (x + 4) = false := by
  decide

/-- The low word of a pair is listed, or is a window's word 0x80. -/
theorem mem_loPairs_or_of_isLo {a : Nat} (h : isLo a = true) :
    a ∈ loPairs ∨ 0xA0000 ≤ a ∧ a < 0xA0000 + 1024 * 0x100 ∧ (a - 0xA0000) % 0x100 = 0x80 := by
  simp only [isLo, Bool.or_eq_true, List.contains_iff_mem] at h
  refine h.imp id fun hwin => ?_
  unfold windowOf at hwin
  by_cases hin : 0x0A0000 ≤ a ∧ a < 0x0A0000 + 1024 * 0x100
  · rw [if_pos hin] at hwin
    exact ⟨hin.1, hin.2, of_decide_eq_true hwin⟩
  · rw [if_neg hin] at hwin
    cases hwin

theorem isLo_false_of_next {a : Nat} (h : isLo a = true) : isLo (a + 4) = false := by
  obtain hmem | ⟨hlo, hhi, hoff⟩ := mem_loPairs_or_of_isLo h
  · exact (loPairs_apart a hmem).2.2.2
  · by_contra hnext
    obtain hmem | ⟨-, -, hoff'⟩ := mem_loPairs_or_of_isLo (Bool.not_eq_false _ ▸ hnext)
    · have hnone := (loPairs_apart _ hmem).1
      rw [windowOf, if_pos (by omega)] at hnone
      cases hnone
    · omega

theorem ne_measData_of_isLo {a : Nat} (h : isLo a = true) : a ≠ 0x380540 ∧ a + 4 ≠ 0x380540 := by
  obtain hmem | ⟨hlo, hhi, -⟩ := mem_loPairs_or_of_isLo h
  · obtain ⟨-, ha, hnext, -⟩ := loPairs_apart a hmem
    exact ⟨ha, hnext⟩
  · omega

/-- A read of the low word of a pair. -/
theorem readReg_low {d : Dev} {src a w : Nat} (hlo : isLo a = true) (hw : d.peek a = some w) : d.readReg src a =
    some ({ d with latches := tput d.latches (latchKey src a) (BitVec.ofNat 32 ((d.peek (a + 4)).getD 0)) }, w) := by
  simp only [Dev.readReg, hw, if_neg (ne_measData_of_isLo hlo).1, if_pos hlo]

/-- A read of the high word of a pair whose low word was read before. -/
theorem readReg_high_latched {d : Dev} {src a w : Nat} {h : Word32} (hlo : isLo a = true) (hw : d.peek (a + 4) = some w)
    (hlatch : tget d.latches (latchKey src a) = some h) :
    d.readReg src (a + 4) = some ({ d with latches := tdel d.latches (latchKey src a) }, h.toNat) := by
  simp only [Dev.readReg, hw, if_neg (ne_measData_of_isLo hlo).2, isLo_false_of_next hlo, Nat.add_sub_cancel, hlatch]
  rw [if_neg nofun, if_pos ⟨Nat.le_add_left 4 a, hlo⟩]

/-- A read of the high word of a pair with no latch. -/
theorem readReg_high_free {d : Dev} {src a w : Nat} (hlo : isLo a = true) (hw : d.peek (a + 4) = some w)
    (hnone : tget d.latches (latchKey src a) = none) : d.readReg src (a + 4) = some (d, w) := by
  simp only [Dev.readReg, hw, if_neg (ne_measData_of_isLo hlo).2, isLo_false_of_next hlo, Nat.add_sub_cancel, hnone]
  rw [if_neg nofun, if_pos ⟨Nat.le_add_left 4 a, hlo⟩]

/-! ### Tile memory -/

theorem tget_filter {α : Type} {t : Tbl α} (p : Nat → Bool) (k : Nat) (hrise : Tbl.rising t = true) :
    tget (t.filter fun e => p e.1 : Tbl α) k = if p k then tget t k else none := by
  induction t with
  | nil => simp [tget]
  | cons e r ih =>
    obtain ⟨j, v⟩ := e
    obtain ⟨habove, hr⟩ := (rising_cons j v r).1 hrise
    have hnone (hkj : ¬j = k) (hlt : k < j) : tget r k = none := tget_of_above k r fun e he => hlt.trans (habove e he)
    by_cases hj : p j
    · rw [List.filter_cons_of_pos (by exact hj), tget, tget, ih hr]
      by_cases hjk : j = k
      · subst hjk
        simp [hj]
      · by_cases hlt : k < j <;> simp [hjk, hlt]
    · rw [List.filter_cons_of_neg (by exact hj), ih hr, tget]
      by_cases hjk : j = k
      · subst hjk
        simp [hj]
      · by_cases hlt : k < j <;> simp [hjk, hlt, hnone]

/-- A byte after a run of bytes is set one by one. -/
theorem byte_setAll (b : Bytes) (o n a : Nat) (m : Tmem) (h : m.wf = true) :
    ((b.zipIdx n).foldl (fun m x => m.set (o + x.2) x.1) m).byte a =
      if o + n ≤ a ∧ a < o + n + b.length then b.getD (a - (o + n)) 0 else m.byte a := by
  induction b generalizing n m with
  | nil => simp
  | cons v r ih =>
    rw [List.zipIdx_cons, List.foldl_cons, ih (n + 1) _ (tmem_set_wf m _ _ h), tmem_set_byte m _ _ _ h, List.length_cons]
    by_cases ha : a = o + n
    · subst ha
      simp
    · by_cases hin : o + n ≤ a ∧ a < o + n + (r.length + 1)
      · have hstep : a - (o + n) = a - (o + (n + 1)) + 1 := by omega
        rw [if_pos hin, if_pos (by omega), hstep, List.getD_cons_succ]
      · rw [if_neg hin, if_neg (by omega), if_neg ha]

end Sys2Proof.RegisterProofs

namespace Sys2Proof.RegisterSettled

open Sys2Proof.Machine Sys2Proof.Claims Sys2Proof.StencilProofs Sys2Proof.SegmentProofs Sys2Proof.RegisterProofs

/-- Settles O29: a field's bits are set in the one word that holds them. -/
theorem registerFileLaws : Obligations.RegisterFileLaws := by
  refine ⟨fun rf f v hwf hf => ⟨setWord_wf _ _ _ hwf, ?_, fun g hg hapart => ?_⟩, fun a => ⟨rfl, rfl⟩⟩
  · rw [RegFile.fld, rawWord_setFld hwf hf, if_pos rfl, bits_setBits_same]
  · rw [RegFile.fld, RegFile.fld, rawWord_setFld hwf hf]
    split
    next haddr =>
      rw [haddr]
      obtain hne | habove | hbelow := hapart
      · exact absurd haddr.symm hne
      · exact bits_setBits_above habove
      · exact bits_setBits_below hbelow
    next => rfl

/-- Settles O30: what each access code does with its field. -/
theorem accessCodes : Obligations.AccessCodes := by
  intro d sp i a w lo width rst x hfit hwf
  have hv : bits w lo width < 2 ^ width := bits_lt w lo width
  have hrd (v : Nat) (hlt : v < 2 ^ width) : (x.dev.wr ⟨a, lo, width⟩ v).rd ⟨a, lo, width⟩ = v :=
    (rd_wr_same hwf (f := ⟨a, lo, width⟩) hfit).trans (Nat.mod_eq_of_lt hlt)
  have hold : x.dev.rd ⟨a, lo, width⟩ < 2 ^ width := bits_lt _ _ _
  refine ⟨rfl, fun hstored => ?rw, fun b hb => ?w1c, fun b hb => ?w1s, fun l h hlh hlt => ⟨?clamped, ?noted, rfl⟩, fun lock => ⟨fun hopen => ?openLock, fun hshut => ?shutLock⟩,
    fun acc b hb => rawWord_field hwf hb⟩
  case rw =>
    simp only [WriteAcc.field, hstored]
    exact hrd _ hv
  case w1c =>
    simp only [WriteAcc.field]
    rw [hrd _ ((Nat.sub_le _ _).trans_lt hold), bit_eq_testBit, bit_eq_testBit, bit_eq_testBit, testBit_sub_and]
  case w1s =>
    simp only [WriteAcc.field]
    rw [hrd _ (Nat.or_lt_two_pow hold hv), bit_eq_testBit, bit_eq_testBit, bit_eq_testBit, Nat.testBit_or]
  case clamped => exact hrd _ ((clampN_le hlh).trans_lt hlt)
  case noted =>
    simp only [WriteAcc.field, ne_eq, clampN_eq_self_iff, not_not]
  case openLock =>
    simp only [WriteAcc.field, hopen]
    exact ⟨hrd _ hv, rfl⟩
  case shutLock =>
    simp only [WriteAcc.field, hshut]
    exact ⟨rfl, rfl⟩

/-- Settles O31: reads and writes agree on which addresses are words, and a window's words are its tenant's. -/
theorem addressesAndWindows : Obligations.AddressesAndWindows := by
  refine ⟨fun d src a v hnone => ?none, fun d src a v ha hsome => ?some, fun d t off v hnone => ?noTenant, fun d t u off v mgr htu => ?others,
    fun d t off v h20 hnotes => ?ownOnly, fun d t v x mgr hx => ?events⟩
  case none =>
    have hno : hasWord d a = false := by
      obtain h | ⟨hw, hs⟩ | ⟨t, off, hw, ht, hoff⟩ := hnone
      · simp [hasWord, h]
      · simp [hasWord, hw, hs]
      · simp [hasWord, hw, windowHole, ht, hoff]
    refine ⟨?_, ?_, ?_⟩
    · exact Option.isSome_eq_false_iff.1 ((isSome_peek d a).trans hno) |> Option.isNone_iff_eq_none.1
    · exact Option.isSome_eq_false_iff.1 ((isSome_readReg d src a).trans hno) |> Option.isNone_iff_eq_none.1
    · exact Option.isSome_eq_false_iff.1 ((isSome_writeReg d a v).trans hno) |> Option.isNone_iff_eq_none.1
  case some =>
    have hyes : hasWord d a = true := by
      obtain ⟨hw, hs⟩ | ⟨t, off, hw, hoff⟩ := hsome
      · simp [hasWord, ha, hw, hs]
      · cases ht : thas d.tenants t <;> simp [hasWord, ha, hw, windowHole, ht]
        exact hoff ht
    exact ⟨(isSome_peek d a).trans hyes, (isSome_readReg d src a).trans hyes, (isSome_writeReg d a v).trans hyes⟩
  case noTenant =>
    have hmod (f : Tenant → Tenant) : d.modTenant t f = d := by
      simp only [Dev.modTenant, tmod_of_none hnone]
    refine ⟨by simp only [Dev.windowWord, hnone], ?_⟩
    simp only [Dev.writeWindow, hmod, ite_self]
  case others =>
    have hmod (f : Tenant → Tenant) : tget (d.modTenant t f).tenants u = tget d.tenants u ∧ ({ d.modTenant t f with tenants := d.tenants } : Dev) = d :=
      ⟨(tget_tmod _ _ _ _).trans (if_neg (Ne.symm htu)), rfl⟩
    simp only [Dev.writeWindow]
    split
    · exact hmod _
    · split
      · exact hmod _
      · split
        · exact hmod _
        · exact ⟨rfl, rfl⟩
  case ownOnly =>
    simp only [Dev.writeWindow, if_neg h20, if_neg hnotes]
    rfl
  case events =>
    refine ⟨_, ?_, rfl⟩
    simp only [Dev.writeWindow, if_true, Dev.modTenant, tget_tmod, hx]
    rfl

/-- Settles O32: the latch of a pair is set by the read of its low word and spent by the read of its high word. -/
theorem latchedPairs : Obligations.LatchedPairs := by
  refine ⟨fun d src a w h hrise hlo hw hh => ⟨_, readReg_low hlo hw, fun k hk => ?_, fun f hf hlatch hsome => ?_⟩, fun d src a h hlo hh hnone => ?_⟩
  · rw [tget_tput, if_neg hk]
  · obtain ⟨w', hw'⟩ := Option.isSome_iff_exists.1 hsome
    rw [tget_tput, if_pos rfl, hh] at hlatch
    refine ⟨{ f with latches := tdel f.latches (latchKey src a) }, ?_, ?_, fun k hk => ?_⟩
    · exact readReg_high_latched hlo hw' hlatch
    · exact (tget_tdel _ _ _ hf).trans (if_pos rfl)
    · exact (tget_tdel _ _ _ hf).trans (if_neg hk)
  · exact readReg_high_free hlo hh hnone

/-- Settles O57: bytes are set one by one, and the words they lie in become good. -/
theorem tileMemoryLaws : Obligations.TileMemoryLaws := by
  intro m o b hwf
  have hset := tmem_setAll_wf b.zipIdx o m hwf
  have hbyte (a : Nat) : (m.write o b).byte a = if o ≤ a ∧ a < o + b.length then b.getD (a - o) 0 else m.byte a := byte_setAll b o 0 a m hwf
  have hbad : (b.zipIdx.foldl (fun m x => m.set (o + x.2) x.1) m).bad = m.bad := foldl_keeps Tmem.bad (fun _ _ => by rfl) _ _
  have hbits (w : Nat) : (m.write o b).badBits w = if o / 8 ≤ w ∧ w < ceilDiv (o + b.length) 8 then 0 else m.badBits w := by
    simp only [Tmem.badBits, Tmem.write, hbad]
    rw [tget_filter (fun w => !(decide (o / 8 ≤ w) && decide (w < ceilDiv (o + b.length) 8))) _ ((tmem_wf m).1 hwf).2.2.1]
    by_cases hin : o / 8 ≤ w ∧ w < ceilDiv (o + b.length) 8
    · rw [if_pos hin, if_neg (by simpa using hin)]
      rfl
    · rw [if_neg hin, if_pos (by simpa [Decidable.not_or_of_imp, imp_iff_not_or] using hin)]
  refine ⟨tmem_good_wf _ _ hset, ?read, fun a ha => ?frame, fun w h1 h2 => (hbits w).trans (if_pos ⟨h1, h2⟩), fun w hw => (hbits w).trans (if_neg (by omega)),
    fun v w => ⟨tmem_setBad_wf m w v hwf, ?bad, fun a => rfl⟩⟩
  case read =>
    refine List.ext_getElem (by simp [Tmem.read, upTo]) fun i h1 h2 => ?_
    simp only [Tmem.read, upTo, List.getElem_map, List.getElem_range, hbyte]
    rw [if_pos (by omega), Nat.add_sub_cancel_left, List.getD_eq_getElem _ _ h2]
  case frame => exact (hbyte a).trans (if_neg (by omega))
  case bad =>
    have hrise := ((tmem_wf m).1 hwf).2.2.1
    simp only [Tmem.badBits, Tmem.setBad]
    split
    next hz => rw [tget_tdel _ _ _ hrise, if_pos rfl, hz]; rfl
    next => rw [tget_tput, if_pos rfl]; rfl

end Sys2Proof.RegisterSettled

/-! SUPPORT. The statements DeviceOpcodes and DiagnosticOpcodes. -/

namespace Sys2Proof.DeviceProofs

open Sys2Proof.Machine Sys2Proof.Claims Sys2Proof.ReceiveProofs Sys2Proof.EndProofs Sys2Proof.FetchProofs Sys2Proof.RegisterProofs

/-- An opcode whose own outcome refuses its PARAM words is turned away with it. -/
theorem turnedAway_of_over {op : Op} {i : Msg → Instr} {ok : Dev → Cmd → Prop} {code : Code}
    (hexec : ∀ m s, exec (i m) s = onDev (fun d => d.receive op m) s) (hop : Judged op = true) (hparams : code.ofParams = true)
    (hrun : ∀ d id c, c.op = op → c.stage ≠ .done → ok d c → Over id code ((tried d id c).runOp id)) : TurnedAway i op ok code := by
  intro m k q t s hreach hsound hok
  have hover := hrun (taken m k q s.dev) (taken m k q s.dev).nextCmd (recordOf op m k q t s.dev) rfl nofun hok
  have hcode := paramCode_of_over hop (c := recordOf op m k q t s.dev) hparams hover
  rw [hexec, onDev_next, receive_of_reaches hreach, takeIn_of_check (code := code) (by rw [check_of_sound hsound, hcode]; rfl)]
  rfl

/-- An opcode that completes, its record kept. -/
theorem over_complete {d : Dev} {id : Nat} {c : Cmd} (code : Code) (retval : Nat) (hstage : c.stage ≠ .done) :
    Over id code ((tried d id c).complete id code retval) :=
  over_completeAs _ _ _ _ (tget_tried d id c) hstage

/-- The words of a part that a command is tried on are the part's. -/
theorem readReg_tried {d : Dev} {id src a : Nat} {c : Cmd} (h : d.readReg src a = none) : (tried d id c).readReg src a = none := by
  rw [← Option.isNone_iff_eq_none, ← Option.isSome_eq_false_iff, isSome_readReg] at h ⊢
  exact h

theorem writeReg_tried {d : Dev} {id a v : Nat} {c : Cmd} (h : d.writeReg a v = none) : (tried d id c).writeReg a v = none := by
  rw [← Option.isNone_iff_eq_none, ← Option.isSome_eq_false_iff, isSome_writeReg] at h ⊢
  exact h

theorem windowAddr_of_in {c : Cmd} (h4 : c.msg.address % 4 = 0) (hlast : c.msg.address ≤ 0xBC) : c.windowAddr = some (windowBase c.tenant + c.msg.address) :=
  if_neg (by omega)

theorem windowAddr_of_out {c : Cmd} (h : c.msg.address % 4 ≠ 0 ∨ 0xBC < c.msg.address) : c.windowAddr = none := if_pos h

/-- A REG_WRITE of a word comes to what the write does. -/
theorem runRegWrite_of_written {d : Dev} {id : Nat} {c : Cmd} {w : Written} (hc : tget d.cmds id = some c)
    (hw : d.writeReg c.msg.address c.msg.value = some w) : d.runRegWrite id = writtenBack id c w := by
  simp only [Dev.runRegWrite, hc, hw, writtenBack, noteIf]
  split
  · rfl
  · split
    · rfl
    · rfl

end Sys2Proof.DeviceProofs

namespace Sys2Proof.DeviceSettled

open Sys2Proof.Machine Sys2Proof.Claims Sys2Proof.ReceiveProofs Sys2Proof.EndProofs Sys2Proof.FetchProofs Sys2Proof.DeviceProofs

theorem writesReg (w : Written) : Runs .regWrite .regWrite (fun d _ c => d.writeReg c.msg.address c.msg.value = some w) (fun _ id c => writtenBack id c w) := by
  refine runs_of_runOp exec_regWrite rfl (by decide) fun d id c hc hb hw => ?_
  simp only [Dev.runOp, hc, hb.op_eq]
  exact runRegWrite_of_written hc hw

theorem stages (x : Image) : WithData .fwStage (fun d _ c => d.updating = false ∧ imageOf c.payload = some x ∧ d.imageSound x = true ∧
      d.boot.fuses ≤ imageSvn x ∧ d.boot.record.pending ≠ some (1 - d.boot.record.active)) (fun d id _ =>
    let images := (upTo 2).map fun s => if s = 1 - d.boot.record.active then some x else d.boot.images.getD s none
    { d with boot := { d.boot with images := images } }.firmwareRegs.succeed id (imageVersion x)) := by
  refine withData_of_runOp fun d id c hc hop ⟨hidle, hx, hsound, hsvn, hpending⟩ => ?_
  simp only [Dev.runOp, hc, hop, Dev.runFwStage, hidle, hx, hsound, if_neg (Nat.not_lt.2 hsvn), if_neg hpending]
  rfl

theorem entersPower : Runs .powerState .powerState (fun d _ c => c.msg.par 0x28 1 ≤ 4 ∧ d.isSet PWR_STAT_MOVING = false ∧
      d.rd PWR_STAT_STATE < c.msg.par 0x28 1 ∧ (d.streams.any fun e => e.2.isOpen && decide (e.2.cls = 2)) = false) (fun d id c =>
    let e := (d.wr PWR_STAT_TARGET (c.msg.par 0x28 1)).succeed id (d.rd PWR_STAT_STATE)
    let f := e.wr PWR_STAT_MOVING 1
    { f with power := { f.power with entering := some (c.msg.par 0x28 1), cmd := some id } }) := by
  refine runs_of_runOp exec_powerState rfl (by decide) fun d id c hc hb ⟨hle, hstill, hdeeper, hstreams⟩ => ?_
  have hhold : ¬(d.isSet PWR_STAT_THERMAL_HOLD = true ∧ c.msg.par 0x28 1 < d.rd PWR_STAT_STATE) := fun h => hdeeper.not_gt h.2
  simp only [Dev.runOp, hc, hb.op_eq, Dev.runPowerState, if_neg (Nat.not_lt.2 hle), hstill, if_neg hdeeper.ne', if_neg hhold, hstreams, if_neg hdeeper.not_gt]
  rfl

/-- Settles O27: what each opcode of the device family does, by the register, image, slot or state it names. -/
theorem deviceOpcodes : Obligations.DeviceOpcodes := by
  refine ⟨fun e w => ?regRead, ?noRead, writesReg, ?noWrite, fun e w => ?winRead, ?noWinRead, ?winWrite, ?noWinWrite,
    fetches_of_carrying exec_fwStage rfl (by decide), stages, fun x => ?unsound, fun x => ?rollback, fun x => ?activate, ?badActivate, entersPower, ?moving,
    ?events, fun r => ?ack, ?noRecord⟩
  case regRead =>
    refine runs_of_runOp exec_regRead rfl (by decide) fun d id c hc hb hr => ?_
    simp only [Dev.runOp, hc, hb.op_eq, Dev.runRegRead, Cmd.source, hr]
  case noRead =>
    refine turnedAway_of_ends exec_regRead rfl rfl fun d id c hop hnone => ⟨0, ?_⟩
    simp only [Dev.runOp, tget_tried, hop, Dev.runRegRead, Cmd.source, readReg_tried hnone]
  case noWrite =>
    refine turnedAway_of_ends exec_regWrite rfl rfl fun d id c hop hnone => ⟨0, ?_⟩
    simp only [Dev.runOp, tget_tried, hop, Dev.runRegWrite, writeReg_tried hnone]
  case winRead =>
    refine runs_of_runOp exec_winRead rfl (by decide) fun d id c hc hb ⟨h4, hlast, hr⟩ => ?_
    simp only [Dev.runOp, hc, hb.op_eq, Dev.runWinRead, windowAddr_of_in h4 hlast, Option.bind_some, Cmd.source, hr]
  case noWinRead =>
    refine turnedAway_of_ends exec_winRead rfl rfl fun d id c hop hout => ⟨0, ?_⟩
    simp only [Dev.runOp, tget_tried, hop, Dev.runWinRead, windowAddr_of_out hout, Option.bind_none]
  case winWrite =>
    refine runs_of_runOp exec_winWrite rfl (by decide) fun d id c hc hb ⟨h4, hlast⟩ => ?_
    simp only [Dev.runOp, hc, hb.op_eq, Dev.runWinWrite, windowAddr_of_in h4 hlast]
  case noWinWrite =>
    refine turnedAway_of_ends exec_winWrite rfl rfl fun d id c hop hout => ⟨0, ?_⟩
    simp only [Dev.runOp, tget_tried, hop, Dev.runWinWrite, windowAddr_of_out hout]
  case unsound =>
    refine withData_of_runOp fun d id c hc hop ⟨hidle, hx, hunsound⟩ => ?_
    simp only [Dev.runOp, hc, hop, Dev.runFwStage, hidle, hx, hunsound]
    rfl
  case rollback =>
    refine withData_of_runOp fun d id c hc hop ⟨hidle, hx, hsound, hsvn⟩ => ?_
    simp only [Dev.runOp, hc, hop, Dev.runFwStage, hidle, hx, hsound, if_pos hsvn]
    rfl
  case activate =>
    refine runs_of_runOp exec_fwActivate rfl (by decide) fun d id c hc hb ⟨hslot, hmode, hx, hother⟩ => ?_
    have hlegal : ¬(1 < c.msg.par 0x28 1 ∨ 1 < 0) := by omega
    simp only [Dev.runOp, hc, hb.op_eq, Dev.runFwActivate, hmode, if_neg hlegal, hx, hother, false_and, if_false, if_true]
  case badActivate =>
    refine turnedAway_of_over exec_fwActivate rfl rfl fun d id c hop hstage hbad => ?_
    simp only [Dev.runOp, tget_tried, hop, Dev.runFwActivate, if_pos hbad]
    exact over_complete _ _ hstage
  case moving =>
    refine runs_of_runOp exec_powerState rfl (by decide) fun d id c hc hb ⟨hle, hmoving⟩ => ?_
    simp only [Dev.runOp, hc, hb.op_eq, Dev.runPowerState, if_neg (Nat.not_lt.2 hle), hmoving, if_true]
  case events =>
    refine runs_of_runOp exec_eventRead rfl (by decide) fun d id c hc hb _ => ?_
    simp only [Dev.runOp, hc, hb.op_eq, Dev.runEventRead]
  case ack =>
    refine runs_of_runOp exec_thermalAck rfl (by decide) fun d id c hc hb hr => ?_
    simp only [Dev.runOp, hc, hb.op_eq, Dev.runThermalAck, hr]
  case noRecord =>
    refine turnedAway_of_over exec_thermalAck rfl rfl fun d id c hop hstage hnone => ?_
    have hnone' : (tried d id c).thermal.records[c.msg.par 0x28 1]? = none := hnone
    simp only [Dev.runOp, tget_tried, hop, Dev.runThermalAck, hnone']
    exact over_complete _ _ hstage

/-- Settles O28: what each opcode of the diagnostics family does. -/
theorem diagnosticOpcodes : Obligations.DiagnosticOpcodes := by
  refine ⟨?echo, ?kat, ?badKat, ?scrub, ?scrubSmall⟩
  case echo =>
    refine runs_of_runOp exec_echo rfl (by decide) fun d id c hc hb _ => ?_
    simp only [Dev.runOp, hc, hb.op_eq, Dev.runEcho, ends]
  case kat =>
    refine runs_of_runOp exec_katRun rfl (by decide) fun d id c hc hb ⟨hengine, hinst⟩ => ?_
    have hlegal : ¬(4 < c.msg.par 0x28 1 ∨ c.msg.par 0x29 1 ≠ 0xFF ∧ katCount (c.msg.par 0x28 1) ≤ c.msg.par 0x29 1) := by omega
    simp only [Dev.runOp, hc, hb.op_eq, Dev.runKatRun, if_neg hlegal]
  case badKat =>
    refine turnedAway_of_ends exec_katRun rfl rfl fun d id c hop hbad => ⟨0, ?_⟩
    simp only [Dev.runOp, tget_tried, hop, Dev.runKatRun, if_pos hbad]
  case scrub =>
    refine runs_of_runOp exec_tmemScrub rfl (by decide) fun d id c hc hb ⟨hfirst, hbytes, hend, hlen⟩ => ?_
    have hlegal : ¬(c.msg.par 0x28 8 % 8 ≠ 0 ∨ c.msg.par 0x30 8 % 8 ≠ 0 ∨ 0x10000000 < c.msg.par 0x28 8 + c.msg.par 0x30 8) := by omega
    simp only [Dev.runOp, hc, hb.op_eq, Dev.runTmemScrub, if_neg hlegal, if_neg (Nat.not_lt.2 hlen)]
  case scrubSmall =>
    refine runs_of_runOp exec_tmemScrub rfl (by decide) fun d id c hc hb ⟨hfirst, hbytes, hend, hlen⟩ => ?_
    have hlegal : ¬(c.msg.par 0x28 8 % 8 ≠ 0 ∨ c.msg.par 0x30 8 % 8 ≠ 0 ∨ 0x10000000 < c.msg.par 0x28 8 + c.msg.par 0x30 8) := by omega
    simp only [Dev.runOp, hc, hb.op_eq, Dev.runTmemScrub, if_neg hlegal, if_pos hlen, ends]

end Sys2Proof.DeviceSettled

/-! SUPPORT. The rows that are one access to a register: the frame of a row, what its REG_WRITE comes to, and the statements RegisterRows and
RegisterRowsMore. -/

namespace Sys2Proof.RowProofs

open Sys2Proof.Machine Sys2Proof.Claims Sys2Proof.StencilProofs Sys2Proof.ReceiveProofs Sys2Proof.EndProofs Sys2Proof.RegisterProofs Sys2Proof.DeviceProofs

/-! ### The frame of a row -/

theorem regFrame_address {m : Msg} {a v : Nat} (ha : a < 2 ^ 32) : (regFrame m a v).address = a := by
  simp only [Msg.address, Msg.par, regFrame, bits, BitVec.toNat_ofNat]
  omega

theorem regFrame_value {m : Msg} {a v : Nat} (hv : v < 2 ^ 32) : (regFrame m a v).value = v := by
  simp only [Msg.value, Msg.par, regFrame, bits, BitVec.toNat_ofNat]
  omega

theorem withBit_lt {b : Nat} (v : Word32) (hb : b < 32) : withBit b v < 2 ^ 32 := setBits_lt v.isLt hb

theorem bit_withBit (b : Nat) (v : Word32) : bit (withBit b v) b = true := by
  have h : bits (setBits v.toNat b 1 1) b 1 = 1 := bits_setBits_same ..
  rw [bits] at h
  exact decide_eq_true h

/-- Space reserved for a command leaves its frame. -/
theorem msg_reserve {d : Dev} {id : Nat} {c c' : Cmd} (h : tget d.cmds id = some c) : ∃ c₁, tget (d.reserve id c').cmds id = some c₁ ∧ c₁.msg = c.msg := by
  unfold Dev.reserve
  split
  · split
    · exact ⟨c, h, rfl⟩
    · exact ⟨_, tget_modCmd _ h, rfl⟩
  · exact ⟨c, h, rfl⟩

theorem msg_of_passes {op : Op} {m : Msg} {k : Nat} {q : Queue} {t : Tenant} {c : Cmd} {d : Dev} (h : Passes op m k q t d)
    (hc : tget (passed op m k q t d).cmds (idOf m k q d) = some c) : c.msg = m := by
  obtain ⟨-, -, -, -, -, -, -, -, -, -, -, -, -, c', hc', -, hm, -⟩ := h
  obtain ⟨c₁, hc₁, hm₁⟩ := msg_reserve (c' := c') hc'
  simp only [passed, hc', Dev.modCmd, tget_tmod, hc₁, Option.map_some, if_true] at hc
  obtain rfl := Option.some.inj hc
  exact hm₁.trans hm

/-! ### A register written -/

/-- The addresses a row may write: of one register table, whose first register is at base, and of no window. -/
def RowOf (base a : Nat) : Prop := a < 2 ^ 32 ∧ a % 4 = 0 ∧ windowOf a = none ∧ ∀ sp j, specAt a = some (sp, j) → sp.base = base

/-- Whether an address is such a one, by the tables. -/
def rowCheck (base a : Nat) : Bool :=
  decide (a < 2 ^ 32) && decide (a % 4 = 0) && (windowOf a).isNone && decide ((specAt a).map (fun s => s.1.base) = some base)

theorem rowOf_of_rowCheck {base a : Nat} (h : rowCheck base a = true) : RowOf base a := by
  simp only [rowCheck, Bool.and_eq_true, decide_eq_true_eq, Option.isNone_iff_eq_none] at h
  obtain ⟨⟨⟨hlt, h4⟩, hwin⟩, hspec⟩ := h
  exact ⟨hlt, h4, hwin, fun sp j hsp => by rw [hsp] at hspec; exact Option.some.inj hspec⟩

/-- The address that a row of an array writes is one of its registers'. -/
theorem rowOf_rowAddr {base stride n x : Nat} (hn : 0 < n) (h : ∀ i < n, RowOf base (base + stride * i)) : RowOf base (rowAddr base stride n x) := by
  unfold rowAddr
  split
  next hx =>
    obtain ⟨hle, hmod, hlt⟩ := hx
    have hx : x = base + stride * ((x - base) / stride) := by
      have := Nat.div_add_mod (x - base) stride
      omega
    rw [hx]
    exact h _ hlt
  next => exact h 0 hn

/-- What a write of a register comes to, where it is not refused. -/
theorem writeReg_of_rowOf {d : Dev} {base a v j : Nat} {sp : RegSpec} (ha : RowOf base a) (hsp : specAt a = some (sp, j))
    (hmeas : ¬(base = 0x380520 ∧ bit v 8 = true ∧ bits v 0 5 < 16)) :
    d.writeReg a v =
      let x := stored d sp j a v
      let e := x.dev.writeEffect d base j a v
      let r : Dev × Option Nat := if base = 0x090224 ∧ bit v 0 then e.writeBinding else (e, none)
      some { dev := r.1.settle, locked := x.locked, clamped := x.clamped, seq := r.2,
             group := if decide (base = 0x040000) && bit v 2 && r.1.groupHeld j then j + 1 else 0 } := by
  obtain ⟨-, h4, hwin, hbase⟩ := ha
  obtain rfl := hbase sp j hsp
  simp only [Dev.writeReg, if_neg (not_not.2 h4), hwin, hsp, if_neg hmeas, stored]
  rfl

/-- A row that is a REG_WRITE does what the write comes to. -/
theorem exec_of_written {i : Msg → Word32 → Instr} {m : Msg} {v : Word32} {a n k : Nat} {q : Queue} {t : Tenant} {c : Cmd} {w : Written} {s : State}
    (hexec : exec (i m v) s = onDev (fun d => d.writeRow m a n) s) (ha : a < 2 ^ 32) (hn : n < 2 ^ 32) (hpass : Passes .regWrite (regFrame m a n) k q t s.dev)
    (hc : tget (passed .regWrite (regFrame m a n) k q t s.dev).cmds (idOf (regFrame m a n) k q s.dev) = some c)
    (hw : (passed .regWrite (regFrame m a n) k q t s.dev).writeReg a n = some w) :
    exec (i m v) s = .next (withDev s (writtenBack (idOf (regFrame m a n) k q s.dev) c w).settle) := by
  have hb := begun_of_passes hpass hc
  have hmsg := msg_of_passes hpass hc
  have hw' : (passed .regWrite (regFrame m a n) k q t s.dev).writeReg c.msg.address c.msg.value = some w := by
    rwa [hmsg, regFrame_address ha, regFrame_value hn]
  have hrun : (passed .regWrite (regFrame m a n) k q t s.dev).runOp (idOf (regFrame m a n) k q s.dev) = writtenBack (idOf (regFrame m a n) k q s.dev) c w := by
    simp only [Dev.runOp, hc, hb.op_eq]
    exact runRegWrite_of_written hc hw'
  rw [hexec, onDev_next, Dev.writeRow, receive_of_passes hpass, if_neg (by decide), begin_of_plain rfl hc hb, hrun, withDev]

/-- A write that is not locked and waits for nothing is a row done. -/
theorem settle_writtenBack {id : Nat} {c : Cmd} {d : Dev} {clamped : Bool} {a : Nat} (ha : c.msg.address = a) :
    (writtenBack id c { dev := d.settle, locked := false, clamped := clamped, seq := none, group := 0 }).settle = rowDone id a clamped d := by
  simp only [writtenBack, rowDone, ha, Dev.waitPartner]
  rfl

/-- A row whose write waits for nothing. -/
theorem exec_of_plain {i : Msg → Word32 → Instr} {m : Msg} {v : Word32} {base a n k j : Nat} {q : Queue} {t : Tenant} {c : Cmd} {sp : RegSpec} {s : State}
    {e : Dev} (hexec : exec (i m v) s = onDev (fun d => d.writeRow m a n) s) (ha : RowOf base a) (hn : n < 2 ^ 32)
    (hplain : base ≠ 0x040000 ∧ base ≠ 0x090224) (hmeas : ¬(base = 0x380520 ∧ bit n 8 = true ∧ bits n 0 5 < 16))
    (hpass : Passes .regWrite (regFrame m a n) k q t s.dev)
    (hc : tget (passed .regWrite (regFrame m a n) k q t s.dev).cmds (idOf (regFrame m a n) k q s.dev) = some c) (hsp : specAt a = some (sp, j))
    (hopen : (stored (passed .regWrite (regFrame m a n) k q t s.dev) sp j a n).locked = false)
    (heff : Dev.writeEffect (stored (passed .regWrite (regFrame m a n) k q t s.dev) sp j a n).dev (passed .regWrite (regFrame m a n) k q t s.dev) base j a n = e) :
    exec (i m v) s = .next (withDev s (rowDone (idOf (regFrame m a n) k q s.dev) a
      (stored (passed .regWrite (regFrame m a n) k q t s.dev) sp j a n).clamped e)) := by
  have hw := writeReg_of_rowOf (d := passed .regWrite (regFrame m a n) k q t s.dev) ha hsp hmeas
  simp only [heff, hplain.1, hplain.2, decide_false, Bool.false_and, false_and, if_false, hopen, Bool.false_eq_true] at hw
  rw [exec_of_written hexec ha.1 hn hpass hc hw]
  refine congrArg (fun e => Host.Outcome.next (withDev s e)) (settle_writtenBack ?_)
  rw [msg_of_passes hpass hc, regFrame_address ha.1]

/-- A row of registers whose write waits for nothing. -/
theorem rowRuns_of_effect {i : Msg → Word32 → Instr} {addr : Msg → Nat} {val : Word32 → Nat} {ok : Dev → Nat → Prop} {eff : Dev → Dev → Nat → Nat → Dev}
    (base : Nat) (hexec : ∀ m v s, exec (i m v) s = onDev (fun d => d.writeRow m (addr m) (val v)) s) (haddr : ∀ m, RowOf base (addr m))
    (hval : ∀ v, val v < 2 ^ 32) (hplain : base ≠ 0x040000 ∧ base ≠ 0x090224)
    (hmeas : ∀ d v, ok d (val v) → ¬(base = 0x380520 ∧ bit (val v) 8 = true ∧ bits (val v) 0 5 < 16))
    (heff : ∀ d d0 j a v, ok d0 (val v) → Dev.writeEffect d d0 base j a (val v) = eff d d0 j (val v)) : RowRuns i addr val ok eff :=
  fun m v _ _ _ _ _ _ s hpass hc hsp hok hopen =>
    exec_of_plain (hexec m v s) (haddr m) (hval v) hplain (hmeas _ _ hok) hpass hc hsp hopen (heff _ _ _ _ _ hok)

/-- A test of tile memory under the operation that TMEM_TPAR names. -/
theorem onDev_testRow {m : Msg} {n : Nat} {v : Word32} {s : State} (hop : s.dev.rd TMEM_TPAR_OP = n) :
    onDev (fun d => d.testRow m n v) s = onDev (fun d => d.writeRow m 0x440004 (withBit 29 v)) s := by
  rw [onDev_next, onDev_next, Dev.testRow, if_pos hop]
  rfl

/-- A row that writes one register. -/
theorem rowOf_at {base : Nat} (h : rowCheck base base = true) (m : Msg) : RowOf base (at_ base m) := rowOf_of_rowCheck h

/-- A row that writes one register of an array, whose other registers are the same table's. -/
theorem rowOf_in {base stride n : Nat} (hn : 0 < n) (h : (List.range n).all (fun i => rowCheck base (base + stride * i)) = true) (m : Msg) :
    RowOf base (in_ base stride n m) :=
  rowOf_rowAddr hn fun i hi => rowOf_of_rowCheck (List.all_eq_true.1 h i (List.mem_range.2 hi))

section Rows

variable {i : Msg → Word32 → Instr} {addr : Msg → Nat} {ok : Dev → Nat → Prop} {eff : Dev → Dev → Nat → Nat → Dev}

/-- A row that sets a bit of a register. -/
theorem rowRuns_bit {base b : Nat} (hexec : ∀ m v s, exec (i m v) s = onDev (fun d => d.writeRow m (addr m) (withBit b v)) s)
    (haddr : ∀ m, RowOf base (addr m)) (hb : b < 32) (hplain : base ≠ 0x040000 ∧ base ≠ 0x090224 ∧ base ≠ 0x380520)
    (heff : ∀ d d0 j a w, bit w b = true → ok d0 w → Dev.writeEffect d d0 base j a w = eff d d0 j w) : RowRuns i addr (withBit b) ok eff :=
  rowRuns_of_effect base hexec haddr (fun v => withBit_lt v hb) ⟨hplain.1, hplain.2.1⟩ (fun _ _ _ h => hplain.2.2 h.1) fun _ _ _ _ v h =>
    heff _ _ _ _ _ (bit_withBit b v) h

/-- A row that writes a register's whole word. -/
theorem rowRuns_word {base : Nat} (hexec : ∀ m v s, exec (i m v) s = onDev (fun d => d.writeRow m (addr m) (whole v)) s)
    (haddr : ∀ m, RowOf base (addr m)) (hplain : base ≠ 0x040000 ∧ base ≠ 0x090224 ∧ base ≠ 0x380520)
    (heff : ∀ d d0 j a w, ok d0 w → Dev.writeEffect d d0 base j a w = eff d d0 j w) : RowRuns i addr whole ok eff :=
  rowRuns_of_effect base hexec haddr (fun v => v.isLt) ⟨hplain.1, hplain.2.1⟩ (fun _ _ _ h => hplain.2.2 h.1) fun _ _ _ _ _ h => heff _ _ _ _ _ h

end Rows

/-- A REG_READ of a word. -/
theorem receive_of_read {m : Msg} {k w : Nat} {q : Queue} {t : Tenant} {c : Cmd} {d e : Dev} (hpass : Passes .regRead m k q t d)
    (hc : tget (passed .regRead m k q t d).cmds (idOf m k q d) = some c)
    (hread : (passed .regRead m k q t d).readReg c.qkey c.msg.address = some (e, w)) : d.receive .regRead m = (e.succeed (idOf m k q d) w).settle := by
  have hb := begun_of_passes hpass hc
  rw [receive_of_passes hpass, if_neg (by decide), begin_of_plain rfl hc hb]
  simp only [Dev.runOp, hc, hb.op_eq, Dev.runRegRead, Cmd.source, hread]

/-- What a read of DIG_MEAS_DATA's first word latches and gives. -/
def measRead (d : Dev) : Dev × Nat :=
  ({ d with boot := { d.boot with measLatch := d.meas (d.rd DIG_MEAS_SEL_INDEX) } }, le (d.meas (d.rd DIG_MEAS_SEL_INDEX)) 0 4)

theorem readReg_measData (d : Dev) (src : Nat) : d.readReg src 0x380540 = some (measRead d) := by
  have hword : (d.peek 0x380540).isSome = true := (isSome_peek d _).trans rfl
  obtain ⟨w, hw⟩ := Option.isSome_iff_exists.1 hword
  simp only [Dev.readReg, hw, if_true]
  rfl

end Sys2Proof.RowProofs

namespace Sys2Proof.RowSettled

open Sys2Proof.Machine Sys2Proof.Claims Sys2Proof.StencilProofs Sys2Proof.ReceiveProofs Sys2Proof.EndProofs Sys2Proof.RegisterProofs Sys2Proof.DeviceProofs Sys2Proof.RowProofs

/-- Settles O33: each row's word is stored, and starts what its register's write starts. -/
theorem registerRows : Obligations.RegisterRows := by
  refine ⟨
    rowRuns_bit exec_ledgerTest (rowOf_at rfl) (by decide) (by decide) fun _ _ _ _ _ _ _ => rfl,
    rowRuns_bit exec_coreRetire (rowOf_at rfl) (by decide) (by decide) fun _ _ _ _ _ hbit hok => by simp only [Dev.writeEffect, hbit, hok 1 (by decide)
      (by decide), hok 2 (by decide) (by decide), Bool.false_eq_true, if_true, if_false],
    rowRuns_bit exec_histClear (rowOf_at rfl) (by decide) (by decide) fun _ _ _ _ _ hbit hok => by simp only [Dev.writeEffect, hbit, hok 0 (by decide) (by
      decide), hok 2 (by decide) (by decide), Bool.false_eq_true, if_true, if_false],
    rowRuns_bit exec_selftestNow (rowOf_at rfl) (by decide) (by decide) fun _ _ _ _ _ hbit hok => by simp only [Dev.writeEffect, hbit, hok 0 (by decide)
      (by decide), hok 1 (by decide) (by decide), Bool.false_eq_true, if_true, if_false],
    rowRuns_bit exec_flpRetrainForce (rowOf_in (by decide) rfl) (by decide) (by decide) fun _ _ _ _ _ hbit _ => by simp only [Dev.writeEffect, hbit,
      if_true],
    rowRuns_bit exec_fwConfirm (rowOf_at rfl) (by decide) (by decide) fun _ _ _ _ _ hbit _ => by simp only [Dev.writeEffect, hbit, if_true],
    rowRuns_bit exec_groupCreate (rowOf_at rfl) (by decide) (by decide) fun _ _ _ _ _ hbit hok => by simp only [Dev.writeEffect, Dev.groupControl, hbit,
      hok 1 (by decide) (by decide), hok 2 (by decide) (by decide), hok 3 (by decide) (by decide), hok 4 (by decide) (by decide), Bool.false_eq_true,
      if_true, if_false],
    rowRuns_bit exec_groupDissolve (rowOf_at rfl) (by decide) (by decide) fun _ _ _ _ _ hbit hok => by simp only [Dev.writeEffect, Dev.groupControl, hbit,
      hok 0 (by decide) (by decide), hok 2 (by decide) (by decide), hok 3 (by decide) (by decide), hok 4 (by decide) (by decide), Bool.false_eq_true,
      if_true, if_false],
    rowRuns_bit exec_groupResume (rowOf_at rfl) (by decide) (by decide) fun _ _ _ _ _ hbit hok => by simp only [Dev.writeEffect, Dev.groupControl, hbit,
      hok 0 (by decide) (by decide), hok 1 (by decide) (by decide), hok 3 (by decide) (by decide), hok 4 (by decide) (by decide), Bool.false_eq_true,
      if_true, if_false],
    rowRuns_bit exec_groupRebuild (rowOf_at rfl) (by decide) (by decide) fun _ _ _ _ _ hbit hok => by simp only [Dev.writeEffect, Dev.groupControl, hbit,
      hok 0 (by decide) (by decide), hok 1 (by decide) (by decide), hok 2 (by decide) (by decide), hok 4 (by decide) (by decide), Bool.false_eq_true,
      if_true, if_false],
    rowRuns_bit exec_groupRehome (rowOf_at rfl) (by decide) (by decide) fun _ _ _ _ _ hbit hok => by simp only [Dev.writeEffect, Dev.groupControl, hbit,
      hok 0 (by decide) (by decide), hok 1 (by decide) (by decide), hok 2 (by decide) (by decide), hok 3 (by decide) (by decide), Bool.false_eq_true,
      if_true, if_false],
    rowRuns_word exec_tenBsel (rowOf_at rfl) (by decide) fun _ _ _ _ _ _ => rfl,
    rowRuns_bit exec_stnLookup (rowOf_at rfl) (by decide) (by decide) fun _ _ _ _ _ hbit hok => by simp only [Dev.writeEffect, hbit, show bit _ _ = false
      from hok, Bool.false_eq_true, if_true, if_false],
    rowRuns_bit exec_lookupStep (rowOf_at rfl) (by decide) (by decide) fun _ _ _ _ _ hbit hok => by simp only [Dev.writeEffect, hbit, show bit _ _ = false
      from hok, Bool.false_eq_true, if_true, if_false],
    rowRuns_word exec_stnBankAssign (rowOf_in (by decide) rfl) (by decide) fun _ _ _ _ _ _ => rfl,
    rowRuns_word exec_hotBanks (rowOf_at rfl) (by decide) fun _ _ _ _ _ _ => rfl,
    rowRuns_of_effect 0x380520 exec_measExtend (rowOf_at rfl) (fun v => withBit_lt v (by decide)) (by decide) (fun _ _ hok h => Nat.not_lt.2 hok h.2.2)
      fun _ _ _ _ _ _ => rfl,
    ?measData, ?lowWord⟩
  case measData =>
    intro m k q t c s hpass hc
    rw [exec_digMeasDataRead, execDigMeasDataRead, onDev_next]
    refine congrArg (fun e => Host.Outcome.next (withDev s e)) (receive_of_read hpass hc ?_)
    rw [msg_of_passes hpass hc, regFrame_address (by decide), readReg_measData]
    rfl
  case lowWord =>
    intro m k q t c w s hlo hpass hc hw
    rw [exec_loReadLatch, execLoReadLatch, onDev_next, if_pos hlo]
    refine congrArg (fun e => Host.Outcome.next (withDev s e)) (receive_of_read hpass hc ?_)
    rw [msg_of_passes hpass hc]
    exact readReg_low hlo hw

/-- Settles O34: each row's word is stored, and starts what its register's write starts; two rows' answers wait. -/
theorem registerRowsMore : Obligations.RegisterRowsMore := by
  refine ⟨
    rowRuns_bit exec_handback (rowOf_at rfl) (by decide) (by decide) fun _ _ _ _ _ hbit hok => by simp only [Dev.writeEffect, hbit, hok 1 (by decide) (by
      decide), hok 2 (by decide) (by decide), Bool.false_eq_true, if_true, if_false],
    rowRuns_bit exec_acceptNew (rowOf_at rfl) (by decide) (by decide) fun _ _ _ _ _ hbit hok => by simp only [Dev.writeEffect, hbit, hok 0 (by decide) (by
      decide), hok 2 (by decide) (by decide), Bool.false_eq_true, if_true, if_false],
    rowRuns_bit exec_peerCtlRekey (rowOf_at rfl) (by decide) (by decide) fun _ _ _ _ _ hbit hok => by simp only [Dev.writeEffect, hbit, hok 0 (by decide)
      (by decide), hok 1 (by decide) (by decide), Bool.false_eq_true, if_true, if_false],
    rowRuns_bit exec_paceReload (rowOf_in (by decide) rfl) (by decide) (by decide) fun _ _ _ _ _ hbit _ => by simp only [Dev.writeEffect, hbit, if_true],
    rowRuns_bit exec_timeSet (rowOf_at rfl) (by decide) (by decide) fun _ _ _ _ _ hbit _ => by simp only [Dev.writeEffect, hbit, if_true],
    rowRuns_bit exec_timeCtlLock (rowOf_at rfl) (by decide) (by decide) fun _ _ _ _ _ _ hok => by simp only [Dev.writeEffect, show bit _ _ = false from
      hok, Bool.false_eq_true, if_false, storedOnly],
    rowRuns_bit exec_ethCtlLock (rowOf_at rfl) (by decide) (by decide) fun _ _ _ _ _ _ _ => ite_self _,
    rowRuns_bit exec_tmemCtlLock (rowOf_at rfl) (by decide) (by decide) fun _ _ _ _ _ _ _ => ite_self _,
    rowRuns_bit exec_pwrRailLock (rowOf_in (by decide) rfl) (by decide) (by decide) fun _ _ _ _ _ _ _ => ite_self _,
    rowRuns_bit exec_pwrAuxLock (rowOf_in (by decide) rfl) (by decide) (by decide) fun _ _ _ _ _ _ _ => ite_self _,
    rowRuns_bit exec_thmCfgLock (rowOf_at rfl) (by decide) (by decide) fun _ _ _ _ _ _ _ => rfl,
    rowRuns_bit exec_addrWrite (rowOf_at rfl) (by decide) (by decide) fun _ _ _ _ _ hbit hok => by simp only [Dev.writeEffect, hbit, show bit _ _ = false
      from hok, Bool.false_eq_true, if_true, if_false],
    rowRuns_bit exec_cmConnect (rowOf_at rfl) (by decide) (by decide) fun _ _ _ _ _ hbit hok => by simp only [Dev.writeEffect, hbit, show bit _ _ = false
      from hok, Bool.false_eq_true, if_true, if_false],
    rowRuns_bit exec_tmemClaim (rowOf_at rfl) (by decide) (by decide) fun _ _ _ _ _ hbit hok => by simp only [Dev.writeEffect, hbit, show bit _ _ = false
      from hok, Bool.false_eq_true, if_true, if_false],
    rowRuns_bit exec_tmemRelease (rowOf_at rfl) (by decide) (by decide) fun _ _ _ _ _ hbit _ => by simp only [Dev.writeEffect, hbit, if_true],
    rowRuns_bit exec_scrubStart (rowOf_at rfl) (by decide) (by decide) fun _ _ _ _ _ hbit _ => by simp only [Dev.writeEffect, hbit, if_true],
    ?test, ?binding, ?group⟩
  case test =>
    intro m v k q t c sp j s hpass hc hsp h28 hopen
    have hact : Dev.writeEffect (stored (passed .regWrite (regFrame m 0x440004 (withBit 29 v)) k q t s.dev) sp j 0x440004 (withBit 29 v)).dev
        (passed .regWrite (regFrame m 0x440004 (withBit 29 v)) k q t s.dev) 0x440004 j 0x440004 (withBit 29 v) =
        (stored (passed .regWrite (regFrame m 0x440004 (withBit 29 v)) k q t s.dev) sp j 0x440004 (withBit 29 v)).dev.testAct := by
      simp only [Dev.writeEffect, h28, bit_withBit, Bool.false_eq_true, if_false, if_true]
    have hrow (i : Msg → Word32 → Instr) (hexec : exec (i m v) s = onDev (fun d => d.writeRow m 0x440004 (withBit 29 v)) s) :
        exec (i m v) s = .next (withDev s (rowDone (idOf (regFrame m 0x440004 (withBit 29 v)) k q s.dev) 0x440004
          (stored (passed .regWrite (regFrame m 0x440004 (withBit 29 v)) k q t s.dev) sp j 0x440004 (withBit 29 v)).clamped
          (stored (passed .regWrite (regFrame m 0x440004 (withBit 29 v)) k q t s.dev) sp j 0x440004 (withBit 29 v)).dev.testAct)) :=
      exec_of_plain hexec (rowOf_at rfl m) (withBit_lt v (by decide)) (by decide) (fun h => absurd h.1 (by decide)) hpass hc hsp hopen hact
    refine ⟨fun hop => hrow .tmemTestWrite ?_, fun hop => hrow .tmemTestRead ?_, fun hop => hrow .tmemInject ?_⟩
    · exact onDev_testRow hop
    · exact onDev_testRow hop
    · exact onDev_testRow hop
  case binding =>
    intro m v k q t c sp j s hpass hc hsp hopen
    have hrow : RowOf 0x90224 0x90224 := rowOf_at rfl m
    have hw := writeReg_of_rowOf (d := passed .regWrite (regFrame m 0x90224 (withBit 0 v)) k q t s.dev) (v := withBit 0 v) hrow hsp
      fun h => absurd h.1 (by decide)
    have heff (d d0 : Dev) (a w : Nat) : Dev.writeEffect d d0 0x90224 j a w = d := ite_self _
    simp only [heff, bit_withBit, hopen, and_self, if_true] at hw
    exact exec_of_written (exec_tenBctlWrite m v s) (by decide) (withBit_lt v (by decide)) hpass hc hw
  case group =>
    intro m v k q t c sp j s a hpass hc hsp hopen
    have ha : RowOf 0x40000 a := rowOf_in (by decide) rfl m
    have hw := writeReg_of_rowOf (d := passed .regWrite (regFrame m a (whole v)) k q t s.dev) (v := whole v) ha hsp fun h => absurd h.1 (by decide)
    have heff (d d0 : Dev) (a w : Nat) : Dev.writeEffect d d0 0x40000 j a w = d.groupWritten j := rfl
    simp only [heff, hopen] at hw
    exact exec_of_written (exec_ethGcfgWrite m v s) ha.1 v.isLt hpass hc hw

end Sys2Proof.RowSettled

/-! SUPPORT. Commands that are no frames: what a row does, told by its change of the part; and the statements TransferCommands, ReleaseCommands and
SchedulerCommands. -/

namespace Sys2Proof.DoesProofs

open Sys2Proof.Machine Sys2Proof.Claims Sys2Proof.SegmentProofs

variable {c : Instr} {ok : Dev → Prop} {f g : Dev → Dev}

/-- A row that makes the part what g makes of it does f wherever g is f. -/
theorem does_of (hexec : ∀ s, exec c s = onDev g s) (h : ∀ d, ok d → g d = f d) : Does c ok f := by
  intro s hok
  rw [hexec, onDev_next, h _ hok, withDev]

theorem foldl_fixed {α β : Type} {f : β → α → β} {b : β} {l : List α} (h : ∀ a ∈ l, f b a = b) : l.foldl f b = b := by
  induction l with
  | nil => rfl
  | cons a r ih =>
    rw [List.forall_mem_cons] at h
    rw [List.foldl_cons, h.1, ih h.2]

theorem cmds_endXfer (d : Dev) (x : Nat) : (d.endXfer x).cmds = d.cmds := by
  simp only [Dev.endXfer, Dev.endXfers]
  rw [foldl_keeps Dev.cmds fun _ _ => by rfl]

end Sys2Proof.DoesProofs

namespace Sys2Proof.TransferSettled

open Sys2Proof.Machine Sys2Proof.Claims Sys2Proof.DoesProofs Sys2Proof.FetchProofs

/-- An audit that finds every pool's map right is counted. -/
theorem audits : Does .ledgerAudit (fun d => ∀ p < 5, (d.pool p).audit p = true) (fun d => d.addWrap FLT_LEDGER_AUDIT_AUDITS 1) := by
  refine does_of exec_ledgerAudit fun d hall => foldl_fixed fun p hp => ?_
  have hp' : ((d.addWrap FLT_LEDGER_AUDIT_AUDITS 1).pool p).audit p = true := hall p (List.mem_range.1 hp)
  exact if_pos hp'

/-- Settles O35: each row as the request, transfer or pool it names stands. -/
theorem transferCommands : Obligations.TransferCommands := by
  refine ⟨fun pool i r f => ?grant, fun pool => ?noGrant, fun h => ?release, audits, fun x data t c => ?list, fun x data t c off => ?more,
    fun x data t c off => ?piece, fun x data t c off => ?chunk, fun x t => ?ack, fun x t => ?fail, fun x t => ?failBitmap, fun x data => ?noRead,
    fun x => ?noAck, fun x => ?noFail, fun x t data => ?unposted, fun x t => ?unpostedFail⟩
  case grant =>
    refine does_of (exec_bufferGrant pool) fun d hnext => ?_
    simp only [hnext, unqueued]
  case noGrant =>
    refine does_of (exec_bufferGrant pool) fun d hnone => ?_
    simp only [hnone]
  case release => exact does_of (exec_bufferRelease h) fun d _ => rfl
  case list =>
    refine does_of (exec_rdmaReadResponse x data) fun d ⟨hx, hread, hposted, hdump, hc, hload⟩ => ?_
    have hgo : ¬((!t.read) = true ∨ d.dumping = true ∨ (!d.posted x t) = true) := by simp [hread, hposted, hdump]
    have hc' : tget (d.endXfer x).cmds t.cmd = some c := (cmds_endXfer d x).symm ▸ hc
    simp only [hx, if_neg hgo, hc', hload, without]
  case more =>
    refine does_of (exec_rdmaReadResponse x data) fun d ⟨hx, hread, hposted, hdump, hc, hload, hop, hmore⟩ => ?_
    have hgo : ¬((!t.read) = true ∨ d.dumping = true ∨ (!d.posted x t) = true) := by simp [hread, hposted, hdump]
    have hc' : tget (d.endXfer x).cmds t.cmd = some c := (cmds_endXfer d x).symm ▸ hc
    rw [without] at hmore
    simp only [hx, if_neg hgo, hc', hload, if_pos hop, if_pos hmore, without]
  case piece =>
    refine does_of (exec_rdmaReadResponse x data) fun d ⟨hx, hread, hposted, hdump, hc, hload, hop, hall⟩ => ?_
    have hgo : ¬((!t.read) = true ∨ d.dumping = true ∨ (!d.posted x t) = true) := by simp [hread, hposted, hdump]
    have hc' : tget (d.endXfer x).cmds t.cmd = some c := (cmds_endXfer d x).symm ▸ hc
    rw [without] at hall
    simp only [hx, if_neg hgo, hc', hload, if_pos hop, hall, Bool.false_eq_true, if_false, without]
  case chunk =>
    refine does_of (exec_rdmaReadResponse x data) fun d ⟨hx, hread, hposted, hdump, hc, hload, hop, hall⟩ => ?_
    have hgo : ¬((!t.read) = true ∨ d.dumping = true ∨ (!d.posted x t) = true) := by simp [hread, hposted, hdump]
    have hc' : tget (d.endXfer x).cmds t.cmd = some c := (cmds_endXfer d x).symm ▸ hc
    rw [without] at hall
    simp only [hx, if_neg hgo, hc', hload, if_neg hop, hall, Bool.false_eq_true, if_false, without]
  case ack =>
    refine does_of (exec_rdmaWriteAck x) fun d ⟨hx, hwrite⟩ => ?_
    simp only [hx, hwrite, Bool.false_eq_true, if_false, without]
  case fail =>
    refine does_of (exec_transferFail x) fun d ⟨hx, hposted, hload⟩ => ?_
    simp only [hx, hposted, Bool.not_true, Bool.false_eq_true, if_false, if_neg hload, without]
  case failBitmap =>
    refine does_of (exec_transferFail x) fun d ⟨hx, hposted, hload⟩ => ?_
    simp only [hx, hposted, Bool.not_true, Bool.false_eq_true, if_false, if_pos hload, without]
  case noRead =>
    refine does_of (exec_rdmaReadResponse x data) fun d hnone => ?_
    simp only [hnone, id]
  case noAck =>
    refine does_of (exec_rdmaWriteAck x) fun d hnone => ?_
    simp only [hnone, id]
  case noFail =>
    refine does_of (exec_transferFail x) fun d hnone => ?_
    simp only [hnone, id]
  case unposted =>
    refine does_of (exec_rdmaReadResponse x data) fun d ⟨hx, hwaits⟩ => ?_
    simp only [hx, hwaits, Bool.not_false, or_true, if_true, id]
  case unpostedFail =>
    refine does_of (exec_transferFail x) fun d ⟨hx, hwaits⟩ => ?_
    simp only [hx, hwaits, Bool.not_false, if_true, id]

end Sys2Proof.TransferSettled

namespace Sys2Proof.ReleaseSettled

open Sys2Proof.Machine Sys2Proof.Claims Sys2Proof.DoesProofs

theorem goOn_of_held {d : Dev} {cmd : Nat} {h : Hold} (hheld : heldFor cmd h d) : d.goOn cmd h = (d.tryPass cmd).settle := by
  obtain ⟨c, hc, hstage, hhold, hwhy⟩ := hheld
  simp only [Dev.goOn, hc, if_pos (And.intro hstage (And.intro hhold hwhy))]

theorem goOn_of_not_held {d : Dev} {cmd : Nat} {h : Hold} (hnot : ¬heldFor cmd h d) : d.goOn cmd h = d := by
  unfold Dev.goOn
  split
  · rfl
  next c hc => exact if_neg fun hgone => hnot ⟨c, hc, hgone⟩

/-- Settles O36: a row lets its command go on exactly where its reason is gone. -/
theorem releaseCommands : Obligations.ReleaseCommands := by
  refine ⟨fun i h hih cmd => ?_, fun cmd c => ⟨?hazard, ?stays⟩⟩
  · have hexec : ∀ s, exec (i cmd) s = onDev (fun d => d.goOn cmd h) s := by
      simp only [List.mem_cons, Prod.mk.injEq, List.mem_nil_iff, or_false] at hih
      obtain ⟨rfl, rfl⟩ | ⟨rfl, rfl⟩ | ⟨rfl, rfl⟩ | ⟨rfl, rfl⟩ | ⟨rfl, rfl⟩ := hih
      all_goals exact fun _ => rfl
    exact ⟨does_of hexec fun _ => goOn_of_held, does_of hexec fun _ => goOn_of_not_held⟩
  case hazard =>
    refine does_of (exec_hazardRelease cmd) fun d ⟨hc, hhold, hfree⟩ => ?_
    simp only [hc, if_pos (And.intro hhold hfree)]
  case stays =>
    refine does_of (exec_hazardRelease cmd) fun d ⟨hc, hstays⟩ => ?_
    have hnot : ¬(c.hold = .hazard ∧ d.hazardFree cmd c = true) := fun ⟨h, hfree⟩ => hstays.elim (· h) fun hbusy => nomatch hbusy.symm.trans hfree
    simp only [hc, if_neg hnot, id]

end Sys2Proof.ReleaseSettled

namespace Sys2Proof.SchedulerProofs

open Sys2Proof.Machine Sys2Proof.Claims Sys2Proof.DoesProofs

/-- The part with the task a producer makes. -/
def created (d : Dev) (q : TaskPlan) (c : Cmd) (cmd grain entry : Nat) (start : Option Nat) (b : Bool) : Dev :=
  let e := d.loadProg q.prog
  let ti := e.sched.freshTask
  let r := (grainRef c grain entry).elim e e.takeRef
  (taskMade { r with sched := { r.sched with
    tasks := tput r.sched.tasks ti (newTask e q c cmd grain entry ti start b), waiting := r.sched.waiting.filter (· ≠ (cmd, grain, entry))
    refWaits := r.sched.refWaits.filter (· ≠ (cmd, grain, entry)) } }
    cmd grain entry).schedRegs

end Sys2Proof.SchedulerProofs

namespace Sys2Proof.SchedulerSettled

open Sys2Proof.Machine Sys2Proof.Claims Sys2Proof.DoesProofs Sys2Proof.SchedulerProofs

section Create

variable {cmd grain entry : Nat} {start : Option Nat} {q : TaskPlan} {c : Cmd} {p : Prog} {b : Bool}

/-- What TASK_CREATE does to a part once its plan, command and program stand: its producer waits, or the task is made. -/
theorem exec_taskCreate_of_plan {s : State} (hq : s.dev.plan cmd grain entry = some q) (hc : tget s.dev.cmds cmd = some c)
    (hp : tget s.dev.progs q.prog = some p) (hloaded : p.loaded = true) (hentry : (p.entries.getD entry none).isSome) :
    exec (.taskCreate cmd grain ⟨entry, start⟩) s = .next (withDev s (
      if blocked s.dev (cmd, grain, entry) q.claim = true ∨ start.isSome = true ∧ (!s.dev.sched.posts.isEmpty) = true then
        waitsFor s.dev (cmd, grain, entry)
      else match s.dev.maySlots (1 + declaredSlots entry) q.claim with
        | none => waitsFor s.dev (cmd, grain, entry)
        | some b => if (grainRef c grain entry).any s.dev.refFull then (waitsFor s.dev (cmd, grain, entry)).taskRefWait (cmd, grain, entry) else
          created s.dev q c cmd grain entry start b)) := by
  have hready : ¬((!p.loaded) = true ∨ (p.entries.getD entry none).isNone = true) := by
    rw [hloaded, Option.isNone_eq_false_iff.2 hentry]
    simp
  simp only [exec_taskCreate, execTaskCreate, onDev_next, hq, hc, hp, if_neg hready]
  refine congrArg (fun e => Host.Outcome.next (withDev s e)) ?_
  refine if_congr Iff.rfl rfl ?_
  cases s.dev.maySlots (1 + declaredSlots entry) q.claim with
  | none => rfl
  | some b =>
    refine if_congr Iff.rfl rfl ?_
    rcases entry with _ | _ | _ | entry <;> rfl

end Create

/-- What the first miss of a task's deadline makes of its command, by the task's entry (R569). -/
def afterMiss (t : Machine.Task) (d : Dev) : Dev :=
  match t.entry with
  | 0 => d.modCmd t.cmd fun c => if c.missCause = 0xF then { c with missCause := 5 } else c
  | 1 => d
  | _ => match tget d.cmds t.cmd with
    | some c => (d.endCmd t.cmd .scanTimeout c.applied 0).settle
    | none => d

/-- The row of a deadline that has passed and was not yet missed. -/
theorem taskDeadline_does {task e : Nat} {t : Machine.Task} {ok : Dev → Prop} {f : Dev → Dev} (h : ∀ d, ok d → d.task task = some t ∧
    t.deadline = some e ∧ t.missed = false ∧ e ≤ d.now ∧ afterMiss t (missed d task t) = f d) : Does (.taskDeadline task) ok f := by
  refine does_of (exec_taskDeadline task) fun d hok => ?_
  obtain ⟨ht, hdeadline, hmissed, hover, hf⟩ := h d hok
  have hlate : ¬(t.missed = true ∨ d.now < e) := by simp [hmissed, hover]
  simp only [ht, hdeadline]
  exact (if_neg hlate).trans hf

/-- Settles O37: each row as the producer, token, task or core it names stands. -/
theorem schedulerCommands : Obligations.SchedulerCommands := by
  refine ⟨fun cmd grain entry start q c p b => ?create, fun cmd grain entry start q c p => ?createWaits, fun cmd grain entry start q c p b => ?refWaits,
    fun task gen slot t x => ?tokenLast, fun task gen slot t x => ?token, fun task gen slot t => ?stale, fun ti c => ?place, fun c ti t p => ?dispatch,
    fun task t a b c => ?answer, fun c => ?wake, fun c => ?noWake, fun task t e => ?lateFilter, fun task t e => ?lateHook, fun task t e c => ?lateScan,
    fun task t => ?inTime, fun c => ?testPass, fun c => ?testFail, fun c ti t => ?stall, fun c => ?noStall⟩
  case create =>
    rintro s ⟨hq, hc, hp, hloaded, hentry, hfree, hstart, hslots, href⟩
    have hfirst : ¬(blocked s.dev (cmd, grain, entry) q.claim = true ∨ start.isSome = true ∧ (!s.dev.sched.posts.isEmpty) = true) := by
      rw [hfree]
      obtain rfl | hposts := hstart
      · simp
      · simp [hposts]
    rw [exec_taskCreate_of_plan hq hc hp hloaded hentry, if_neg hfirst, hslots]
    simp only [href, Bool.false_eq_true, if_false, created]
  case createWaits =>
    rintro s ⟨hq, hc, hp, hloaded, hentry, hwait⟩
    rw [exec_taskCreate_of_plan hq hc hp hloaded hentry]
    obtain hblocked | ⟨hstart, hposts⟩ | hslots := hwait
    · rw [if_pos (.inl hblocked)]
    · rw [if_pos (.inr ⟨hstart, by simpa using hposts⟩)]
    · simp only [hslots, ite_self]
  case refWaits =>
    rintro s ⟨hq, hc, hp, hloaded, hentry, hfree, hstart, hslots, href⟩
    have hfirst : ¬(blocked s.dev (cmd, grain, entry) q.claim = true ∨ start.isSome = true ∧ (!s.dev.sched.posts.isEmpty) = true) := by
      rw [hfree]
      obtain rfl | hposts := hstart
      · simp
      · simp [hposts]
    rw [exec_taskCreate_of_plan hq hc hp hloaded hentry, if_neg hfirst, hslots]
    simp only [href, if_true]
  case tokenLast =>
    refine does_of (exec_operandToken task gen slot t) fun d ⟨hx, hgen, hstarted, hslot, hall⟩ => ?_
    simp only [hx, hgen, hstarted, hslot, hall, ne_eq, not_true_eq_false, Bool.false_eq_true, if_false, if_true]
  case token =>
    refine does_of (exec_operandToken task gen slot t) fun d ⟨hx, hgen, hstarted, hslot, hall⟩ => ?_
    simp only [hx, hgen, hstarted, hslot, hall, ne_eq, not_true_eq_false, Bool.false_eq_true, if_false]
  case stale =>
    refine does_of (exec_operandToken task gen slot t) fun d hgone => ?_
    obtain hnone | ⟨x, hx, hgen⟩ := hgone
    · simp only [hnone]
      rfl
    · simp only [hx, if_pos hgen]
      rfl
  case place =>
    refine does_of exec_readyPendingPlace fun d hnext => ?_
    simp only [hnext]
  case dispatch =>
    refine does_of (exec_coreDispatch c) fun d ⟨⟨hactive, hstays, hidle, hc⟩, hti, ht, hp⟩ => ?_
    have hfree : ¬((!(d.core c).active) = true ∨ (d.core c).retiring = true ∨ (d.core c).running.isSome = true ∨ 136 ≤ c) := by
      simp [hactive, hstays, hidle, hc]
    simp only [if_neg hfree, hti, ht, hp]
    rfl
  case answer =>
    refine does_of (exec_ecallReturn task) fun d ⟨ht, hstate, hret, hcore⟩ => ?_
    simp only [ht, hstate, hret, hcore]
  case wake =>
    refine does_of (exec_delayWake c) fun d hdue => ?_
    exact if_neg (by simpa [dueDelays] using hdue)
  case noWake =>
    refine does_of (exec_delayWake c) fun d hdue => ?_
    exact if_pos (by simpa [dueDelays] using hdue)
  case lateFilter =>
    refine taskDeadline_does fun d ⟨ht, hdeadline, hmissed, hover, hentry⟩ => ⟨ht, hdeadline, hmissed, hover, ?_⟩
    simp only [afterMiss, hentry]
  case lateHook =>
    refine taskDeadline_does fun d ⟨ht, hdeadline, hmissed, hover, hentry⟩ => ⟨ht, hdeadline, hmissed, hover, ?_⟩
    simp only [afterMiss, hentry]
  case lateScan =>
    refine taskDeadline_does fun d ⟨ht, hdeadline, hmissed, hover, hentry, hc⟩ => ⟨ht, hdeadline, hmissed, hover, ?_⟩
    obtain ⟨n, hn⟩ := Nat.exists_eq_add_of_le' hentry
    simp only [afterMiss, hn, hc]
  case inTime =>
    refine does_of (exec_taskDeadline task) fun d ⟨ht, hnot⟩ => ?_
    obtain hmissed | hnone := hnot
    · cases hd : t.deadline <;> simp only [ht, hd, hmissed, true_or, if_true, id]
    · simp only [ht, hnone, id]
  case testPass =>
    refine does_of (exec_selftest c true) fun d ⟨hactive, hidle, hdue, hc⟩ => ?_
    have hgo : ¬((!(d.core c).active) = true ∨ (d.core c).running.isSome = true ∨ (!testDue d c) = true ∨ 136 ≤ c) := by simp [hactive, hidle, hdue, hc]
    exact (if_neg hgo).trans rfl
  case testFail =>
    refine does_of (exec_selftest c false) fun d ⟨hactive, hidle, hdue, hc⟩ => ?_
    have hgo : ¬((!(d.core c).active) = true ∨ (d.core c).running.isSome = true ∨ (!testDue d c) = true ∨ 136 ≤ c) := by simp [hactive, hidle, hdue, hc]
    exact (if_neg hgo).trans rfl
  case stall =>
    refine does_of (exec_coreStall c) fun d ⟨hrun, ht, hlong⟩ => ?_
    simp only [hrun, ht, if_neg (Nat.not_lt.2 hlong)]
  case noStall =>
    refine does_of (exec_coreStall c) fun d hnone => ?_
    simp only [hnone, id]

end Sys2Proof.SchedulerSettled

/-! SUPPORT. The statements TransportCommands, ConnectionCommands and PortCommands. -/

namespace Sys2Proof.NetProofs

open Sys2Proof.Machine Sys2Proof.Claims

/-- A part whose table of occupancy lists priority 0 of port 0 twice, as no run of the model leaves it: XOFF has been sent for that priority, and PFC is
on for it. -/
def listedTwice : State := { State.reset with dev := { State.reset.dev with
  regs := State.reset.dev.regs.setFld (ETH_GCFG_PFC_EN 0) 1
  eth := { State.reset.dev.eth with occupancy := [(0, 10 ^ 9), (0, 10 ^ 9)], paused := [0] } } }

end Sys2Proof.NetProofs

namespace Sys2Proof.NetSettled

open Sys2Proof.Machine Sys2Proof.Claims Sys2Proof.DoesProofs Sys2Proof.NetProofs

/-- Refutes O38: PRIORITY_PAUSE with no bytes takes one entry of the priority out of the table of occupancy. Where the table lists the priority twice,
which nothing in the statement rules out, bytes stay, and the priority is not resumed. -/
theorem not_transportCommands : ¬Obligations.TransportCommands := by
  rintro ⟨-, -, -, -, -, -, -, -, -, -, -, -, -, -, hresume, -, -⟩
  have hok : pfcOn listedTwice.dev 0 0 ∧ listedTwice.dev.eth.paused.contains (0 * 8 + 0) = true ∧
      queueBytes listedTwice.dev 0 0 0 < listedTwice.dev.rd (ETH_PFC_XON (0 / 4)) * listedTwice.dev.portLanes 0 * 1024 := by
    refine ⟨⟨by decide, by decide, ?_⟩, rfl, ?_⟩
    · decide
    · decide
  have hnext := hresume 0 0 0 listedTwice hok
  rw [exec_priorityPause, execPriorityPause, onDev_next] at hnext
  have hpaused := congrArg (fun s : State => s.dev.eth.paused) (Host.Outcome.next.inj hnext)
  exact absurd hpaused (by decide)

/-- Settles O39: each message as its queue pair stands. -/
theorem connectionCommands : Obligations.ConnectionCommands := by
  refine ⟨fun m n => ?req, fun m => ?rej, fun m => ?noReq, fun m p => ?rtu, fun m => ?rep, fun m => ?noRep, fun m => does_of (exec_cmRej m) fun _ _ => rfl,
    fun n => does_of (exec_connectTimeout n) fun _ _ => rfl, fun m => ?dreq, fun m => ?noDreq, fun m p => ?drep, fun n p => ?unbound, fun n p => ?bound⟩
  case req =>
    refine does_of (exec_cmReq m) fun d ⟨hphase, hport, hreq, hn⟩ => ?_
    have hup : ¬(d.boot.phase ≠ .running ∨ (!d.portUp m.net.port.val) = true) := by simp [hphase, hport]
    rw [reqOk] at hreq
    simp only [if_neg hup, hreq, hn]
  case rej =>
    refine does_of (exec_cmReq m) fun d ⟨hphase, hport, hno⟩ => ?_
    have hup : ¬(d.boot.phase ≠ .running ∨ (!d.portUp m.net.port.val) = true) := by simp [hphase, hport]
    obtain hno | hno := hno
    · rw [reqOk] at hno
      simp only [if_neg hup, hno]
    · cases hreq : reqOk d m
      all_goals
        rw [reqOk] at hreq
        simp only [if_neg hup, hno, hreq]
  case noReq =>
    refine does_of (exec_cmReq m) fun d hdown => ?_
    exact if_pos (hdown.imp_right fun h => by rw [h]; rfl)
  case rtu =>
    refine does_of (exec_cmRtu m) fun d ⟨hp, hstarted, hfailed⟩ => ?_
    simp only [hp, hstarted, hfailed, Bool.false_eq_true, or_self, if_false]
  case rep =>
    refine does_of (exec_cmRep m) fun d hconn => ?_
    simp only [hconn, Bool.not_true, Bool.false_eq_true, if_false]
  case noRep =>
    refine does_of (exec_cmRep m) fun d hconn => ?_
    simp only [hconn, Bool.not_false, if_true, id]
  case dreq => exact does_of (exec_cmDreq m) fun d hp => if_pos hp
  case noDreq => exact does_of (exec_cmDreq m) fun d hnone => if_neg (by rw [hnone]; exact nofun)
  case drep =>
    refine does_of (exec_cmDrep m) fun d ⟨hp, hfailed⟩ => ?_
    simp only [hp, hfailed, if_true]
  case unbound =>
    refine does_of (exec_unboundTimeout n) fun d ⟨hp, hup, hfailed, huse, hlong⟩ => ?_
    have hover : p.up = true ∧ (!p.failed) = true ∧ p.use = .unbound ∧ p.since + sNs 10 ≤ d.now := ⟨hup, by rw [hfailed]; rfl, huse, hlong⟩
    simp only [hp, if_pos hover]
  case bound =>
    refine does_of (exec_unboundTimeout n) fun d ⟨hp, hnot⟩ => ?_
    have hstays : ¬(p.up = true ∧ (!p.failed) = true ∧ p.use = .unbound ∧ p.since + sNs 10 ≤ d.now) := fun ⟨_, _, huse, hlong⟩ =>
      hnot.elim (· huse) fun h => Nat.not_le.2 h hlong
    simp only [hp, if_neg hstays, id]

/-- Settles O40: each row as the port's address, group or link stands. -/
theorem portCommands : Obligations.PortCommands := by
  refine ⟨fun port a => ⟨?arp, ?noArp⟩, fun port ip => ⟨?echo, ?noEcho⟩, fun port a => ⟨?nd, ?noNd⟩, fun port hport => ?bad, fun port hport => ?noBad,
    fun g t => ?down, fun g t => ?moving, fun port hport => ?up, fun port hport => ?upMode, fun port hport => ?lost, ?mgmtLost, ?mgmtUp⟩
  case arp => exact does_of (exec_arpRequest port (.v4 a)) fun d h => if_pos h
  case noArp => exact does_of (exec_arpRequest port (.v4 a)) fun d h => if_neg (by rw [h]; exact nofun)
  case echo => exact does_of (exec_icmpEcho port ip) fun d h => if_pos h
  case noEcho => exact does_of (exec_icmpEcho port ip) fun d h => if_neg (by rw [h]; exact nofun)
  case nd => exact does_of (exec_neighbourDiscovery port (.v6 a)) fun d h => if_pos h
  case noNd => exact does_of (exec_neighbourDiscovery port (.v6 a)) fun d h => if_neg (by rw [h]; exact nofun)
  case bad => exact does_of (exec_badFrame port) fun d _ => if_pos hport
  case noBad => exact does_of (exec_badFrame port) fun d _ => if_neg (Nat.not_lt.2 hport)
  case down =>
    refine does_of (exec_groupDown g) fun d ⟨ht, hover⟩ => ?_
    have hnow : ¬(d.groupMoving g = true ∧ d.now < t + msNs 100) := fun ⟨hmoving, hwait⟩ =>
      hover.elim (fun h => nomatch h.symm.trans hmoving) fun h => Nat.not_le.2 hwait h
    simp only [ht, if_neg hnow]
    rfl
  case moving =>
    refine does_of (exec_groupDown g) fun d ⟨ht, hmoving, hwait⟩ => ?_
    simp only [ht, if_pos (And.intro hmoving hwait), id]
  case up =>
    refine does_of (exec_hostLinkChange port true) fun d ⟨hgoing, henable, hphase, hdown, hlanes⟩ => ?_
    have hgo : ¬((d.portGroup (port / 4)).going.isSome = true ∨ d.rd (ETH_GCFG_ENABLE (port / 4)) = 0 ∨ d.boot.phase ≠ .running) := by
      simp [hgoing, henable, hphase]
    simp only [if_neg hport.ne, if_neg hport.not_gt, if_true, if_neg hgo, hdown, if_false, if_neg hlanes]
  case upMode =>
    refine does_of (exec_hostLinkChange port true) fun d ⟨hgoing, henable, hphase, hdown, hlanes⟩ => ?_
    have hgo : ¬((d.portGroup (port / 4)).going.isSome = true ∨ d.rd (ETH_GCFG_ENABLE (port / 4)) = 0 ∨ d.boot.phase ≠ .running) := by
      simp [hgoing, henable, hphase]
    simp only [if_neg hport.ne, if_neg hport.not_gt, if_true, if_neg hgo, hdown, if_neg hlanes]
  case lost =>
    refine does_of (exec_hostLinkChange port false) fun d _ => ?_
    simp only [if_neg hport.ne, if_neg hport.not_gt, Bool.false_eq_true, if_false]
    rfl
  case mgmtLost => exact does_of (exec_hostLinkChange 16 false) fun d _ => rfl
  case mgmtUp => exact does_of (exec_hostLinkChange 16 true) fun d _ => rfl

end Sys2Proof.NetSettled

/-! SUPPORT. The statements DescriptorCommands and EngineCommands. -/

namespace Sys2Proof.EngineSettled

open Sys2Proof.Machine Sys2Proof.Claims Sys2Proof.DoesProofs Sys2Proof.FetchProofs

/-- Settles O41: each source of work as an engine or lane takes it. -/
theorem descriptorCommands : Obligations.DescriptorCommands := by
  refine ⟨fun id g j e => ?cmpGrain, fun ti j e => ?cmpTask, fun a e => ?cmpDesc, fun d a h => ?corrupt, fun id g j e => ?cipGrain, fun n j e => ?cipSession,
    fun a j e => ?cipDesc, fun a r => ?cipRefused, fun id g c x e => ?digGrain, fun ti j e => ?digTask, fun a j e => ?digDesc, fun a r => ?digRefused,
    fun src => ?cmpBusy, fun id g j => ?unheld, fun src => ⟨?cipBusy, ?digBusy⟩⟩
  case cmpGrain =>
    refine does_of (exec_compressionDescriptor (.grain id g)) fun d ⟨hfree, hj, hheld, he⟩ => ?_
    simp only [hfree, hj, hheld, he, Bool.false_eq_true, if_false, if_true, Option.getD_some]
  case cmpTask =>
    refine does_of (exec_compressionDescriptor (.task ti)) fun d ⟨hfree, hj, he⟩ => ?_
    simp only [hfree, hj, he, Bool.false_eq_true, if_false, Option.getD_some]
  case cmpDesc =>
    refine does_of (exec_compressionDescriptor (.desc a)) fun d ⟨hfree, he⟩ => ?_
    simp only [hfree, he, Bool.false_eq_true, if_false, Option.getD_some]
  case corrupt => simp only [Dev.descCmp, h, if_true]
  case cipGrain =>
    refine does_of (exec_cipherDescriptor (.grain id g)) fun d ⟨hfree, hj, he⟩ => ?_
    simp only [hfree, hj, he, Bool.false_eq_true, if_false, Option.getD_some]
  case cipSession =>
    refine does_of (exec_cipherDescriptor (.session n)) fun d ⟨hfree, hj, he⟩ => ?_
    simp only [hfree, hj, he, Bool.false_eq_true, if_false]
  case cipDesc =>
    refine does_of (exec_cipherDescriptor (.desc a)) fun d ⟨hfree, hj, he⟩ => ?_
    simp only [hfree, hj, he, Bool.false_eq_true, if_false, Option.getD_some]
  case cipRefused =>
    refine does_of (exec_cipherDescriptor (.desc a)) fun d ⟨hfree, hr⟩ => ?_
    simp only [hfree, hr, Bool.false_eq_true, if_false]
  case digGrain =>
    refine does_of (exec_digestDescriptor (.grain id g)) fun d ⟨hfree, hc, hx, hstep, hedits, he⟩ => ?_
    simp only [hfree, hc, hx, if_pos (And.intro hstep hedits), he, Bool.false_eq_true, if_false, Option.getD_some]
  case digTask =>
    refine does_of (exec_digestDescriptor (.task ti)) fun d ⟨hfree, hj, he⟩ => ?_
    simp only [hfree, hj, he, Bool.false_eq_true, if_false, Option.getD_some]
  case digDesc =>
    refine does_of (exec_digestDescriptor (.desc a)) fun d ⟨hfree, hj, he⟩ => ?_
    simp only [hfree, hj, he, Bool.false_eq_true, if_false, Option.getD_some]
  case digRefused =>
    refine does_of (exec_digestDescriptor (.desc a)) fun d ⟨hfree, hr⟩ => ?_
    simp only [hfree, hr, Bool.false_eq_true, if_false]
  case cmpBusy => exact does_of (exec_compressionDescriptor src) fun d hbusy => if_pos hbusy
  case unheld =>
    refine does_of (exec_compressionDescriptor (.grain id g)) fun d ⟨hj, hout⟩ => ?_
    simp only [hj, hout, Bool.false_eq_true, if_false, ite_self, id_eq]
  case cipBusy => exact does_of (exec_cipherDescriptor src) fun d hbusy => if_pos hbusy
  case digBusy => exact does_of (exec_digestDescriptor src) fun d hbusy => if_pos hbusy

/-- A lane's message that waits for no key, of a command that has not ended: its lane is free, and its result goes to its source. -/
theorem laneMessageEnd_live {dig : Bool} {l : Nat} {j : LaneJob} {ok : Dev → Prop} {f : Dev → Dev}
    (hok : ∀ d, ok d → (d.lane dig l).running = some j ∧ laneWaits d j = false ∧ d.jobOrphan j.src j.serves = false) (hf : ∀ d, ok d → f d = match j.src with
      | .grain id g => ((laneFree d dig l j (d.laneResult j)).grainLaneDone id g (d.laneResult j)).settle
      | .task ti => ((laneFree d dig l j (d.laneResult j)).callDone ti (d.laneResult j).result (d.laneResult j).out).settle
      | .session n => ((laneFree d dig l j (d.laneResult j)).replSealed n j (d.laneResult j)).settle
      | .desc a => (laneFree d dig l j (d.laneResult j)).descLaneDone dig a j (d.laneResult j)) : Does (.laneMessageEnd dig l) ok f := by
  refine does_of (exec_laneMessageEnd dig l) fun d h => ?_
  obtain ⟨hrun, hwaits, hlive⟩ := hok d h
  rw [hf d h]
  cases hkey : j.key
  all_goals
    simp only [laneWaits, hkey] at hwaits
    simp only [hrun, hkey, hwaits, hlive, Bool.false_eq_true, if_false, laneFree] <;>
    cases j.src <;> rfl

section Orphans

variable {dig : Bool} {l : Nat} {j : LaneJob}

/-- The row of a lane's message that waits for no key and whose command has ended: its result is discarded. -/
theorem laneMessageEnd_orphan : Does (.laneMessageEnd dig l) (fun d => (d.lane dig l).running = some j ∧ laneWaits d j = false ∧
    d.jobOrphan j.src j.serves = true ∧ ∀ a, j.src ≠ .desc a) (fun d => laneFree d dig l j laneDiscarded) := by
  refine does_of (exec_laneMessageEnd dig l) fun d ⟨hrun, hwaits, horphan, hsrc⟩ => ?_
  cases hkey : j.key
  all_goals
    simp only [laneWaits, hkey] at hwaits
    simp only [hrun, hkey, hwaits, horphan, Bool.false_eq_true, if_false, if_true, laneFree, laneDiscarded]

/-- As before, a descriptor being told. -/
theorem laneMessageEnd_orphanDesc {a : Nat} : Does (.laneMessageEnd dig l) (fun d => (d.lane dig l).running = some j ∧ laneWaits d j = false ∧
    d.jobOrphan j.src j.serves = true ∧ j.src = .desc a) (fun d => (laneFree d dig l j laneDiscarded).descLaneDone dig a j laneDiscarded) := by
  refine does_of (exec_laneMessageEnd dig l) fun d ⟨hrun, hwaits, horphan, hsrc⟩ => ?_
  rw [hsrc] at horphan
  cases hkey : j.key
  all_goals
    simp only [laneWaits, hkey] at hwaits
    simp only [hrun, hkey, hwaits, hsrc, horphan, Bool.false_eq_true, if_false, if_true, laneFree, laneDiscarded]

end Orphans

/-- Settles O42: each job as its engine or lane, its source and its key stand. -/
theorem engineCommands : Obligations.EngineCommands := by
  refine ⟨fun e j id g => ?grain, fun e j ti => ?task, fun e j a f => ?desc, fun e j a f => ?descWaits, fun e j => ?orphan, fun e j a => ?orphanDesc,
    fun e => ?idle, fun dig l j id g => ?laneGrain, fun dig l j ti => ?laneTask, fun dig l j n => ?laneSession, fun dig l j a => ?laneDesc,
    fun dig l j => laneMessageEnd_orphan, fun dig l j a => laneMessageEnd_orphanDesc, fun dig l j => ?laneKey, fun dig l pos j k => ?save, fun dig l pos j => ?noSave,
    fun dig l j => ?yields, fun q hq => ?reseed, fun q hq => ?unseeded, fun q => ?seeded, fun q hq => ?limit, fun q => ?noLimit, fun p r k u => ?unwrap,
    fun p r k => ?lost, fun p r => ?noUnwrap⟩
  case grain | task =>
    refine does_of (exec_compressionResult e) fun d ⟨hrun, hlive, hsrc⟩ => ?_
    rw [hsrc] at hlive
    simp only [hrun, hsrc, hlive, Bool.false_eq_true, if_false, engineFree]
  case desc | descWaits =>
    refine does_of (exec_compressionResult e) fun d ⟨hrun, hlive, hsrc, hdone⟩ => ?_
    rw [hsrc] at hlive
    simp only [hrun, hsrc, hlive, hdone, Bool.false_eq_true, if_false, engineFree]
  case orphan =>
    refine does_of (exec_compressionResult e) fun d ⟨hrun, horphan, hsrc⟩ => ?_
    simp only [hrun, horphan, if_true, engineFree]
  case orphanDesc =>
    refine does_of (exec_compressionResult e) fun d ⟨hrun, horphan, hsrc⟩ => ?_
    rw [hsrc] at horphan
    simp only [hrun, hsrc, horphan, if_true, engineFree]
  case idle =>
    refine does_of (exec_compressionResult e) fun d hnone => ?_
    simp only [hnone, id_eq]
  case laneGrain | laneTask | laneSession | laneDesc =>
    exact laneMessageEnd_live (fun d ⟨hrun, hwaits, hlive, _⟩ => ⟨hrun, hwaits, hlive⟩) fun d ⟨_, _, _, hsrc⟩ => by simp only [hsrc]
  case laneKey =>
    refine does_of (exec_laneMessageEnd dig l) fun d ⟨hrun, hwaits⟩ => ?_
    cases hkey : j.key with
    | none => simp [laneWaits, hkey] at hwaits
    | some p =>
      simp only [laneWaits, hkey] at hwaits
      simp only [hrun, hkey, hwaits, if_true, id_eq]
  case save =>
    refine does_of (exec_contextSave dig l pos) fun d ⟨hrun, hblock, hdone, hend, hrank, hslots, hk⟩ => ?_
    rw [topRank] at hrank hk
    simp only [hrun, if_pos (And.intro hblock (And.intro hdone (And.intro hend (And.intro hrank hslots)))), hk]
  case noSave =>
    refine does_of (exec_contextSave dig l pos) fun d ⟨hrun, hrank⟩ => ?_
    simp only [hrun]
    exact if_neg fun ⟨_, _, _, h, _⟩ => Nat.not_lt.2 hrank h
  case yields =>
    refine does_of (exec_laneYield dig l) fun d ⟨hrun, hend, hqueue, hslots⟩ => ?_
    simp only [hrun, if_pos (And.intro hend (And.intro hqueue hslots))]
  case reseed =>
    refine does_of (exec_maskReseed q) fun d ⟨hcount, hentropy⟩ => ?_
    have hdue : ¬(maskCount d q < 2 ^ 20 ∨ 4 ≤ q) := by omega
    exact (if_neg hdue).trans (if_pos hentropy)
  case unseeded =>
    refine does_of (exec_maskReseed q) fun d ⟨hcount, hentropy, hseed⟩ => ?_
    have hdue : ¬(maskCount d q < 2 ^ 20 ∨ 4 ≤ q) := by omega
    exact (if_neg hdue).trans ((if_neg (by rw [hentropy]; exact nofun)).trans (if_neg (by rw [unseeded] at hseed; rw [hseed]; exact nofun)))
  case seeded => exact does_of (exec_maskReseed q) fun d hcount => if_pos (.inl hcount)
  case limit =>
    refine does_of (exec_maskDrbgLimit q) fun d ⟨hcount, hseed⟩ => ?_
    have hdue : ¬(maskCount d q < 2 ^ 32 ∨ (!unseeded d q) = true ∨ 4 ≤ q) := by
      rw [hseed]
      simpa [hq] using hcount
    exact (if_neg hdue).trans rfl
  case noLimit => exact does_of (exec_maskDrbgLimit q) fun d hcount => if_pos (.inl hcount)
  case unwrap =>
    intro s ⟨hsealed, hk, hcached, hu⟩
    simp only [exec_keyUnwrap, execKeyUnwrap, onDev_next, hsealed, hk, hcached, hu, Bool.false_eq_true, if_false]
    rfl
  case lost =>
    intro s ⟨hsealed, hk, hcached, hu⟩
    simp only [exec_keyUnwrap, execKeyUnwrap, onDev_next, hsealed, hk, hcached, hu, Bool.false_eq_true, if_false]
    rfl
  case noUnwrap =>
    intro s hnot
    simp only [exec_keyUnwrap, execKeyUnwrap, onDev_next]
    obtain hsealed | hk | hcached := hnot
    · simp only [hsealed, if_true]
      rfl
    · simp only [hk, ite_self]
      rfl
    · cases hk : s.dev.keyAt p <;> simp only [hcached, if_true, ite_self] <;> rfl

end Sys2Proof.EngineSettled

/-! SUPPORT. The statements FlashPortCommands, MediaCommands and PassCommands. -/

namespace Sys2Proof.FlashSettled

open Sys2Proof.Machine Sys2Proof.Claims Sys2Proof.DoesProofs Sys2Proof.FetchProofs

/-- What PORTGNT makes of a port that asked for it. -/
theorem portgntHigh_does {n : Nat} {ids : List (Option DieId)} {p : Port} {ok : Dev → Prop} {f : Dev → Dev}
    (h : ∀ d, ok d → tget d.ports n = some p ∧ p.own = .ask ∧
      ((if !((tget (ownedNow d n ids).ports n).bind (·.profile)).isSome then ownedNow d n ids else if seizing d n then (ownedNow d n ids).resumePort n
        else (ownedNow d n ids).startTraining n ((ownedNow d n ids).targetMode n)).seized n).portsBack.portsChanged = f d) :
    Does (.portgntHigh n ids) ok f := by
  refine does_of (exec_portgntHigh n ids) fun d hok => ?_
  obtain ⟨hp, hown, hf⟩ := h d hok
  rw [← hf]
  simp only [hp, if_neg (not_not.2 hown), ownedNow]
  unfold seizing
  cases d.peer.takeover <;> rfl

/-- What becomes of a port whose ask is not answered in time. -/
theorem askTimeout_does {n : Nat} {p : Port} {ok : Dev → Prop} {f : Dev → Dev} (h : ∀ d, ok d → tget d.ports n = some p ∧ p.own = .ask ∧
      p.askedAt + usNs 20 ≤ d.now ∧ (if seizing d n then (askFailed d n).abandonTakeover
        else if (askFailed d n).solo then (askFailed d n).faultPort n else askFailed d n).portsBack.portsChanged = f d) : Does (.askTimeout n) ok f := by
  refine does_of (exec_askTimeout n) fun d hok => ?_
  obtain ⟨hp, hown, hlong, hf⟩ := h d hok
  have hover : ¬(p.own ≠ .ask ∨ d.now < p.askedAt + usNs 20) := by simp [hown, hlong]
  rw [← hf]
  simp only [hp, if_neg hover, askFailed]
  unfold seizing
  cases d.peer.takeover <;> rfl

/-- Settles O43: each row as the port it names stands. -/
theorem flashPortCommands : Obligations.FlashPortCommands := by
  refine ⟨fun n r p => ?trained, fun n r p => ?untrained, fun n r p => ?noTraining, fun n p => ?retrains, fun n p => ?notDue, fun n ids p => ?granted,
    fun n ids p => ?resumed, fun n ids p => ?unknown, fun n ids p => ?noAsk, fun n p => ?lostSolo, fun n p => ?lostPair, fun n p => ?noLoss, fun n p => ?abandoned,
    fun n p => ?unanswered, fun n p => ?inTime, fun n p => ?left, fun n p pm => ?held, fun n p pm => ?good, fun n p t => ?released, fun n p => ?stays⟩
  case trained | untrained =>
    refine does_of (exec_trainingDone n r) fun d ⟨hp, htraining, hown, hpass⟩ => ?_
    have hgo : ¬((!p.training) = true ∨ p.own ≠ .owned) := by simp [htraining, hown]
    simp only [hp, if_neg hgo, hpass, Bool.false_eq_true, if_true, if_false]
  case noTraining =>
    refine does_of (exec_trainingDone n r) fun d ⟨hp, hnot⟩ => ?_
    have hstop : (!p.training) = true ∨ p.own ≠ .owned := hnot.imp_left fun h => by rw [h]; rfl
    simp only [hp, if_pos hstop, id_eq]
  case retrains =>
    refine does_of (exec_retraining n) fun d ⟨hp, hknown, hready, hdue⟩ => ?_
    simp only [hp, if_pos (And.intro hknown (And.intro hready hdue))]
  case notDue =>
    refine does_of (exec_retraining n) fun d ⟨hp, hnot⟩ => ?_
    simp only [hp, hnot, Bool.false_eq_true, and_false, if_false, id_eq]
  case granted | resumed =>
    refine portgntHigh_does fun d ⟨hp, hown, hknown, hseizing⟩ => ⟨hp, hown, ?_⟩
    simp only [hknown, hseizing, Bool.not_true, Bool.false_eq_true, if_true, if_false]
  case unknown =>
    refine portgntHigh_does fun d ⟨hp, hown, hknown⟩ => ⟨hp, hown, ?_⟩
    simp only [hknown, Bool.not_false, if_true]
  case noAsk =>
    refine does_of (exec_portgntHigh n ids) fun d ⟨hp, hown⟩ => ?_
    simp only [hp, if_pos hown, id_eq]
  case lostSolo | lostPair =>
    refine does_of (exec_grantLost n) fun d ⟨hp, hown, hsolo⟩ => ?_
    simp only [hp, if_neg (not_not.2 hown), hsolo, Bool.false_eq_true, if_true, if_false]
  case noLoss =>
    refine does_of (exec_grantLost n) fun d ⟨hp, hown⟩ => ?_
    simp only [hp, if_pos hown, id_eq]
  case abandoned | unanswered =>
    refine askTimeout_does fun d ⟨hp, hown, hlong, hseizing⟩ => ⟨hp, hown, hlong, ?_⟩
    simp only [hseizing, Bool.false_eq_true, if_true, if_false]
  case inTime =>
    refine does_of (exec_askTimeout n) fun d ⟨hp, hwait⟩ => ?_
    simp only [hp, if_pos hwait, id_eq]
  case left =>
    refine does_of (exec_leavingDone n) fun d ⟨hp, hown, hnot⟩ => ?_
    simp only [hp, if_neg (not_not.2 hown), if_neg hnot]
  case held =>
    refine does_of (exec_vccqSample n pm) fun d ⟨hp, hout, hfree⟩ => ?_
    have hout' : decide (50 < pm.natAbs) = true ∨ (guardSeen d n pm).heatHolds n = true := hout.imp_left decide_eq_true
    simp only [hp]
    refine (if_pos hout').trans ?_
    have hfree' : ((d.wr (FLP_GUARD_STAT_SUPPLY_OUT n) (b2n (decide (50 < pm.natAbs)))).wr (FLP_GUARD_STAT_TEMP_OUT n) (b2n (d.tempOut n))).isSet
      (FLP_GUARD_STAT_HELD n) = false := hfree
    simp only [hfree', Bool.false_eq_true, if_false]
    simp only [guardSeen, hfree', Dev.holdWrites]
  case good =>
    refine does_of (exec_vccqSample n pm) fun d ⟨hp, hsupply, hheat, hfree⟩ => ?_
    have hin : ¬(decide (50 < pm.natAbs) = true ∨ (guardSeen d n pm).heatHolds n = true) := by simp [hsupply, hheat]
    have hfree' : (!(guardSeen d n pm).isSet (FLP_GUARD_STAT_HELD n)) = true := by rw [hfree]; rfl
    simp only [hp]
    exact (if_neg hin).trans (if_pos hfree')
  case released =>
    refine does_of (exec_guardRelease n) fun d ⟨hp, ht, hlong, hheld, hown⟩ => ?_
    simp only [hp, ht, hlong, hheld, hown, decide_true, Bool.not_true, Bool.false_eq_true, or_self, if_false, if_true]
  case stays =>
    refine does_of (exec_guardRelease n) fun d ⟨hp, hnot⟩ => ?_
    obtain hnone | hfree := hnot
    · simp only [hp, hnone, Bool.not_false, true_or, if_true, id_eq]
    · simp only [hp, hfree, Bool.not_false, or_true, if_true, id_eq]

/-- Settles O44: each row as the flash operation, row or read it names stands. -/
theorem mediaCommands : Obligations.MediaCommands := by
  refine ⟨fun g l x => ?parity, fun id cw others r y => ?rebuilds, fun id cw others => ?rebuilt, fun w => ?noUnits, fun g l x => ?notReady, fun g l w => ?closes,
    fun g l w => ?covers, fun g l w => ?notDue, fun die => ?noJournal, fun die o g seqs => ?journal, fun g l => ?program, fun g l => ?dumped, fun g l => ?noProgram,
    fun g l slot => ?noFail, fun g l slot o => ?fails, fun g l slot o a seqs => ?journalFails, fun g l slot o => ?dumpFails, fun g sg slot o => ?erased,
    fun g sg slot o => ?eraseFails, fun g sg slot k => ?noErase, fun g sg => does_of (exec_segmentErase g sg) fun _ _ => rfl,
    fun r cw cap => does_of (exec_flashReadDone r cw cap) fun _ _ => rfl, fun r cw x => does_of (exec_ldpcDecode r cw x) fun _ _ => rfl,
    fun die o g l slot => ?lateProgram, fun die o g l a b c s => ?lateOverlay, fun die o g l s => ?lateRebuild, fun die o g seqs => ?lateJournal,
    fun die o k slot => ?lateDump, fun die o id cw => ?lateRead, fun die o g sg b => ?lateErase, fun die => ?noLate,
    does_of exec_retentionTick fun _ _ => rfl⟩
  case parity =>
    refine does_of (exec_parityCompute (.row g l)) fun d ⟨hunits, hx, hstate, hready⟩ => ?_
    have hgo : ¬(x.state ≠ .closed ∨ (!d.parityReady g l x) = true) := by simp [hstate, hready]
    rw [noParity] at hunits
    simp only [hunits, Bool.false_eq_true, if_false, hx, if_neg hgo]
  case rebuilds =>
    refine does_of (exec_parityCompute (.rebuild id cw others)) fun d ⟨hunits, hstands, hcw⟩ => ?_
    rw [noParity] at hunits
    rw [unitStands] at hstands
    simp only [hunits, hstands, Bool.false_eq_true, if_false, hcw]
  case rebuilt =>
    refine does_of (exec_parityCompute (.rebuild id cw others)) fun d ⟨hunits, hstands⟩ => ?_
    rw [noParity] at hunits
    rw [unitStands] at hstands
    simp only [hunits, hstands, Bool.false_eq_true, if_false, if_true]
  case noUnits => exact does_of (exec_parityCompute w) fun d hnone => if_pos hnone
  case notReady =>
    refine does_of (exec_parityCompute (.row g l)) fun d ⟨hx, hnot⟩ => ?_
    have hstop : x.state ≠ .closed ∨ (!d.parityReady g l x) = true := hnot.imp_right fun h => by rw [h]; rfl
    simp only [hx, if_pos hstop, ite_self, id_eq]
  case closes =>
    refine does_of (exec_rowPadded g l) fun d ⟨hw, hstate, hdue⟩ => ?_
    simp only [hw]
    exact (if_neg fun h => not_true_of_true hdue h).trans (if_pos hstate)
  case covers =>
    refine does_of (exec_rowPadded g l) fun d ⟨hw, hstate, hcounts, hdue⟩ => ?_
    simp only [hw]
    refine (if_neg fun h => not_true_of_true hdue h).trans ((if_neg ?_).trans (if_pos ⟨hstate, by rw [hcounts]; rfl⟩))
    rw [hstate]
    decide
  case notDue =>
    refine does_of (exec_rowPadded g l) fun d ⟨hw, hnot⟩ => ?_
    simp only [hw]
    obtain hearly | ⟨hfilling, hprogrammed⟩ | ⟨hstate, hcounts⟩ := hnot
    · exact if_pos (congrArg (!·) hearly)
    · simp only [hfilling, hprogrammed, false_and, if_false, ite_self, id_eq]
    · simp [hstate, hcounts]
  case noJournal =>
    refine does_of (exec_journalProgramDone die) fun d hnot => ?_
    dsimp only
    split
    · rfl
    next o ho =>
      split
      · obtain hnone | hpaused := hnot
        · exact absurd (ho.symm.trans hnone) nofun
        · exact if_pos hpaused
      · rfl
  case journal =>
    refine does_of (exec_journalProgramDone die) fun d ⟨ho, hop, hbus⟩ => ?_
    dsimp only
    split
    next hnone => exact absurd (hnone.symm.trans ho) nofun
    next o' ho' =>
      obtain rfl := Option.some.inj (ho'.symm.trans ho)
      simp only [hop, hbus, Bool.false_eq_true, if_false]
  case program =>
    refine does_of (exec_programComplete g l) fun d ⟨hdump, hops⟩ => ?_
    simp only [hdump, hops, Bool.not_true, Bool.false_eq_true, if_false]
  case dumped =>
    refine does_of (exec_programComplete g l) fun d hdump => ?_
    simp only [hdump, Bool.not_false, if_true]
  case noProgram =>
    refine does_of (exec_programComplete g l) fun d ⟨hdump, hops⟩ => ?_
    simp only [hdump, hops, Bool.not_true, Bool.false_eq_true, if_false, if_true, id_eq]
  case noFail =>
    refine does_of (exec_programFail g l slot) fun d ⟨hdump, hfailing⟩ => ?_
    rw [dumping] at hdump
    simp only [hdump, hfailing, id_eq]
  case fails =>
    refine does_of (exec_programFail g l slot) fun d ⟨hdump, hfailing, hop⟩ => ?_
    rw [dumping] at hdump
    simp only [hdump, hfailing]
    split
    next hj => simp [jrnOp, hj] at hop
    next => rfl
  case journalFails =>
    refine does_of (exec_programFail g l slot) fun d ⟨hdump, hfailing, hop⟩ => ?_
    rw [dumping] at hdump
    simp only [hdump, hfailing, hop]
  case dumpFails =>
    refine does_of (exec_programFail g l slot) fun d hdump => ?_
    rw [dumping] at hdump
    simp only [hdump]
  case erased =>
    refine does_of (exec_eraseComplete g sg slot true) fun d ⟨ho, hbus⟩ => ?_
    simp only [ho, hbus, Bool.false_eq_true, if_false, if_true, Bool.true_and]
  case eraseFails =>
    refine does_of (exec_eraseComplete g sg slot false) fun d ⟨ho, hbus⟩ => ?_
    simp only [ho, hbus, Bool.false_eq_true, if_false, Bool.false_and]
  case noErase =>
    refine does_of (exec_eraseComplete g sg slot k) fun d hnot => ?_
    obtain hnone | ⟨o, ho, hbus⟩ := hnot
    · simp only [hnone, id_eq]
    · simp only [ho, hbus, if_true, id_eq]
  case lateProgram | lateOverlay | lateRebuild | lateJournal | lateDump | lateRead | lateErase =>
    refine does_of (exec_waitRdyTimeout die) fun d ⟨⟨ho, hbus⟩, hop⟩ => ?_
    simp only [ho, hbus, hop, Bool.false_eq_true, if_false, timedOut]
  case noLate =>
    refine does_of (exec_waitRdyTimeout die) fun d hnot => ?_
    obtain hnone | hbus := hnot
    · simp only [hnone, id_eq]
    · cases d.flash.find? (fun (o : FlashOp) => decide (o.die = die) && o.issued) <;> simp only [hbus, if_true, id_eq]

/-- Settles O45: each pass takes its step where passes run. -/
theorem passCommands : Obligations.PassCommands := by
  refine ⟨fun g => does_of (exec_secondCoat g) fun d h => if_pos h, fun g => does_of (exec_scrape g) fun d h => if_pos h,
    fun die => does_of (exec_wearLevelling die) fun d h => if_pos h, fun die b => ?old, fun die b => ?young,
    fun g => does_of (exec_rebuild g) fun d h => if_pos h, fun g die b => ?off,
    fun g slot => does_of (exec_memberFault g slot) fun _ _ => rfl, does_of exec_checkpointCycle fun _ _ => rfl,
    fun t p => does_of (exec_mapFault t p) fun _ _ => rfl⟩
  case old | young =>
    refine does_of (exec_sandingPass die b) fun d ⟨hon, hold⟩ => ?_
    simp only [hon, hold, Bool.not_true, Bool.false_eq_true, if_false, if_true]
  case off =>
    have hoff {d : Dev} (h : d.passesOn = false) : ¬d.passesOn = true := by rw [h]; exact nofun
    exact ⟨does_of (exec_secondCoat g) fun d h => if_neg (hoff h), does_of (exec_scrape g) fun d h => if_neg (hoff h),
      does_of (exec_wearLevelling die) fun d h => if_neg (hoff h), does_of (exec_sandingPass die b) fun d h => if_pos (congrArg (!·) h),
      does_of (exec_rebuild g) fun d h => if_neg (hoff h)⟩

end Sys2Proof.FlashSettled

/-! SUPPORT. Volumes in the background, streams and drains: the statements VolumeBackground and StreamAndDrainCommands. -/

namespace Sys2Proof.BackgroundSettled

open Sys2Proof.Machine Sys2Proof.Claims Sys2Proof.DoesProofs Sys2Proof.FetchProofs

/-- Changes of a table's entry that agree on what it holds are one change. -/
theorem tmod_congr {α : Type} {t : Tbl α} {k : Nat} {x : α} {f g : α → α} (hx : tget t k = some x) (h : f x = g x) : tmod t k f = tmod t k g := by
  induction t with
  | nil => rfl
  | cons e r ih =>
    obtain ⟨j, w⟩ := e
    unfold tget at hx
    unfold tmod
    split at hx
    next hj =>
      obtain rfl := Option.some.inj hx
      rw [if_pos hj, if_pos hj, h]
    next hj =>
      split at hx
      next => cases hx
      next hk => rw [if_neg hj, if_neg hj, if_neg hk, if_neg hk, ih hx]

theorem modVol_congr {d : Dev} {v : Nat} {x : Vol} {f g : Vol → Vol} (hx : d.vol v = some x) (h : f x = g x) : d.modVol v f = d.modVol v g := by
  simp only [Dev.modVol, tmod_congr hx h]

theorem compactVol_eq {d : Dev} {v : Nat} {x : Vol} (hx : d.vol v = some x) : d.compactVol v = d.modVol v fun y => { y with
    map := tmap y.map fun _ e => { e with epoch := renumber x e.epoch }
    snaps := tmap y.snaps fun _ k => { k with epoch := renumber x k.epoch, delta := tmap k.delta fun _ e => { e with epoch := renumber x e.epoch } }
    epoch := x.snaps.length + 1, compacting := false } :=
  modVol_congr hx rfl

/-- EPOCH_COMPACTION of a volume whose epochs run high and whose snapshots all stay. -/
theorem epochCompaction_does (v : Nat) (x : Vol) : Does (.epochCompaction v)
    (fun d => d.vol v = some x ∧ 0xF000 ≤ x.epoch ∧ x.snaps.any (fun e => e.2.deleting) = false)
    fun d => ((renumbered d v x).logOwn x.group ((epochPages v x).map fun p => .compact v p (x.snaps.length + 1))).settle := by
  refine does_of (exec_epochCompaction v) fun d ⟨hx, hhigh, hdel⟩ => ?_
  simp only [hx, if_neg (Nat.not_lt.2 hhigh), hdel, Bool.false_eq_true, if_false, compactVol_eq hx, renumbered]
  rfl

/-- Settles O46: each row as its volume or snapshot stands. -/
theorem volumeBackground : Obligations.VolumeBackground := by
  refine ⟨fun v x y o => ?fill, fun v x y o => ?blocked, fun v x => ?noClone, fun v x y o => ?logged, fun v slot x k => ?merge, fun v slot x k => ?kept,
    fun v x => ?marked, fun v x => ?renumbers, fun v x => ?low⟩
  case fill =>
    refine does_of (exec_cloneFill v) fun d ⟨hx, hy, ho, hmore, hsome⟩ => ?_
    simp only [hx, hy, ho, if_pos hmore]
    exact if_neg hsome
  case blocked =>
    refine does_of (exec_cloneFill v) fun d ⟨hx, hy, ho, hmore, hnone⟩ => ?_
    simp only [hx, hy, ho, if_pos hmore]
    exact if_pos hnone
  case noClone =>
    refine does_of (exec_cloneFill v) fun d ⟨hx, ho⟩ => ?_
    simp only [hx]
    cases d.issued.vol v with
    | none => rfl
    | some y => simp only [ho, id_eq]
  case logged =>
    refine does_of (exec_cloneFill v) fun d ⟨hx, hy, ho, hfull, hmore⟩ => ?_
    simp only [hx, hy, ho, if_neg (Nat.not_lt.2 hfull), if_pos hmore, id_eq]
  case merge =>
    refine does_of (exec_snapMerge v slot) fun d ⟨hx, hk, hdel⟩ => ?_
    simp only [hx, hk, if_neg (not_true_of_true hdel)]
    rfl
  case kept =>
    refine does_of (exec_snapMerge v slot) fun d ⟨hx, hk, hdel⟩ => ?_
    simp only [hx, hk, hdel, Bool.not_false, if_true, id_eq]
  case marked =>
    refine does_of (exec_epochCompaction v) fun d ⟨hx, hhigh, hdel⟩ => ?_
    simp only [hx, if_neg (Nat.not_lt.2 hhigh), hdel, if_true]
  case renumbers => exact epochCompaction_does v x
  case low =>
    refine does_of (exec_epochCompaction v) fun d ⟨hx, hlow⟩ => ?_
    simp only [hx, if_pos hlow, id_eq]

/-- Settles O48: each row as the command, stream or tenant it names stands. -/
theorem streamAndDrainCommands : Obligations.StreamAndDrainCommands := by
  refine ⟨fun cmd c => ?late, fun cmd c => ?inTime, fun i x t => ?clears, fun i x => ?stays, fun t x => ?quiesced, fun t x => ?enabled, fun t x => ?notYet⟩
  case late =>
    refine does_of (exec_deadlineMiss cmd) fun d ⟨hc, hstage, hclaim, hlate⟩ => ?_
    simp only [hc]
    exact if_pos ⟨hstage, hclaim, hlate⟩
  case inTime =>
    refine does_of (exec_deadlineMiss cmd) fun d ⟨hc, hnot⟩ => ?_
    simp only [hc]
    exact if_neg fun ⟨hstage, hclaim, hlate⟩ => hnot.elim hstage fun h => h.elim (absurd hclaim) hlate
  case clears =>
    refine does_of (exec_atRiskClear i) fun d ⟨hx, hrisk, hsince, hlong, hheld, hfilter⟩ => ?_
    have hgo : ¬(d.now < t + sNs 1 ∨ d.guaranteesLost = true ∨ (d.slotMost < d.slotNeed ∧ d.filtered i x.volume = true)) := by
      rintro (h | h | ⟨hslots, h⟩)
      · omega
      · exact Bool.false_ne_true (hheld.symm.trans h)
      · exact Bool.false_ne_true ((hfilter hslots).symm.trans h)
    simp only [hx, hrisk, hsince, if_neg hgo]
  case stays =>
    refine does_of (exec_atRiskClear i) fun d ⟨hx, hnot⟩ => ?_
    simp only [hx]
    split
    next t hrisk hsince =>
      have hlost : d.guaranteesLost = true := hnot.elim (fun h => absurd (h.symm.trans hrisk) nofun) fun h =>
        h.elim (fun h => absurd (h.symm.trans hsince) nofun) id
      exact if_pos (.inr (.inl hlost))
    next => rfl
  case quiesced =>
    refine does_of (exec_drainEnd t) fun d ⟨hx, hlife, hover, hnone⟩ => ?_
    have hgo : ¬(x.life ≠ .draining ∨ (!d.drained t) = true) := by simp [hlife, hover]
    simp only [Dev.drainEnd, hx, if_neg hgo, hnone]
    rfl
  case enabled =>
    refine does_of (exec_drainEnd t) fun d ⟨hx, hlife, hover, hsome⟩ => ?_
    have hgo : ¬(x.life ≠ .draining ∨ (!d.drained t) = true) := by simp [hlife, hover]
    simp only [Dev.drainEnd, hx, if_neg hgo, if_neg (mt List.isEmpty_iff.1 hsome)]
  case notYet =>
    refine does_of (exec_drainEnd t) fun d ⟨hx, hnot⟩ => ?_
    have hstop : x.life ≠ .draining ∨ (!d.drained t) = true := hnot.imp_right (congrArg (!·))
    simp only [Dev.drainEnd, hx, if_pos hstop, id_eq]

end Sys2Proof.BackgroundSettled

/-! SUPPORT. The end of a command, and a session's undoing, leave every session in its place. -/

namespace Sys2Proof.SessionProofs

open Sys2Proof.Machine Sys2Proof.Claims Sys2Proof.SegmentProofs

variable (d : Dev)

theorem sessions_wr (f : Fld) (n : Nat) : (d.wr f n).sessions = d.sessions := by
  cases d
  rfl

theorem sessions_raiseIbi (sev : Nat) : (d.raiseIbi sev).sessions = d.sessions := by
  unfold Dev.raiseIbi
  split
  · split <;> rfl
  · rfl

theorem sessions_eventRec (c sev tenant inst : Nat) (anchor : Bool) (args : List Nat) (body : Bytes) :
    (d.eventRec c sev tenant inst anchor args body).sessions = d.sessions := by
  rw [Dev.eventRec, sessions_raiseIbi]
  split <;> rfl

theorem sessions_eventLim (c sev tenant inst obj interval : Nat) (args : List Nat) :
    (d.eventLim c sev tenant inst obj interval args).sessions = d.sessions := by
  simp only [Dev.eventLim]
  split <;> split
  case h_1.isTrue | h_2.isTrue => exact sessions_eventRec ..
  all_goals rfl

theorem sessions_endOps (dies : Nat → Bool) : (d.endOps dies).sessions = d.sessions := by
  simp only [Dev.endOps]
  rw [foldl_keeps Dev.sessions fun _ _ => by rfl, foldl_keeps Dev.sessions fun _ _ => by rfl]

theorem sessions_partPort (n : Nat) : (d.partPort n).sessions = d.sessions := by
  unfold Dev.partPort
  split
  · rfl
  · split
    · exact sessions_endOps d _
    · rfl
    · rfl

theorem sessions_leavePorts (ns : List Nat) : (d.leavePorts ns).sessions = d.sessions :=
  foldl_keeps Dev.sessions (fun _ _ => sessions_partPort _ _) _ _

theorem sessions_fenceQuiet (n : Nat) : (d.fenceQuiet n).sessions = d.sessions := by
  unfold Dev.fenceQuiet
  split
  · rfl
  · simp only [Dev.releasePorts, Dev.dropDead, sessions_leavePorts, sessions_wr]

theorem sessions_latchBreach (ledger term inst left right : Nat) : (d.latchBreach ledger term inst left right).sessions = d.sessions := by
  unfold Dev.latchBreach
  split
  · simp only [sessions_wr]
  · rfl

theorem sessions_breach (ledger term inst left right : Nat) : (d.breach ledger term inst left right).sessions = d.sessions := by
  simp only [Dev.breach]
  split
  · exact sessions_latchBreach ..
  · rw [sessions_fenceQuiet, sessions_eventRec]
    exact sessions_latchBreach ..

theorem sessions_slotMark (pct : Nat) (f : Fld) : (d.slotMark pct f).sessions = d.sessions := by
  simp only [Dev.slotMark]
  split <;> split <;> rfl

theorem sessions_schedRegs : d.schedRegs.sessions = d.sessions := by
  simp only [Dev.schedRegs]
  split
  · simp only [sessions_breach, sessions_slotMark, sessions_wr]
  · split <;> simp only [sessions_breach, sessions_slotMark, sessions_wr]

theorem sessions_watermarkEvent (p which : Nat) : (d.watermarkEvent p which).sessions = d.sessions := by
  simp only [Dev.watermarkEvent]
  split <;> exact sessions_eventLim ..

theorem sessions_watermark (p which pct : Nat) (f : Fld) : (d.watermark p which pct f).sessions = d.sessions := by
  simp only [Dev.watermark]
  split
  · split <;> rfl
  · split
    · exact sessions_watermarkEvent ..
    · rfl

theorem sessions_checkPool (p : Nat) : (d.checkPool p).sessions = d.sessions := by
  unfold Dev.checkPool
  split
  · exact sessions_breach ..
  · rfl

theorem sessions_poolRegs (p : Nat) : (d.poolRegs p).sessions = d.sessions := by
  simp only [Dev.poolRegs, sessions_watermark, sessions_wr]

theorem sessions_coreRegs (c : Nat) : (d.coreRegs c).sessions = d.sessions := by
  simp only [Dev.coreRegs, sessions_wr]

theorem sessions_setCore (c : Nat) (x : Core) : (d.setCore c x).sessions = d.sessions := sessions_coreRegs ..

theorem sessions_release (n : Nat) : (d.release n).sessions = d.sessions := by
  simp only [Dev.release]
  split
  · exact sessions_breach ..
  · split
    · rw [sessions_checkPool, sessions_poolRegs]
      rfl
    · split <;> rfl

theorem sessions_releases (hs : List Nat) : (hs.foldl (fun d h => d.release h) d).sessions = d.sessions :=
  foldl_keeps Dev.sessions sessions_release _ _

theorem sessions_releaseAll (n : Nat) : (d.releaseAll n).sessions = d.sessions := sessions_releases ..

theorem sessions_laneRegs (dig : Bool) (l : Nat) : (d.laneRegs dig l).sessions = d.sessions := by
  simp only [Dev.laneRegs]
  split <;> rfl

theorem sessions_purgeJobs : d.purgeJobs.sessions = d.sessions := by
  simp only [Dev.purgeJobs]
  rw [foldl_keeps Dev.sessions fun _ _ => sessions_laneRegs .., foldl_keeps Dev.sessions fun _ _ => sessions_laneRegs ..,
    foldl_keeps Dev.sessions fun _ _ => by rfl]

theorem sessions_dropTask (ti : Nat) : (d.dropTask ti).sessions = d.sessions := by
  simp only [Dev.dropTask]
  split
  · rfl
  next t _ =>
    rw [sessions_schedRegs, sessions_purgeJobs]
    cases t.core with
    | none => exact sessions_releases ..
    | some c =>
      simp only [sessions_coreRegs, Dev.consumes]
      exact (sessions_releases ..).trans (sessions_setCore ..)

theorem sessions_dropTasks (n : Nat) : (d.dropTasks n).sessions = d.sessions := foldl_keeps Dev.sessions sessions_dropTask _ _

theorem sessions_dropXfers (n : Nat) : (d.dropXfers n).sessions = d.sessions := by
  simp only [Dev.dropXfers, Dev.endXfers]
  rw [foldl_keeps Dev.sessions fun _ _ => by rfl]

theorem sessions_relayHeld (k : Nat) : (d.relayHeld k).sessions = d.sessions := by
  unfold Dev.relayHeld
  split
  · split <;> rfl
  · rfl

theorem sessions_queueStatus (st : Status) : (d.queueStatus st).sessions = d.sessions := by
  simp only [Dev.queueStatus]
  split
  · rfl
  · split
    · split
      · exact sessions_relayHeld ..
      · rfl
    · exact sessions_relayHeld ..

theorem sessions_completeAs (id : Nat) (code : Code) (applied retval : Nat) (medium : Bool) :
    (d.completeAs id code applied retval medium).sessions = d.sessions := by
  simp only [Dev.completeAs]
  split
  · rfl
  · split
    · rfl
    · split
      · rfl
      · split
        · rfl
        · exact sessions_queueStatus ..

theorem sessions_unmiss (id : Nat) : (d.unmiss id).sessions = d.sessions := by
  simp only [Dev.unmiss]
  split
  · rfl
  · split
    · rfl
    · split <;> rfl

theorem sessions_endCmd (id : Nat) (code : Code) (applied retval : Nat) : (d.endCmd id code applied retval).sessions = d.sessions := by
  simp only [Dev.endCmd]
  split
  · rfl
  · split
    · rfl
    · simp only [sessions_purgeJobs, sessions_dropXfers, sessions_dropTasks, sessions_releaseAll, Dev.modCmd]
      rw [foldl_keeps Dev.sessions fun _ _ => sessions_releases .., sessions_completeAs]
      split
      · rfl
      · exact sessions_unmiss ..

theorem sessions_linkSend (b : LinkBody) : (d.linkSend b).1.sessions = d.sessions := by
  simp only [Dev.linkSend]
  split
  · rfl
  · split <;> rfl

theorem sessions_logBatch (g : Nat) (recs : List Rec) (cmd : Option Nat) (piece : Nat) (needs : List Nat) (c : Claim) :
    (d.logBatch g recs cmd piece needs c).sessions = d.sessions := by
  unfold Dev.logBatch
  split
  · rfl
  · simp only [Dev.modGroup, Dev.mirrorSend]
    split
    · exact sessions_linkSend ..
    · rfl

theorem sessions_logOwn (g : Nat) (recs : List Rec) (c : Claim) : (d.logOwn g recs c).sessions = d.sessions := by
  unfold Dev.logOwn
  split
  · rfl
  · exact sessions_logBatch ..

theorem sessions_tellReceived (n : Nat) : (d.tellReceived n).sessions = d.sessions := by
  unfold Dev.tellReceived
  split
  · split
    · exact sessions_linkSend ..
    · rfl
  · rfl

/-- A command of a session that is undone ends aborted, marked as its own. -/
theorem sessions_endAborted (d : Dev) (e : Nat × Cmd) :
    ((d.endCmd e.1 .aborted 0 0).modCmd e.1 fun c => c.setNum 28 1).sessions = d.sessions := sessions_endCmd ..

/-- A session's undoing leaves it a session. -/
theorem isSome_session_rollBack {d : Dev} {n : Nat} (h : (tget d.sessions n).isSome = true) : (tget (d.rollBack n).sessions n).isSome = true := by
  simp only [Dev.rollBack]
  split
  · exact h
  · split
    · exact h
    · rw [sessions_tellReceived, Dev.modSess, tget_tmod, if_pos rfl, Option.isSome_map, sessions_logOwn]
      exact (congrArg (fun t => (tget t n).isSome) (foldl_keeps Dev.sessions sessions_endAborted _ d)).trans h

/-- A session that a message of a cycle begins stays one. -/
theorem isSome_session_begun {d : Dev} {n : Nat} (h : Bytes) (hn : (tget d.sessions n).isSome = true) : (tget (begun d n h).sessions n).isSome = true := by
  simp only [begun, Dev.modSess, tget_tmod, if_pos, Option.isSome_map]
  split
  · split
    · exact isSome_session_rollBack hn
    · exact hn
  · exact hn

end Sys2Proof.SessionProofs

/-! SUPPORT. Replication sessions: the statement ReplicationCommands. -/

namespace Sys2Proof.ReplSettled

open Sys2Proof.Machine Sys2Proof.Claims Sys2Proof.DoesProofs Sys2Proof.FetchProofs Sys2Proof.SegmentProofs Sys2Proof.SessionProofs

theorem tmod_of_none {α : Type} {t : Tbl α} {k : Nat} (f : α → α) (h : tget t k = none) : tmod t k f = t := by
  induction t with
  | nil => rfl
  | cons e r ih =>
    obtain ⟨j, w⟩ := e
    unfold tget at h
    unfold tmod
    split at h
    next => cases h
    next hj =>
      rw [if_neg hj]
      split at h
      next hk => rw [if_pos hk]
      next hk => rw [if_neg hk, ih h]

theorem modSess_of_none {d : Dev} {n : Nat} (f : Sess → Sess) (h : tget d.sessions n = none) : d.modSess n f = d := by
  simp only [Dev.modSess, tmod_of_none f h]

/-- What a message of a cycle makes of the receiving session it reaches. -/
theorem cycleOf_eq_begun (e : Dev) (n : Nat) (h : Bytes) : e.cycleOf n (le h 4 4) = begun e n h := by
  simp only [Dev.cycleOf, begun]
  cases hx : tget e.sessions n with
  | none => exact (modSess_of_none _ hx).symm
  | some x =>
    have hlate : (x.midCycle = true ∧ x.cycle ≠ le h 4 4) ↔ (x.midCycle && decide (x.cycle ≠ le h 4 4)) = true := by simp
    simp only [hlate]

/-- What CYCLE_END does, as a function of the part. -/
def cycleEnd (net : Net) (raw : Bytes) (d : Dev) : Dev :=
  match d.openRepl net raw 3 with
  | (d, none) => d
  | (d, some (n, x, h, _)) =>
    if !x.receiver ∨ (x.state ≠ .idle ∧ x.state ≠ .sending) then d else
    let d := d.cycleOf n (le h 4 4)
    let whole : Bool := match tget d.sessions n with | some x => decide (x.wrote.length = le h 0x18 4) | none => false
    if !whole then d else
    (d.modSess n fun x => { x with state := .waitAck, endDue := some (le h 8 8) }).settle

theorem exec_cycleEnd (net : Net) (raw : Bytes) (s : State) : exec (.replCycleEnd net raw) s = onDev (cycleEnd net raw) s := rfl

/-- CYCLE_END to a receiving session compares the grains its cycle has entered with RECORDS. -/
theorem cycleEnd_of_known {d e : Dev} {net : Net} {raw h b : Bytes} {n : Nat} {x : Sess} (hopen : opens d net raw 3 n e x h b) (hrecv : x.receiver = true)
    (hstate : x.state = .idle ∨ x.state = .sending) (hknown : tget e.sessions n ≠ none) : cycleEnd net raw d =
      if (!decide (entered e n h = le h 0x18 4)) = true then begun e n h
      else ((begun e n h).modSess n fun x => { x with state := .waitAck, endDue := some (le h 8 8) }).settle := by
  have hgo : ¬((!x.receiver) = true ∨ (x.state ≠ .idle ∧ x.state ≠ .sending)) := by rcases hstate with h | h <;> simp [hrecv, h]
  obtain ⟨y, hy⟩ := Option.isSome_iff_exists.1 (isSome_session_begun h (Option.isSome_iff_ne_none.2 hknown))
  unfold opens at hopen
  simp only [cycleEnd, hopen, if_neg hgo, cycleOf_eq_begun, entered, hy]

/-- Settles O47: each message and cycle as its session stands. -/
theorem replicationCommands : Obligations.ReplicationCommands := by
  refine ⟨fun n x => ?starts, fun n x => ?notYet, fun net raw n e x h b v => ?fits, fun net raw n e x h b v => ?mismatch, fun net raw n e x h b v => ?idle,
    fun net raw n e x h b v f => ?entered, fun net raw n e x h b v f => ?refused, fun net raw n e x h b => ?cycleEnd, fun net raw n e x h b => ?notWhole,
    fun net raw n e x h b => ?ack, fun net raw n e x h b => ?ended, fun net raw n e x h b => ?never, fun net raw n e x h b => ?helloAgain,
    fun net raw n e x h b => ?resends, fun net raw n e x h b => ?senderFails, fun n x => ?undone, fun n x => ?failed, fun n x => ?stays⟩
  case starts =>
    refine does_of (exec_replCycle n) fun d ⟨hx, hsend, hidle, hopen, hdue⟩ => ?_
    have hgo : ¬(x.receiver = true ∨ x.state ≠ .idle ∨ x.closer.isSome = true ∨ d.now < x.startedAt + msNs x.interval) := by
      simp [hsend, hidle, hopen, hdue]
    simp only [hx, if_neg hgo]
  case notYet =>
    refine does_of (exec_replCycle n) fun d ⟨hx, hnot⟩ => ?_
    simp only [hx]
    exact if_pos (hnot.imp_right fun h => h.imp_right .inr)
  case fits =>
    refine does_of (exec_replHello net raw) fun d ⟨hopen, hv, hrecv, hfit⟩ => ?_
    obtain ⟨hhandle, hgrain, hcap⟩ := hfit
    have hgo : ¬(le h 0x10 8 ≠ v.handle x.volume ∨ le b 0 8 ≠ b2n v.grain16 ∨ v.capacity < le b 8 8) := by simp [hhandle, hgrain, hcap]
    unfold opens at hopen
    simp only [hopen, hv, hrecv, if_true, if_neg hgo]
  case mismatch =>
    refine does_of (exec_replHello net raw) fun d ⟨hopen, hv, hrecv, hfit⟩ => ?_
    have hbad : le h 0x10 8 ≠ v.handle x.volume ∨ le b 0 8 ≠ b2n v.grain16 ∨ v.capacity < le b 8 8 := by
      by_contra hno
      simp only [not_or, ne_eq, not_not, Nat.not_lt] at hno
      exact hfit hno
    unfold opens at hopen
    simp only [hopen, hv, hrecv, if_true, if_pos hbad]
  case idle =>
    refine does_of (exec_replHello net raw) fun d ⟨hopen, hv, hrecv, hstate⟩ => ?_
    unfold opens at hopen
    simp only [hopen, hv, hrecv, Bool.false_eq_true, if_false, if_pos hstate]
  case entered | refused =>
    refine does_of (exec_replGrains net raw) fun d ⟨hopen, hv, hrecv, hstate, hall⟩ => ?_
    have hgo : ¬((!x.receiver) = true ∨ (x.state ≠ .idle ∧ x.state ≠ .sending)) := by rcases hstate with h | h <;> simp [hrecv, h]
    unfold opens at hopen
    simp only [hopen, hv, if_neg hgo, cycleOf_eq_begun, hall]
  case cycleEnd =>
    refine does_of (exec_cycleEnd net raw) fun d ⟨hopen, hrecv, hstate, hknown, hall⟩ => ?_
    exact (cycleEnd_of_known hopen hrecv hstate hknown).trans (if_neg (not_true_of_true (decide_eq_true hall)))
  case notWhole =>
    refine does_of (exec_cycleEnd net raw) fun d ⟨hopen, hrecv, hstate, hknown, hnot⟩ => ?_
    exact (cycleEnd_of_known hopen hrecv hstate hknown).trans (if_pos (congrArg (!·) (decide_eq_false hnot)))
  case ack =>
    refine does_of (exec_replAck net raw) fun d ⟨hopen, hsend, hstate⟩ => ?_
    have hgo : ¬(x.receiver = true ∨ (x.state ≠ .sending ∧ x.state ≠ .waitAck)) := by simp [hsend, hstate]
    have hmore : ¬(decide (x.state = .waitAck) && (x.unacked.filter fun e => decide (le b 0 8 < e.1)).isEmpty && !x.unacked.isEmpty && x.outbox.isEmpty) =
        true := by simp [hstate]
    unfold opens at hopen
    simp only [hopen, if_neg hgo, if_neg hmore]
  case ended =>
    refine does_of (exec_replAck net raw) fun d ⟨hopen, hsend, hstate, hall, hsome, hout⟩ => ?_
    have hgo : ¬(x.receiver = true ∨ (x.state ≠ .sending ∧ x.state ≠ .waitAck)) := by simp [hsend, hstate]
    have hnone : (x.unacked.filter fun e => decide (le b 0 8 < e.1)) = [] := List.filter_eq_nil_iff.2 fun e he => by
      simpa using hall e he
    have hended : (decide (x.state = .waitAck) && ([] : List (Nat × Bytes)).isEmpty && !x.unacked.isEmpty && x.outbox.isEmpty) = true := by simp [hstate, hsome, hout]
    unfold opens at hopen
    simp only [hopen, if_neg hgo, hnone]
    exact congrArg Dev.settle (if_pos hended)
  case never =>
    refine does_of (exec_replFail net raw) fun d ⟨hopen, hsend, hstate, hcode⟩ => ?_
    unfold opens at hopen
    simp only [hopen, hsend, Bool.false_eq_true, if_false, if_pos hstate, if_pos hcode]
  case helloAgain =>
    refine does_of (exec_replFail net raw) fun d ⟨hopen, hsend, hstate, hcode⟩ => ?_
    unfold opens at hopen
    simp only [hopen, hsend, Bool.false_eq_true, if_false, if_pos hstate, if_neg hcode, List.isEmpty_iff]
  case resends =>
    refine does_of (exec_replFail net raw) fun d ⟨hopen, hsend, hstate, hcode⟩ => ?_
    have hopening : x.state ≠ .opening := by rcases hstate with h | h <;> simp [h]
    have hgo : ¬(x.state ≠ .sending ∧ x.state ≠ .waitAck) := by rcases hstate with h | h <;> simp [h]
    unfold opens at hopen
    simp only [hopen, hsend, Bool.false_eq_true, if_false, if_neg hopening, if_neg hgo, if_pos hcode]
  case senderFails =>
    refine does_of (exec_replFail net raw) fun d ⟨hopen, hsend, hstate, hcode⟩ => ?_
    have hopening : x.state ≠ .opening := by rcases hstate with h | h <;> simp [h]
    have hgo : ¬(x.state ≠ .sending ∧ x.state ≠ .waitAck) := by rcases hstate with h | h <;> simp [h]
    unfold opens at hopen
    simp only [hopen, hsend, Bool.false_eq_true, if_false, if_neg hopening, if_neg hgo, if_neg hcode]
  case undone | failed =>
    refine does_of (exec_cycleFail n) fun d ⟨hx, hup, hrecv, hmid⟩ => ?_
    have hgo : ¬(sessUp d x = true ∨ (!midway x) = true) := by simp [hup, hmid]
    simp only [hx]
    refine (if_neg hgo).trans ?_
    simp only [hrecv, Bool.false_eq_true, if_true, if_false]
  case stays =>
    refine does_of (exec_cycleFail n) fun d ⟨hx, hnot⟩ => ?_
    have hstop : sessUp d x = true ∨ (!midway x) = true := hnot.imp_right (congrArg (!·))
    simp only [hx]
    exact if_pos hstop

end Sys2Proof.ReplSettled

/-! SUPPORT. Frames of the partner: the statements LinkFrames and PairingFrames. -/

namespace Sys2Proof.LinkSettled

open Sys2Proof.Machine Sys2Proof.Claims Sys2Proof.DoesProofs Sys2Proof.FetchProofs

/-- A sealed frame that is taken has its effect. -/
theorem onSealed_of_takes {d e : Dev} {h : LinkHdr} (f : Dev → Dev) (ht : takesSealed h e d) : d.onSealed h f = f e := by
  obtain ⟨⟨hsolo, hfence, hup, hphase, hstep⟩, o, hopen, horder⟩ := ht
  have hgo : ¬(d.solo = true ∨ d.fenced = true ∨ (!d.isSet PEER_LINK_UP) = true ∨ d.boot.phase ≠ .running ∨ d.peer.step ≠ 6) := by
    simp [hsolo, hfence, hup, hphase, hstep]
  simp only [Dev.onSealed, if_neg hgo, hopen, horder]

theorem does_of_sealed {c : Instr} {h : LinkHdr} {e : Dev} {g : Dev → Dev} {f : Dev → Dev} (hexec : ∀ s, exec c s = onDev (fun d => d.onSealed h g) s)
    (hf : ∀ d, f d = g e) : Does c (takesSealed h e) f :=
  does_of hexec fun d ht => (onSealed_of_takes g ht).trans (hf d).symm

theorem finishErase_of_tget {e : Dev} {id : Nat} {c : Cmd} (hc : tget e.cmds id = some c) : e.finishErase id = eraseEnd e id c := by
  simp only [Dev.finishErase, hc]
  rfl

/-- A CRYPTO_ERASE that waits for the partner comes to its end with the acknowledgement. -/
theorem partnerDone_of_erase {d : Dev} {id : Nat} {c : Cmd} (hone : partnerWaits d = [id]) (hc : tget d.cmds id = some c) (hop : c.op = .cryptoErase)
    (hknows : partnerKnows d c) : d.partnerDone = eraseEnd d id c := by
  have hgo : ¬(d.linked = true ∧ (d.peer.unacked.any fun x => decide (x.seq + 1 = c.num 17)) = true) := by
    rintro ⟨hlinked, hany⟩
    exact hknows.elim (fun h => Bool.false_ne_true (h.symm.trans hlinked)) fun h => Bool.false_ne_true (h.symm.trans hany)
  have hremove : c.op ≠ .removeTenant := by simp [hop]
  unfold partnerWaits at hone
  simp only [Dev.partnerDone, hone, List.foldl_cons, List.foldl_nil, hc, if_neg hgo, if_neg hremove, if_pos hop, finishErase_of_tget hc]

/-- Settles O49: each frame as it is taken. -/
theorem linkFrames : Obligations.LinkFrames := by
  refine ⟨fun h e g l data => ?data, fun h e es => ?journal, fun h e g first recs => ?maplog, fun h e refs => ?release, fun h e seq => ?linked,
    fun h e seq => ?accepted, fun h e ct => ?rekey, fun h e c => ?control, fun h e st holds q => ?beat, fun h e st holds q => ?claim, fun seq => ?ack,
    fun seq id c => ?erase, fun h c => ?shut, fun h c o => ?late, fun h c => ?closed, ?again, ?down⟩
  case data => exact does_of_sealed (exec_mirrorData h g l data) fun _ => rfl
  case journal => exact does_of_sealed (exec_mirrorJrn h es) fun _ => rfl
  case maplog => exact does_of_sealed (exec_mirrorMaplog h g first recs) fun _ => rfl
  case release => exact does_of_sealed (exec_mirrorRelease h refs) fun _ => rfl
  case linked =>
    refine does_of (exec_mirrorAccept h seq) fun d ⟨htakes, ⟨hdue, hall⟩, hstate⟩ => (onSealed_of_takes _ htakes).trans ?_
    exact if_pos ⟨hdue, hall, hstate⟩
  case accepted =>
    refine does_of (exec_mirrorAccept h seq) fun d ⟨htakes, hmore⟩ => (onSealed_of_takes _ htakes).trans ?_
    exact (if_neg fun ⟨hdue, hall, _⟩ => hmore ⟨hdue, hall⟩).trans (if_neg fun ⟨hdue, hall, _⟩ => hmore ⟨hdue, hall⟩)
  case rekey => exact does_of_sealed (exec_linkRekey h ct) fun _ => rfl
  case control => exact does_of_sealed (exec_linkControl h c) fun _ => rfl
  case beat =>
    refine does_of (exec_heartbeat h st holds q) fun d ⟨htakes, hours⟩ => (onSealed_of_takes _ htakes).trans ?_
    exact if_neg fun h => Bool.false_ne_true (hours.symm.trans h)
  case claim =>
    refine does_of (exec_heartbeat h st holds q) fun d ⟨htakes, hours⟩ => (onSealed_of_takes _ htakes).trans ?_
    exact if_pos hours
  case ack => exact does_of (exec_linkAck seq) fun d _ => rfl
  case erase =>
    refine does_of (exec_linkAck seq) fun d ⟨hone, hc, hop, hknows⟩ => ?_
    exact congrArg Dev.settle (partnerDone_of_erase hone hc hop hknows)
  case shut =>
    refine does_of (exec_linkControl h c) fun d ⟨⟨hsolo, hfence, hup, hphase, hstep⟩, hshut⟩ => ?_
    have hgo : ¬(d.solo = true ∨ d.fenced = true ∨ (!d.isSet PEER_LINK_UP) = true ∨ d.boot.phase ≠ .running ∨ d.peer.step ≠ 6) := by
      simp [hsolo, hfence, hup, hphase, hstep]
    simp only [Dev.onSealed, if_neg hgo, hshut]
  case late =>
    refine does_of (exec_linkControl h c) fun d ⟨⟨hsolo, hfence, hup, hphase, hstep⟩, hopen, hlate⟩ => ?_
    have hgo : ¬(d.solo = true ∨ d.fenced = true ∨ (!d.isSet PEER_LINK_UP) = true ∨ d.boot.phase ≠ .running ∨ d.peer.step ≠ 6) := by
      simp [hsolo, hfence, hup, hphase, hstep]
    simp only [Dev.onSealed, if_neg hgo, hopen, hlate]
  case closed =>
    refine does_of (exec_linkControl h c) fun d hclosed => ?_
    have hstop : d.solo = true ∨ d.fenced = true ∨ (!d.isSet PEER_LINK_UP) = true ∨ d.boot.phase ≠ .running ∨ d.peer.step ≠ 6 := by
      by_contra hno
      simp only [not_or, ne_eq, not_not, Bool.not_eq_true, Bool.not_eq_false'] at hno
      exact hclosed hno
    simp only [Dev.onSealed, if_pos hstop, id_eq]
  case again =>
    refine does_of exec_retransmit fun d hup => ?_
    exact if_neg (not_true_of_true hup)
  case down =>
    refine does_of exec_retransmit fun d hdown => ?_
    exact if_pos (congrArg (!·) hdown)

/-- A pairing frame that is taken at its step has its effect. -/
theorem onClear_of_takes {d e : Dev} {h : LinkHdr} {k : Nat} (f : Dev → Dev) (ht : takesClear h k e d) : d.onClear h (fun n => decide (n = k)) f = f e := by
  obtain ⟨hsolo, hfence, hup, hphase, hstep, hnew, horder⟩ := ht
  have hgo : ¬(d.solo = true ∨ d.fenced = true ∨ (!d.isSet PEER_LINK_UP) = true ∨ d.boot.phase ≠ .running ∨ (!decide (d.peer.step = k)) = true ∨
      d.isSet PEER_STAT_NEW_SERIAL = true) := by simp [hsolo, hfence, hup, hphase, hstep, hnew]
  simp only [Dev.onClear, if_neg hgo, horder]

/-- The training results of a port sent to the partner, where it has any. -/
theorem tellTraining_eq : (fun (d : Dev) (e : Nat × Port) => e.2.results.elim d fun r => d.linkTell (.control (.training e.1 (d.rd (FLP_STAT_MODE_NOW e.1)) r))) =
    fun (d : Dev) (e : Nat × Port) => match e.2.results with
      | some r => d.linkTell (.control (.training e.1 (d.rd (FLP_STAT_MODE_NOW e.1)) r))
      | none => d := by
  funext d e
  cases e.2.results <;> rfl

/-- Settles O50: each frame at its step. -/
theorem pairingFrames : Obligations.PairingFrames := by
  refine ⟨fun h e b k => ?unlike, fun h e b => ?known, fun h e b => ?new, fun h e dc kc => ?invalid, fun h e dc kc => ?certs, fun h e body sig b => ?attested,
    fun h e body sig => ?notAttested, fun h e ct => ?keys, fun lanes => ?starts, fun lanes => ?noLink, fun lanes => ?alone, fun h f e => ?fetches,
    fun h f e => ?answers, fun h f => ?ignored⟩
  case unlike =>
    refine does_of (exec_pairHello h b) fun d ⟨htakes, hfails⟩ => (onClear_of_takes _ htakes).trans ?_
    simp only [hfails]
  case known =>
    refine does_of (exec_pairHello h b) fun d ⟨htakes, hlike, hserial⟩ => (onClear_of_takes _ htakes).trans ?_
    simp only [hlike, if_pos hserial]
  case new =>
    refine does_of (exec_pairHello h b) fun d ⟨htakes, hlike, hserial⟩ => (onClear_of_takes _ htakes).trans ?_
    simp only [hlike, if_neg hserial]
  case invalid =>
    refine does_of (exec_pairCert h dc kc) fun d ⟨htakes, hinvalid⟩ => (onClear_of_takes _ htakes).trans ?_
    exact if_pos (congrArg (!·) hinvalid)
  case certs =>
    refine does_of (exec_pairCert h dc kc) fun d ⟨htakes, hvalid, hleaf⟩ => (onClear_of_takes _ htakes).trans ?_
    exact (if_neg (not_true_of_true hvalid)).trans (if_neg (not_true_of_true hleaf))
  case attested =>
    refine does_of (exec_linkAttest h body sig) fun d ⟨htakes, hhello, hsig, hnonce, hserial⟩ => (onClear_of_takes _ htakes).trans ?_
    simp only [hhello]
    exact if_pos ⟨hsig, hnonce, hserial⟩
  case notAttested =>
    refine does_of (exec_linkAttest h body sig) fun d ⟨htakes, hbad⟩ => (onClear_of_takes _ htakes).trans ?_
    exact if_neg fun ⟨hsig, hnonce, _⟩ => hbad.elim (fun h => Bool.false_ne_true (h.symm.trans hsig)) fun h => h hnonce
  case keys =>
    refine does_of (exec_pairKem h ct) fun d htakes => (onClear_of_takes _ htakes).trans ?_
    simp only [tellTraining_eq]
    rfl
  case starts =>
    refine does_of (exec_jarelLinkUp lanes) fun d ⟨hsolo, hfence, hup, hphase, hstate, hsole⟩ => ?_
    have hgo : ¬(d.solo = true ∨ d.fenced = true) := by simp [hsolo, hfence]
    have hfirst : ¬((lanesUp d lanes).peer.sole = true ∧ (lanesUp d lanes).peer.handback ≠ 0) := by simp [hsole]
    unfold lanesUp at hup hphase hstate hfirst ⊢
    simp only [if_neg hgo, if_neg (not_true_of_true hup), hphase, if_neg hstate, if_neg hfirst]
  case noLink =>
    refine does_of (exec_jarelLinkUp lanes) fun d ⟨hsolo, hfence, hdown⟩ => ?_
    have hgo : ¬(d.solo = true ∨ d.fenced = true) := by simp [hsolo, hfence]
    exact (if_neg hgo).trans (if_pos (congrArg (!·) hdown))
  case alone => exact does_of (exec_jarelLinkUp lanes) fun d halone => if_pos halone
  case fetches =>
    refine does_of (exec_bootFetch h f) fun d ⟨hsolo, hfence, hup, horder, hphase⟩ => ?_
    have hgo : ¬(d.solo = true ∨ d.fenced = true ∨ (!d.isSet PEER_LINK_UP) = true) := by simp [hsolo, hfence, hup]
    simp only [if_neg hgo, horder, if_pos hphase]
  case answers =>
    refine does_of (exec_bootFetch h f) fun d ⟨hsolo, hfence, hup, horder, hphase⟩ => ?_
    have hgo : ¬(d.solo = true ∨ d.fenced = true ∨ (!d.isSet PEER_LINK_UP) = true) := by simp [hsolo, hfence, hup]
    have hrun : e.boot.phase ≠ .fetch := by simp [hphase]
    simp only [if_neg hgo, horder, if_neg hrun, if_pos hphase]
  case ignored =>
    refine does_of (exec_bootFetch h f) fun d hnot => ?_
    by_cases hstop : d.solo = true ∨ d.fenced = true ∨ (!d.isSet PEER_LINK_UP) = true
    · exact if_pos hstop
    · have horder : d.inOrder h = none := by simp_all
      simp only [if_neg hstop, horder, id_eq]

end Sys2Proof.LinkSettled

/-! SUPPORT. The partner's life and death, power and heat: the statements PartnerCommands and PowerCommands. -/

namespace Sys2Proof.PowerSettled

open Sys2Proof.Machine Sys2Proof.Claims Sys2Proof.DoesProofs Sys2Proof.FetchProofs

theorem acts_of_mayAct {d : Dev} (h : mayAct d) : ¬(d.solo = true ∨ d.fenced = true ∨ d.boot.phase ≠ .running ∨ (!d.partnerDead) = true ∨
    d.peer.takeover.isSome = true ∨ d.peer.sole = true) := by
  obtain ⟨hsolo, hfence, hphase, hdead, htake, hsole⟩ := h
  simp [hsolo, hfence, hphase, hdead, htake, hsole]

/-- Settles O51: each row as the partner and the link stand. -/
theorem partnerCommands : Obligations.PartnerCommands := by
  refine ⟨fun l hl => ?replaced, fun l hl => ?isolated, fun l => ?noLane, ?beatOff, ?beat, ?noBeat, ?changed, ?alone, ?dead, ?deadIsolated, ?deadUnpaired,
    ?deadSurvivor, ?alive, ?cut, ?notCut⟩
  case replaced =>
    refine does_of (exec_laneFail l) fun d ⟨hsolo, hup, hlane, hlives⟩ => ?_
    have hgo : ¬(d.solo = true ∨ (!d.isSet PEER_LINK_UP) = true ∨ (!bit (d.rd PEER_LINK_LANES) l) = true ∨ 17 ≤ l) := by simp [hsolo, hup, hlane, hl]
    exact (if_neg hgo).trans (if_neg fun ⟨hlinked, hdown, halive⟩ => hlives ⟨hlinked, Bool.not_eq_true' _ ▸ hdown, halive⟩)
  case isolated =>
    refine does_of (exec_laneFail l) fun d ⟨hsolo, hup, hlane, hlinked, hdown, halive⟩ => ?_
    have hgo : ¬(d.solo = true ∨ (!d.isSet PEER_LINK_UP) = true ∨ (!bit (d.rd PEER_LINK_LANES) l) = true ∨ 17 ≤ l) := by simp [hsolo, hup, hlane, hl]
    exact (if_neg hgo).trans (if_pos ⟨hlinked, congrArg (!·) hdown, halive⟩)
  case noLane =>
    refine does_of (exec_laneFail l) fun d hnot => if_pos ?_
    exact hnot.imp_right (.imp (congrArg (!·)) fun h => .inl (congrArg (!·) h))
  case beatOff =>
    refine does_of exec_heartbeatSend fun d ⟨hfence, hphase, htrip, hoff⟩ => ?_
    have hgo : ¬(d.fenced = true ∨ d.boot.phase ≠ .running ∨ d.thermal.tripped.isSome = true) := by simp [hfence, hphase, htrip]
    exact (if_neg hgo).trans (if_pos hoff)
  case beat =>
    refine does_of exec_heartbeatSend fun d ⟨hfence, hphase, htrip, hon, hsolo, hstep⟩ => ?_
    have hgo : ¬(d.fenced = true ∨ d.boot.phase ≠ .running ∨ d.thermal.tripped.isSome = true) := by simp [hfence, hphase, htrip]
    have htells : ¬((toggled d).solo = true ∨ (toggled d).peer.step ≠ 6) := by simp [hsolo, hstep]
    refine (if_neg hgo).trans ((if_neg (Nat.not_le.2 hon)).trans ?_)
    exact congrArg (fun e : Dev => e.handbackStep.activateStep.settle) (if_neg htells)
  case noBeat =>
    exact does_of exec_heartbeatSend fun d hnot => if_pos hnot
  case changed => exact does_of exec_peeraliveInChange fun d hsolo => if_neg (by simp [hsolo])
  case alone => exact does_of exec_peeraliveInChange fun d hsolo => if_pos hsolo
  case dead | deadIsolated | deadUnpaired | deadSurvivor =>
    refine does_of exec_partnerDead fun d ⟨hact, hstate⟩ => ?_
    simp only [if_neg (acts_of_mayAct hact), hstate]
  case alive =>
    refine does_of exec_partnerDead fun d hnot => if_pos ?_
    by_contra hno
    simp only [not_or, ne_eq, not_not, Bool.not_eq_true, Bool.not_eq_false', Option.isSome_eq_false_iff, Option.isNone_iff_eq_none] at hno
    exact hnot hno
  case cut =>
    refine does_of exec_isolatedMode fun d ⟨hlinked, hfence, halive, hsilent⟩ => if_pos ?_
    exact ⟨hlinked, congrArg (!·) hfence, halive, hsilent.imp_right (congrArg (!·))⟩
  case notCut =>
    refine does_of exec_isolatedMode fun d hnot => if_neg fun ⟨hlinked, hfence, halive, _⟩ => ?_
    rcases hnot with h | h | h
    · exact Bool.false_ne_true (h.symm.trans hlinked)
    · exact not_true_of_true h hfence
    · exact Bool.false_ne_true (h.symm.trans halive)

/-- What an entry's step makes of a part that may go on. -/
theorem entryStep_does {t : Nat} {ok : Dev → Prop} {f : Dev → Dev} (h : ∀ d, ok d → d.power.entering = some t ∧ entryTold d = true ∧ d.fenced = false ∧
      f d = if !d.mayEnter (d.rd PWR_STAT_STATE + 1) then (if d.rd PWR_STAT_STATE + 1 = 3 then d.stowCheckpoint.settle else d) else
        let e := d.enterStep (d.rd PWR_STAT_STATE + 1)
        if d.rd PWR_STAT_STATE + 1 < t then e else { (e.wr PWR_STAT_MOVING 0) with power := { e.power with entering := none, cmd := none } }) :
    Does .entryStep ok f := by
  refine does_of exec_entryStep fun d hok => ?_
  obtain ⟨henter, htold, hfence, hf⟩ := h d hok
  have hgo : ¬((!entryTold d) = true ∨ d.fenced = true) := by simp [htold, hfence]
  simp only [henter]
  exact (if_neg hgo).trans hf.symm

/-- What a sample of a quadrant makes of a running part. -/
theorem paceSample_does {q mv ca : Nat} {mons : List Nat} {ok : Dev → Prop} {f : Dev → Dev} (hq : q < 4) (h : ∀ d, ok d → d.boot.phase = .running ∧
      d.rd PWR_STAT_STATE < 2 ∧ f d = (if (paceSeen d q mons mv ca).rd PWR_STAT_STATE = 0 then (paceSeen d q mons mv ca).govern q
        else paceSeen d q mons mv ca).notePace.admRegs.reRisk) : Does (.paceSample q mons mv ca) ok f := by
  refine does_of (exec_paceSample q mons mv ca) fun d hok => ?_
  obtain ⟨hphase, hstate, hf⟩ := h d hok
  have hgo : ¬(4 ≤ q ∨ d.boot.phase ≠ .running ∨ 2 ≤ d.rd PWR_STAT_STATE) := by simp [hq, hphase, hstate]
  exact (if_neg hgo).trans hf.symm

/-- What a sample of a sensor makes of a part. -/
theorem sensorSample_does {k : Nat} {raw : Int} {op : Bool} {ok : Dev → Prop} {f : Dev → Dev} (hk : k < 32) (h : ∀ d, ok d → d.boot.phase ≠ .reset ∧
      d.boot.phase ≠ .test ∧ f d = if (sensed d k raw op).sensorFailed k ∨ (sensed d k raw op).rd (THM_THR_ENABLE k) = 0 then (sensed d k raw op).releaseHold
        else if (sensed d k raw op).threshold (THM_THR_TRIP k) ≤ raw ∧ (sensed d k raw op).rd PWR_STAT_STATE < 3
        then ((sensed d k raw op).judgeHeat k raw).trip k 0 else ((sensed d k raw op).judgeHeat k raw).releaseHold) : Does (.sensorSample k raw op) ok f := by
  refine does_of (exec_sensorSample k raw op) fun d hok => ?_
  obtain ⟨hreset, htest, hf⟩ := h d hok
  have hgo : ¬(32 ≤ k ∨ d.boot.phase = .reset ∨ d.boot.phase = .test) := by simp [hk, hreset, htest]
  exact (if_neg hgo).trans hf.symm

/-- The part as the thermal watch leaves it where it finds a sensor at TRIP. -/
def trippedBy (d : Dev) (k : Nat) : Dev :=
  let e := (d.recordTrip k 2).assertTrip
  { e with thermal := { e.thermal with tripped := some e.now } }

/-- Settles O52: each row as the state, sensors and rails stand. -/
theorem powerCommands : Obligations.PowerCommands := by
  refine ⟨fun w => ?wakes, fun w hw => ?wakesEntry, fun w => ?sleeps, ?poises, ?notAtRest, ?noPoise, fun t => ?steps, fun t => ?arrives, fun t => ?stows,
    ?waits, fun q mons mv ca hq => ?governed, fun q mons mv ca hq => ?paced, fun k silent hk hsilent => ?regulator, fun k raw op hk => ?trips,
    fun k raw op hk => ?judged, fun e => ?stage2, ?noStage2, fun t => ?off, fun t => ?notOff, fun k hk => ?comparator, fun k => ?watch, ?noWatch⟩
  case wakes =>
    refine does_of (exec_wake w) fun d ⟨hphase, hstate, hwakes⟩ => ?_
    have hgo : ¬(d.boot.phase ≠ .running ∨ (d.rd PWR_STAT_STATE = 0 ∧ d.power.entering.isNone = true)) := by simp [hphase, hstate]
    simp only [if_neg hgo, if_neg hstate, if_pos hwakes]
  case wakesEntry =>
    refine does_of (exec_wake w) fun d ⟨hphase, hstate, henter⟩ => ?_
    have hgo : ¬(d.boot.phase ≠ .running ∨ (d.rd PWR_STAT_STATE = 0 ∧ d.power.entering.isNone = true)) := by
      simp only [hphase, ne_eq, not_true_eq_false, false_or, not_and, Bool.not_eq_true, Option.isNone_eq_false_iff]
      exact fun _ => henter
    simp only [if_neg hgo, if_pos hstate, if_pos hw]
  case sleeps =>
    refine does_of (exec_wake w) fun d hnot => ?_
    rcases hnot with hphase | ⟨hstate, hwakes⟩
    · exact if_pos (.inl hphase)
    · simp only [if_neg hstate, hwakes, Bool.false_eq_true, if_false, ite_self, id_eq]
  case poises =>
    refine does_of exec_autoPoise fun d ⟨haccept, hauto, hstate, henter, hrest, hlong, hnone⟩ => ?_
    have hgo : ¬((!d.accepting) = true ∨ (!d.isSet PWR_CFG_AUTO_POISE) = true ∨ d.rd PWR_STAT_STATE ≠ 0 ∨ d.power.entering.isSome = true) := by
      simp [haccept, hauto, hstate, henter]
    have hdue : ¬(d.now < d.power.idleSince + usNs (d.rd PWR_CFG_POISE_IDLE) ∨ (d.streams.any fun e => e.2.isOpen && decide (e.2.cls = 2)) = true) :=
      fun h => h.elim (Nat.not_lt.2 hlong) fun h => Bool.false_ne_true (hnone.symm.trans h)
    simp only [if_neg hgo, if_neg (not_true_of_true hrest), if_neg hdue]
  case notAtRest =>
    refine does_of exec_autoPoise fun d ⟨haccept, hauto, hstate, henter, hbusy⟩ => ?_
    have hgo : ¬((!d.accepting) = true ∨ (!d.isSet PWR_CFG_AUTO_POISE) = true ∨ d.rd PWR_STAT_STATE ≠ 0 ∨ d.power.entering.isSome = true) := by
      simp [haccept, hauto, hstate, henter]
    exact (if_neg hgo).trans (if_pos (congrArg (!·) hbusy))
  case noPoise => exact does_of exec_autoPoise fun d hauto => if_pos (.inr (.inl (congrArg (!·) hauto)))
  case steps =>
    refine entryStep_does (t := t) fun d ⟨henter, htold, hfence, hmay, hmore⟩ => ⟨henter, htold, hfence, ?_⟩
    simp only [if_neg (not_true_of_true hmay), if_pos hmore]
  case arrives =>
    refine entryStep_does (t := t) fun d ⟨henter, htold, hfence, hmay, hend⟩ => ⟨henter, htold, hfence, ?_⟩
    simp only [if_neg (not_true_of_true hmay), if_neg (Nat.not_lt.2 hend)]
  case stows =>
    refine entryStep_does (t := t) fun d ⟨henter, htold, hfence, hmay, hstate⟩ => ⟨henter, htold, hfence, ?_⟩
    have hnext : d.rd PWR_STAT_STATE + 1 = 3 := by rw [hstate]
    exact ((if_pos (congrArg (!·) hmay)).trans (if_pos hnext)).symm
  case waits =>
    refine does_of exec_entryStep fun d hnot => ?_
    cases henter : d.power.entering with
    | none => rfl
    | some t =>
      by_cases hstop : (!entryTold d) = true ∨ d.fenced = true
      · exact if_pos hstop
      · have hstays : d.mayEnter (d.rd PWR_STAT_STATE + 1) = false ∧ d.rd PWR_STAT_STATE ≠ 2 := by
          rcases hnot with h | h | h | h
          · exact absurd (henter.symm.trans h) nofun
          · exact absurd (.inl (congrArg (!·) h)) hstop
          · exact absurd (.inr h) hstop
          · exact h
        have hnext : d.rd PWR_STAT_STATE + 1 ≠ 3 := fun h => hstays.2 (Nat.succ.inj h)
        exact (if_neg hstop).trans ((if_pos (congrArg (!·) hstays.1)).trans (if_neg hnext))
  case governed =>
    refine paceSample_does hq fun d ⟨hphase, hstate, hactive⟩ => ⟨hphase, hstate, ?_⟩
    rw [if_pos hactive]
  case paced =>
    refine paceSample_does hq fun d ⟨hphase, hstate, hactive⟩ => ⟨hphase, hstate, ?_⟩
    rw [if_neg hactive]
  case regulator =>
    refine does_of (exec_regulatorFault k silent) fun d hphase => if_neg ?_
    rintro (h | ⟨h, hfour⟩ | h)
    · omega
    · exact Nat.not_lt.2 hfour (hsilent h)
    · exact h hphase
  case trips =>
    refine sensorSample_does hk fun d ⟨hreset, htest, hwell, henabled, htrip, hon⟩ => ⟨hreset, htest, ?_⟩
    have hgo : ¬((sensed d k raw op).sensorFailed k = true ∨ (sensed d k raw op).rd (THM_THR_ENABLE k) = 0) := by simp [hwell, henabled]
    rw [if_neg hgo, if_pos ⟨htrip, hon⟩]
  case judged =>
    refine sensorSample_does hk fun d ⟨hreset, htest, hwell, henabled, hbelow⟩ => ⟨hreset, htest, ?_⟩
    have hgo : ¬((sensed d k raw op).sensorFailed k = true ∨ (sensed d k raw op).rd (THM_THR_ENABLE k) = 0) := by simp [hwell, henabled]
    rw [if_neg hgo, if_neg fun h => Int.not_le.2 hbelow h.1]
  case stage2 =>
    refine does_of exec_throttleStage2 fun d ⟨hstage, hfind⟩ => ?_
    simp only [if_neg (not_not.2 hstage), hfind]
  case noStage2 => exact does_of exec_throttleStage2 fun d hstage => if_pos hstage
  case off =>
    refine does_of exec_tripPowerOff fun d ⟨htrip, hlong⟩ => ?_
    simp only [htrip, if_neg (Nat.not_lt.2 hlong)]
  case notOff =>
    refine does_of exec_tripPowerOff fun d ⟨htrip, hsoon⟩ => ?_
    simp only [htrip, if_pos hsoon, id_eq]
  case comparator =>
    refine does_of (exec_thermtripComparator k) fun d henabled => if_neg ?_
    exact fun h => h.elim (Nat.not_le.2 hk) henabled
  case watch =>
    refine does_of exec_thermalWatch fun d ⟨hoff, htrip, hfind⟩ => ?_
    have hgo : ¬(d.rd PWR_STAT_STATE < 3 ∨ d.thermal.tripped.isSome = true) := by simp [hoff, htrip]
    refine (if_neg hgo).trans ?_
    show (match watchTrips (watchRemote d) (watched d) with | some k => trippedBy (watched d) k | none => watched d) = trippedBy (watched d) k
    simp only [hfind]
  case noWatch => exact does_of exec_thermalWatch fun d hnot => if_pos hnot

end Sys2Proof.PowerSettled

/-! SUPPORT. Boot, power loss and time: the statements BootCommands and TimeCommands. -/

namespace Sys2Proof.BootSettled

open Sys2Proof.Machine Sys2Proof.Claims Sys2Proof.DoesProofs Sys2Proof.FetchProofs

/-- Settles O53: each row as the boot's phase and its recovery stand. -/
theorem bootCommands : Obligations.BootCommands := by
  refine ⟨fun b => ?boots, fun b => ?booted, fun a b c t => ?fetchFails, fun a b c t => ?fetchWaits, fun r => ?hello, ?noHello,
    fun mac o t data r => ?data, fun mac o t data r m => ?other, fun mac r => ?incomplete, fun mac r x => ?refused, fun mac r x => ?installed,
    fun mac r x => ?started, fun r => ?silence, ?noRecovery, ?falls, ?rises, ?stays, ?resets, ?inReset, ?drops, fun t => ?bites, ?noDog, ?life⟩
  case boots => exact does_of (exec_boot b) fun d hphase => if_pos hphase
  case booted => exact does_of (exec_boot b) fun d hphase => if_neg hphase
  case fetchFails =>
    refine does_of exec_bootFetchTimeout fun d ⟨hphase, hfetch, hlong⟩ => ?_
    simp only [hphase, hfetch, if_pos hlong]
  case fetchWaits =>
    refine does_of exec_bootFetchTimeout fun d ⟨hphase, hfetch, hsoon⟩ => ?_
    simp only [hphase, hfetch, if_neg (Nat.not_le.2 hsoon), id_eq]
  case hello =>
    refine does_of exec_recoveryHello fun d hr => ?_
    simp only [hr]
  case noHello =>
    refine does_of exec_recoveryHello fun d hr => ?_
    simp only [hr, id_eq]
  case data =>
    refine does_of (exec_recoveryData mac o t data) fun d ⟨hr, hmac⟩ => ?_
    have hgo : ¬(r.mac.any fun m => decide (m ≠ mac.toNat)) = true := by rcases hmac with h | h <;> simp [h]
    simp only [hr, if_neg hgo, recoveryTakes]
  case other =>
    refine does_of (exec_recoveryData mac o t data) fun d ⟨hr, hmac, hother⟩ => ?_
    have hstop : (r.mac.any fun m => decide (m ≠ mac.toNat)) = true := by simp [hmac, hother]
    simp only [hr, if_pos hstop, id_eq]
  case incomplete =>
    refine does_of (exec_recoveryDone mac) fun d ⟨hr, hmac, hnone⟩ => ?_
    unfold recovered at hnone
    simp only [hr, if_neg (not_not.2 hmac), hnone, recoveryAgain]
  case refused =>
    refine does_of (exec_recoveryDone mac) fun d ⟨hr, hmac, hx, hcode⟩ => ?_
    unfold recovered at hx
    simp only [hr, if_neg (not_not.2 hmac), hx]
    exact if_pos hcode
  case installed =>
    refine does_of (exec_recoveryDone mac) fun d ⟨hr, hmac, hx, hcode, hcause⟩ => ?_
    unfold recovered at hx
    unfold recoveryCode at hcode
    simp only [hr, if_neg (not_not.2 hmac), hx, hcode]
    exact (if_neg (not_not.2 rfl)).trans (if_neg hcause)
  case started =>
    refine does_of (exec_recoveryDone mac) fun d ⟨hr, hmac, hx, hcode, hcause⟩ => ?_
    unfold recovered at hx
    unfold recoveryCode at hcode
    simp only [hr, if_neg (not_not.2 hmac), hx, hcode]
    exact (if_neg (not_not.2 rfl)).trans (if_pos hcause)
  case silence =>
    refine does_of exec_recoveryTimeout fun d ⟨hr, hmac, hlong⟩ => ?_
    have hgo : ¬(r.mac.isNone = true ∨ d.now < r.at_ + sNs 10) :=
      fun h => h.elim (fun h => by simp_all) (Nat.not_lt.2 hlong)
    simp only [hr, if_neg hgo]
  case noRecovery =>
    refine does_of exec_recoveryTimeout fun d hr => ?_
    simp only [hr, id_eq]
  case falls =>
    refine does_of exec_pwrfailNFall fun d ⟨hreset, hparked, htest⟩ => if_neg ?_
    exact fun h => h.elim hreset fun h => h.elim hparked htest
  case rises =>
    refine does_of exec_pwrfailNRise fun d ⟨hphase, hover⟩ => if_neg ?_
    exact fun h => h.elim (absurd hphase) (not_true_of_true hover)
  case stays =>
    refine does_of exec_pwrfailNRise fun d hnot => if_pos ?_
    exact hnot.imp_right (congrArg (!·))
  case resets => exact does_of exec_resetNFall fun d hphase => if_neg hphase
  case inReset => exact does_of exec_resetNFall fun d hphase => if_pos hphase
  case drops => exact does_of exec_supplyDrop fun d _ => rfl
  case bites =>
    refine does_of exec_watchdog fun d ⟨hdog, hlong⟩ => ?_
    simp only [hdog, if_neg (Nat.not_lt.2 hlong)]
  case noDog =>
    refine does_of exec_watchdog fun d hdog => ?_
    simp only [hdog, id_eq]
  case life =>
    refine does_of exec_lifeEstimate fun d _ => ?_
    simp only [Bool.not_eq_true'] <;> rfl

end Sys2Proof.BootSettled

namespace Sys2Proof.TimeSettled

open Sys2Proof.Machine Sys2Proof.Claims Sys2Proof.DoesProofs Sys2Proof.FetchProofs

theorem not_refused_of_taken {d : Dev} {p : PtpMsg} (h : syncTaken d p) : ¬((!d.fromMaster p) = true ∨ p.logIvl < -7 ∨ 0 < p.logIvl) := by
  obtain ⟨hfrom, hlow, hhigh⟩ := h
  rintro (h | h | h)
  · exact not_true_of_true hfrom h
  · omega
  · omega

theorem not_refused_of_fits {d : Dev} {p : PtpMsg} (h : announceFits d p) :
    ¬(p.domain ≠ d.rd TIME_CFG_DOMAIN ∨ (d.rd TIME_CFG_PTP_PORT ≠ 31 ∧ d.rd TIME_CFG_PTP_PORT ≠ p.port) ∨ 16 < p.port) := by
  obtain ⟨hdomain, hport, hmost⟩ := h
  rintro (h | ⟨h, hother⟩ | h)
  · exact h hdomain
  · exact hport.elim h hother
  · omega

/-- Settles O54: each message, pulse and timeout as the timebase and its master stand. -/
theorem timeCommands : Obligations.TimeCommands := by
  refine ⟨?steady, ?moved, ?learns, ?learnsNot, ?lost, ?notLost, ?expires, ?expiresNot, fun p => ?sync, fun p => ?twoStep, fun p => ?noSync,
    fun p q rx c => ?followUp, fun p => ?noFollowUp, fun p => ?newMaster, fun p m r => ?same, fun p m r => ?better, fun p m r => ?worse, fun p => ?delay,
    fun p => ?pdelay, fun p => ⟨?noDelay, ?noPdelay⟩, fun p => ⟨?answered, ?notAnswered⟩, ?pulse, ?low, ?held, ?stays⟩
  case steady => exact does_of exec_timebaseUpdate fun d htemp => if_pos htemp
  case moved => exact does_of exec_timebaseUpdate fun d htemp => if_neg htemp
  case learns =>
    refine does_of exec_residualLearn fun d ⟨hstate, htemp, hlong⟩ => if_neg ?_
    exact fun h => h.elim (absurd hstate) fun h => h.elim (absurd htemp) (Nat.not_lt.2 hlong)
  case learnsNot => exact does_of exec_residualLearn fun d hnot => if_pos hnot
  case lost => exact does_of exec_syncTimeout fun d hlost => if_pos hlost
  case notLost =>
    refine does_of exec_syncTimeout fun d hnot => if_neg fun ⟨hmaster, _, hlong⟩ => ?_
    rcases hnot with h | ⟨hsync, hannounce⟩
    · rw [h] at hmaster
      cases hmaster
    · exact hlong.elim (Nat.not_le.2 hsync) (Nat.not_le.2 hannounce)
  case expires => exact does_of exec_holdoverExpiry fun d hover => if_pos hover
  case expiresNot => exact does_of exec_holdoverExpiry fun d hstate => if_neg fun h => hstate h.1
  case sync =>
    refine does_of (exec_ptpSync p) fun d ⟨htaken, htwo⟩ => ?_
    exact (if_neg (not_refused_of_taken htaken)).trans (if_neg fun h => Bool.false_ne_true (htwo.symm.trans h))
  case twoStep =>
    refine does_of (exec_ptpSync p) fun d ⟨htaken, htwo⟩ => ?_
    exact (if_neg (not_refused_of_taken htaken)).trans (if_pos htwo)
  case noSync =>
    refine does_of (exec_ptpSync p) fun d hnot => if_pos ?_
    by_contra hno
    simp only [not_or, Bool.not_eq_true, Bool.not_eq_false', Int.not_lt] at hno
    exact hnot hno
  case followUp =>
    refine does_of (exec_ptpFollowUp p) fun d ⟨htwo, hfrom, hseq⟩ => ?_
    have hgo : ¬((!d.fromMaster p) = true ∨ q ≠ p.seq) := by simp [hfrom, hseq]
    simp only [htwo, if_neg hgo]
  case noFollowUp =>
    refine does_of (exec_ptpFollowUp p) fun d hnot => ?_
    cases htwo : d.time.twoStep with
    | none => rfl
    | some x =>
      have hfrom : (!d.fromMaster p) = true := hnot.elim (fun h => absurd (htwo.symm.trans h) nofun) (congrArg (!·))
      simp only [hfrom, true_or, if_true, id_eq]
  case newMaster =>
    refine does_of (exec_ptpAnnounce p) fun d ⟨hfits, hmaster⟩ => ?_
    simp only [if_neg (not_refused_of_fits hfits), hmaster, selected, heard]
  case same =>
    refine does_of (exec_ptpAnnounce p) fun d ⟨hfits, hmaster, hsource, hport⟩ => ?_
    simp only [if_neg (not_refused_of_fits hfits), hmaster, if_pos (And.intro hsource hport), heard]
  case better =>
    refine does_of (exec_ptpAnnounce p) fun d ⟨hfits, hmaster, hsource, hrank⟩ => ?_
    have hother : ¬(m = p.source ∧ p.port = d.rd TIME_STAT_PORT) := fun h => hsource h.1
    simp only [if_neg (not_refused_of_fits hfits), hmaster, if_neg hother, if_pos hrank, selected, heard]
  case worse =>
    refine does_of (exec_ptpAnnounce p) fun d ⟨hmaster, hsource, hrank⟩ => ?_
    have hother : ¬(m = p.source ∧ p.port = d.rd TIME_STAT_PORT) := fun h => hsource h.1
    simp only [hmaster, if_neg hother, if_neg (Nat.not_lt.2 hrank), ite_self, id_eq]
  case delay =>
    refine does_of (exec_ptpDelayResp p) fun d ⟨hp2p, hmine, hfrom⟩ => if_neg ?_
    simp [hp2p, hmine, hfrom]
  case pdelay =>
    refine does_of (exec_ptpPdelayResp p) fun d ⟨hp2p, hmine, hdomain, hport⟩ => if_neg ?_
    simp [hp2p, hmine, hdomain, hport]
  case noDelay => exact does_of (exec_ptpDelayResp p) fun d hp2p => if_pos (.inl hp2p)
  case noPdelay => exact does_of (exec_ptpPdelayResp p) fun d hp2p => if_pos (.inl (congrArg (!·) hp2p))
  case answered => exact does_of (exec_ptpPdelayReq p) fun d hdomain => if_pos hdomain
  case notAnswered => exact does_of (exec_ptpPdelayReq p) fun d hdomain => if_neg hdomain
  case pulse =>
    refine does_of exec_ppsPulse fun d ⟨hlow, hwrap⟩ => ?_
    simp only [hlow, Bool.false_eq_true, if_false, if_pos hwrap, ppsSet]
  case low =>
    refine does_of exec_ppsPulse fun d ⟨hhigh, hover⟩ => ?_
    simp only [hhigh, if_true, if_pos hover, ppsSet]
  case held =>
    refine does_of exec_ppsPulse fun d ⟨hhigh, hwrap, hsoon⟩ => ?_
    have hstay : ¬(d.time.ppsAt < stampSec d.stamp ∨ 100000000 ≤ stampNs d.stamp) := by omega
    simp only [hhigh, if_true, if_neg hstay, id_eq]
  case stays =>
    refine does_of exec_ppsPulse fun d ⟨hlow, hwrap⟩ => ?_
    simp only [hlow, Bool.false_eq_true, if_false, if_neg (Nat.not_lt.2 hwrap), id_eq]

end Sys2Proof.TimeSettled

/-! SUPPORT. Memories, entropy and the rest, and the part at reset: the statements MemoryCommands and ResetLeaves. -/

namespace Sys2Proof.MemorySettled

open Sys2Proof.Machine Sys2Proof.Claims Sys2Proof.DoesProofs Sys2Proof.FetchProofs

theorem retrainDue_iff (d : Dev) (ch : Nat) (temp : Int) : retrainDue d ch temp ↔
    ¬(d.now < (tget d.dram.trainedAt ch).getD (ch * msNs (d.rd DRC_TRAIN_INTERVAL) / 8) + msNs (d.rd DRC_TRAIN_INTERVAL) ∧
      (!match tget d.dram.trainedTemp ch with
        | some t => decide ((d.rd DRC_TRAIN_TEMP_DELTA : Int) < (temp - t).natAbs)
        | none => false) = true) := by
  unfold retrainDue
  cases tget d.dram.trainedTemp ch with
  | none => simp
  | some t =>
    simp only [Option.some.injEq, exists_eq_left', Bool.not_eq_true', decide_eq_false_iff_not]
    omega

/-- Settles O55: each row as the channel, tile, bank, source or pin it names stands. -/
theorem memoryCommands : Obligations.MemoryCommands := by
  refine ⟨fun ch row hch => ?repaired, fun ch row hch => ?noted, fun ch row n hn => ?clean, fun ch row owner hch => ?lost, fun ch temp hch => ?retrained,
    fun ch temp => ?notDue, fun ch hch => ?refreshed, fun ch bank row hch => ?held, fun ch bank row p hch => ?heldFor, fun o ho => ?tile, fun e he => ?stencil,
    fun e he => ?noStencil, fun c hc => ?core, fun c t hc => ?coreTask, fun t => ?copied, fun t => ?noCopy, fun x => ?scrubbed, fun x id => ?scrubbedFor, ?noScrub,
    fun b k t hb => ?cleared, fun b => ?noClear, fun v => ?passes, fun v => ?fails, fun v => ?failsThird, fun v => ?failedSource, fun cmd c => ?timesOut,
    fun cmd c => ?inTime, ?nextTree, ?noTree, fun ir => ?bypass, fun ir => ?tap, fun a => ?address, ?serviced⟩
  case repaired =>
    refine does_of (exec_patrolScrub ch row 1) fun d hmany => ?_
    have hgo : ¬((1 : Nat) ≠ 1 ∨ 8 ≤ ch) := by omega
    exact (if_neg hgo).trans (if_pos hmany)
  case noted =>
    refine does_of (exec_patrolScrub ch row 1) fun d hfew => ?_
    have hgo : ¬((1 : Nat) ≠ 1 ∨ 8 ≤ ch) := by omega
    exact (if_neg hgo).trans (if_neg (Nat.not_le.2 hfew))
  case clean => exact does_of (exec_patrolScrub ch row n) fun d _ => if_pos (.inl hn)
  case lost => exact does_of (exec_dramUncorrectable ch row owner) fun d _ => if_neg (Nat.not_le.2 hch)
  case retrained =>
    refine does_of (exec_dramRetrain ch temp) fun d hdue => if_neg fun h => ?_
    exact h.elim (Nat.not_le.2 hch) ((retrainDue_iff d ch temp).1 hdue)
  case notDue =>
    refine does_of (exec_dramRetrain ch temp) fun d hnot => if_pos (.inr ?_)
    exact Decidable.not_not.1 (mt (retrainDue_iff d ch temp).2 hnot)
  case refreshed => exact does_of (exec_refresh ch) fun d _ => if_neg (Nat.not_le.2 hch)
  case held => exact does_of (exec_rowActivationLimit ch bank row none) fun d _ => if_neg (Nat.not_le.2 hch)
  case heldFor => exact does_of (exec_rowActivationLimit ch bank row (some p)) fun d _ => if_neg (Nat.not_le.2 hch)
  case tile => exact does_of (exec_tileParityError (.tile o)) fun d _ => if_neg (Nat.not_le.2 ho)
  case stencil => exact does_of (exec_tileParityError (.stencil e)) fun d _ => if_neg (Nat.not_le.2 he)
  case noStencil => exact does_of (exec_tileParityError (.stencil e)) fun d _ => if_pos he
  case core =>
    refine does_of (exec_tileParityError (.core c)) fun d ⟨hactive, hidle⟩ => ?_
    have hgo : ¬((!(d.core c).active) = true ∨ 136 ≤ c) := by simp [hactive, hc]
    simp only [if_neg hgo, hidle, if_pos hactive]
  case coreTask =>
    refine does_of (exec_tileParityError (.core c)) fun d ⟨hactive, hrun⟩ => ?_
    have hgo : ¬((!(d.core c).active) = true ∨ 136 ≤ c) := by simp [hactive, hc]
    simp only [if_neg hgo, hrun]
  case copied => exact does_of (exec_tileCopyDone t) fun d hcopy => if_pos hcopy
  case noCopy => exact does_of (exec_tileCopyDone t) fun d hnone => if_neg fun h => Bool.false_ne_true (hnone.symm.trans h)
  case scrubbed =>
    refine does_of exec_scrubDone fun d ⟨hx, hcmd⟩ => ?_
    simp only [hx, hcmd]
    rfl
  case scrubbedFor =>
    refine does_of exec_scrubDone fun d ⟨hx, hcmd, hlive⟩ => ?_
    simp only [hx, hcmd, if_pos hlive]
    rfl
  case noScrub =>
    refine does_of exec_scrubDone fun d hnone => ?_
    simp only [hnone, id_eq]
  case cleared =>
    refine does_of (exec_stencilBankCleared b) fun d hnext => ?_
    simp only [hnext, if_pos hb]
  case noClear =>
    refine does_of (exec_stencilBankCleared b) fun d hnone => ?_
    simp only [hnone, id_eq]
  case passes =>
    refine does_of (exec_entropySample v) fun d ⟨hlive, hpass, hover⟩ => ?_
    have hstarted : ¬((d.sec.entropy.take v.toNat).1.startLeft = 0 ∧ (!d.isSet SEC_STAT_ES_READY) = true) :=
      fun ⟨hzero, hnot⟩ => hover.elim (absurd hzero) fun h => not_true_of_true h hnot
    simp only [hlive, Bool.false_eq_true, if_false, if_pos hpass]
    exact if_neg hstarted
  case fails =>
    refine does_of (exec_entropySample v) fun d ⟨hlive, hfail, hfew⟩ => ?_
    simp only [hlive, hfail, Bool.false_eq_true, if_false, if_neg (Nat.not_le.2 hfew)]
  case failsThird =>
    refine does_of (exec_entropySample v) fun d ⟨hlive, hfail, hmany⟩ => ?_
    simp only [hlive, hfail, Bool.false_eq_true, if_false, if_pos hmany]
  case failedSource => exact does_of (exec_entropySample v) fun d hfailed => if_pos hfailed
  case timesOut =>
    refine does_of (exec_entropyWaitTimeout cmd) fun d ⟨hc, hhold, hnone, hlong⟩ => ?_
    simp only [hc]
    exact if_pos ⟨hhold, congrArg (!·) hnone, hlong⟩
  case inTime =>
    refine does_of (exec_entropyWaitTimeout cmd) fun d ⟨hc, hnot⟩ => ?_
    simp only [hc]
    refine if_neg fun ⟨hhold, hnone, hlong⟩ => ?_
    exact hnot.elim (absurd hhold) fun h => h.elim (fun h => not_true_of_true h hnone) (Nat.not_lt.2 hlong)
  case nextTree =>
    refine does_of exec_nextTreeDone fun d ⟨hleaf, hspent, hnext⟩ => if_neg ?_
    exact fun h => h.elim (Nat.not_le.2 hleaf) fun h => h.elim (Nat.not_lt.2 hspent) fun h => Bool.false_ne_true (hnext.symm.trans h)
  case noTree => exact does_of exec_nextTreeDone fun d hnot => if_pos (.inr hnot)
  case bypass =>
    refine does_of (exec_jtagAccess ir) fun d hzero => ?_
    simp only [hzero, if_true]
  case tap => exact does_of (exec_jtagAccess ir) fun d hsome => if_neg hsome
  case address => exact does_of (exec_i3cEntdaa a) fun d _ => rfl
  case serviced => exact does_of exec_i3cIbiServiced fun d _ => rfl

end Sys2Proof.MemorySettled

/-! SUPPORT. The part at reset: a field at reset reads as its register table gives it; and the statement ResetLeaves. -/

namespace Sys2Proof.ResetSettled

open Sys2Proof.Machine Sys2Proof.Claims Sys2Proof.StencilProofs

/-- Register k of fields fs, each set in turn to its value at reset. -/
def setAll (k : Nat) (fs : List FieldSpec) (w : Nat) : Nat := fs.foldl (fun w f => setBits w f.lo f.width (f.rst k)) w

theorem bits_setAll_below {k lo width : Nat} {fs : List FieldSpec} (h : ∀ f ∈ fs, lo + width ≤ f.lo) (w : Nat) :
    bits (setAll k fs w) lo width = bits w lo width := by
  induction fs generalizing w with
  | nil => rfl
  | cons f r ih =>
    rw [List.forall_mem_cons] at h
    exact (ih h.2 _).trans (bits_setBits_below h.1)

theorem setAll_lt {k w : Nat} {fs : List FieldSpec} (h : ∀ f ∈ fs, f.lo + f.width ≤ 32) (hw : w < 2 ^ 32) : setAll k fs w < 2 ^ 32 := by
  induction fs generalizing w with
  | nil => exact hw
  | cons f r ih =>
    rw [List.forall_mem_cons] at h
    exact ih h.2 (setBits_lt hw h.1)

theorem rawWord_reset {a k : Nat} {sp : RegSpec} (h : specAt a = some (sp, k)) :
    rawWord State.reset.dev.regs a = BitVec.ofNat 32 (setAll k sp.fields 0) := by
  simp only [rawWord, State.reset, Dev.reset, tget, Option.getD_none, resetWord, h, setAll]

/-- A field at reset reads as its register's table gives it (R18), the fields after it lying above it. -/
theorem rd_reset {a k : Nat} {sp : RegSpec} {f : FieldSpec} {before after : List FieldSpec} (h : specAt a = some (sp, k)) (hsp : sp.fields = before ++ f :: after)
    (hafter : ∀ g ∈ after, f.lo + f.width ≤ g.lo) (hfits : ∀ g ∈ sp.fields, g.lo + g.width ≤ 32) :
    State.reset.dev.rd ⟨a, f.lo, f.width⟩ = f.rst k % 2 ^ f.width := by
  have hword : (rawWord State.reset.dev.regs a).toNat = setAll k sp.fields 0 := by
    rw [rawWord_reset h, BitVec.toNat_ofNat, Nat.mod_eq_of_lt (setAll_lt hfits (Nat.two_pow_pos 32))]
  rw [Dev.rd, RegFile.fld, hword, hsp, setAll, List.foldl_append, List.foldl_cons]
  exact (bits_setAll_below hafter _).trans (bits_setBits_same ..)

/-- The register of sensor k's thresholds, as THM's table lists it. -/
def thrSpec : RegSpec := regsThm.getD 1 ⟨0, 0, 0, []⟩

theorem specAt_thr {k : Nat} (hk : k < 32) : specAt (0x020100 + 0x4 * k) = some (thrSpec, k) := by
  interval_cases k <;> rfl

theorem thrSpec_fits : ∀ f ∈ thrSpec.fields, f.lo + f.width ≤ 32 := by decide

theorem rd_warn {k : Nat} (hk : k < 32) : State.reset.dev.rd (THM_THR_WARN k) = if k < 24 then 100 else 70 := by
  refine (rd_reset (before := []) (specAt_thr hk) rfl (by decide) thrSpec_fits).trans ?_
  show (if k ≥ 24 then 70 else 100) % 2 ^ 8 = _
  split <;> split <;> omega

theorem rd_trip {k : Nat} (hk : k < 32) : State.reset.dev.rd (THM_THR_TRIP k) = if k < 24 then 118 else 85 := by
  refine (rd_reset (before := thrSpec.fields.take 2) (specAt_thr hk) rfl (by decide) thrSpec_fits).trans ?_
  show (if k ≥ 24 then 85 else 118) % 2 ^ 8 = _
  split <;> split <;> omega

/-- Settles O58: the state at reset, field by field. -/
theorem resetLeaves : Obligations.ResetLeaves := by
  refine ⟨(fun _ h => nomatch h), rfl, rfl, rfl, rfl, rfl, rfl, ?banks, ?id, ?hot, ?fill, ?auto, ?selftest, ?share, ?spoof, ?power, ?peer, ?holdover, ?fair,
    ?train, ?ports, ?marks, fun k hk => ⟨rd_warn hk, rd_trip hk⟩⟩
  all_goals decide

end Sys2Proof.ResetSettled

/-! SUPPORT. What each pass over the medium and the map does: the statement PassEffects. -/

namespace Sys2Proof.PassesSettled

open Sys2Proof.Machine Sys2Proof.Claims Sys2Proof.DoesProofs Sys2Proof.FetchProofs

/-! ### The rows of a part that runs passes -/

section Rows

variable {ok : Dev → Prop} {f : Dev → Dev}

theorem secondCoat_does {g : Nat} (h : ∀ d, ok d → d.passesOn = true ∧ (d.fold g).settle = f d) : Does (.secondCoat g) ok f :=
  does_of (exec_secondCoat g) fun d hok => (if_pos (h d hok).1).trans (h d hok).2

theorem scrape_does {g : Nat} (h : ∀ d, ok d → d.passesOn = true ∧ ((d.overlayTrim g).scrapeStep g).settle = f d) : Does (.scrape g) ok f :=
  does_of (exec_scrape g) fun d hok => (if_pos (h d hok).1).trans (h d hok).2

theorem wearLevelling_does {die : Nat} (h : ∀ d, ok d → d.passesOn = true ∧ (d.level_ die).settle = f d) : Does (.wearLevelling die) ok f :=
  does_of (exec_wearLevelling die) fun d hok => (if_pos (h d hok).1).trans (h d hok).2

theorem sandingPass_does {die b : Nat} (h : ∀ d, ok d → d.passesOn = true ∧ d.tooOld die b = false ∧ (d.sample die b).settle = f d) :
    Does (.sandingPass die b) ok f := by
  refine does_of (exec_sandingPass die b) fun d hok => ?_
  obtain ⟨hon, hyoung, hf⟩ := h d hok
  simp only [hon, hyoung, Bool.not_true, Bool.false_eq_true, if_false, hf]

theorem rebuild_does {g : Nat} (h : ∀ d, ok d → d.passesOn = true ∧ (d.rebuildStep g).settle = f d) : Does (.rebuild g) ok f :=
  does_of (exec_rebuild g) fun d hok => (if_pos (h d hok).1).trans (h d hok).2

end Rows

/-! ### Evacuation -/

section Evacuation

variable {d : Dev} {g s : Nat}

theorem evacuate_of_ready (whole : Bool) (h : (d.sourceFor g s).2 = true) : d.evacuate g s whole = copies d g s whole := by
  simp only [Dev.evacuate, h, copies, Bool.not_true, Bool.false_eq_true, if_false]

theorem evacuate_of_waiting (whole : Bool) (h : (d.sourceFor g s).2 = false) : d.evacuate g s whole = (d.sourceFor g s).1 := by
  simp only [Dev.evacuate, h, Bool.not_false, if_true]

end Evacuation

/-! ### A rebuild -/

section Rebuild

variable {d : Dev} {g spare slot : Nat} {x : Group}

/-- One step of a rebuild that can go on. -/
def rebuildOn (d : Dev) (g spare slot : Nat) (x : Group) : Dev :=
  match blockIn x spare with
  | some (s, b) => d.blockMoved g s spare b
  | none =>
    if blockWaits d g spare x then d else
    match x.segs.find? fun e => e.2.claim = some .rebuild with
    | some (s, _) => if ((d.unitsRead g).unitsOf g).isEmpty && !(d.unitsRead g).unitsDue g then (d.unitsRead g).moveBlock g s slot spare else d.unitsRead g
    | none =>
      match nextRebuilt x slot with
      | some (s, _) =>
        if ((d.ask (.rebuild g) 262144 1 .O noTenant).handsOf (.rebuild g)).isEmpty then d.ask (.rebuild g) 262144 1 .O noTenant
        else (d.ask (.rebuild g) 262144 1 .O noTenant).takeSegment g s slot spare (match x.member slot with | some k => k.copy | none => false)
      | none => if (x.onMember slot).isEmpty ∧ !d.forming g then d.rebuildDone g else d

theorem rebuildStep_of_rebuilding (h : rebuilding d g spare slot x) : d.rebuildStep g = rebuildOn (onRebuild d g slot x) g spare slot x := by
  obtain ⟨_, hx, ⟨a, b, hrebuild⟩, hverify, hoff⟩ := h
  have hgo : ¬(x.state = .verifying ∨ x.state = .offline) := by simp [hverify, hoff]
  simp only [Dev.rebuildStep, hx, hrebuild, if_neg hgo]
  rfl

end Rebuild

/-- Settles O59: each pass by the segment, die, block, member or page it finds. -/
theorem passEffects : Obligations.PassEffects := by
  refine ⟨fun g i k => ?coatAsks, fun g i k => ?coatWhole, fun g i k => ?coatFrees, fun g i k => ?coatReads, fun g => ?noCoat, fun g s p => ?goesOn,
    fun g s p => ?waits, fun g s x => ?victim, fun g x => ?noVictim, fun die x g s y => ?levels, fun die => ?even, fun die b k => ?samples,
    fun die b k => ?noSample, fun g spare slot x s b => ?moved, fun g spare slot x => ?forming, fun g spare slot x s y => ?allRead,
    fun g spare slot x s y => ?reading, fun g spare slot x s y => ?asks, fun g spare slot x s y z b => ?takes, fun g spare slot x => ?done,
    fun g slot x k => ?fault, fun g slot x k => ?faulted, ?begins, ?noCycle, fun t p => ?loads, fun t p => ?held⟩
  case coatAsks =>
    refine secondCoat_does fun d ⟨hon, hnext, hwait⟩ => ⟨hon, ?_⟩
    unfold coatReady at hwait
    simp only [Dev.fold, hnext, hwait, Bool.not_false, if_true, coating]
  case coatWhole =>
    refine secondCoat_does fun d ⟨hon, hnext, hready, hlive⟩ => ⟨hon, ?_⟩
    unfold coatReady at hready
    unfold liveEnough coating at hlive
    simp only [Dev.fold, hnext, if_neg (not_true_of_true hready), if_pos hlive, coating]
  case coatFrees =>
    refine secondCoat_does fun d ⟨hon, hnext, hready, hlive, hnone⟩ => ⟨hon, ?_⟩
    unfold coatReady at hready
    unfold liveEnough coating at hlive
    unfold noneLive coating at hnone
    simp only [Dev.fold, hnext, if_neg (not_true_of_true hready), if_neg hlive, if_pos hnone, coating]
  case coatReads =>
    refine secondCoat_does fun d ⟨hon, hnext, hready, hlive, hsome⟩ => ⟨hon, ?_⟩
    unfold coatReady at hready
    unfold liveEnough coating at hlive
    unfold noneLive coating at hsome
    simp only [Dev.fold, hnext, if_neg (not_true_of_true hready), if_neg hlive, hsome, Bool.false_eq_true, if_false, coating]
  case noCoat =>
    refine secondCoat_does fun d ⟨hon, hnone⟩ => ⟨hon, ?_⟩
    simp only [Dev.fold, hnone]
  case goesOn =>
    refine scrape_does fun d ⟨hon, hnext, hready⟩ => ⟨hon, ?_⟩
    unfold scraping at hnext hready
    simp only [Dev.scrapeStep, hnext, evacuate_of_ready _ hready, scraping]
  case waits =>
    refine scrape_does fun d ⟨hon, hnext, hwait⟩ => ⟨hon, ?_⟩
    unfold scraping at hnext hwait
    simp only [Dev.scrapeStep, hnext, evacuate_of_waiting _ hwait, scraping]
  case victim =>
    refine scrape_does fun d ⟨hon, hnone, hx, hscrape, hvictim, hready⟩ => ⟨hon, ?_⟩
    unfold scraping at hnone hx hvictim
    simp only [Dev.scrapeStep, hnone, hx, if_neg (not_true_of_true hscrape), hvictim]
    exact congrArg (fun e : Dev => (e.finishMoves g s).settle) (evacuate_of_ready _ hready)
  case noVictim =>
    refine scrape_does fun d ⟨hon, hnone, hx, hnot⟩ => ⟨hon, ?_⟩
    unfold scraping at hnone hx hnot
    simp only [Dev.scrapeStep, hnone, hx, scraping]
    rcases hnot with hoff | hvictim
    · simp only [hoff, Bool.not_false, if_true]
    · simp only [hvictim, ite_self]
  case levels =>
    refine wearLevelling_does fun d ⟨hon, hspread, hx, hnext, hready⟩ => ⟨hon, ?_⟩
    unfold levelFrom at hnext
    simp only [Dev.level_, if_neg (Nat.not_le.2 hspread), hx, hnext, evacuate_of_ready _ hready]
  case even =>
    refine wearLevelling_does fun d ⟨hon, hspread⟩ => ⟨hon, ?_⟩
    simp only [Dev.level_, if_pos hspread]
  case samples =>
    refine sandingPass_does fun d ⟨hon, hyoung, hk, hsealed, hwanted⟩ => ⟨hon, hyoung, ?_⟩
    have hgo : ¬(k.state ≠ .sealed ∨ (!d.sampleWanted die b k) = true) := by simp [hsealed, hwanted]
    simp only [Dev.sample, hk, if_neg hgo]
  case noSample =>
    refine sandingPass_does fun d ⟨hon, hyoung, hk, hnot⟩ => ⟨hon, hyoung, ?_⟩
    have hstop : k.state ≠ .sealed ∨ (!d.sampleWanted die b k) = true := hnot.imp_right (congrArg (!·))
    simp only [Dev.sample, hk, if_pos hstop]
  case moved =>
    refine rebuild_does fun d ⟨hgoes, hblock⟩ => ⟨hgoes.1, ?_⟩
    simp only [rebuildStep_of_rebuilding hgoes, rebuildOn, hblock]
  case forming =>
    refine rebuild_does fun d ⟨hgoes, hblock, hwait⟩ => ⟨hgoes.1, ?_⟩
    simp only [rebuildStep_of_rebuilding hgoes, rebuildOn, hblock, if_pos hwait]
  case allRead =>
    refine rebuild_does fun d ⟨hgoes, hblock, hplaced, hseg, hread, hdue⟩ => ⟨hgoes.1, ?_⟩
    simp only [rebuildStep_of_rebuilding hgoes, rebuildOn, hblock, hplaced, hseg, hread, hdue, Bool.not_false, Bool.and_true, Bool.false_eq_true, if_false,
      if_true]
  case reading =>
    refine rebuild_does fun d ⟨hgoes, hblock, hplaced, hseg, hmore⟩ => ⟨hgoes.1, ?_⟩
    have hgo : ¬((((onRebuild d g slot x).unitsRead g).unitsOf g).isEmpty && !((onRebuild d g slot x).unitsRead g).unitsDue g) = true := by
      rcases hmore with h | h <;> simp [h]
    simp only [rebuildStep_of_rebuilding hgoes, rebuildOn, hblock, hplaced, hseg, if_neg hgo, Bool.false_eq_true, if_false]
  case asks =>
    refine rebuild_does fun d ⟨hgoes, ⟨hblock, hplaced⟩, hseg, hnext, hnone⟩ => ⟨hgoes.1, ?_⟩
    simp only [rebuildStep_of_rebuilding hgoes, rebuildOn, hblock, hplaced, hseg, hnext, if_pos hnone, Bool.false_eq_true, if_false]
  case takes =>
    refine rebuild_does fun d ⟨hgoes, ⟨hblock, hplaced⟩, hseg, hnext, hhand, hz, hfree⟩ => ⟨hgoes.1, ?_⟩
    simp only [rebuildStep_of_rebuilding hgoes, rebuildOn, hblock, hplaced, hseg, hnext, hhand, Bool.false_eq_true, if_false, Dev.takeSegment, hz, hfree]
    rfl
  case done =>
    refine rebuild_does fun d ⟨hgoes, ⟨hblock, hplaced⟩, hseg, hnone, hform⟩ => ⟨hgoes.1, ?_⟩
    have hnext : nextRebuilt x slot = none := by rw [nextRebuilt, hnone]; rfl
    have hover : (x.onMember slot).isEmpty = true ∧ (!(onRebuild d g slot x).forming g) = true := by simp [hnone, hform]
    simp only [rebuildStep_of_rebuilding hgoes, rebuildOn, hblock, hplaced, hseg, hnext, if_pos hover, Bool.false_eq_true, if_false]
  case fault =>
    refine does_of (exec_memberFault g slot) fun d ⟨hx, hk, hlive⟩ => ?_
    simp only [Dev.faultMember, hx, hk, hlive, Bool.false_eq_true, if_false]
    rfl
  case faulted =>
    refine does_of (exec_memberFault g slot) fun d ⟨hx, hk, hfailed⟩ => ?_
    simp only [Dev.faultMember, hx, hk, hfailed, if_true]
  case begins =>
    refine does_of exec_checkpointCycle fun d ⟨hnone, hgroups, hstart⟩ => ?_
    have hgo : ¬(d.ckpt.cycle.isSome = true ∨ d.groups.isEmpty = true ∨ d.ckpt.tail ≤ d.rd MAP_CKPT_CFG_START * 1048576) := by
      simp [hnone, hgroups, hstart]
    simp only [Dev.checkpoint, if_neg hgo]
    rfl
  case noCycle =>
    refine does_of exec_checkpointCycle fun d hnot => ?_
    have hstop : d.ckpt.cycle.isSome = true ∨ d.groups.isEmpty = true ∨ d.ckpt.tail ≤ d.rd MAP_CKPT_CFG_START * 1048576 :=
      hnot.imp_right (.imp_left List.isEmpty_iff.2)
    simp only [Dev.checkpoint, if_pos hstop]
  case loads =>
    refine does_of (exec_mapFault t p) fun d ⟨hheld, hwanted⟩ => ?_
    simp only [Dev.loadPage, Dev.touch, hheld, hwanted, Bool.false_eq_true, if_false]
  case held =>
    refine does_of (exec_mapFault t p) fun d hnot => ?_
    simp only [Dev.loadPage, Dev.touch]
    rcases hnot with hheld | hwanted
    · simp only [hheld, if_true]
    · simp only [hwanted, if_true]
      split <;> rfl

end Sys2Proof.PassesSettled

/-! SUPPORT. The records of the map log are applied to a part whatever its commands are: so the issued view of the streams does not depend on them. -/

namespace Sys2Proof.IssuedProofs

open Sys2Proof.Machine Sys2Proof.Claims Sys2Proof.SegmentProofs

/-- The part with other commands. -/
def recmd (d : Dev) (u : Tbl Cmd) : Dev := { d with cmds := u }

/-- A change of the part that, but for the commands, does not depend on the commands. -/
def Apart (f : Dev → Dev) : Prop := ∀ d u, ∃ v, f (recmd d u) = recmd (f d) v

section Rules

variable {f g : Dev → Dev}

theorem apart_id : Apart fun d => d := fun _ u => ⟨u, rfl⟩

theorem Apart.comp (hg : Apart g) (hf : Apart f) : Apart fun d => g (f d) := by
  intro d u
  obtain ⟨v, hv⟩ := hf d u
  obtain ⟨w, hw⟩ := hg (f d) v
  exact ⟨w, (congrArg g hv).trans hw⟩

theorem Apart.foldl {α : Type} {f : Dev → α → Dev} (hf : ∀ a, Apart fun d => f d a) (l : List α) : Apart fun d => l.foldl f d := by
  induction l with
  | nil => exact apart_id
  | cons a r ih => exact ih.comp (hf a)

/-- A branch on what the commands do not tell. -/
theorem Apart.ite {p : Dev → Prop} [DecidablePred p] (hp : ∀ d u, p (recmd d u) = p d) (hf : Apart f) (hg : Apart g) :
    Apart fun d => if p d then f d else g d := by
  intro d u
  simp only [hp]
  split
  · exact hf d u
  · exact hg d u

end Rules

section Faults

theorem apart_wr (f : Fld) (n : Nat) : Apart fun d => d.wr f n := fun _ u => ⟨u, rfl⟩

theorem apart_emit (o : Out) : Apart fun d => d.emit o := fun _ u => ⟨u, rfl⟩

theorem apart_bump (f : Fld) : Apart fun d => d.bump f := fun _ u => ⟨u, rfl⟩

theorem apart_latchBreach (ledger term inst left right : Nat) : Apart fun d => d.latchBreach ledger term inst left right := by
  unfold Dev.latchBreach
  refine .ite (fun _ _ => rfl) ?_ apart_id
  exact (apart_wr _ _).comp ((apart_wr _ _).comp ((apart_wr _ _).comp ((apart_wr _ _).comp ((apart_wr _ _).comp ((apart_wr _ _).comp (apart_wr _ _))))))

theorem apart_raiseIbi (sev : Nat) : Apart fun d => d.raiseIbi sev := by
  intro d u
  have hbit : bit ((recmd d u).rd FLT_EVT_CFG_IBI) sev = bit (d.rd FLT_EVT_CFG_IBI) sev := rfl
  have hibi : (recmd d u).evt.ibi = d.evt.ibi := rfl
  simp only [Dev.raiseIbi, hbit, hibi]
  split
  · split <;> exact ⟨u, rfl⟩
  · exact ⟨u, rfl⟩

theorem apart_eventRec (code sev tenant inst : Nat) (anchor : Bool) (args : List Nat) (body : Bytes) :
    Apart fun d => d.eventRec code sev tenant inst anchor args body := by
  simp only [Dev.eventRec]
  refine (apart_raiseIbi sev).comp fun d u => ?_
  have hloses : (recmd d u).evt.loses = d.evt.loses := rfl
  simp only [hloses]
  split <;> exact ⟨u, rfl⟩

theorem apart_endOps (dies : Nat → Bool) : Apart fun d => d.endOps dies := by
  intro d u
  exact ((Apart.foldl (f := fun d (e : Nat × Nat) => d.emit (.flashReset e.1 e.2)) (fun _ => apart_emit _) _).comp
    (Apart.foldl (f := fun d (o : FlashOp) => d.emit (.abandon o.die)) (fun _ => apart_emit _) _)) d u

theorem apart_partPort (n : Nat) : Apart fun d => d.partPort n := by
  intro d u
  have hport : (recmd d u).ports = d.ports := rfl
  simp only [Dev.partPort, hport]
  split
  · exact ⟨u, rfl⟩
  · split
    · exact (Apart.comp (g := fun d : Dev => ((d.emit (.portIdle n idleLevels)).emit (.portWp n false)).showOwn n 3 false) (fun _ u => ⟨u, rfl⟩)
        (apart_endOps _)) d u
    · exact ⟨u, rfl⟩
    · exact ⟨u, rfl⟩

theorem apart_leavePorts (ns : List Nat) : Apart fun d => d.leavePorts ns := by
  intro d u
  exact (Apart.comp (g := fun e : Dev => { e with
    ports := tmap e.ports fun n p => if (ns.filter fun n => d.portsHeld.contains n).contains n then p.leave else p
    flash := e.flash.map fun o => if (ns.filter fun n => d.portsHeld.contains n).contains (o.die / 32) then { o with issued := false, left := [], marked := false } else o })
    (fun _ u => ⟨u, rfl⟩) (Apart.foldl apart_partPort _)) d u

theorem apart_dropDead : Apart Dev.dropDead := fun _ _ => ⟨_, rfl⟩

theorem apart_fenceQuiet (code : Nat) : Apart fun d => d.fenceQuiet code := by
  simp only [Dev.fenceQuiet]
  refine .ite (fun _ _ => rfl) apart_id (apart_dropDead.comp ?_)
  refine Apart.comp (g := fun d : Dev => { d with eth := d.eth.failHostQps }) (fun _ u => ⟨u, rfl⟩) fun d u => ?_
  exact ((apart_leavePorts _).comp ((apart_wr _ _).comp ((apart_wr _ _).comp (apart_wr _ _)))) d u

/-- A breach as it is noted, before the fence. -/
def breachNoted (ledger term inst left right : Nat) (d : Dev) : Dev :=
  let e := (d.latchBreach ledger term inst left right).wr FLT_LEDGER_STAT_BREACH
    ((d.latchBreach ledger term inst left right).rd FLT_LEDGER_STAT_BREACH ||| 2 ^ ledger)
  { e with boot := { e.boot with breaches := ((breachBody ledger term inst left right (stampLow d.stamp), false) :: e.boot.breaches).take 16 } }

theorem apart_breachNoted (ledger term inst left right : Nat) : Apart (breachNoted ledger term inst left right) := by
  intro d u
  obtain ⟨v, hv⟩ := apart_latchBreach ledger term inst left right d u
  simp only [breachNoted, hv]
  exact ⟨v, rfl⟩

theorem apart_breach (ledger term inst left right : Nat) : Apart fun d => d.breach ledger term inst left right := fun d u =>
  ((Apart.ite (p := fun e => e.dumping = true) (fun _ _ => rfl) apart_id ((apart_fenceQuiet 0x0101).comp
    (apart_eventRec 0x0101 2 0 inst false [] (breachBody ledger term inst left right (stampLow d.stamp))))).comp
    (apart_breachNoted ledger term inst left right)) d u

end Faults

section Media

theorem apart_soil (p : Nat × Nat) : Apart fun d => d.soil p := fun _ u => ⟨u, rfl⟩

theorem apart_modGroup (g : Nat) (f : Group → Group) : Apart fun d => d.modGroup g f := fun _ u => ⟨u, rfl⟩

theorem apart_modSlot (g i : Nat) (f : Slot → Slot) : Apart fun d => d.modSlot g i f := apart_modGroup _ _

theorem apart_modSeg (g s : Nat) (f : Seg → Seg) : Apart fun d => d.modSeg g s f := apart_modGroup _ _

theorem apart_modVol (v : Nat) (f : Vol → Vol) : Apart fun d => d.modVol v f := fun _ u => ⟨u, rfl⟩

theorem apart_addLive (loc : Loc) (n : Int) : Apart fun d => d.addLive loc n := (apart_soil _).comp (apart_modSlot _ _ _)

theorem apart_checkDie (die : Nat) : Apart fun d => d.checkDie die := by
  intro d u
  have hdies : (recmd d u).dies = d.dies := rfl
  have hports : (recmd d u).ports = d.ports := rfl
  simp only [Dev.checkDie, hdies, hports]
  split
  · split
    · exact ⟨u, rfl⟩
    · exact apart_breach _ _ _ _ _ d u
  · exact ⟨u, rfl⟩

theorem apart_unsealBlock (die b : Nat) : Apart fun d => d.unsealBlock die b := by
  intro d u
  have hdies : (recmd d u).dies = d.dies := rfl
  simp only [Dev.unsealBlock, hdies]
  split
  · exact ⟨u, rfl⟩
  · split
    · exact ⟨u, rfl⟩
    · split
      · exact ⟨u, rfl⟩
      · split <;> exact ⟨u, rfl⟩

theorem apart_setBlock (die b : Nat) (s : BlkState) : Apart fun d => d.setBlock die b s := by
  intro d u
  have hblk : (recmd d u).blk die b = d.blk die b := rfl
  simp only [Dev.setBlock, hblk]
  split
  · split
    · exact ⟨u, rfl⟩
    · exact ((apart_checkDie die).comp (Apart.comp (g := fun d : Dev => d.modBlk die b fun k => { k with state := s }) (fun _ u => ⟨u, rfl⟩)
        (apart_unsealBlock die b))) d u
  · exact ⟨u, rfl⟩

theorem apart_setSysFrags (l : List SysFrag) : Apart fun d => d.setSysFrags l := fun d u =>
  ((Apart.foldl (f := fun d (f : SysFrag) => d.addLive f.loc f.bytes) (fun _ => apart_addLive _ _) _).comp (Apart.comp
    (g := fun e : Dev => { e with sysFrags := l }) (fun _ u => ⟨u, rfl⟩)
    (Apart.foldl (f := fun d (f : SysFrag) => d.addLive f.loc (-(f.bytes : Int))) (fun _ => apart_addLive _ _)
      (d.sysFrags.filter fun f => !l.contains f)))) d u

end Media

section Content

theorem apart_bankRegs (b : Nat) : Apart fun d => d.bankRegs b := fun d u =>
  ((apart_wr _ _).comp ((apart_wr _ _).comp ((apart_wr _ _).comp ((apart_wr _ _).comp (apart_wr _ _))))) d u

theorem apart_setEntry (e : Nat) (x : Option SEntry) : Apart fun d => d.setEntry e x := by
  intro d u
  have hstencil : (recmd d u).stencil = d.stencil := rfl
  simp only [Dev.setEntry, hstencil]
  exact ((apart_bankRegs (e / 4096)).comp (f := fun k : Dev => { k with stencil := _ }) fun _ u => ⟨u, rfl⟩) d u

theorem apart_hotDrop (fp : Bytes) (tenant keydom group : Nat) : Apart fun d => d.hotDrop fp tenant keydom group := fun d u =>
  (Apart.foldl (f := fun d e => d.setEntry e none) (fun _ => apart_setEntry _ _) _) d u

theorem apart_dropIndex (content : Nat) : Apart fun d => d.dropIndex content := by
  intro d u
  have hcrecs : (recmd d u).crecs = d.crecs := rfl
  simp only [Dev.dropIndex, hcrecs]
  split
  · exact ⟨u, rfl⟩
  next c hc =>
    split
    · exact ⟨u, rfl⟩
    · exact (Apart.comp (g := fun e : Dev => { e with crecs := tmod e.crecs content fun c => { c with indexed := false } }) (fun _ u => ⟨u, rfl⟩)
        (Apart.comp (g := fun e : Dev => e.setBucket c.bucket ((d.bucket c.bucket).filter fun e => e.content ≠ content)) (fun _ u => ⟨u, rfl⟩)
          (Apart.foldl (f := fun d (e : IdxEntry) => d.hotDrop e.fp e.tenant e.keydom (content / 2 ^ 32)) (fun _ => apart_hotDrop _ _ _ _) _))) d u

/-- The slot that held content which dies: a segment to be stripped is claimed, and the serial waits for its erase. -/
def slotLeft (l : Loc) (content : Nat) (strip : Bool) (d : Dev) : Dev :=
  match d.slot l.group l.index with
  | none => d
  | some s => (if strip then d.claim l.group s.segment .strip else d).modGroup l.group fun x =>
      { x with deadSerials := (s.segment, l.index, content % 2 ^ 32) :: x.deadSerials }

theorem apart_slotLeft (l : Loc) (content : Nat) (strip : Bool) : Apart (slotLeft l content strip) := by
  intro d u
  have hslot : (recmd d u).slot l.group l.index = d.slot l.group l.index := rfl
  simp only [slotLeft, hslot]
  split
  · exact ⟨u, rfl⟩
  · split <;> exact ⟨u, rfl⟩

theorem apart_contentDies (content : Nat) : Apart fun d => d.contentDies content := by
  intro d u
  have hcrecs : (recmd d u).crecs = d.crecs := rfl
  have hgone : Apart fun e : Dev => { e with crecs := tdel e.crecs content } := fun _ u => ⟨u, rfl⟩
  simp only [Dev.contentDies, hcrecs]
  split
  · exact ⟨u, rfl⟩
  next c hc =>
    split
    · exact (hgone.comp (apart_dropIndex content)) d u
    next l hl => exact (hgone.comp ((apart_slotLeft l content c.stripPending).comp ((apart_addLive l _).comp (apart_dropIndex content)))) d u

theorem apart_contentCheck (content : Nat) : Apart fun d => d.contentCheck content := by
  intro d u
  have hcrecs : (recmd d u).crecs = d.crecs := rfl
  simp only [Dev.contentCheck, hcrecs]
  split
  · split
    · exact apart_contentDies content d u
    · exact ⟨u, rfl⟩
  · exact ⟨u, rfl⟩

theorem apart_crecRef (content : Nat) (n : Int) : Apart fun d => d.crecRef content n := by
  intro d u
  have hcrecs : (recmd d u).crecs = d.crecs := rfl
  have hput (c : Crec) : Apart fun e : Dev => Dev.soil { e with crecs := tput e.crecs content c } (crecPage content) := fun _ u => ⟨u, rfl⟩
  simp only [Dev.crecRef, hcrecs]
  split
  · exact ⟨u, rfl⟩
  · split
    · exact ⟨u, rfl⟩
    · split
      · exact ((apart_contentCheck content).comp ((apart_bump MAP_PINNED_PINNED).comp (hput _))) d u
      · exact ((apart_contentCheck content).comp (hput _)) d u

end Content

section Records

theorem apart_clearOverlay (g slot : Nat) : Apart fun d => d.clearOverlay g slot := fun _ u => ⟨u, rfl⟩

/-- The segment of a slot marked as one whose overlay has changed. -/
def overlaid (g s : Nat) (d : Dev) : Dev := match d.slot g s with | some k => d.modSeg g k.segment fun y => { y with stale := true } | none => d

theorem apart_overlaid (g s : Nat) : Apart (overlaid g s) := by
  intro d u
  have hslot : (recmd d u).slot g s = d.slot g s := rfl
  simp only [overlaid, hslot]
  split <;> exact ⟨u, rfl⟩

theorem apart_setBlocks (l : List (Nat × Nat)) (s : BlkState) : Apart fun d => l.foldl (fun d b => d.setBlock b.1 b.2 s) d :=
  .foldl (fun _ => apart_setBlock _ _ _) l

theorem apart_ckptPage (g table page : Nat) (loc : Loc) : Apart fun d => d.applyRec g (.ckptPage table page loc) := fun d u =>
  ((Apart.ite (p := fun e => (isDir (table, page) && e.ckpt.cycle.isNone) = true) (f := fun e => { e with boot := { e.boot with root := e.rootTable } })
    (fun _ _ => rfl) (fun _ u => ⟨u, rfl⟩) apart_id).comp
    (apart_setSysFrags ({ cargo := .page table page, loc := loc, body := 16384 } :: d.sysFrags.filter fun f => decide (f.cargo ≠ .page table page)))) d u

/-- A group's log root written: the cycle goes on with the groups that are left, or ends. -/
def rooted (m g t : Nat) (left : List (Nat × Nat)) (c : Ckpt) (e : Dev) : Dev :=
  { e with
    ckpt := let c := { c with past := c.past.filter fun b => decide (b.1 ≠ g) || decide (m < b.2.1 + b.2.2.length) }
      if left.isEmpty then { c with tail := c.tail - t, cycle := none, todo := none, whole := if c.whole = 1 then 2 else c.whole }
      else { c with cycle := some (t, left) }
    boot := if left.isEmpty then { e.boot with root := e.rootTable } else e.boot }

theorem apart_ckptRoot (g m : Nat) : Apart fun d => d.applyRec g (.ckptRoot m) := by
  intro d u
  have hckpt : (recmd d u).ckpt = d.ckpt := rfl
  simp only [Dev.applyRec, hckpt]
  split
  next t l hcycle =>
    exact (Apart.comp (g := rooted m g t (l.filter fun e => decide (e.1 ≠ g)) d.ckpt) (fun _ u => ⟨u, rfl⟩) (apart_setSysFrags (d.sysFrags.filter fun f =>
      match f.cargo with | .records k first => decide (k ≠ g) || decide (m ≤ first) | _ => true))) d u
  · exact ⟨u, rfl⟩

/-- A record is applied to a part whatever its commands are. -/
theorem apart_applyRec (g : Nat) (r : Rec) : Apart fun d => d.applyRec g r := by
  intro d u
  cases r with
  | crecRef c n => exact apart_crecRef c n d u
  | crecMove c old new =>
    have hcrecs : (recmd d u).crecs = d.crecs := rfl
    simp only [Dev.applyRec, hcrecs]
    split
    · split <;> exact ⟨u, rfl⟩
    · exact ⟨u, rfl⟩
  | ovlSet s piece die block page =>
    exact (Apart.comp (g := fun e : Dev => ((e.modSlot g s fun x => { x with ovl := satAt 63 (countP (tput d.overlay (ovlKey g s piece) (die, block, page))
        fun e => decide (e.1 / 256 = g * 2 ^ 28 + s)) }).soil (slotPage g s)).wr MAP_OVL_STAT_USED e.overlay.length) (fun _ u => ⟨u, rfl⟩)
      ((apart_overlaid g s).comp (f := fun e : Dev => { e with overlay := tput e.overlay (ovlKey g s piece) (die, block, page) }) fun _ u => ⟨u, rfl⟩)) d u
  | segErase s =>
    have hseg : (recmd d u).seg g s = d.seg g s := rfl
    simp only [Dev.applyRec, hseg]
    split
    · exact ⟨u, rfl⟩
    · exact ((apart_modSeg g s _).comp (apart_setBlocks _ .erasing)) d u
  | segForm s blocks slc place =>
    have hseg : (recmd d u).seg g s = d.seg g s := rfl
    simp only [Dev.applyRec, hseg]
    exact ((apart_modSeg g s _).comp (apart_setBlocks _ .erasing)) d u
  | segRetire die block => exact apart_setBlock die block .retired d u
  | tidxTrim v a n =>
    exact ((Apart.foldl (f := fun d s => d.soil (tidxPage s)) (fun _ => apart_soil _) _).comp (f := fun d => d.trimIndex v a n) fun _ u => ⟨u, rfl⟩) d u
  | ckptPage table page loc => exact apart_ckptPage g table page loc d u
  | ckptRoot m => exact apart_ckptRoot g m d u
  | volDelete v =>
    have horigin : (recmd d u).originOf v = d.originOf v := rfl
    simp only [Dev.applyRec, horigin]
    split <;> exact ⟨u, rfl⟩
  | deltaMove v a b n =>
    have hvol : (recmd d u).vol v = d.vol v := rfl
    simp only [Dev.applyRec, hvol]
    split <;> exact ⟨u, rfl⟩
  | vmap | crecNew | mmapSet | mmapFree | ovlClear | tidx | volResize | snapDelete | deltaPut | deltaDrop | cloneFill => exact ⟨u, rfl⟩
  | volCreate | snap | clone | compact | replBase | batchEnd => exact ⟨u, rfl⟩

theorem apart_applyBatch (b : Batch) : Apart fun d => d.applyBatch b := .foldl (fun _ => apart_applyRec _ _) _

/-- The issued view of the streams does not depend on the commands. -/
theorem streams_issued_recmd (d : Dev) (u : Tbl Cmd) : (recmd d u).issued.streams = d.issued.streams := by
  obtain ⟨v, hv⟩ := Apart.foldl apart_applyBatch d.batches d u
  have hissued : (recmd d u).issued = recmd d.issued v := hv
  rw [hissued]
  rfl

end Records

end Sys2Proof.IssuedProofs

/-! SUPPORT. The statement StreamOpcodes. -/

namespace Sys2Proof.StreamSettled

open Sys2Proof.Machine Sys2Proof.Claims Sys2Proof.ReceiveProofs Sys2Proof.EndProofs Sys2Proof.SnapStreamProofs Sys2Proof.IssuedProofs

/-- Settles O22: each opcode's run, by the stream it finds or opens. -/
theorem streamOpcodes : Obligations.StreamOpcodes := by
  refine ⟨fun i => ?opens, fun i => ?refused, ?badClass, fun x => ?close, fun x => ?query, fun x => ?badItem, fun x => ?times, fun x => ?badWindow⟩
  case opens =>
    refine runs_of_runOp exec_streamOpen rfl (by decide) fun d id c hc hb ⟨hcls, hrange, hcount, hi, hadm⟩ => ?_
    simp only [Dev.runOp, hc, hb.op_eq]
    rw [runStreamOpen_of_range hc hcls hrange hcount hi, if_neg]
    rintro ⟨hcls', hnone⟩
    rw [hadm hcls'] at hnone
    cases hnone
  case refused =>
    refine runs_of_runOp exec_streamOpen rfl (by decide) fun d id c hc hb ⟨hcls, hrange, hcount, hi, hadm⟩ => ?_
    have ⟨_, _, ht1, ht2⟩ := hrange
    simp only [Dev.runOp, hc, hb.op_eq]
    rw [runStreamOpen_of_range hc hcls.le hrange hcount hi, if_pos ⟨hcls, hadm⟩, clampN_of_mem ht1 ht2]
    rfl
  case badClass =>
    refine turnedAway_of_ends exec_streamOpen rfl rfl fun d id c hop hcls => ⟨0, ?_⟩
    simp only [Dev.runOp, tget_tried, hop, Dev.runStreamOpen, if_pos hcls]
  case close =>
    refine runs_of_runOp exec_streamClose rfl (by decide) fun d id c hc hb ⟨hx, hopen⟩ => ?_
    simp only [Dev.runOp, hc, hb.op_eq, Dev.runStreamClose, hx, if_pos hopen]
  case query =>
    refine runs_of_runOp exec_streamQuery rfl (by decide) fun d id c hc hb ⟨hx, hitem⟩ => ?_
    simp only [Dev.runOp, hc, hb.op_eq, Dev.runStreamQuery, hx, ends]
    interval_cases c.msg.par 0x28 1 <;> rfl
  case badItem =>
    refine turnedAway_of_ends exec_streamQuery rfl rfl fun d id c hop ⟨hx, hitem⟩ => ⟨0, ?_⟩
    have hx' : tget (tried d id c).streams c.msg.stream.toNat = some x := hx
    have hnone : [x.rate, x.deadline, x.bytes, x.misses, x.maxLate, x.dropped][c.msg.par 0x28 1]? = none := List.getElem?_eq_none hitem
    simp only [Dev.runOp, tget_tried, hop, Dev.runStreamQuery, hx', hnone]
  case times =>
    refine runs_of_runOp exec_queryTime rfl (by decide) fun d id c hc hb ⟨hx, hwindow⟩ => ?_
    simp only [Dev.runOp, hc, hb.op_eq, Dev.runQueryTime, hx, if_neg (Nat.not_le.2 hwindow)]
  case badWindow =>
    refine turnedAway_of_ends exec_queryTime rfl rfl fun d id c hop ⟨hx, hwindow⟩ => ⟨0, ?_⟩
    have hx' : tget (tried d id c).issued.streams c.msg.stream.toNat = some x :=
      (congrArg (tget · c.msg.stream.toNat) (streams_issued_recmd d _)).trans hx
    simp only [Dev.runOp, tget_tried, hop, Dev.runQueryTime, hx', if_pos hwindow]

end Sys2Proof.StreamSettled
